-- ==== Sys2Proof/Word.lean ====
section
/-!
DEFINITION. The word types of the part and the sparse table type that State is made of.
-/
namespace Sys2Proof

/-- A byte of memory. -/
abbrev Byte := BitVec 8
/-- One lane register (R15) or instruction word (R38). -/
abbrev W32 := BitVec 32
/-- One uniform register (R66). -/
abbrev W64 := BitVec 64

/-- A sparse table: keys strictly rising, and no entry that equals what an unlisted key reads as. -/
abbrev SMap (α : Type) := List (Nat × α)

end Sys2Proof
end

