-- ==== Sys2Proof/Machine/Maps.lean ====
section
/-!
DEFINITION. Operations on sparse tables and on lists of bytes. A table keeps its keys strictly rising and lists no
default, so that equal tables are equal data.
-/
namespace Sys2Proof

/-- The entry at a key. -/
def SMap.find {α : Type} : SMap α → Nat → Option α
  | [], _ => none
  | (k, v) :: m, n => if n = k then some v else SMap.find m n

/-- The entry at a key, or what an unlisted key reads as. -/
def SMap.get {α : Type} (d : α) (m : SMap α) (n : Nat) : α := (m.find n).getD d

/-- The table with an entry set: in the place of the one with its key, else before the first greater key. -/
def SMap.ins {α : Type} : SMap α → Nat → α → SMap α
  | [], n, x => [(n, x)]
  | (k, v) :: m, n, x =>
    if n = k then (n, x) :: m
    else if n < k ∧ (SMap.find m n).isNone then (n, x) :: (k, v) :: m
    else (k, v) :: SMap.ins m n x

/-- The table without an entry. -/
def SMap.del {α : Type} (m : SMap α) (n : Nat) : SMap α := m.filter fun e => e.1 ≠ n

/-- The table with a value stored: a value equal to the default is not listed. -/
def SMap.put {α : Type} [DecidableEq α] (d : α) (m : SMap α) (n : Nat) (x : α) : SMap α :=
  if x = d then m.del n else m.ins n x

/-- Are all keys at least `n` and strictly rising? -/
def SMap.sortedFrom {α : Type} : Nat → SMap α → Bool
  | _, [] => true
  | n, (k, _) :: m => n ≤ k && SMap.sortedFrom (k + 1) m

/-- The canonical form: keys strictly rising, no listed default. -/
def SMap.wf {α : Type} [DecidableEq α] (d : α) (m : SMap α) : Bool :=
  m.sortedFrom 0 && m.all (fun e => e.2 ≠ d)

/-- The keys in rising order. -/
def SMap.keys {α : Type} (m : SMap α) : List Nat := m.map (·.1)

/-- The lowest number below `n` that is not a key. -/
def SMap.freeBelow {α : Type} (m : SMap α) (n : Nat) : Option Nat :=
  (List.range n).find? (fun k => (m.find k).isNone)

/-- The lanes 0 to 31. -/
def lanes32 : List Nat := List.range 32

/-- The lanes of a mask, ascending (R9). -/
def lanesOf (m : BitVec 32) : List Nat := lanes32.filter (fun l => m.getLsbD l)

/-- The mask of a list of lanes. -/
def maskOf (ls : List Nat) : BitVec 32 := ls.foldl (fun m l => m ||| (1#32 <<< l)) 0

/-- The lowest lane of a mask; 32 when it is empty. -/
def lowLane (m : BitVec 32) : Nat := (lanes32.find? (fun l => m.getLsbD l)).getD 32

/-- The lowest lane of a mask as a 5-bit field; 0 when it is empty. -/
def flaneOf (m : BitVec 32) : Nat := lowLane m % 32

/-- `n` bytes of a number, lowest first (R5). -/
def bytesLE (n x : Nat) : List Byte := (List.range n).map (fun i => BitVec.ofNat 8 (x / 256 ^ i))

/-- The number held by bytes, lowest first (R5). -/
def natLE : List Byte → Nat
  | [] => 0
  | b :: bs => b.toNat + 256 * natLE bs

/-- The number held by bytes, highest first. -/
def natBE (bs : List Byte) : Nat := natLE bs.reverse

/-- `n` bytes of a number, highest first. -/
def bytesBE (n x : Nat) : List Byte := (bytesLE n x).reverse

/-- Bits `hi` to `lo` of a number (R5). -/
def bitsOf (x lo len : Nat) : Nat := x / 2 ^ lo % 2 ^ len

/-- One bit of a number. -/
def bitOf (x i : Nat) : Bool := x / 2 ^ i % 2 = 1

/-- A Boolean as a number. -/
def b2n (b : Bool) : Nat := if b then 1 else 0

/-- The signed value of the low `w` bits of a number. -/
def signedOf (w x : Nat) : Int :=
  let y := x % 2 ^ w
  if w ≠ 0 ∧ 2 ^ (w - 1) ≤ y then (y : Int) - (2 ^ w : Nat) else y

/-- An integer modulo 2^w. -/
def wrapTo (w : Nat) (x : Int) : Nat := (x % ((2 ^ w : Nat) : Int)).toNat

/-- The address that a field of 57 bits holds: a canonical one, its bit 56 in every bit above (R144). -/
def extend57 (x : Nat) : Nat := wrapTo 64 (signedOf 57 x)

/-- Replace the i-th element of a list. -/
def setAt {α : Type} (l : List α) (i : Nat) (x : α) : List α := l.set i x

/-- Remove the i-th element of a list. -/
def dropAt {α : Type} : List α → Nat → List α
  | [], _ => []
  | _ :: l, 0 => l
  | x :: l, i + 1 => x :: dropAt l i

/-- An element inserted before the first that it does not follow. -/
def insertBy {α : Type} (le : α → α → Bool) (x : α) : List α → List α
  | [] => [x]
  | y :: ys => if le x y then x :: y :: ys else y :: insertBy le x ys

/-- A list in rising order. -/
def sortBy {α : Type} (le : α → α → Bool) (l : List α) : List α := l.foldr (insertBy le) []

/-- Iterate at most `fuel` times while the step gives a result. -/
def iterOpt {α : Type} (f : α → Option α) : Nat → α → α
  | 0, x => x
  | n + 1, x =>
    match f x with
    | some y => iterOpt f n y
    | none => x

end Sys2Proof
end

