-- ==== Sys2Proof/Machine/NumFmt.lean ====
section
/-!
DEFINITION. Number formats: types and elements (R52, R109, R110), exact values (R119), decoding (R111 to R118), the one
rounding of Encode (R116, R118, R120) and conversion (R123), with the flags they raise (R121, R122).
-/
namespace Sys2Proof.Machine

/-! ## Types -/

/-- Width of a type code (R52). -/
def tyWidth (ty : Nat) : Nat :=
  match ty with
  | 0x00 | 0x04 | 0x0C | 0x0D | 0x0E => 8
  | 0x01 | 0x05 | 0x08 | 0x09 => 16
  | 0x02 | 0x06 | 0x0A => 32
  | 0x03 | 0x07 | 0x0B => 64
  | 0x0F => 6
  | _ => 4

/-- Elements per register (R52); 1 for a 64-bit type. DESIGN CHOICE (log entry 139): a reserved TY or CTY code has 8 elements of 4
bits, with the layout of f4 (R124). -/
def tyElems (ty : Nat) : Nat :=
  match ty with
  | 0x00 | 0x04 | 0x0C | 0x0D | 0x0E => 4
  | 0x01 | 0x05 | 0x08 | 0x09 => 2
  | 0x02 | 0x06 | 0x0A => 1
  | 0x03 | 0x07 | 0x0B => 1
  | 0x0F => 5
  | _ => 8

/-- Is an operand of the type a register pair (R52)? -/
def tyPair (ty : Nat) : Bool := ty = 0x03 || ty = 0x07 || ty = 0x0B

/-- Is the type an integer type (R110)? -/
def tyInt (ty : Nat) : Bool := ty ≤ 7 || ty = 0x11

/-- Is the type floating or tapered, or c4 (R133)? -/
def tyFloat (ty : Nat) : Bool := (8 ≤ ty && ty ≤ 0x10) || ty = 0x12

/-- Is the type a signed integer type (R110)? -/
def tySigned (ty : Nat) : Bool := ty ≤ 3 || ty = 0x11

/-- Does Mode.FTZ act on the type (R119, R120)? -/
def tyFtz (ty : Nat) : Bool := 8 ≤ ty && ty ≤ 0x0B

/-- The elements of an operand, element 0 first (R109). -/
def elemsOf (ty x : Nat) : List Nat := (List.range (tyElems ty)).map fun j => bitsOf x (tyWidth ty * j) (tyWidth ty)

/-- An operand made of its elements (R109). -/
def joinElems (ty : Nat) (es : List Nat) : Nat :=
  (es.zipIdx.map fun e => e.1 % 2 ^ tyWidth ty * 2 ^ (tyWidth ty * e.2)).foldl (· + ·) 0

/-! ## Flags -/

/-- Sticky flags (R121). -/
abbrev Flags := BitVec 6
def fNV : Flags := 1
def fDZ : Flags := 2
def fOF : Flags := 4
def fUF : Flags := 8
def fNX : Flags := 16
def fSA : Flags := 32

/-- A flag when a condition holds. -/
def flagIf (b : Bool) (f : Flags) : Flags := if b then f else 0

/-! ## Exact values -/

/-- An exact value: a signed fraction (zero keeps its sign), an infinity or a NaN (R119). -/
inductive Val where
  | fin (neg : Bool) (n d : Nat)
  | inf (neg : Bool)
  | nan (signalling : Bool)
  deriving DecidableEq, Repr

/-- A quiet NaN. -/
def Val.qnan : Val := .nan false

/-- Is the value a NaN? -/
def Val.isNan : Val → Bool
  | .nan _ => true
  | _ => false

/-- Is the value a signalling NaN? -/
def Val.isSnan : Val → Bool
  | .nan b => b
  | _ => false

/-- Is the value zero? -/
def Val.isZero : Val → Bool
  | .fin _ n _ => n = 0
  | _ => false

/-- An integer as a value. -/
def Val.ofInt (x : Int) : Val := .fin (x < 0) x.natAbs 1

/-- The sign of a value. -/
def Val.neg? : Val → Bool
  | .fin s _ _ => s
  | .inf s => s
  | .nan _ => false

/-- The value with its sign changed. -/
def Val.negate : Val → Val
  | .fin s n d => .fin (!s) n d
  | .inf s => .inf (!s)
  | x => x

/-- The order of two values that are not NaN: is the first less? −0 and +0 are equal. -/
def Val.lt : Val → Val → Bool
  | .inf s, .inf t => s && !t
  | .inf s, _ => s
  | _, .inf t => !t
  | .fin s n d, .fin t m e =>
    let a : Int := if s then -(n * e : Nat) else (n * e : Nat)
    let b : Int := if t then -(m * d : Nat) else (m * d : Nat)
    a < b
  | _, _ => false

/-- Are two values that are not NaN equal? -/
def Val.eq (x y : Val) : Bool := !x.isNan && !y.isNan && !x.lt y && !y.lt x

/-- ⌊log2 (n / d)⌋ for a positive fraction. -/
def floorLog2 (n d : Nat) : Int :=
  let e : Int := (n.log2 : Int) - (d.log2 : Int)
  if (if 0 ≤ e then d * 2 ^ e.toNat ≤ n else d ≤ n * 2 ^ (-e).toNat) then e else e - 1

/-- Rounding modes (R51). -/
def rmRNE : Nat := 0
def rmRTZ : Nat := 1
def rmRUP : Nat := 2
def rmRDN : Nat := 3
def rmRNA : Nat := 4

/-- The multiple of 2^lsb to which a fraction rounds, and whether it changed (R120 step 2). DESIGN CHOICE (log entry 138): a
reserved RM code rounds as RNE. -/
def roundTo (rm : Nat) (neg : Bool) (n d : Nat) (lsb : Int) : Nat × Bool :=
  let n' := if lsb < 0 then n * 2 ^ (-lsb).toNat else n
  let d' := if lsb < 0 then d else d * 2 ^ lsb.toNat
  let q := n' / d'
  let r := n' % d'
  if r = 0 then (q, false)
  else
    let up :=
      if rm = rmRTZ then false
      else if rm = rmRUP then !neg
      else if rm = rmRDN then neg
      else if rm = rmRNA then decide (d' ≤ 2 * r)
      else decide (d' < 2 * r) || (2 * r = d' && q % 2 = 1)
    (if up then q + 1 else q, true)

/-! ## Binary floating-point formats (R111) -/

/-- Layout of a binary format: exponent bits, fraction bits, bias. -/
structure Fp where
  eb : Nat
  fb : Nat
  bias : Nat
  deriving DecidableEq, Repr

/-- The layouts of R111. -/
def fpOf (ty : Nat) : Fp :=
  match ty with
  | 0x08 => { eb := 5, fb := 10, bias := 15 }
  | 0x09 => { eb := 8, fb := 7, bias := 127 }
  | 0x0A => { eb := 8, fb := 23, bias := 127 }
  | 0x0B => { eb := 11, fb := 52, bias := 1023 }
  | 0x0C => { eb := 4, fb := 3, bias := 7 }
  | 0x0D => { eb := 5, fb := 2, bias := 15 }
  | _ => { eb := 2, fb := 1, bias := 1 }

/-- The value (sig) · 2^(e). -/
def dyadic (neg : Bool) (m : Nat) (e : Int) : Val :=
  if 0 ≤ e then .fin neg (m * 2 ^ e.toNat) 1 else .fin neg m (2 ^ (-e).toNat)

/-- Are all patterns of a binary type finite (R111)? Those of f4, and of a reserved TY or CTY code, which has the layout of f4.
DESIGN CHOICE (log entry 139): R124 gives such a code no meaning. -/
def finiteOnly (ty : Nat) : Bool := 0x12 ≤ ty

/-- Decoding of a binary format (R111). -/
def decodeFp (ty x : Nat) : Val :=
  let p := fpOf ty
  let neg := bitOf x (p.eb + p.fb)
  let e := bitsOf x p.fb p.eb
  let f := bitsOf x 0 p.fb
  let top := e = 2 ^ p.eb - 1
  if ty = 0x0C ∧ top ∧ f = 7 then .nan false
  else if top ∧ ty ≠ 0x0C ∧ !finiteOnly ty then
    if f = 0 then .inf neg else .nan (tyFtz ty && !bitOf f (p.fb - 1))
  else if e = 0 then dyadic neg f (1 - (p.bias : Int) - p.fb)
  else dyadic neg (2 ^ p.fb + f) ((e : Int) - p.bias - p.fb)

/-- Is a pattern of a binary format subnormal? -/
def isSubnormal (ty x : Nat) : Bool :=
  let p := fpOf ty
  bitsOf x p.fb p.eb = 0 && bitsOf x 0 p.fb ≠ 0

/-- Canonical NaN (R111); f4, and a reserved code with its layout, has none. -/
def canonNan (ty : Nat) : Nat :=
  match ty with
  | 0x08 => 0x7E00
  | 0x09 => 0x7FC0
  | 0x0A => 0x7FC00000
  | 0x0B => 0x7FF8000000000000
  | 0x0C => 0x7F
  | 0x0D => 0x7E
  | _ => 0

/-- The largest finite pattern without sign (R111). -/
def maxFinite (ty : Nat) : Nat :=
  let p := fpOf ty
  if ty = 0x0C then 0x7E
  else if finiteOnly ty then 2 ^ (p.eb + p.fb) - 1
  else (2 ^ p.eb - 1) * 2 ^ p.fb - 1

/-- What overflows gives (R120 step 4). -/
def overflow (ty rm : Nat) (sat neg : Bool) : Nat × Flags :=
  let p := fpOf ty
  let sign := b2n neg * 2 ^ (p.eb + p.fb)
  if sat || finiteOnly ty then (sign + maxFinite ty, fSA ||| fNX)
  else if ty = 0x0C then (0x7F, fOF ||| fNX)
  else
    let toMax := rm = rmRTZ || (rm = rmRUP && neg) || (rm = rmRDN && !neg)
    (sign + (if toMax then maxFinite ty else (2 ^ p.eb - 1) * 2 ^ p.fb), fOF ||| fNX)

/-- Encode for a binary format (R120). -/
def encodeFp (ty rm : Nat) (sat ftz : Bool) (x : Val) : Nat × Flags :=
  let p := fpOf ty
  match x with
  | .nan _ => if finiteOnly ty then (0, fNV) else (canonNan ty, 0)
  | .inf neg =>
    if ty = 0x0C ∨ finiteOnly ty then overflow ty rm sat neg
    else (b2n neg * 2 ^ (p.eb + p.fb) + (2 ^ p.eb - 1) * 2 ^ p.fb, 0)
  | .fin neg n d =>
    let sign := b2n neg * 2 ^ (p.eb + p.fb)
    if n = 0 then (sign, 0)
    else
      let e := floorLog2 n d
      let emin : Int := 1 - (p.bias : Int)
      let (q, nx) := roundTo rm neg n d (e - p.fb)
      let carry := q = 2 ^ (p.fb + 1)
      let e' := if carry then e + 1 else e
      if e' < emin then
        if ftz && tyFtz ty then (sign, fUF ||| fNX)
        else
          let (q, nx) := roundTo rm neg n d (emin - p.fb)
          (sign + q, flagIf nx (fUF ||| fNX))
      else
        let frac := if carry then 0 else q - 2 ^ p.fb
        let pat := (e' + p.bias).toNat * 2 ^ p.fb + frac
        if maxFinite ty < pat then overflow ty rm sat neg
        else (sign + pat, flagIf nx fNX)

/-! ## Tapered formats (R113 to R116) -/

/-- Length of the run of bits equal to `b` from bit `i` downwards. -/
def runLen (x : Nat) (b : Bool) : Nat → Nat
  | 0 => 0
  | i + 1 => if bitOf x i = b then runLen x b i + 1 else 0

/-- Width and exponent size of a tapered type. -/
def taperedN (ty : Nat) : Nat × Nat := if ty = 0x0E then (8, 1) else (6, 0)

/-- A nonzero tapered magnitude (R113). -/
def taperedMag (ty mag : Nat) : Nat × Nat :=
  let (n, es) := taperedN ty
  let rb := bitOf mag (n - 2)
  let m := runLen mag rb (n - 1)
  let k : Int := if rb then (m : Int) - 1 else -(m : Int)
  let restLen := n - 1 - m - 1
  let e := if es = 0 then 0 else if 1 ≤ restLen then b2n (bitOf mag (restLen - 1)) else 0
  let wf := restLen - es
  let f := bitsOf mag 0 wf
  match dyadic false (2 ^ wf + f) ((2 ^ es : Nat) * k + e - wf) with
  | .fin _ a b => (a, b)
  | _ => (0, 1)

/-- Decoding of t8 and t6 (R113). -/
def decodeTapered (ty x : Nat) : Val :=
  let n := (taperedN ty).1
  let s := bitOf x (n - 1)
  let mag := bitsOf x 0 (n - 1)
  if mag = 0 then (if s then .qnan else .fin false 0 1)
  else
    let (a, b) := taperedMag ty mag
    .fin s a b

/-- |a/b − c/d| as a fraction. -/
def distance (a b c d : Nat) : Nat × Nat := ((if a * d < c * b then c * b - a * d else a * d - c * b), b * d)

/-- Is the first fraction less than the second? -/
def fracLt (x y : Nat × Nat) : Bool := x.1 * y.2 < y.1 * x.2

/-- The magnitude pattern nearest to a positive fraction; a tie goes to the even pattern (R116). -/
def nearestTapered (ty n d : Nat) : Nat :=
  let top := 2 ^ ((taperedN ty).1 - 1)
  (List.range (top - 2)).foldl (fun best i =>
    let c := i + 2
    let (a, b) := taperedMag ty c
    let (a', b') := taperedMag ty best
    let dc := distance n d a b
    let db := distance n d a' b'
    if fracLt dc db || (!fracLt db dc && c % 2 = 0) then c else best) 1

/-- Rounding into t8 and t6 (R116). -/
def encodeTapered (ty : Nat) (x : Val) : Nat × Flags :=
  let n := (taperedN ty).1
  let top := 2 ^ (n - 1) - 1
  let sign (b : Bool) := b2n b * 2 ^ (n - 1)
  match x with
  | .nan _ => (2 ^ (n - 1), 0)
  | .inf s => (sign s + top, fSA ||| fNX)
  | .fin s a b =>
    if a = 0 then (0, 0)
    else if fracLt (taperedMag ty top) (a, b) then (sign s + top, fSA ||| fNX)
    else
      let m := nearestTapered ty a b
      let (c, d) := taperedMag ty m
      (sign s + m, flagIf (c * b ≠ a * d) fNX)

/-! ## Codebook format (R118) -/

/-- A codebook index's value. -/
def decodeC4 (cb : List Nat) (i : Nat) : Val := decodeFp 0x09 (cb.getD i 0)

/-- The lowest index whose entry satisfies a test. -/
def cbFind (cb : List Nat) (f : Val → Bool) : Option Nat := (List.range 16).find? fun i => f (decodeC4 cb i)

/-- |x − y| of two finite values. -/
def valDist : Val → Val → Nat × Nat
  | .fin s n d, .fin t m e =>
    let a : Int := if s then -(n * e : Nat) else (n * e : Nat)
    let b : Int := if t then -(m * d : Nat) else (m * d : Nat)
    ((a - b).natAbs, d * e)
  | _, _ => (0, 1)

/-- Is the value finite? -/
def Val.isFin : Val → Bool
  | .fin _ _ _ => true
  | _ => false

/-- The index chosen for a value that is not NaN (R118). -/
def cbIndex (cb : List Nat) (x : Val) : Nat :=
  let fins := (List.range 16).filter fun i => (decodeC4 cb i).isFin
  let best (better : Val → Val → Bool) : Option Nat :=
    fins.foldl (fun b i => match b with
      | none => some i
      | some j => if better (decodeC4 cb i) (decodeC4 cb j) then some i else b) none
  let infOf (s : Bool) : Option Nat := cbFind cb fun y => y = .inf s
  match x with
  | .fin s _ _ =>
    match best fun y z => fracLt (valDist x y) (valDist x z) with
    | some i => i
    | none => ((infOf s).orElse fun _ => infOf (!s)).getD 15
  | .inf s =>
    match infOf s with
    | some i => i
    | none =>
      match best fun y z => if s then y.lt z else z.lt y with
      | some i => i
      | none => (infOf (!s)).getD 15
  | .nan _ => 15

/-- Encode for c4 (R118). DESIGN CHOICE (log entry 104): a NaN takes index 15 and sets no flag, whatever cb[15] holds. -/
def encodeC4 (cb : List Nat) (x : Val) : Nat × Flags :=
  match x with
  | .nan _ => (15, 0)
  | _ =>
    let i := cbIndex cb x
    (i, flagIf (!(x.eq (decodeC4 cb i))) fNX)

/-! ## All types -/

/-- What decoding and encoding depend on besides the type (R51, R117). -/
structure Env where
  rm : Nat
  sat : Bool
  ftz : Bool
  cb : List Nat
  deriving DecidableEq, Repr

/-- The operand value of an element (R119). -/
def decodeElem (v : Env) (ty x : Nat) : Val :=
  if tyInt ty then .ofInt (if tySigned ty then signedOf (tyWidth ty) x else (x % 2 ^ tyWidth ty : Nat))
  else if ty = 0x0E ∨ ty = 0x0F then decodeTapered ty x
  else if ty = 0x10 then decodeC4 v.cb x
  else if v.ftz && tyFtz ty && isSubnormal ty x then .fin (bitOf x (tyWidth ty - 1)) 0 1
  else decodeFp ty x

/-- The bounds of an integer type (R110). -/
def intLo (ty : Nat) : Int := if tySigned ty then -(2 ^ (tyWidth ty - 1) : Nat) else 0
def intHi (ty : Nat) : Int := (if tySigned ty then 2 ^ (tyWidth ty - 1) else 2 ^ tyWidth ty : Nat) - 1

/-- Encode of an integer result (R120). -/
def encodeInt (sat : Bool) (ty : Nat) (x : Int) : Nat × Flags :=
  if x < intLo ty then (wrapTo (tyWidth ty) (if sat then intLo ty else x), flagIf sat fSA)
  else if intHi ty < x then (wrapTo (tyWidth ty) (if sat then intHi ty else x), flagIf sat fSA)
  else (wrapTo (tyWidth ty) x, 0)

/-- Encode for a floating, tapered or codebook type (R116, R118, R120). -/
def encodeFloat (v : Env) (ty : Nat) (x : Val) : Nat × Flags :=
  if ty = 0x0E ∨ ty = 0x0F then encodeTapered ty x
  else if ty = 0x10 then encodeC4 v.cb x
  else encodeFp ty v.rm v.sat v.ftz x

/-- A floating value converted to an integer type (R123). -/
def floatToInt (rm ty : Nat) (x : Val) : Nat × Flags :=
  match x with
  | .nan _ => (0, fNV)
  | .inf s => (wrapTo (tyWidth ty) (if s then intLo ty else intHi ty), fNV)
  | .fin s n d =>
    let (q, nx) := roundTo rm s n d 0
    let y : Int := if s then -(q : Int) else q
    let fx := flagIf nx fNX
    if y < intLo ty then (wrapTo (tyWidth ty) (intLo ty), fx ||| fNV)
    else if intHi ty < y then (wrapTo (tyWidth ty) (intHi ty), fx ||| fNV)
    else (wrapTo (tyWidth ty) y, fx)

/-- Conversion of an element (R123); a signalling NaN operand raises NV (R122). -/
def convertElem (v : Env) (src dst x : Nat) : Nat × Flags :=
  let y := decodeElem v src x
  if tyInt dst then
    if tyInt src then encodeInt v.sat dst (if tySigned src then signedOf (tyWidth src) x else (x % 2 ^ tyWidth src : Nat))
    else floatToInt v.rm dst y
  else
    let (r, f) := encodeFloat v dst y
    (r, f ||| flagIf y.isSnan fNV)

/-! ## Operations on exact values (R122, R134) -/

/-- The sign of an exact zero sum (R120 step 8). -/
def zeroSign (rm : Nat) (s t : Bool) : Bool := if s = t then s else rm = rmRDN

/-- Sum (R134). -/
def Val.add (rm : Nat) (x y : Val) : Val × Flags :=
  let sn := flagIf (x.isSnan || y.isSnan) fNV
  match x, y with
  | .nan _, _ => (.qnan, sn)
  | _, .nan _ => (.qnan, sn)
  | .inf s, .inf t => if s = t then (.inf s, 0) else (.qnan, fNV)
  | .inf s, _ => (.inf s, 0)
  | _, .inf t => (.inf t, 0)
  | .fin s n d, .fin t m e =>
    let l := Nat.lcm d e
    let a : Int := (if s then -1 else 1) * (n * (l / d) : Nat)
    let b : Int := (if t then -1 else 1) * (m * (l / e) : Nat)
    let c := a + b
    if c = 0 then (.fin (if n = 0 ∧ m = 0 then zeroSign rm s t else rm = rmRDN) 0 1, 0)
    else (.fin (c < 0) c.natAbs l, 0)

/-- Difference (R134). -/
def Val.sub (rm : Nat) (x y : Val) : Val × Flags := x.add rm y.negate

/-- Product (R134). -/
def Val.mul (x y : Val) : Val × Flags :=
  let sn := flagIf (x.isSnan || y.isSnan) fNV
  match x, y with
  | .nan _, _ => (.qnan, sn)
  | _, .nan _ => (.qnan, sn)
  | .inf s, .inf t => (.inf (s != t), 0)
  | .inf s, .fin t m _ => if m = 0 then (.qnan, fNV) else (.inf (s != t), 0)
  | .fin s n _, .inf t => if n = 0 then (.qnan, fNV) else (.inf (s != t), 0)
  | .fin s n d, .fin t m e => (.fin (s != t) (n * m) (d * e), 0)

/-- Product and sum (R134). -/
def Val.fma (rm : Nat) (x y z : Val) : Val × Flags :=
  let (p, f) := x.mul y
  let (r, g) := p.add rm z
  (r, f ||| g)

/-- Quotient (R134). -/
def Val.div (x y : Val) : Val × Flags :=
  let sn := flagIf (x.isSnan || y.isSnan) fNV
  match x, y with
  | .nan _, _ => (.qnan, sn)
  | _, .nan _ => (.qnan, sn)
  | .inf _, .inf _ => (.qnan, fNV)
  | .inf s, .fin t _ _ => (.inf (s != t), 0)
  | .fin s _ _, .inf t => (.fin (s != t) 0 1, 0)
  | .fin s n d, .fin t m e =>
    if m = 0 then (if n = 0 then (.qnan, fNV) else (.inf (s != t), fDZ))
    else (.fin (s != t) (n * e) (d * m), 0)

/-- Integer square root by halving. -/
def isqrt (n : Nat) : Nat :=
  (List.range (n.log2 / 2 + 1)).reverse.foldl (fun r i => if (r + 2 ^ i) * (r + 2 ^ i) ≤ n then r + 2 ^ i else r) 0

/-- Square root (R134): exact, or a fraction that rounds as the root does, kept to 700 bits below the point. -/
def Val.sqrt (x : Val) : Val × Flags :=
  match x with
  | .nan b => (.qnan, flagIf b fNV)
  | .inf s => if s then (.qnan, fNV) else (.inf false, 0)
  | .fin s n d =>
    if n = 0 then (.fin s 0 1, 0)
    else if s then (.qnan, fNV)
    else
      let v := n * d * 4 ^ 700
      let r := isqrt v
      (.fin false (2 * r + b2n (r * r ≠ v)) (2 * d * 2 ^ 700), 0)

/-- The lesser or the greater (R134): −0 is less than +0; a NaN yields to a number. -/
def Val.minMax (max : Bool) (x y : Val) : Val × Flags :=
  let sn := flagIf (x.isSnan || y.isSnan) fNV
  match x, y with
  | .nan _, .nan _ => (.qnan, sn)
  | .nan _, y => (y, sn)
  | x, .nan _ => (x, sn)
  | x, y =>
    let less := x.lt y || (!y.lt x && x.neg? && !y.neg?)
    (if less = max then y else x, 0)

/-- Rounding to an integral value (R134 vfrnd). -/
def Val.rint (rm : Nat) (x : Val) : Val × Flags :=
  match x with
  | .fin s n d =>
    let (q, nx) := roundTo rm s n d 0
    (.fin s q 1, flagIf nx fNX)
  | .nan b => (.qnan, flagIf b fNV)
  | x => (x, 0)

end Sys2Proof.Machine
end

