-- ==== Sys2Proof/Config.lean ====
section
/-!
DEFINITION. What an implementation fixes and the free values: constants without a body, so that no proof can lean on
one of their values (log entry 7).
-/
namespace Sys2Proof.Config

/-- The n-th value that the spec leaves open (unpredictable, unstated or given by a device): log entry 7. -/
opaque freeValue : Nat → BitVec 64

/-- The n-th output of the random bit generator of R351 (log entry 7). -/
opaque drbg : Nat → BitVec 512

/-- The 48-byte fused device secret of R364. -/
opaque fusedSecret : BitVec 384

/-- The public-key digest fused into the part (R377). -/
opaque fusedKeyDigest : BitVec 384

/-- The fused minimum security version (R377). -/
opaque fusedMinVersion : Nat

/-- The part's own choice within the bound of R136 for a special function: a fixed function of the opcode, the mode and
the input pattern. -/
opaque special : (op mode pattern : Nat) → Nat

/-- How far a core's `%time` runs ahead of the package time at all times, taken modulo 3 (R96, log entry 8). -/
opaque timeSkew : Nat → Nat

/-- The device revision in IOX_ID (R286). -/
opaque revision : BitVec 8

end Sys2Proof.Config
end

