-- ==== Sys2Proof/Machine/Crypto.lean ====
section
/-!
DEFINITION. The cryptographic functions that the spec names: AES-256, XTS-AES-256 over one 32-byte sector (R350),
AES-256-GCM (R368), SHA-384 (R363), HMAC and HKDF (R364, R368), brainpoolP384r1 with ECDSA under RFC 6979 (R364, R365).
-/
namespace Sys2Proof.Crypto

/-- Multiplication by x in the field of AES. -/
def xtime (a : Nat) : Nat := (a * 2 % 256) ^^^ (if 128 ≤ a then 0x1B else 0)

/-- The product in the field of AES. -/
def gmul (a b : Nat) : Nat :=
  ((List.range 8).foldl (fun (st : Nat × Nat) i =>
    ((if bitOf b i then st.1 ^^^ st.2 else st.1), xtime st.2)) (0, a)).1

/-- a^254, the inverse in the field of AES. -/
def ginv (a : Nat) : Nat :=
  let a2 := gmul a a
  let a4 := gmul a2 a2
  let a8 := gmul a4 a4
  let a16 := gmul a8 a8
  let a32 := gmul a16 a16
  let a64 := gmul a32 a32
  let a128 := gmul a64 a64
  gmul a128 (gmul a64 (gmul a32 (gmul a16 (gmul a8 (gmul a4 a2)))))

/-- Rotation of a byte to the left. -/
def rotl8 (a n : Nat) : Nat := (a * 2 ^ n % 256) ||| (a / 2 ^ (8 - n))

/-- The S-box of AES. -/
def sbox (a : Nat) : Nat :=
  let b := ginv a
  b ^^^ rotl8 b 1 ^^^ rotl8 b 2 ^^^ rotl8 b 3 ^^^ rotl8 b 4 ^^^ 0x63

/-- The inverse S-box of AES. -/
def invSbox (a : Nat) : Nat := ginv (rotl8 a 1 ^^^ rotl8 a 3 ^^^ rotl8 a 6 ^^^ 0x05)

/-- Bytes of two lists combined by exclusive or. -/
def xorL (a b : List Nat) : List Nat := List.zipWith (· ^^^ ·) a b

/-- The key schedule of AES-256: 60 words of 4 bytes. -/
def expandKey (key : List Nat) : List (List Nat) :=
  let w0 := (List.range 8).map (fun i => (key.drop (4 * i)).take 4)
  let r := (List.range 52).foldl (fun (st : List (List Nat) × Nat) j =>
    let i := j + 8
    let prev := st.1.getD (i - 1) []
    let far := st.1.getD (i - 8) []
    if i % 8 = 0 then
      let t := (prev.drop 1 ++ prev.take 1).map sbox
      let t := xorL t [st.2, 0, 0, 0]
      (st.1 ++ [xorL far t], xtime st.2)
    else if i % 8 = 4 then (st.1 ++ [xorL far (prev.map sbox)], st.2)
    else (st.1 ++ [xorL far prev], st.2)) (w0, 1)
  r.1

/-- The round key of round `r`, 16 bytes. -/
def roundKey (ws : List (List Nat)) (r : Nat) : List Nat := ((ws.drop (4 * r)).take 4).flatten

/-- ShiftRows of AES on a column-major block. -/
def shiftRows (b : List Nat) : List Nat :=
  (List.range 16).map (fun i => b.getD ((i + 4 * (i % 4)) % 16) 0)

/-- The inverse of ShiftRows. -/
def invShiftRows (b : List Nat) : List Nat :=
  (List.range 16).map (fun i => b.getD ((i + 16 - 4 * (i % 4)) % 16) 0)

/-- MixColumns with the given first row. -/
def mixCols (row : List Nat) (b : List Nat) : List Nat :=
  (List.range 16).map (fun i =>
    (List.range 4).foldl (fun acc j => acc ^^^ gmul (row.getD ((j + 4 - i % 4) % 4) 0) (b.getD (4 * (i / 4) + j) 0)) 0)

/-- AES-256 encryption of one block. -/
def aesEnc (key block : List Nat) : List Nat :=
  let ws := expandKey key
  let st := xorL block (roundKey ws 0)
  let st := (List.range 13).foldl (fun st r =>
    xorL (mixCols [2, 3, 1, 1] (shiftRows (st.map sbox))) (roundKey ws (r + 1))) st
  xorL (shiftRows (st.map sbox)) (roundKey ws 14)

/-- AES-256 decryption of one block. -/
def aesDec (key block : List Nat) : List Nat :=
  let ws := expandKey key
  let st := (invShiftRows (xorL block (roundKey ws 14))).map invSbox
  (List.range 13).foldl (fun st r =>
    (invShiftRows (mixCols [14, 11, 13, 9] (xorL st (roundKey ws (13 - r))))).map invSbox) st
    |> fun st => xorL st (roundKey ws 0)

/-- Bytes as numbers. -/
def nats (l : List Byte) : List Nat := l.map (·.toNat)

/-- Numbers as bytes. -/
def byts (l : List Nat) : List Byte := l.map (BitVec.ofNat 8)

/-- The tweak of the next 16-byte block of an XTS data unit. -/
def xtsNext (t : List Nat) : List Nat :=
  let n := natLE (byts t)
  nats (bytesLE 16 (if 2 ^ 127 ≤ n then (2 * n) % 2 ^ 128 ^^^ 0x87 else 2 * n))

/-- XTS-AES-256 on one 32-byte sector, its tweak the sector's physical address (R350). -/
def xts (dec : Bool) (key : BitVec 512) (pa : Nat) (x : List Byte) : List Byte :=
  let kb := nats (bytesLE 64 key.toNat)
  let k1 := kb.take 32
  let k2 := kb.drop 32
  let t0 := aesEnc k2 (nats (bytesLE 16 (pa % 2 ^ 52)))
  let t1 := xtsNext t0
  let one (t b : List Nat) : List Nat := xorL (if dec then aesDec k1 (xorL b t) else aesEnc k1 (xorL b t)) t
  let xs := nats x
  byts (one t0 (xs.take 16) ++ one t1 ((xs.drop 16).take 16))

/-- What a sector written under `k1` reads as under `k2` (R356). -/
def recrypt (k1 k2 : BitVec 512) (pa : Nat) (x : List Byte) : List Byte :=
  if k1 = k2 then x else xts true k2 pa (xts false k1 pa x)

/-- The product in the field of GCM, on 128-bit numbers with the first bit highest. -/
def ghmul (x y : Nat) : Nat :=
  ((List.range 128).foldl (fun (st : Nat × Nat) i =>
    let z := if bitOf x (127 - i) then st.1 ^^^ st.2 else st.1
    let v := if st.2 % 2 = 1 then (st.2 / 2) ^^^ (0xE1 * 2 ^ 120) else st.2 / 2
    (z, v)) (0, y)).1

/-- A list cut into blocks of 16 bytes, the last filled with zeros. -/
def blocks16 (x : List Byte) : List (List Byte) :=
  (List.range ((x.length + 15) / 16)).map (fun i =>
    let b := (x.drop (16 * i)).take 16
    b ++ List.replicate (16 - b.length) 0)

/-- GHASH of additional data and cipher text. -/
def ghash (h : Nat) (ad ct : List Byte) : Nat :=
  let len := bytesBE 8 (8 * ad.length) ++ bytesBE 8 (8 * ct.length)
  (blocks16 ad ++ blocks16 ct ++ [len]).foldl (fun y b => ghmul (y ^^^ natBE b) h) 0

/-- The key stream of AES-256 in counter mode, from a counter block. -/
def ctrStream (key : List Nat) (iv : List Byte) (ctr n : Nat) : List Byte :=
  ((List.range ((n + 15) / 16)).flatMap (fun i => byts (aesEnc key (nats (iv ++ bytesBE 4 (ctr + i)))))).take n

/-- AES-256-GCM: the text under the key stream, and the tag over additional data and cipher text. -/
def gcmCrypt (key iv x : List Byte) : List Byte :=
  List.zipWith (· ^^^ ·) x (ctrStream (nats key) iv 2 x.length)

/-- The tag of AES-256-GCM. -/
def gcmTag (key iv ad ct : List Byte) : List Byte :=
  let k := nats key
  let h := natBE (byts (aesEnc k (List.replicate 16 0)))
  bytesBE 16 (ghash h ad ct ^^^ natBE (ctrStream k iv 1 16))

/-- Decryption of AES-256-GCM; nothing when the tag fails (R368). -/
def gcmOpen (key iv ad ct tag : List Byte) : Option (List Byte) :=
  if gcmTag key iv ad ct = tag then some (gcmCrypt key iv ct) else none

/-- The integer part of a root found bit by bit: the greatest r below 2^bits whose k-th power is at most n. -/
def iroot (k n : Nat) : Nat → Nat
  | 0 => 0
  | b + 1 =>
    let r := iroot k (n / 2 ^ k) b * 2
    if (r + 1) ^ k ≤ n then r + 1 else r

/-- The first 80 primes. -/
def primes80 : List Nat := ((List.range 410).filter (fun n => 2 ≤ n && (List.range n).all (fun d => d < 2 || n % d ≠ 0))).take 80

/-- The round constants of SHA-384: the fractions of the cube roots of the first 80 primes. -/
def shaK : List Nat := primes80.map (fun p => iroot 3 (p * 2 ^ 192) 70 % 2 ^ 64)

/-- The initial hash of SHA-384: the fractions of the square roots of the ninth to sixteenth primes. -/
def shaH0 : List Nat := ((primes80.drop 8).take 8).map (fun p => iroot 2 (p * 2 ^ 128) 70 % 2 ^ 64)

/-- Rotation of a 64-bit word to the right. -/
def rotr (x n : Nat) : Nat := (x / 2 ^ n) ||| (x * 2 ^ (64 - n) % 2 ^ 64)

/-- The message schedule of a 128-byte block. -/
def shaSchedule (b : List Byte) : List Nat :=
  let w0 := (List.range 16).map (fun i => natBE ((b.drop (8 * i)).take 8))
  (List.range 64).foldl (fun w j =>
    let i := j + 16
    let x := w.getD (i - 15) 0
    let y := w.getD (i - 2) 0
    let s0 := rotr x 1 ^^^ rotr x 8 ^^^ (x / 2 ^ 7)
    let s1 := rotr y 19 ^^^ rotr y 61 ^^^ (y / 2 ^ 6)
    w ++ [(w.getD (i - 16) 0 + s0 + w.getD (i - 7) 0 + s1) % 2 ^ 64]) w0

/-- One block of SHA-384. -/
def shaBlock (h : List Nat) (b : List Byte) : List Nat :=
  let r := (List.zip shaK (shaSchedule b)).foldl (fun (v : List Nat) kw =>
    match v with
    | [a, b, c, d, e, f, g, h] =>
      let s1 := rotr e 14 ^^^ rotr e 18 ^^^ rotr e 41
      let ch := (e &&& f) ^^^ ((2 ^ 64 - 1 - e) &&& g)
      let t1 := h + s1 + ch + kw.1 + kw.2
      let s0 := rotr a 28 ^^^ rotr a 34 ^^^ rotr a 39
      let mj := (a &&& b) ^^^ (a &&& c) ^^^ (b &&& c)
      [(t1 + s0 + mj) % 2 ^ 64, a, b, c, (d + t1) % 2 ^ 64, e, f, g]
    | v => v) h
  List.zipWith (fun x y => (x + y) % 2 ^ 64) h r

/-- SHA-384. -/
def sha384 (m : List Byte) : List Byte :=
  let z := (111 + 128 - m.length % 128) % 128
  let p := m ++ [0x80] ++ List.replicate z 0 ++ bytesBE 16 (8 * m.length)
  let h := (List.range (p.length / 128)).foldl (fun h i => shaBlock h ((p.drop (128 * i)).take 128)) shaH0
  ((h.take 6).map (bytesBE 8)).flatten

/-- HMAC with SHA-384. -/
def hmac (key m : List Byte) : List Byte :=
  let k := if 128 < key.length then sha384 key else key
  let k := k ++ List.replicate (128 - k.length) 0
  sha384 (k.map (· ^^^ 0x5C) ++ sha384 (k.map (· ^^^ 0x36) ++ m))

/-- HKDF with SHA-384: salt, input keying material, info, output length. -/
def hkdf (salt ikm info : List Byte) (len : Nat) : List Byte :=
  let prk := hmac salt ikm
  let r := (List.range ((len + 47) / 48)).foldl (fun (st : List Byte × List Byte) i =>
    let t := hmac prk (st.2 ++ info ++ [BitVec.ofNat 8 (i + 1)])
    (st.1 ++ t, t)) ([], [])
  r.1.take len

/-- The prime of brainpoolP384r1. -/
def ecP : Nat := 0x8CB91E82A3386D280F5D6F7E50E641DF152F7109ED5456B412B1DA197FB71123ACD3A729901D1A71874700133107EC53
/-- The coefficient A of brainpoolP384r1. -/
def ecA : Nat := 0x7BC382C63D8C150C3C72080ACE05AFA0C2BEA28E4FB22787139165EFBA91F90F8AA5814A503AD4EB04A8C7DD22CE2826
/-- The coefficient B of brainpoolP384r1. -/
def ecB : Nat := 0x04A8C7DD22CE28268B39B55416F0447C2FB77DE107DCD2A62E880EA53EEB62D57CB4390295DBC9943AB78696FA504C11
/-- The order n of brainpoolP384r1. -/
def ecN : Nat := 0x8CB91E82A3386D280F5D6F7E50E641DF152F7109ED5456B31F166E6CAC0425A7CF3AB6AF6B7FC3103B883202E9046565
/-- The generator of brainpoolP384r1. -/
def ecG : Nat × Nat :=
  (0x1D1C64F068CF45FFA2A63A81B7C13F6B8847A3E77EF14FE3DB7FCAFE0CBD10E8E826E03436D646AAEF87B2E247D4AF1E,
   0x8ABE1D7520F9C2A45CB1EB8E95CFD55262B70B29FEEC5864E19C054FF99129280E4646217791811142820341263C5315)

/-- x to the power e modulo m, with `e` below 2^400. -/
def powMod (x e m : Nat) : Nat :=
  ((List.range 400).foldl (fun (st : Nat × Nat) i =>
    ((if bitOf e i then st.1 * st.2 % m else st.1), st.2 * st.2 % m)) (1 % m, x % m)).1

/-- The inverse modulo a prime. -/
def invMod (x m : Nat) : Nat := powMod x (m - 2) m

/-- The sum of two points; `none` is the point at infinity. -/
def ecAdd : Option (Nat × Nat) → Option (Nat × Nat) → Option (Nat × Nat)
  | none, q => q
  | p, none => p
  | some (x1, y1), some (x2, y2) =>
    if x1 = x2 ∧ (y1 + y2) % ecP = 0 then none
    else
      let l := if x1 = x2 then (3 * x1 * x1 + ecA) * invMod (2 * y1) ecP % ecP
        else (y2 + ecP - y1) * invMod ((x2 + ecP - x1) % ecP) ecP % ecP
      let x3 := (l * l + 2 * ecP - x1 - x2) % ecP
      some (x3, (l * (x1 + ecP - x3) + ecP - y1) % ecP)

/-- A sum and the multiples of a point that a number's remaining bits select, lowest first. -/
def ecSteps : Nat → Nat → Option (Nat × Nat) → Option (Nat × Nat) → Option (Nat × Nat)
  | 0, _, a, _ => a
  | n + 1, k, a, q => if k = 0 then a else ecSteps n (k / 2) (if k % 2 = 1 then ecAdd a q else a) (ecAdd q q)

/-- A multiple of a point, with `k` below 2^400. -/
def ecMul (k : Nat) (p : Option (Nat × Nat)) : Option (Nat × Nat) := ecSteps 400 k none p

/-- Is this a point of the curve? -/
def ecOn (p : Nat × Nat) : Bool :=
  p.1 < ecP && p.2 < ecP && p.2 * p.2 % ecP == (p.1 * p.1 * p.1 + ecA * p.1 + ecB) % ecP

/-- The public point of a private key. -/
def ecPub (d : Nat) : Nat × Nat := (ecMul d (some ecG)).getD (0, 0)

/-- The per-signature value of RFC 6979 for a private key and a digest. -/
def rfc6979 (d : Nat) (h : List Byte) : Nat :=
  let x := bytesBE 48 d ++ bytesBE 48 (natBE h % ecN)
  let v := List.replicate 48 1
  let k := List.replicate 48 0
  let k := hmac k (v ++ [0] ++ x)
  let v := hmac k v
  let k := hmac k (v ++ [1] ++ x)
  let v := hmac k v
  let r := iterOpt (fun (st : List Byte × List Byte × Option Nat) =>
    match st.2.2 with
    | some _ => none
    | none =>
      let v := hmac st.1 st.2.1
      let t := natBE v
      if 0 < t ∧ t < ecN then some (st.1, v, some t)
      else
        let k := hmac st.1 (v ++ [0])
        some (k, hmac k v, none)) 64 (k, v, none)
  r.2.2.getD 1

/-- An ECDSA signature (r, s) of a message (R365). -/
def ecSign (d : Nat) (m : List Byte) : Nat × Nat :=
  let h := sha384 m
  let k := rfc6979 d h
  let r := (ecPub k).1 % ecN
  (r, invMod k ecN * (natBE h + r * d) % ecN)

/-- Does an ECDSA signature verify (R377)? -/
def ecVerify (q : Nat × Nat) (m : List Byte) (sg : Nat × Nat) : Bool :=
  let r := sg.1
  let s := sg.2
  if r = 0 ∨ ecN ≤ r ∨ s = 0 ∨ ecN ≤ s ∨ ecOn q = false then false
  else
    let w := invMod s ecN
    let u1 := natBE (sha384 m) * w % ecN
    let u2 := r * w % ecN
    match ecAdd (ecMul u1 (some ecG)) (ecMul u2 (some q)) with
    | none => false
    | some p => p.1 % ecN == r

end Sys2Proof.Crypto
end

