-- ==== Sys2Proof/Syntax.lean ====
section
/-!
DEFINITION. The instructions: one constructor for each row of spec/opcode_table.json. A word's constructor carries its
fields; an event's constructor carries the numbers that say which agent moves and with what data (log entry 1).
-/
namespace Sys2Proof

/-- The b operand of the A3 and C formats, by bs (R41); its seven bits are kept whole. -/
inductive Src where
  /-- bs = 00: a `v` register -/
  | v (n : BitVec 7)
  /-- bs = 01: an `s` register; bit 6 must be 0 -/
  | s (n : BitVec 7)
  /-- bs = 10: a signed immediate -/
  | imm (n : BitVec 7)
  /-- bs = 11: a predicate; bits 6 to 3 must be 0 -/
  | p (n : BitVec 7)
  deriving DecidableEq, Repr

/-- The sixteen conditions of R45. -/
inductive Cc where
  | eq | ne | lt | le | gt | ge | ltu | leu | gtu | geu | un | ord | t | f | bset | bclr
  deriving DecidableEq, Repr

/-- The memory operand of the M format (R42): index register or pair `a`, base register `s`, scale `sc`. -/
structure Mem where
  a : BitVec 7
  s : BitVec 6
  sc : BitVec 3
  deriving DecidableEq, Repr

/-- Every row of the opcode table. -/
inductive Instr where
  /-- CLAUSE_HEADER (R49) -/
  | clauseHeader (w : BitVec 12) (a : BitVec 4) (b : BitVec 4) (n : BitVec 4) (y : BitVec 1) (c : BitVec 1)
  /-- NOP (R88) -/
  | nop (i : BitVec 23)
  /-- SETM (R53) -/
  | setm (m : BitVec 23)
  /-- GETS (R95) -/
  | gets (d : BitVec 6) (i : BitVec 9)
  /-- GETV (R95) -/
  | getv (d : BitVec 7) (i : BitVec 9)
  /-- BR (R73) -/
  | br (h : BitVec 2) (q : BitVec 3) (n : BitVec 1) (o : BitVec 17)
  /-- JMP (R74) -/
  | jmp (hx : BitVec 6) (o : BitVec 17)
  /-- JR (R74) -/
  | jr (a : BitVec 6)
  /-- CALL (R74) -/
  | call (hx : BitVec 6) (o : BitVec 17)
  /-- RET (R74) -/
  | ret (a : BitVec 6)
  /-- RECON (R75) -/
  | recon (o : BitVec 17)
  /-- JOIN (R76) -/
  | join
  /-- LOOP (R83) -/
  | loop (l : BitVec 2) (c : BitVec 1) (n : BitVec 10) (e : BitVec 10)
  /-- LBRK (R84) -/
  | lbrk (h : BitVec 2) (q : BitVec 3) (n : BitVec 1) (o : BitVec 17)
  /-- EXIT (R78) -/
  | exit
  /-- YIELD (R88) -/
  | yield
  /-- WAIT (R88) -/
  | wait (f : BitVec 12)
  /-- TRAP (R97) -/
  | trap (n : BitVec 16)
  /-- SYS (R98) -/
  | sys (n : BitVec 16)
  /-- FBPT (R99) -/
  | fbpt (n : BitVec 6)
  /-- ERET (R105) -/
  | eret
  /-- HALT (R106) -/
  | halt
  /-- SRD (R102) -/
  | srd (d : BitVec 6) (r : BitVec 9)
  /-- SWR (R102) -/
  | swr (a : BitVec 6) (r : BitVec 9)
  /-- SADD (R89) -/
  | sadd (b : Src) (d : BitVec 6) (a : BitVec 6)
  /-- SSUB (R89) -/
  | ssub (b : Src) (d : BitVec 6) (a : BitVec 6)
  /-- SMUL (R89) -/
  | smul (b : Src) (d : BitVec 6) (a : BitVec 6)
  /-- SMULH (R89) -/
  | smulh (b : Src) (d : BitVec 6) (a : BitVec 6)
  /-- SAND (R89) -/
  | sand (b : Src) (d : BitVec 6) (a : BitVec 6)
  /-- SOR (R89) -/
  | sor (b : Src) (d : BitVec 6) (a : BitVec 6)
  /-- SXOR (R89) -/
  | sxor (b : Src) (d : BitVec 6) (a : BitVec 6)
  /-- SSHL (R89) -/
  | sshl (b : Src) (d : BitVec 6) (a : BitVec 6)
  /-- SSHR (R89) -/
  | sshr (b : Src) (d : BitVec 6) (a : BitVec 6)
  /-- SSRA (R89) -/
  | ssra (b : Src) (d : BitVec 6) (a : BitVec 6)
  /-- SMIN (R89) -/
  | smin (b : Src) (d : BitVec 6) (a : BitVec 6)
  /-- SMAX (R89) -/
  | smax (b : Src) (d : BitVec 6) (a : BitVec 6)
  /-- SCMP (R90) -/
  | scmp (b : Src) (c : Cc) (p : BitVec 3) (a : BitVec 6)
  /-- SSEL (R89) -/
  | ssel (b : Src) (d : BitVec 6) (a : BitVec 6)
  /-- SMOV (R89) -/
  | smov (b : Src) (d : BitVec 6)
  /-- SMOVI (R91) -/
  | smovi (d : BitVec 6) (i : BitVec 16)
  /-- SMOVH (R91) -/
  | smovh (d : BitVec 6) (i : BitVec 16)
  /-- SMOVX (R91) -/
  | smovx (d : BitVec 6) (i : BitVec 16)
  /-- SMOVY (R91) -/
  | smovy (d : BitVec 6) (i : BitVec 16)
  /-- SCLZ (R89) -/
  | sclz (d : BitVec 6) (a : BitVec 6)
  /-- SPOP (R89) -/
  | spop (d : BitVec 6) (a : BitVec 6)
  /-- SLD (R92) -/
  | sld (d : BitVec 6) (s : BitVec 6)
  /-- SST (R92) -/
  | sst (d : BitVec 6) (s : BitVec 6)
  /-- PAND (R93) -/
  | pand (d : BitVec 3) (a : BitVec 3) (b : BitVec 3)
  /-- POR (R93) -/
  | por (d : BitVec 3) (a : BitVec 3) (b : BitVec 3)
  /-- PXOR (R93) -/
  | pxor (d : BitVec 3) (a : BitVec 3) (b : BitVec 3)
  /-- PNOT (R93) -/
  | pnot (d : BitVec 3) (a : BitVec 3)
  /-- PANY (R94) -/
  | pany (d : BitVec 6) (a : BitVec 3)
  /-- PALL (R94) -/
  | pall (d : BitVec 6) (a : BitVec 3)
  /-- PMOV (R93) -/
  | pmov (b : Src) (d : BitVec 3)
  /-- VADD (R129) -/
  | vadd (b : Src) (d : BitVec 7) (a : BitVec 7)
  /-- VSUB (R129) -/
  | vsub (b : Src) (d : BitVec 7) (a : BitVec 7)
  /-- VMUL (R129) -/
  | vmul (b : Src) (d : BitVec 7) (a : BitVec 7)
  /-- VMULH (R129) -/
  | vmulh (b : Src) (d : BitVec 7) (a : BitVec 7)
  /-- VMAD (R129) -/
  | vmad (b : Src) (d : BitVec 7) (a : BitVec 7)
  /-- VDIV (R129) -/
  | vdiv (b : Src) (d : BitVec 7) (a : BitVec 7)
  /-- VREM (R129) -/
  | vrem (b : Src) (d : BitVec 7) (a : BitVec 7)
  /-- VABS (R129) -/
  | vabs (d : BitVec 7) (a : BitVec 7)
  /-- VNEG (R129) -/
  | vneg (d : BitVec 7) (a : BitVec 7)
  /-- VMIN (R129) -/
  | vmin (b : Src) (d : BitVec 7) (a : BitVec 7)
  /-- VMAX (R129) -/
  | vmax (b : Src) (d : BitVec 7) (a : BitVec 7)
  /-- VAND (R132) -/
  | vand (b : Src) (d : BitVec 7) (a : BitVec 7)
  /-- VOR (R132) -/
  | vor (b : Src) (d : BitVec 7) (a : BitVec 7)
  /-- VXOR (R132) -/
  | vxor (b : Src) (d : BitVec 7) (a : BitVec 7)
  /-- VNOT (R132) -/
  | vnot (d : BitVec 7) (a : BitVec 7)
  /-- VSHL (R129) -/
  | vshl (b : Src) (d : BitVec 7) (a : BitVec 7)
  /-- VSHR (R129) -/
  | vshr (b : Src) (d : BitVec 7) (a : BitVec 7)
  /-- VSRA (R129) -/
  | vsra (b : Src) (d : BitVec 7) (a : BitVec 7)
  /-- VCLZ (R129) -/
  | vclz (d : BitVec 7) (a : BitVec 7)
  /-- VPOP (R129) -/
  | vpop (d : BitVec 7) (a : BitVec 7)
  /-- VBREV (R129) -/
  | vbrev (d : BitVec 7) (a : BitVec 7)
  /-- VBFX (R130) -/
  | vbfx (b : Src) (d : BitVec 7) (a : BitVec 7)
  /-- VBFI (R130) -/
  | vbfi (b : Src) (d : BitVec 7) (a : BitVec 7)
  /-- VSEL (R132) -/
  | vsel (b : Src) (d : BitVec 7) (a : BitVec 7)
  /-- VCMP (R131) -/
  | vcmp (b : Src) (c : Cc) (p : BitVec 3) (a : BitVec 7)
  /-- VMOV (R132) -/
  | vmov (b : Src) (d : BitVec 7)
  /-- VMOVI (R132) -/
  | vmovi (d : BitVec 7) (i : BitVec 16)
  /-- VMOVH (R132) -/
  | vmovh (d : BitVec 7) (i : BitVec 16)
  /-- VFADD (R134) -/
  | vfadd (b : Src) (d : BitVec 7) (a : BitVec 7)
  /-- VFSUB (R134) -/
  | vfsub (b : Src) (d : BitVec 7) (a : BitVec 7)
  /-- VFMUL (R134) -/
  | vfmul (b : Src) (d : BitVec 7) (a : BitVec 7)
  /-- VFMA (R134) -/
  | vfma (b : Src) (d : BitVec 7) (a : BitVec 7)
  /-- VFMIN (R134) -/
  | vfmin (b : Src) (d : BitVec 7) (a : BitVec 7)
  /-- VFMAX (R134) -/
  | vfmax (b : Src) (d : BitVec 7) (a : BitVec 7)
  /-- VFCMP (R137) -/
  | vfcmp (b : Src) (c : Cc) (p : BitVec 3) (a : BitVec 7)
  /-- VFCLASS (R135) -/
  | vfclass (d : BitVec 7) (a : BitVec 7)
  /-- VFRND (R134) -/
  | vfrnd (d : BitVec 7) (a : BitVec 7)
  /-- VRCP (R136) -/
  | vrcp (d : BitVec 7) (a : BitVec 7)
  /-- VRSQ (R136) -/
  | vrsq (d : BitVec 7) (a : BitVec 7)
  /-- VSQRT (R134) -/
  | vsqrt (d : BitVec 7) (a : BitVec 7)
  /-- VEXP2 (R136) -/
  | vexp2 (d : BitVec 7) (a : BitVec 7)
  /-- VLOG2 (R136) -/
  | vlog2 (d : BitVec 7) (a : BitVec 7)
  /-- VSIN (R136) -/
  | vsin (d : BitVec 7) (a : BitVec 7)
  /-- VCOS (R136) -/
  | vcos (d : BitVec 7) (a : BitVec 7)
  /-- VTANH (R136) -/
  | vtanh (d : BitVec 7) (a : BitVec 7)
  /-- VSIGM (R136) -/
  | vsigm (d : BitVec 7) (a : BitVec 7)
  /-- VFDIV (R134) -/
  | vfdiv (b : Src) (d : BitVec 7) (a : BitVec 7)
  /-- VCVT (R124) -/
  | vcvt (d : BitVec 7) (a : BitVec 7) (e : BitVec 3) (f : BitVec 3)
  /-- VPACK (R126) -/
  | vpack (d : BitVec 7) (a : BitVec 7) (b : BitVec 7)
  /-- VUNPACK (R126) -/
  | vunpack (d : BitVec 7) (a : BitVec 7) (b : BitVec 7)
  /-- CBLD (R127) -/
  | cbld (a : BitVec 6)
  /-- CBST (R127) -/
  | cbst (d : BitVec 6)
  /-- VCBQ (R125) -/
  | vcbq (d : BitVec 7) (a : BitVec 7) (e : BitVec 3) (f : BitVec 3)
  /-- VSHF (R138) -/
  | vshf (b : Src) (d : BitVec 7) (a : BitVec 7)
  /-- VROT (R138) -/
  | vrot (b : Src) (d : BitVec 7) (a : BitVec 7)
  /-- VBCST (R138) -/
  | vbcst (d : BitVec 7) (a : BitVec 7)
  /-- VRD (R138) -/
  | vrd (b : Src) (d : BitVec 7) (a : BitVec 7)
  /-- VRED (R139) -/
  | vred (d : BitVec 7) (a : BitVec 7) (o : BitVec 3)
  /-- VSCAN (R139) -/
  | vscan (d : BitVec 7) (a : BitVec 7) (o : BitVec 3)
  /-- VBALL (R140) -/
  | vball (d : BitVec 7) (b : BitVec 3)
  /-- VMATCH (R140) -/
  | vmatch (d : BitVec 7) (a : BitVec 7)
  /-- VRND (R142) -/
  | vrnd (d : BitVec 7)
  /-- VSEED (R142) -/
  | vseed (b : Src) (a : BitVec 7)
  /-- LDB (R168) -/
  | ldb (d : BitVec 7) (m : Mem)
  /-- LDH (R168) -/
  | ldh (d : BitVec 7) (m : Mem)
  /-- LDW (R168) -/
  | ldw (d : BitVec 7) (m : Mem)
  /-- LDD (R168) -/
  | ldd (d : BitVec 7) (m : Mem)
  /-- LDQ (R168) -/
  | ldq (d : BitVec 7) (m : Mem)
  /-- STB (R168) -/
  | stb (d : BitVec 7) (m : Mem)
  /-- STH (R168) -/
  | sth (d : BitVec 7) (m : Mem)
  /-- STW (R168) -/
  | stw (d : BitVec 7) (m : Mem)
  /-- STD (R168) -/
  | std (d : BitVec 7) (m : Mem)
  /-- STQ (R168) -/
  | stq (d : BitVec 7) (m : Mem)
  /-- LDF (R173) -/
  | ldf (d : BitVec 7) (m : Mem)
  /-- STF (R173) -/
  | stf (d : BitVec 7) (m : Mem)
  /-- LDSW (R174) -/
  | ldsw (d : BitVec 7) (m : Mem)
  /-- LDSD (R174) -/
  | ldsd (d : BitVec 7) (m : Mem)
  /-- LDSQ (R174) -/
  | ldsq (d : BitVec 7) (m : Mem)
  /-- STSW (R174) -/
  | stsw (d : BitVec 7) (m : Mem)
  /-- STSD (R174) -/
  | stsd (d : BitVec 7) (m : Mem)
  /-- STSQ (R174) -/
  | stsq (d : BitVec 7) (m : Mem)
  /-- LDA (R175) -/
  | lda (d : BitVec 7) (m : Mem)
  /-- STL (R175) -/
  | stl (d : BitVec 7) (m : Mem)
  /-- LDSC (R176) -/
  | ldsc (d : BitVec 7) (m : Mem)
  /-- STSC (R176) -/
  | stsc (d : BitVec 7) (m : Mem)
  /-- LDNX (R177) -/
  | ldnx (d : BitVec 7) (m : Mem)
  /-- STNX (R177) -/
  | stnx (d : BitVec 7) (m : Mem)
  /-- PREF (R179) -/
  | pref (h : BitVec 2) (m : Mem)
  /-- FENCE (R178) -/
  | fence (k : BitVec 2) (s : BitVec 3)
  /-- FLUSH (R180) -/
  | flush (m : Mem)
  /-- INV (R180) -/
  | inv (m : Mem)
  /-- XLAT (R181) -/
  | xlat (d : BitVec 7) (m : Mem)
  /-- TLBI_PAGE (R182) -/
  | tlbiPage (s : BitVec 6)
  /-- TLBI_FEN (R182) -/
  | tlbiFen (s : BitVec 6)
  /-- TLBI_ALL (R182) -/
  | tlbiAll (s : BitVec 6)
  /-- AADD (R189) -/
  | aadd (b : Src) (d : BitVec 7) (a : BitVec 7)
  /-- AAND (R189) -/
  | aand (b : Src) (d : BitVec 7) (a : BitVec 7)
  /-- AOR (R189) -/
  | aor (b : Src) (d : BitVec 7) (a : BitVec 7)
  /-- AXOR (R189) -/
  | axor (b : Src) (d : BitVec 7) (a : BitVec 7)
  /-- AMIN (R189) -/
  | amin (b : Src) (d : BitVec 7) (a : BitVec 7)
  /-- AMAX (R189) -/
  | amax (b : Src) (d : BitVec 7) (a : BitVec 7)
  /-- AXCHG (R189) -/
  | axchg (b : Src) (d : BitVec 7) (a : BitVec 7)
  /-- AINC (R189) -/
  | ainc (b : Src) (d : BitVec 7) (a : BitVec 7)
  /-- AFADD (R191) -/
  | afadd (b : Src) (d : BitVec 7) (a : BitVec 7)
  /-- ACAS (R189) -/
  | acas (b : Src) (d : BitVec 7) (a : BitVec 7)
  /-- PARK (R193) -/
  | park (b : Src) (c : Cc) (p : BitVec 3) (a : BitVec 7)
  /-- PARKT (R188) -/
  | parkt (b : BitVec 6)
  /-- TXB (R200) -/
  | txb
  /-- TXE (R208) -/
  | txe (p : BitVec 3) (c : BitVec 7)
  /-- TXA (R204) -/
  | txa (i : BitVec 8)
  /-- TXR (R205) -/
  | txr (d : BitVec 7)
  /-- TXQ (R206) -/
  | txq (d : BitVec 7)
  /-- MCFG (R220) -/
  | mcfg (i : BitVec 21)
  /-- MGANG (R234) -/
  | mgang (b : BitVec 6)
  /-- MMA (R228) -/
  | mma (r : BitVec 1) (c : BitVec 6) (a : BitVec 7) (s : BitVec 6) (z : BitVec 1)
  /-- MMAS (R228) -/
  | mmas (r : BitVec 1) (c : BitVec 6) (a : BitVec 7) (s : BitVec 6) (t : BitVec 1) (z : BitVec 1)
  /-- MMAW (R228) -/
  | mmaw (r : BitVec 1) (c : BitVec 6) (a : BitVec 7) (s : BitVec 6) (z : BitVec 1)
  /-- MCOMP (R239) -/
  | mcomp (d : BitVec 7) (a : BitVec 7) (n : BitVec 3) (t : BitVec 1)
  /-- LDGA (R240) -/
  | ldga (d : BitVec 7) (m : Mem)
  /-- ACCLD (R238) -/
  | accld (c : BitVec 6) (a : BitVec 7) (p : BitVec 2)
  /-- ACCZ (R237) -/
  | accz (c : BitVec 6)
  /-- MSTAT (R241) -/
  | mstat (d : BitVec 6) (s : BitVec 9)
  /-- CPT (R257) -/
  | cpt (t : BitVec 6) (l : BitVec 6) (c : BitVec 6) (b : BitVec 4) (r : BitVec 1)
  /-- CPX (R257) -/
  | cpx (t : BitVec 6) (l : BitVec 6) (c : BitVec 6) (m : BitVec 5)
  /-- CPL (R260) -/
  | cpl (b : Src) (d : BitVec 7) (a : BitVec 7)
  /-- CPG (R273) -/
  | cpg (d : BitVec 6) (s : BitVec 7)
  /-- CPF (R273) -/
  | cpf
  /-- QCFG (R269) -/
  | qcfg (n : BitVec 3) (b : BitVec 6)
  /-- QPUSH_RES (R271) -/
  | qpushRes (d : BitVec 6) (n : BitVec 3)
  /-- QPUSH_PUB (R271) -/
  | qpushPub (n : BitVec 3)
  /-- QFREE (R271) -/
  | qfree (n : BitVec 3)
  /-- QPOP (R271) -/
  | qpop (d : BitVec 6) (n : BitVec 3)
  /-- BINIT (R266) -/
  | binit (b : Src) (n : BitVec 4)
  /-- BARV (R266) -/
  | barv (d : BitVec 6) (n : BitVec 4)
  /-- BEXP (R266) -/
  | bexp (b : Src) (n : BitVec 4)
  /-- BWAIT (R266) -/
  | bwait (b : Src) (n : BitVec 4)
  /-- BTEST (R266) -/
  | btest (b : Src) (p : BitVec 3) (n : BitVec 4)
  /-- IODB (R297) -/
  | iodb (b : Src) (a : BitVec 6)
  /-- IODB_CQ (R297) -/
  | iodbCq (b : Src) (a : BitVec 6)
  /-- IOBIND (R303) -/
  | iobind (a : BitVec 6) (n : BitVec 4)
  /-- IOUNB (R303) -/
  | iounb (a : BitVec 6)
  /-- PRQPOP (R294) -/
  | prqpop (d : BitVec 6)
  /-- PRQACK (R294) -/
  | prqack (a : BitVec 6) (c : BitVec 2)
  /-- CFGRD (R288) -/
  | cfgrd (d : BitVec 6) (a : BitVec 6)
  /-- CFGWR (R288) -/
  | cfgwr (d : BitVec 6) (a : BitVec 6) (b : BitVec 6)
  /-- NTBMAP (R305) -/
  | ntbmap (a : BitVec 6)
  /-- ENQ (R320) -/
  | enq (b : Src) (p : BitVec 3) (a : BitVec 7)
  /-- RSUB (R321) -/
  | rsub (d : BitVec 7) (a : BitVec 7) (b : BitVec 6)
  /-- LAUNCH (R319) -/
  | launch (d : BitVec 6) (a : BitVec 6) (n : BitVec 7)
  /-- PREEMPT (R329) -/
  | preempt (d : BitVec 6) (a : BitVec 6)
  /-- RESUME_RESTART (R325) -/
  | resumeRestart (d : BitVec 6) (a : BitVec 6)
  /-- RESUME_SKIP (R325) -/
  | resumeSkip (d : BitVec 6) (a : BitVec 6)
  /-- RESUME_SKIP_ARGS (R325) -/
  | resumeSkipArgs (d : BitVec 6) (a : BitVec 6)
  /-- RESUME_END (R325) -/
  | resumeEnd (d : BitVec 6) (a : BitVec 6)
  /-- LEND (R330) -/
  | lend (d : BitVec 6) (a : BitVec 6)
  /-- RECLAIM (R330) -/
  | reclaim (d : BitVec 6) (a : BitVec 6)
  /-- GCALL_IMM (R346) -/
  | gcallImm (p : BitVec 3) (n : BitVec 7)
  /-- GCALL_REG (R346) -/
  | gcallReg (p : BitVec 3) (b : BitVec 6)
  /-- GRET (R348) -/
  | gret
  /-- KSLOT (R351) -/
  | kslot (d : BitVec 6) (a : BitVec 6)
  /-- KZERO (R352) -/
  | kzero (d : BitVec 6) (a : BitVec 6)
  /-- SCRUB (R360) -/
  | scrub (d : BitVec 6) (a : BitVec 6)
  /-- WLATCH (R344) -/
  | wlatch (d : BitVec 6) (a : BitVec 6)
  /-- FSET (R338) -/
  | fset (d : BitVec 6) (a : BitVec 6)
  /-- ATTEST_EVIDENCE (R367) -/
  | attestEvidence (d : BitVec 6) (a : BitVec 6)
  /-- ATTEST_EPHEMERAL (R367) -/
  | attestEphemeral (d : BitVec 6) (a : BitVec 6)
  /-- ATTEST_RELEASE (R368) -/
  | attestRelease (d : BitVec 6) (a : BitVec 6)
  /-- MEAS (R363) -/
  | meas (d : BitVec 6) (a : BitVec 6)
  /-- MIGR_SET (R370) -/
  | migrSet (d : BitVec 6) (a : BitVec 6)
  /-- MIGR_SAVE (R370) -/
  | migrSave (d : BitVec 6) (a : BitVec 6)
  /-- MIGR_LOAD (R370) -/
  | migrLoad (d : BitVec 6) (a : BitVec 6)
  /-- event STORE_QUEUE_DRAIN (R159) -/
  | storeQueueDrain (team group : Nat)
  /-- event LOAD_DATA_ARRIVE (R168) -/
  | loadDataArrive (team group op sel : Nat)
  /-- event RENDEZVOUS_CLOSE (R235) -/
  | rendezvousClose (team idx : Nat)
  /-- event CONTEXT_SAVE_COMPLETE (R326) -/
  | contextSaveComplete (team : Nat)
  /-- event TEAM_RETIRE (R24) -/
  | teamRetire (team : Nat)
  /-- event STORE_APPLY (R160) -/
  | storeApply (core idx : Nat)
  /-- event ATOMIC_APPLY (R190) -/
  | atomicApply (core idx : Nat)
  /-- event ACCZ_APPLY (R237) -/
  | acczApply (core op : Nat)
  /-- event WAVEFRONT_COMPLETE (R228) -/
  | wavefrontComplete (core op : Nat)
  /-- event COPY_COMPLETE (R258) -/
  | copyComplete (op : Nat)
  /-- event CPL_COMPLETE (R260) -/
  | cplComplete (op : Nat)
  /-- event ENQ_RECORD_COPY (R320) -/
  | enqRecordCopy (idx : Nat)
  /-- event TX_COMMIT (R208) -/
  | txCommit (idx held : Nat)
  /-- event IODB_MARK (R298) -/
  | iodbMark (idx : Nat)
  /-- event DOORBELL_WRITE (R299) -/
  | doorbellWrite (idx : Nat)
  /-- event EXPANDER_WRITE_COMPLETE (R160) -/
  | expanderWriteComplete (idx : Nat)
  /-- event SC_RESERVATION_GRANT (R162) -/
  | scReservationGrant (line : Nat)
  /-- event TEAM_PLACE (R315) -/
  | teamPlace (pid : Nat)
  /-- event SCRUB_UNIT (R359) -/
  | scrubUnit (die : Nat)
  /-- event PAGE_WALK_COMPLETE (R170) -/
  | pageWalkComplete (core fen va : Nat)
  /-- event PARK_TIMEOUT (R195) -/
  | parkTimeout (idx : Nat)
  /-- event SC_STAMP_ROLLOVER (R163) -/
  | scStampRollover
  /-- event REORDER_FLUSH_TIMEOUT (R321) -/
  | reorderFlushTimeout (pid idx : Nat)
  /-- event PARK_THRESHOLD_SWAP (R316) -/
  | parkThresholdSwap (team : Nat)
  /-- event TIME_SLICE_EXPIRY (R316) -/
  | timeSliceExpiry (pid : Nat)
  /-- event PORT_TRAIN (R282) -/
  | portTrain (port value : Nat)
  /-- event GROUP_BIFURCATE (R281) -/
  | groupBifurcate (grp value : Nat)
  /-- event LINK_PARTNER_DETECT (R282) -/
  | linkPartnerDetect (port rate width flit : Nat)
  /-- event LANE_FAILURE (R386) -/
  | laneFailure (port width : Nat)
  /-- event DEVICE_REMOVAL (R386) -/
  | deviceRemoval (port : Nat)
  /-- event DEVICE_MEMORY_REQUEST (R291) -/
  | deviceMemoryRequest (port rid pasid addr len data flags : Nat)
  /-- event ATS_TRANSLATION_REQUEST (R290) -/
  | atsTranslationRequest (port rid pasid addr : Nat)
  /-- event ATS_INVALIDATE_COMPLETION (R290) -/
  | atsInvalidateCompletion (fen : Nat)
  /-- event PAGE_REQUEST_MESSAGE (R292) -/
  | pageRequestMessage (port rid pasid addr acc prgi last : Nat)
  /-- event MSIX_MESSAGE (R302) -/
  | msixMessage (port data addr : Nat)
  /-- event LEGACY_INTERRUPT_MESSAGE (R283) -/
  | legacyInterruptMessage (port : Nat)
  /-- event NTB_INCOMING_REQUEST (R306) -/
  | ntbIncomingRequest (port addr len data flags : Nat)
  /-- event CFG_COMPLETION (R288) -/
  | cfgCompletion (idx status data : Nat)
  /-- event CFG_COMPLETION_TIMEOUT (R288) -/
  | cfgCompletionTimeout (idx : Nat)
  /-- event QH_LOAD (R296) -/
  | qhLoad (handle : Nat)
  /-- event QH_RETIRE (R296) -/
  | qhRetire (handle : Nat)
  /-- event REMAP_WRITE (R301) -/
  | remapWrite (entry word value : Nat)
  /-- event HOST_DOORBELL_WRITE (R381) -/
  | hostDoorbellWrite (fn : Nat)
  /-- event FEAT_OK (R380) -/
  | featOk (lo hi : Nat)
  /-- event FUNCTION_LEVEL_RESET (R380) -/
  | functionLevelReset (fn : Nat)
  /-- event DST_QUEUE_WRITE (R310) -/
  | dstQueueWrite (pid queue word value : Nat)
  /-- event DST_JBASE_WRITE (R308) -/
  | dstJbaseWrite (pid value : Nat)
  /-- event DST_FQBASE_WRITE (R308) -/
  | dstFqbaseWrite (pid value : Nat)
  /-- event DST_FQRD_WRITE (R309) -/
  | dstFqrdWrite (pid value : Nat)
  /-- event DST_HOLD_CLEAR (R329) -/
  | dstHoldClear (pid word value : Nat)
  /-- event PARTITION_MAKE (R341) -/
  | partitionMake (first size : Nat)
  /-- event PARTITION_UNMAKE (R341) -/
  | partitionUnmake (first size : Nat)
  /-- event GATE_TABLE_INVALIDATE (R345) -/
  | gateTableInvalidate
  /-- event COPY_ENGINE_ASSIGN (R342) -/
  | copyEngineAssign (engine value : Nat)
  /-- event COPY_ENGINE_ASSIGN_EFFECT (R342) -/
  | copyEngineAssignEffect (engine : Nat)
  /-- event SCRUB_RESUME (R361) -/
  | scrubResume (die : Nat)
  /-- event FEN_MEASUREMENT_SAVE (R366) -/
  | fenMeasurementSave (fen : Nat)
  /-- event SYSTEM_CORE_RESTART (R374) -/
  | systemCoreRestart (die : Nat)
  /-- event SPARE_SUBSTITUTE (R384) -/
  | spareSubstitute (die core : Nat)
  /-- event CORE_RETIRE (R384) -/
  | coreRetire (die core : Nat)
  /-- event CHANNEL_RETIRE (R385) -/
  | channelRetire (die slice ch : Nat)
  /-- event FIRMWARE_HANDOVER (R387) -/
  | firmwareHandover
  /-- event POWER_MODE_WRITE (R388) -/
  | powerModeWrite (value : Nat)
  /-- event POWER_MODE_EFFECT (R389) -/
  | powerModeEffect
  /-- event PARTITION_GATE (R392) -/
  | partitionGate (pid : Nat)
  /-- event PARTITION_UNGATE (R392) -/
  | partitionUngate (pid : Nat)
  /-- event MCLOG_POP (R376) -/
  | mclogPop (die : Nat)
  /-- event SPLIT_EFFECT (R154) -/
  | splitEffect (core : Nat)
  /-- event TIMECMP_EVENT (R106) -/
  | timecmpEvent (die : Nat)
  /-- event POWER_CAP_ENGAGE (R390) -/
  | powerCapEngage
  /-- event POWER_CAP_RELEASE (R390) -/
  | powerCapRelease
  /-- event THERMAL_CAP (R391) -/
  | thermalCap (die : Nat)
  /-- event THERMAL_TRIP (R391) -/
  | thermalTrip (die : Nat)
  /-- event THERMAL_RECOVERY (R391) -/
  | thermalRecovery
  /-- event THERMAL_SHUTDOWN (R391) -/
  | thermalShutdown (die : Nat)
  /-- event CORE_UNCORRECTABLE_ERROR (R376) -/
  | coreUncorrectableError (core intact : Nat)
  /-- event LINK_DATA_LOSS (R376) -/
  | linkDataLoss (link : Nat) (intact : List Nat) (lost : List Nat)
  /-- event COLD_RESET (R377) -/
  | coldReset
  /-- event WARM_RESET (R379) -/
  | warmReset
  /-- event REGISTER_WRITE (R7) -/
  | registerWrite (pa value : Nat)
  /-- event DEVICE_READ_COMPLETION_TIMEOUT (R171) -/
  | deviceReadCompletionTimeout (team group op : Nat)
  deriving DecidableEq, Repr

end Sys2Proof
end

