-- ==== Sys2Proof/Machine/State.lean ====
section
/-!
DEFINITION. The machine's state as plain data: every register, memory, queue and engine of spec/01 to spec/12, the
reasons a step can stop, and the state right after reset. Sparse tables list only what differs from the value that an
unlisted key reads as, so that equal machines are equal data.
-/
namespace Sys2Proof.Machine

/-- Why the machine stops. -/
inductive Fault where
  /-- the module has shut down at 115 °C (R391); raised by every step after `THERMAL_SHUTDOWN`; safe -/
  | moduleOff
  deriving DecidableEq, Repr

/-- Why a step is refused. -/
inductive Refusal where
  /-- an instruction without a meaning; raised by the arms of exec only; safe -/
  | notModelled (mnemonic : String)
  /-- a word with no splinter entry to issue it: the step names none that exists, so the spec gives no effect (log
  entry 1); raised by every word; safe -/
  | noIssuer
  deriving DecidableEq, Repr

/-- A Lamport stamp (C, core) of R162. -/
structure Stamp where
  c : Nat
  core : Nat
  deriving DecidableEq, Repr

/-- A splinter entry (R67). Free entries (MASK 0) are not listed. -/
structure Splinter where
  pc : BitVec 57
  mid : Bool
  cseta : BitVec 4
  csetb : BitVec 4
  cleft : BitVec 4
  frame : BitVec 5
  mode : BitVec 23
  mask : BitVec 32
  deriving DecidableEq, Repr

/-- Kinds of reconvergence frame (R68). -/
inductive FrameKind where
  | recon | loop | defer
  deriving DecidableEq, Repr

/-- A reconvergence frame (R68). -/
structure Frame where
  rpc : BitVec 57
  kind : FrameKind
  parent : BitVec 5
  mask : BitVec 32
  arrived : BitVec 32
  broke : BitVec 32
  amode : BitVec 23
  len : BitVec 9
  lc : BitVec 2
  bmode : BitVec 23
  dmid : Bool
  dseta : BitVec 4
  dsetb : BitVec 4
  dleft : BitVec 4
  deriving DecidableEq, Repr

/-- One register write that an operation in flight still has to deliver (R50). -/
inductive RegW where
  | v (lane n : Nat) (x : BitVec 32)
  | s (n : Nat) (x : BitVec 64)
  | p (lane n : Nat) (b : Bool)
  deriving DecidableEq, Repr

/-- Where a deferred cause is delivered (R33, R171). -/
inductive DeferAt where
  /-- at the next header that waits on this flag -/
  | flag (n : Nat)
  /-- at the next fence of scope `d` or wider, release store or exit -/
  | store
  deriving DecidableEq, Repr

/-- A deferred fault (R33). -/
structure Deferred where
  at_ : DeferAt
  cause : Nat
  kind : Nat
  lanes : BitVec 32
  addr : Nat
  /-- the failing physical address of a machine check -/
  pa : Nat
  /-- the store word whose lanes failed; 0 for other operations -/
  op : Nat
  deriving DecidableEq, Repr

/-- A fault: its cause, where it is reported, and what its record holds (R30, R32). -/
structure Flt where
  cause : Nat
  /-- PC of the record where it is not the faulting word's address (R47) -/
  pc : Option (BitVec 57) := none
  lanes : BitVec 32 := BitVec.allOnes 32
  addr : Nat := 0
  kind : Nat := 0
  defer : Bool := false
  /-- failing physical address of a machine check (R376) -/
  mcpa : Option Nat := none
  deriving DecidableEq, Repr

/-- A fault that is delivered together with those of other groups: the splinter entry that raised it (R35). -/
structure Raised where
  team : Nat
  group : Nat
  entry : Nat
  flt : Flt
  deriving DecidableEq, Repr

/-- A class A operation in flight (R48, R50): a load, an atomic, a park, a txe or a cfgrd. -/
structure Pending where
  id : Nat
  flag : Nat
  /-- register writes whose values have arrived -/
  writes : List RegW
  /-- requests whose replies have not arrived -/
  waiting : Nat
  /-- sticky flags to set when the data arrive (R173) -/
  fp : BitVec 6
  /-- a deferred cause to raise when the data arrive -/
  bad : Option Deferred
  /-- a park: the group is blocked until it ends (R193) -/
  isPark : Bool
  /-- lanes whose read of a device has not completed yet, with the port that took it and its address (R171) -/
  devs : List (Nat × Nat × Nat)
  /-- an acquire whose device has not answered (R161, R175) -/
  acq : Bool
  /-- issued inside a gate that was aborted: its register writes are discarded (R349) -/
  dead : Bool
  deriving DecidableEq, Repr

/-- Atomic operations (R189). -/
inductive AtomOp where
  | add | and | or | xor | min | max | xchg | inc | fadd | cas
  deriving DecidableEq, Repr

/-- What an entry of a store queue does. -/
inductive StKind where
  /-- a plain store -/
  | plain
  /-- a release store: applied after every earlier access of the group (R175) -/
  | release
  /-- an atomic (R190): operation, type code, operands, reply lane and register, acquire-release -/
  | atomic (op : AtomOp) (ty : Nat) (b d : BitVec 64) (pend lane dst : Nat) (acqrel : Bool)
  deriving DecidableEq, Repr

/-- An entry of a group's store queue or of the core store order (R159). -/
structure StoreEnt where
  /-- the word that made it -/
  word : Nat
  team : Nat
  group : Nat
  lane : Nat
  fen : Nat
  va : Nat
  pa : Nat
  /-- bytes and, for each, the bits that are written -/
  bytes : List (BitVec 8 × BitVec 8)
  /-- of an element that straddles a page, its bytes in the next page and where they lie (R153, R173) -/
  more : Option (Nat × List (BitVec 8 × BitVec 8))
  kind : StKind
  /-- the moment at which it entered the core store order (R159) -/
  entered : Nat := 0
  deriving DecidableEq, Repr

/-- A sequentially consistent access waiting to be sent or accepted (R162). -/
structure ScReq where
  team : Nat
  group : Nat
  fen : Nat
  va : Nat
  pa : Nat
  len : Nat
  /-- `none`: a load -/
  data : Option (List (BitVec 8))
  /-- an atomic in SC mode -/
  atom : Option StKind
  pend : Nat
  lane : Nat
  dst : Nat
  stamp : Stamp
  /-- refused and holding a reservation -/
  refused : Bool
  deriving DecidableEq, Repr

/-- A logged sector (R199): address, bytes as the fen reads them, and of a write entry the bits stored of each byte: none or
all, but for elements narrower than a byte (R173, log entry 113). -/
structure LogEnt where
  sector : Nat
  bytes : List (BitVec 8)
  mask : List (BitVec 8)
  deriving DecidableEq, Repr

/-- States of a lane's transaction (R198). -/
inductive TxState where
  | none | opened | aborted
  deriving DecidableEq, Repr

/-- A lane's transaction summary and logs (R198, R199). -/
structure TxLane where
  state : TxState
  cause : Nat
  detail : Nat
  conf : Nat
  esc : Bool
  /-- was the lane's last attempt escalated: ESC of its cause word (R208) -/
  tried : Bool
  stc : Nat
  stcore : Nat
  reads : List LogEnt
  writes : List LogEnt
  deriving DecidableEq, Repr

/-- A txe whose lanes are still committing (R208). -/
structure TxCommitOp where
  team : Nat
  group : Nat
  fen : Nat
  pend : Nat
  pd : Nat
  dst : Nat
  /-- lanes still to commit, ascending, with their logs -/
  lanes : List (Nat × TxLane)
  deriving DecidableEq, Repr

/-- The words that block a group (R70). -/
inductive BlockKind where
  | park
  | halt
  | cfg
  | bwait (bar phase : Nat)
  | qpop (q : Nat)
  deriving DecidableEq, Repr

/-- A blocked group: by which word, from which entry and since when. -/
structure Block where
  kind : BlockKind
  entry : Nat
  since : Nat
  deriving DecidableEq, Repr

/-- A group inside a call gate (R346). -/
structure Gate where
  tfen : Nat
  pv : Nat
  ps : Nat
  grows : Nat
  ret : BitVec 57
  mode : BitVec 23
  lcs : List (BitVec 32)
  pd : Nat
  rows : SMap (BitVec 32)
  deriving DecidableEq, Repr

/-- The reuse latch (R231). -/
structure Latch where
  valid : Bool
  a : BitVec 7
  op : BitVec 9
  ty : BitVec 5
  pat : Bool
  data : SMap (BitVec 32)
  deriving DecidableEq, Repr

/-- The trap registers of a group of a system core (R103, R104). -/
structure TrapRegs where
  epc : BitVec 57
  ecause : BitVec 64
  eaddr : BitVec 57
  emode : BitVec 23
  scr : SMap (BitVec 64)
  ecls : BitVec 13
  /-- the lanes of the splinter that trapped -/
  lanes : BitVec 32
  deriving DecidableEq, Repr

/-- A group (R66) with the state of its lanes. `v` is keyed by 128 · lane + register. -/
structure Group where
  entries : SMap Splinter
  /-- what a free entry holds, MASK 0; unlisted ones are `Splinter.blank` (R67) -/
  idle : SMap Splinter
  frames : SMap Frame
  /-- what a free frame slot holds, MASK 0; unlisted ones are `Frame.blank` (R68) -/
  freed : SMap Frame
  s : SMap (BitVec 64)
  v : SMap (BitVec 32)
  p : SMap (BitVec 32)
  cf : SMap Nat
  lc : SMap (BitVec 32)
  exited : BitVec 32
  fb : Option (BitVec 6 × BitVec 23)
  fbRec : BitVec 6 × BitVec 23
  fp : BitVec 6
  codebook : SMap (BitVec 16)
  rng : SMap (BitVec 128)
  hbc : BitVec 34
  scfg : BitVec 21
  gang : BitVec 64
  latch : Latch
  lph : SMap (BitVec 16)
  tx : SMap TxLane
  txBuf : Bool
  lastsc : Stamp
  mstat0 : Nat
  mstat1 : Nat
  copies : Nat
  copyBytes : Nat
  tokens : List Nat
  pend : List Pending
  sq : List StoreEnt
  scq : List ScReq
  deferred : List Deferred
  block : Option Block
  gate : Option Gate
  port : Nat
  floor : Nat
  /-- the moment of the group's last acquire, or of its swap-out: what other groups had then put into its core's store order comes
  before its later releases (R161), and before its team is on another core (R157) -/
  joined : Nat
  /-- flags of `txe` words that the group has not observed (R214) -/
  txeFlags : BitVec 12
  lastTime : Nat
  trap : TrapRegs
  arrivedGang : Option Nat
  deriving DecidableEq, Repr

/-- A barrier (R263). -/
structure Barrier where
  members : Nat
  arr : Nat
  phase : Nat
  xexp : Nat
  xarr : Nat
  deriving DecidableEq, Repr

/-- A stream (R268). -/
structure Stream where
  base : Nat
  nsm1 : Nat
  ssz : Nat
  freei : Nat
  np : Nat
  nc : Nat
  v : Bool
  filled : Nat
  hand : Nat
  stall : Nat
  /-- the moment of the last `qcfg`, from which STALL counts -/
  start : Nat
  deriving DecidableEq, Repr

/-- One member's arrival at a rendezvous (R235). -/
structure Arrival where
  group : Nat
  entry : Nat
  gang : BitVec 56
  op : Nat
  acc : Nat
  a : Nat
  ru : Bool
  pat : Bool
  z : Bool
  ty : Nat
  cty : Nat
  boff : Nat
  scfg : BitVec 21
  tile : Nat
  flag : Nat
  active : Bool
  frag : SMap (BitVec 32)
  deriving DecidableEq, Repr

/-- An open rendezvous: the count SEQ it belongs to, its groups and the arrivals. -/
structure Rendezvous where
  seq : Nat
  groups : List Nat
  arrivals : List Arrival
  deriving DecidableEq, Repr

/-- Where a team is (R314, R326). -/
inductive TeamStatus where
  | waiting
  | resident
  /-- halted, its slot being written (R326 steps 5 to 7) -/
  | saving
  /-- swapped out; the reason says when it may enter again -/
  | out
  /-- every group has ended, or the team was ended: it waits to retire (R24) -/
  | ended
  deriving DecidableEq, Repr

/-- Why a team was taken off its core (R314). -/
inductive OutCause where
  | none | fault | blocked | preempt | reclaim
  deriving DecidableEq, Repr

/-- An interval of the range-lock table (R165): its space is a fen's global space, or a team's scratchpad. -/
structure Interval where
  spad : Bool
  lo : Nat
  len : Nat
  deriving DecidableEq, Repr

/-- A range-lock entry (R165). -/
structure RangeLock where
  id : Nat
  fen : Nat
  team : Nat
  src : Option Interval
  dst : Option Interval
  deriving DecidableEq, Repr

/-- The kinds of Sedge operation (R243). -/
inductive SedgeKind where
  | mma | mmas | mmaw | accz
  deriving DecidableEq, Repr

/-- An operation that Sedge holds, one per member (R243). `op` is shared by the members of one gang operation. -/
structure SedgeOp where
  id : Nat
  op : Nat
  /-- COUNT of its record: the members of its operation that have a wavefront, 1 for solo (R243) -/
  count : Nat
  kind : SedgeKind
  team : Nat
  fen : Nat
  group : Nat
  pos : Nat
  tile : Nat
  done : Bool
  pat : Bool
  z : Bool
  ty : Nat
  cty : Nat
  boff : Nat
  scfg : BitVec 21
  flag : Nat
  frag : SMap (BitVec 32)
  /-- of a gang operation, what its one read of B has read (R235) -/
  bread : Option (SMap (BitVec 8))
  deriving DecidableEq, Repr

/-- A team (R14, R312) with its groups and the state that its groups share. -/
structure Team where
  system : Bool
  pid : Nat
  queue : Nat
  seq : Nat
  grid : Nat
  linear : Nat
  fen : Nat
  np : Nat
  nc : Nat
  bp : Nat
  bc : Nat
  nspad : Nat
  nbar : Nat
  nstr : Nat
  nacc : Nat
  onf : Bool
  arg : BitVec 57
  rtab : BitVec 57
  coord : Nat × Nat × Nat
  dims : Nat × Nat × Nat
  core : Nat
  status : TeamStatus
  cause : OutCause
  since : Nat
  /-- FQIDX of R324 once its record is written, and the faulting group and entry -/
  fqidx : Option Nat
  faultAt : Nat × Nat
  faultDefer : Bool
  faultCause : Nat
  resumed : Bool
  /-- base unit and size of its save slot (R322) -/
  slot : Option (Nat × Nat)
  /-- groups flashed back: the recipe's keep masks and entry (R327) -/
  flashed : SMap (Nat × Nat × Nat)
  /-- words of its save slot as the part last wrote them: offset in 8-byte words, value (R322) -/
  image : List (Nat × Nat)
  byBlock : Bool
  /-- ended by a fault, or a deferred cause was carried out: counted in NEND (R317) -/
  counted : Bool
  killed : Bool
  spad : SMap (BitVec 8)
  bars : SMap Barrier
  streams : SMap Stream
  acc : SMap (BitVec 32)
  rdvs : List Rendezvous
  /-- Sedge records and their range-lock entries in the saved context (R243) -/
  sedge : List SedgeOp
  locks : List RangeLock
  groups : SMap Group
  deriving DecidableEq, Repr

/-- A cached translation (R150): the page's base and size, its physical base and the leaf's fields. -/
structure TlbEnt where
  fen : Nat
  va : Nat
  size : Nat
  pa : Nat
  leaf : Nat
  deriving DecidableEq, Repr

/-- An L1 sector (R27, R156, R334): fen, physical sector, its cipher text as a key and the bytes that this key gives, and
the moment of the fill. -/
structure L1Ent where
  fen : Nat
  sector : Nat
  key : BitVec 512
  bytes : List (BitVec 8)
  stamp : Nat
  deriving DecidableEq, Repr

/-- A fen slot of a core (R335). -/
structure FenSlot where
  fen : Nat
  rf : BitVec 16
  sp : BitVec 16
  l1 : BitVec 16
  bs : BitVec 16
  acc : BitVec 16
  deriving DecidableEq, Repr

/-- A core: user cores 0 to 191, system cores 192 + die (R17, R373). -/
structure Core where
  clock : Nat
  /-- the TLBs of its issue ports (R150) -/
  tlbs : SMap (List TlbEnt)
  l1 : List L1Ent
  /-- the model's own: the latest moment before which some group of the core may use no fill of its L1 (R160, R161) -/
  l1Floor : Nat
  splitMode : BitVec 2
  splitCur : BitVec 2
  locks : List RangeLock
  cso : List StoreEnt
  slots : SMap FenSlot
  world : Bool
  worldPend : Bool
  worldTarget : Bool
  sedge : List SedgeOp
  wfCount : Nat
  wfTime : Nat
  lent : Option Nat
  /-- reclaimed, and returned to its owner once its teams are saved (R330) -/
  returning : Bool
  retired : Bool
  stopped : Bool
  tvec : BitVec 57
  event : BitVec 5
  evmask : BitVec 64
  timecmp : BitVec 64
  xfen : BitVec 8
  coresel : BitVec 8
  mclog1 : BitVec 64
  deriving DecidableEq, Repr

/-- The owner tag of a 64-byte line and the key its cipher text was made with (R353, R356). -/
structure LineTag where
  own : Nat
  key : BitVec 512
  deriving DecidableEq, Repr

/-- What is wrong with a stored line (R355). -/
inductive LineBad where
  /-- the MAC or tree check fails -/
  | mac
  /-- errors detected and not corrected -/
  | ecc
  /-- an expander's read returns poison (R284) -/
  | poison
  deriving DecidableEq, Repr

/-- Lanes waiting at a monitor entry (R194). -/
structure Monitor where
  bank : Nat
  team : Nat
  group : Nat
  fen : Nat
  pa : Nat
  ty : Nat
  cc : Cc
  b : BitVec 64
  expiry : Option Nat
  pend : Nat
  pd : Nat
  lanes : BitVec 32
  deriving DecidableEq, Repr

/-- A region 0x1 line that a group wrote, or a copy of its team, and that has not reached its expander (R160). -/
structure Through where
  team : Nat
  /-- `none`: a copy, whose completion any group of the team can observe -/
  group : Option Nat
  line : Nat
  /-- the moment of the earliest access whose bytes are on their way (R298) -/
  at_ : Nat
  started : Bool
  deriving DecidableEq, Repr

/-- The memory side: bytes, line tags, home-bank stamps and tables. -/
structure Memory where
  /-- bytes as the owner of their line reads them; unlisted bytes are zero -/
  bytes : List Host.Cell
  tags : SMap LineTag
  bad : SMap LineBad
  /-- per line of region 0x1 the expander line that holds it since its last write, and per expander line the line written
  there last (R276, R353) -/
  tierAt : SMap Nat
  tierHas : SMap Nat
  retiredCh : SMap (BitVec 16)
  ls : SMap Stamp
  fs : SMap Stamp
  resv : SMap (List (Nat × Nat))
  monitors : List Monitor
  through : List Through
  /-- the model's own: bytes that the part itself wrote, whose monitors are looked at when the next step begins -/
  touched : List (Nat × Nat)
  deriving DecidableEq, Repr

/-- A bulk copy in flight (R257, R258). -/
structure CopyOp where
  id : Nat
  team : Nat
  group : Nat
  core : Nat
  engine : Nat
  fen : Nat
  rec_ : BitVec 512
  coord : List Int
  d : Nat
  toGlobal : Bool
  bar : Option Nat
  stream : Option (Nat × Nat)
  tok : Option Nat
  flag : Nat
  sty : Nat
  crm : Nat
  csat : Bool
  bytes : Nat
  /-- tag of the page request it waits for -/
  waits : Option Nat
  /-- a page whose request found no room and was counted (R292) -/
  asked : Option Nat
  /-- pages whose requests system software answered as failed (R258) -/
  failed : List Nat
  /-- the scratchpad as it stood when the team was swapped out, which the rest of the copy reads (R274) -/
  snap : Option (SMap (BitVec 8)) := none
  deriving DecidableEq, Repr

/-- A lane of a per-thread copy (R260): its offset, its pointer and the physical address of each byte. -/
structure CplLane where
  lane : Nat
  off : Nat
  va : Nat
  pas : List Nat
  deriving DecidableEq, Repr

/-- A per-thread copy in flight (R260). -/
structure CplOp where
  id : Nat
  team : Nat
  group : Nat
  core : Nat
  fen : Nat
  flag : Nat
  lanes : List CplLane
  deriving DecidableEq, Repr

/-- A page-request queue entry (R293). -/
structure PageReq where
  tag : Nat
  popped : Bool
  src : Nat
  acc : Nat
  last : Bool
  prgi : Nat
  fen : Nat
  va : Nat
  rid : Nat
  port : Nat
  pasid : Nat
  time : Nat
  deriving DecidableEq, Repr

/-- A port (R282) with its bridge windows (R393): base and limit. -/
structure Port where
  role : Nat
  /-- the role in force since the last TRAIN -/
  inForce : Nat
  maxrate : Nat
  ide : Bool
  deffen : Nat
  cfgerr : Bool
  rate : Nat
  width : Nat
  flit : Bool
  up : Bool
  windows : List (Nat × Nat)
  removed : Bool
  deriving DecidableEq, Repr

/-- A loaded queue handle (R295, R296) with its ready bits. -/
structure Handle where
  loaded : Bool
  err : Bool
  load : Nat
  fen : Nat
  cqv : Bool
  sqm1 : Nat
  cqm1 : Nat
  port : Nat
  rmap : Nat
  sqbase : Nat
  sqdb : Nat
  cqdb : Nat
  tail : Nat
  cqhead : Nat
  ndb : Nat
  rdySq : List Nat
  rdyCq : List Nat
  deriving DecidableEq, Repr

/-- An `iodb` mark accepted and not yet made (R298). -/
structure Mark where
  id : Nat
  team : Nat
  group : Nat
  handle : Nat
  load : Nat
  cq : Bool
  slots : List (Nat × Nat)
  flag : Nat
  core : Nat
  /-- the group's last acquire before the `iodb`: what its core's store order then held happens before it (R161, R298) -/
  joined : Nat
  /-- its place in the order in which conditions came to hold (R298), once its own holds -/
  due : Option Nat
  deriving DecidableEq, Repr

/-- A remap entry (R301). -/
structure Remap where
  v : Bool
  mode : Nat
  bar : Nat
  fen : Nat
  port : Nat
  seq : Nat
  team : Nat
  uid : Option Nat
  count : Nat
  drop : Nat
  deriving DecidableEq, Repr

/-- A configuration request in flight (R288). -/
structure CfgReq where
  team : Nat
  group : Nat
  pend : Option Nat
  addr : Nat
  write : Bool
  data : Nat
  dst : Nat
  since : Nat
  deriving DecidableEq, Repr

/-- An access that reached a device or a peer (R393, R299, R306), newest first. -/
structure DevAccess where
  pa : Nat
  write : Bool
  bytes : List (BitVec 8)
  deriving DecidableEq, Repr

/-- What Reed has answered on a port, newest first. Kinds: 0 memory completion, 1 translation completion, 2 page request
group response, 3 ATS Invalidate Request. Codes of kind 0 and 1: 0 success, 1 Unsupported Request, 2 Completer Abort. -/
structure Reply where
  port : Nat
  rid : Nat
  kind : Nat
  code : Nat
  data : Nat
  deriving DecidableEq, Repr

/-- Reed (chapter 09). -/
structure Reed where
  grp : SMap Nat
  ports : SMap Port
  atspend : Nat
  qhbase : Nat
  handles : SMap Handle
  marks : List Mark
  doorbells : List (Nat × Bool)
  tset : SMap (BitVec 128)
  remap : SMap Remap
  refused : SMap Nat
  prq : List PageReq
  ntbw : SMap (BitVec 256)
  ridt : SMap (BitVec 64)
  cfg : List CfgReq
  dropped : Nat
  unsupported : Nat
  aborted : Nat
  devices : List DevAccess
  responses : List Reply
  ats : List (Nat × Nat × Nat)
  deriving DecidableEq, Repr

/-- A parsed launch record (R312). -/
structure LRec where
  entry : Nat
  onf : Bool
  gx : Nat
  gy : Nat
  gz : Nat
  np : Nat
  nc : Nat
  bp : Nat
  bc : Nat
  spb : Nat
  nbar : Nat
  nstr : Nat
  nacc : Nat
  arg : Nat
  rtab : Nat
  dseq : Nat
  dq : Nat
  dv : Bool
  crec : Nat
  naddr : Nat
  nkind : Nat
  nbr : Nat
  rsv : Bool
  deriving DecidableEq, Repr

/-- An accepted grid (R314, R317). -/
structure Grid where
  id : Nat
  queue : Nat
  seq : Nat
  slot : Nat
  lrec : Nat
  origin : Nat
  rec_ : LRec
  enqTeam : Option Nat
  /-- its record is still being copied (R320) -/
  copying : Bool
  next : Nat
  /-- when it was accepted: since then each of its teams waits until it starts (R314) -/
  since : Nat
  conts : Nat
  live : Nat
  nend : Nat
  stop : Bool
  begun : Bool
  done : Bool
  rejected : Bool
  cause : Nat
  defer : Bool
  pc : Nat
  deriving DecidableEq, Repr

/-- A launch queue (R310). -/
structure LQueue where
  en : Bool
  ser : Bool
  prio : Nat
  fen : Nat
  log2 : Nat
  base : Nat
  head : Nat
  tail : Nat
  nseq : Nat
  deriving DecidableEq, Repr

/-- A bin of the reorder unit (R321). -/
structure Bin where
  grid : Nat
  tmpl : Nat
  key : Nat
  since : Nat
  items : List (BitVec 64)
  deriving DecidableEq, Repr

/-- A team that has waited unplaced for a time slice and fits no core, until it is placed (R315). -/
structure Holder where
  queue : Nat
  grid : Nat
  linear : Nat
  deriving DecidableEq, Repr

/-- The distributor's block of one partition (R308). -/
structure Part where
  gen : Nat
  size : Nat
  en : Bool
  pth : Nat
  tsl : Nat
  jbase : Nat
  jsize : Nat
  jwr : Nat
  fqbase : Nat
  fqsize : Nat
  fqwr : Nat
  fqrd : Nat
  svbase : Nat
  svunits : Nat
  ruwait : Nat
  hold : List Nat
  queues : SMap LQueue
  grids : List Grid
  fqwait : List (BitVec 256 × Nat)
  bins : List Bin
  lastQueue : SMap Nat
  lastCore : Nat
  /-- the team for which the placing from other queues has stopped (R315) -/
  holder : Option Holder
  deriving DecidableEq, Repr

/-- An enqueue whose record is still to be copied (R320). -/
structure EnqOp where
  id : Nat
  team : Nat
  group : Nat
  core : Nat
  pid : Nat
  grid : Nat
  va : Nat
  pa : Nat
  fen : Nat
  flag : Nat
  /-- NSEQ of every queue when it was accepted (R313) -/
  nseqs : List Nat
  deriving DecidableEq, Repr

/-- A fen (R339) with its key, measurement and ephemeral key. -/
structure Fen where
  v : Bool
  world : Bool
  pid : Nat
  mseq : Nat
  key : BitVec 512
  meas : List (BitVec 8)
  eph : Option (Nat × List (BitVec 8))
  /-- since when the fen holds no slot -/
  idle : Option Nat
  saved : Bool
  deriving DecidableEq, Repr

/-- A copy engine's assignment (R342). -/
structure Engine where
  pid : Nat
  v : Bool
  pend : Option (Nat × Bool)
  deriving DecidableEq, Repr

/-- A function of the upstream port (R369) and the position of its record streams (R370). -/
structure Func where
  fen : Nat
  mst : Nat
  saveSeq : Nat
  loadSeq : Nat
  savedEnd : Bool
  loadedEnd : Bool
  /-- its configuration-space state as the host left it (R383) -/
  config : List (BitVec 8)
  deriving DecidableEq, Repr

/-- A scrub entry (R357). -/
structure ScrubEnt where
  kind : Nat
  slot : Nat
  core : Nat
  fen : Nat
  units : Nat
  spec : BitVec 64
  acc : BitVec 16
  deriving DecidableEq, Repr

/-- A die's scrub engine (R357, R358). -/
structure Scrubber where
  entries : SMap ScrubEnt
  head : Nat
  tail : Nat
  done : Nat
  total : Nat
  resumed : Bool
  /-- the model's own: a warm reset has stopped the engine, which has not restarted (R361) -/
  paused : Bool
  deriving DecidableEq, Repr

/-- The fen guard (chapter 11). -/
structure Guard where
  lgen : Nat
  pstat : Nat
  gtbase : Nat
  gtsize : Nat
  gcache : SMap (BitVec 512)
  aoscr : SMap (BitVec 64)
  msbase : Nat
  fwmeas : List (BitVec 8)
  idKey : Nat
  idpub : Nat × Nat
  engines : SMap Engine
  fens : SMap Fen
  funcs : SMap Func
  scrubs : SMap Scrubber
  deriving DecidableEq, Repr

/-- A machine-check record (R376). -/
structure McRec where
  cause : Nat
  kind : Nat
  unit : Nat
  team : Bool
  time : Nat
  pa : Nat
  deriving DecidableEq, Repr

/-- Per die: repair registers and the machine-check log (R375, R376, R384, R385). -/
structure Die where
  spare : BitVec 8
  spareDone : Bool
  spareUsed : Bool
  spareErr : Bool
  /-- the model's own: the core whose substitution waits for the scrub of the spare (R384) -/
  sparePend : Option Nat
  chSlice : Nat
  chCh : Nat
  chDone : Bool
  corrMem : Nat
  corrArray : Nat
  degrades : Nat
  mclog : List McRec
  /-- STATE and ERR of SYS_HANDOVER of the die's system core (R375) -/
  hoState : Nat
  hoErr : Nat
  hot : Bool
  deriving DecidableEq, Repr

/-- A firmware image (R377, R387), in the fields that the spec names; the header's layout is not given. -/
structure Image where
  header : List (BitVec 8)
  pub : Nat × Nat
  sig : Nat × Nat
  loader : List (BitVec 8)
  body : List (BitVec 8)
  version : Nat
  security : Nat
  foff : BitVec 128
  /-- the kernel descriptor (R65) -/
  entry : BitVec 57
  np : Nat
  nc : Nat
  bp : Nat
  bc : Nat
  nspad : Nat
  nbar : Nat
  nstr : Nat
  nacc : Nat
  rtab : BitVec 57
  /-- where the loader places the firmware: physical address and byte -/
  cells : List Host.Cell
  ptbase : BitVec 64
  deriving DecidableEq, Repr

/-- System, power and boot registers of the package (chapter 12). -/
structure Sys where
  stage : Nat
  bootErr : Nat
  fwver : Nat
  fwsec : Nat
  foff : BitVec 128
  facc : BitVec 128
  latched : Bool
  featErr : Bool
  hdb : BitVec 97
  dies : SMap Die
  mode : Nat
  modeb : Nat
  split : Bool
  cur : Nat
  curb : Nat
  cap : Bool
  forced : Bool
  off : Bool
  gatePid : Nat
  gateDone : Bool
  gateErr : Bool
  gated : BitVec 48
  flash : Option Image
  /-- the measured module draw in watts, and since when it exceeds the limit or lies 5 % below it (R3, R389, R390) -/
  draw : Nat
  drawOver : Option Nat
  drawUnder : Option Nat
  deriving DecidableEq, Repr

/-- What the outside world does without an event row of its own (log entry 1). -/
inductive Input where
  /-- time passes -/
  | tick (ns : Nat)
  /-- a stored line fails its seal check, has uncorrectable errors, or is poisoned in its expander (R284, R355) -/
  | corrupt (line : Nat) (how : LineBad)
  /-- a corrected error is counted on a die (R37, R375) -/
  | corrected (die : Nat) (array : Bool)
  /-- the management controller writes the flash (R378) -/
  | flash (img : Option Image)
  /-- an L1 sector or a TLB entry is evicted; a home bank evicts a line's stamp -/
  | evictL1 (core idx : Nat)
  | evictTlb (core port idx : Nat)
  | evictSliceTlb (slice idx : Nat)
  | evictStamp (line : Nat)
  /-- a die rises above 95 °C, or falls below it; the module draw is measured in watts (R390, R391) -/
  | hot (die : Nat) (on : Bool)
  | draw (watts : Nat)
  /-- system software programs a port's bridge memory windows (R393) -/
  | windows (port : Nat) (ws : List (Nat × Nat))
  /-- the host configures a function of the upstream port (R383) -/
  | config (func : Nat) (bytes : List (BitVec 8))
  deriving DecidableEq, Repr

/-- Which agent moves next (log entry 1). -/
inductive Choice where
  /-- the entry of a group of a team issues its next word -/
  | word (team group entry : Nat)
  /-- several groups of a team issue in one cycle, each by its group and entry (R35, R71, log entry 144) -/
  | cycle (team : Nat) (words : List (Nat × Nat))
  /-- an event row of the opcode table -/
  | event (i : Instr)
  /-- an input -/
  | input (x : Input)
  deriving DecidableEq, Repr

/-- The whole machine. -/
structure State where
  /-- the model's own: the choices to come (log entry 1) -/
  agenda : List Choice
  /-- the model's own: team, group and entry whose word is executed (log entry 1) -/
  cur : Nat × Nat × Nat
  /-- the model's own: while several groups of a team act at one moment, the faults that they have raised so far (R35, log entry
  144); `none` between steps -/
  gather : Option (List Raised)
  /-- the model's own: free values used so far (log entry 7) -/
  nfree : Nat
  /-- the model's own: numbers given out (log entry 1) -/
  nextId : Nat
  /-- `%time` in nanoseconds (R96) -/
  now : Nat
  ptbase : BitVec 64
  scepoch : BitVec 64
  teams : SMap Team
  cores : SMap Core
  /-- the TLBs of the slices (R150) -/
  sliceTlbs : SMap (List TlbEnt)
  mem : Memory
  copies : List CopyOp
  cpls : List CplOp
  enqs : List EnqOp
  txops : List TxCommitOp
  reed : Reed
  parts : SMap Part
  guard : Guard
  sys : Sys
  deriving DecidableEq, Repr

/-- A group's registers at launch (R51, R66, R67): every register zero, MODE 0x42 and no entry. -/
def Group.blank : Group :=
  { entries := [], idle := [], frames := [], freed := [], s := [], v := [], p := [], cf := [], lc := [], exited := 0, fb := none
    fbRec := (0, 0), fp := 0, codebook := [], rng := [], hbc := 0, scfg := 0, gang := 0
    latch := { valid := false, a := 0, op := 0, ty := 0, pat := false, data := [] }, lph := [], tx := []
    txBuf := false, lastsc := { c := 0, core := 0 }, mstat0 := 0, mstat1 := 0, copies := 0, copyBytes := 0
    tokens := [], pend := [], sq := [], scq := [], deferred := [], block := none, gate := none, port := 0
    floor := 0, joined := 0, txeFlags := 0, lastTime := 0
    trap := { epc := 0, ecause := 0, eaddr := 0, emode := 0, scr := [], ecls := 0, lanes := 0 }
    arrivedGang := none }

/-- An empty team: what an unlisted team number reads as. -/
def Team.blank : Team :=
  { system := false, pid := 0, queue := 0, seq := 0, grid := 0, linear := 0, fen := 0, np := 0, nc := 0, bp := 0
    bc := 0, nspad := 0, nbar := 0, nstr := 0, nacc := 0, onf := false, arg := 0, rtab := 0, coord := (0, 0, 0)
    dims := (0, 0, 0), core := 0, status := .waiting, cause := .none, since := 0, fqidx := none, faultAt := (0, 0)
    faultDefer := false, faultCause := 0, resumed := false, slot := none, flashed := [], image := [], byBlock := false
    counted := false, killed := false, spad := [], bars := [], streams := [], acc := [], rdvs := [], sedge := []
    locks := [], groups := [] }

/-- A core after cold reset (R103, R154, R335, R337). -/
def Core.cold : Core :=
  { clock := 0, tlbs := [], l1 := [], l1Floor := 0, splitMode := 1, splitCur := 1, locks := [], cso := [], slots := []
    world := false, worldPend := false, worldTarget := false, sedge := [], wfCount := 0, wfTime := 0, lent := none
    returning := false, retired := false, stopped := false, tvec := 0, event := 0, evmask := 0, timecmp := BitVec.allOnes 64, xfen := 0
    coresel := 0, mclog1 := 0 }

/-- A barrier at launch (R263). -/
def Barrier.zero : Barrier := { members := 0, arr := 0, phase := 0, xexp := 0, xarr := 0 }

/-- A stream at launch (R268). -/
def Stream.zero : Stream :=
  { base := 0, nsm1 := 0, ssz := 0, freei := 0, np := 0, nc := 0, v := false, filled := 0, hand := 0, stall := 0, start := 0 }

/-- A lane with no transaction (R198). -/
def TxLane.none : TxLane :=
  { state := .none, cause := 0, detail := 0, conf := 0, esc := false, tried := false, stc := 0, stcore := 0, reads := [], writes := [] }

/-- The tag of an unlisted line: scrubbed (log entry 4). -/
def LineTag.scrubbed : LineTag := { own := 0xFF, key := 0 }

/-- A port after cold reset (R282). -/
def Port.cold : Port :=
  { role := 0, inForce := 0, maxrate := 6, ide := false, deffen := 0, cfgerr := false, rate := 0, width := 0, flit := false
    up := false, windows := []
    removed := false }

/-- A handle that was never loaded (R296). -/
def Handle.none : Handle :=
  { loaded := false, err := false, load := 0, fen := 0, cqv := false, sqm1 := 0, cqm1 := 0, port := 0, rmap := 0
    sqbase := 0, sqdb := 0, cqdb := 0, tail := 0, cqhead := 0, ndb := 0, rdySq := [], rdyCq := [] }

/-- A remap entry after cold reset (R301). -/
def Remap.cold : Remap :=
  { v := false, mode := 0, bar := 0, fen := 0, port := 0, seq := 0, team := 0, uid := none, count := 0, drop := 0 }

/-- A requester entry after cold reset: F0 to F3 are 0xFF (R289). -/
def ridtCold : BitVec 64 := 0x00FFFFFFFF000000

/-- A launch queue after cold reset (R310). -/
def LQueue.cold : LQueue :=
  { en := false, ser := false, prio := 0, fen := 0, log2 := 4, base := 0, head := 0, tail := 0, nseq := 0 }

/-- A distributor block after cold reset (R308, R309); size 0 names no partition. -/
def Part.cold : Part :=
  { gen := 0, size := 0, en := false, pth := 20, tsl := 1000, jbase := 0, jsize := 6, jwr := 0, fqbase := 0
    fqsize := 6, fqwr := 0, fqrd := 0, svbase := 0, svunits := 0, ruwait := 32, hold := [], queues := [], grids := []
    fqwait := [], bins := [], lastQueue := [], lastCore := 191, holder := none }

/-- A fen that does not exist (R339). -/
def Fen.cold : Fen :=
  { v := false, world := false, pid := 0, mseq := 0, key := 0, meas := List.replicate 48 0, eph := none, idle := none
    saved := false }

/-- A copy engine after cold reset (R342). -/
def Engine.cold : Engine := { pid := 0, v := false, pend := none }

/-- A function after cold reset (R369). -/
def Func.cold : Func :=
  { fen := 0xFF, mst := 0, saveSeq := 0, loadSeq := 0, savedEnd := false, loadedEnd := false, config := [] }

/-- A scrub engine after cold reset (R357, R358). -/
def Scrubber.cold : Scrubber := { entries := [], head := 0, tail := 0, done := 0, total := 0, resumed := false, paused := false }

/-- A die after cold reset (R375, R384, R385). -/
def Die.cold : Die :=
  { spare := 0, spareDone := false, spareUsed := false, spareErr := false, sparePend := none, chSlice := 0, chCh := 0, chDone := false
    corrMem := 0, corrArray := 0, degrades := 0, mclog := [], hoState := 0, hoErr := 0, hot := false }

/-- Memory after cold reset: every line scrubbed (log entry 4). -/
def Memory.cold : Memory :=
  { bytes := [], tags := [], bad := [], tierAt := [], tierHas := [], retiredCh := [], ls := [], fs := [], resv := [], monitors := [], through := [], touched := [] }

/-- Reed after cold reset. -/
def Reed.cold : Reed :=
  { grp := [], ports := [], atspend := 0, qhbase := 0, handles := [], marks := [], doorbells := [], tset := []
    remap := [], refused := [], prq := [], ntbw := [], ridt := [], cfg := [], dropped := 0, unsupported := 0
    aborted := 0, devices := [], responses := [], ats := [] }

/-- The fen guard after cold reset: only fen 0x00 exists (R339, R361). -/
def Guard.cold : Guard :=
  { lgen := 0, pstat := 0, gtbase := 0, gtsize := 0, gcache := [], aoscr := [], msbase := 0
    fwmeas := List.replicate 48 0, idKey := 0, idpub := (0, 0), engines := [], fens := [(0, { Fen.cold with v := true })]
    funcs := [], scrubs := [] }

/-- System registers after cold reset (R375, R388). -/
def Sys.cold : Sys :=
  { stage := 0, bootErr := 0, fwver := 0, fwsec := 0, foff := 0, facc := 0, latched := false
    featErr := false, hdb := 0, dies := [], mode := 1, modeb := 1, split := false, cur := 1, curb := 1, cap := false
    forced := false, off := false, gatePid := 0, gateDone := false, gateErr := false, gated := 0, flash := none
    draw := 0, drawOver := none, drawUnder := none }

/-- The machine right after cold reset, before its boot ROM has run: no team anywhere, only fen 0x00, every register at
its reset value. -/
def State.reset : State :=
  { agenda := [], cur := (0, 0, 0), gather := none, nfree := 0, nextId := 0, now := 0, ptbase := 0, scepoch := 0, teams := []
    cores := [], sliceTlbs := [], mem := Memory.cold, copies := [], cpls := [], enqs := [], txops := [], reed := Reed.cold, parts := []
    guard := Guard.cold, sys := Sys.cold }

end Sys2Proof.Machine
end

