-- ==== Sys2Proof/Machine/Mem.lean ====
section
/-!
DEFINITION. Physical memory: regions and home banks (R26, R145), the owner tag and the sector cipher (R350, R353, R356),
seal findings (R355), writes in coherence order (R157) and the monitors that watch them (R194).
-/
namespace Sys2Proof.Machine

/-- PA[51:48] (R26). -/
def regionOf (pa : Nat) : Nat := pa / 2 ^ 48 % 16

/-- Does the region hold sealed memory, 0x0 or 0x1 (R26)? -/
def isMemRegion (pa : Nat) : Bool := regionOf pa ≤ 1

/-- Is the region one of R26? -/
def regionExists (pa : Nat) : Bool := regionOf pa ≤ 3 || regionOf pa = 15

/-- The size of a channel group (R145). -/
def paLimit : Nat := 48000000000

/-- Does a region 0x0 address name memory (R145)? Addresses of other regions pass. -/
def paNames (pa : Nat) : Bool :=
  regionOf pa ≠ 0 || (bitsOf pa 42 6 = 0 && bitsOf pa 36 6 < 48 && bitsOf pa 0 36 < paLimit)

/-- The slice whose channel group, or whose home banks, hold an address (R145). -/
def sliceOf (pa : Nat) : Nat := if regionOf pa = 0 then bitsOf pa 36 6 else bitsOf pa 12 36 % 48

/-- The home bank of an address of region 0x0 or 0x1 (R145). -/
def homeBank (pa : Nat) : Nat := 8 * sliceOf pa + (bitsOf pa 7 3 ^^^ bitsOf pa 13 3)

/-- What is wrong with an access to a line (R276, R355, R356, R385). -/
inductive LineErr where
  | ecc | mac | refused | channel | abort
  deriving DecidableEq, Repr

/-- The cause code of a finding. -/
def LineErr.code : LineErr → Nat
  | .ecc => 0xF0
  | .mac => 0x47
  | .refused => 0xB5
  | .channel => 0xF3
  | .abort => 0x4A

/-- Is a cause code a machine check (R29)? -/
def isMc (cause : Nat) : Bool := 0xF0 ≤ cause

/-- A free value (log entry 7), and the state that counts it. -/
def State.free (s : State) : W64 × State := (Config.freeValue s.nfree, { s with nfree := s.nfree + 1 })

/-- `n` free numbers below `2^w`. -/
def State.frees (s : State) (w : Nat) : Nat → List Nat × State
  | 0 => ([], s)
  | n + 1 =>
    let (x, s1) := s.free
    let (xs, s2) := s1.frees w n
    (x.toNat % 2 ^ w :: xs, s2)

/-- A free number of 256 bits. -/
def State.freeNat (s : State) : Nat × State :=
  let (xs, s) := s.frees 64 4
  (xs.foldr (fun x n => x + 2 ^ 64 * n) 0, s)

/-- A fen's entry (R339). -/
def State.fen (s : State) (f : Nat) : Fen := s.guard.fens.get Fen.cold f

/-- A fen's key (R350). -/
def State.keyOf (s : State) (f : Nat) : BitVec 512 := (s.fen f).key

/-- Is the fen of the sealed world? -/
def State.sealedFen (s : State) (f : Nat) : Bool := (s.fen f).world

/-- The tag of a 64-byte line. -/
def State.tagOf (s : State) (line : Nat) : LineTag := s.mem.tags.get LineTag.scrubbed line

/-- Does an address lie in a retired channel (R385)? -/
def State.channelRetired (s : State) (pa : Nat) : Bool :=
  regionOf pa = 0 && (s.mem.retiredCh.get 0 (sliceOf pa)).getLsbD (bitsOf pa 12 4)

/-- The expander port and the device address of a region 0x1 address, when its set is mapped (R276). -/
def State.tierOf (s : State) (pa : Nat) : Option (Nat × Nat) :=
  let x := (s.reed.tset.get 0 (bitsOf pa 40 8)).toNat
  let u := bitsOf pa 12 28
  let span := 2 ^ bitsOf x 1 2
  if bitOf x 0 then some (bitsOf x (64 + 8 * (u % span)) 6, (bitsOf x 12 40 + u / span) * 4096 + pa % 4096) else none

/-- Does a region 0x1 access end as a device abort: an unmapped set, or an expander whose port is down (R276, R386)? -/
def State.tierAbort (s : State) (pa : Nat) : Bool :=
  regionOf pa = 1 && match s.tierOf pa with
    | some (p, _) => let x := s.reed.ports.get Port.cold p; !(x.up && !x.removed)
    | none => true

/-- The expander line that holds a line of region 0x1, by port and device address (R276). -/
def State.tierLine (s : State) (line : Nat) : Option Nat :=
  if regionOf (line * 64) = 1 then (s.tierOf (line * 64)).map fun x => x.1 * 2 ^ 64 + x.2 / 64 else none

/-- Is what an expander now gives for a line not what the line's last write sealed there? The MAC covers the line's physical
address and counter (R276, R353; log entry 112). -/
def State.tierMoved (s : State) (line : Nat) : Bool :=
  match s.tierLine line with
  | none => false
  | some x => match s.mem.tierAt.find line, s.mem.tierHas.find x with
    | none, none => false
    | some y, some l => y ≠ x || l ≠ line
    | _, _ => true

/-- Where the expanders hold lines once some lines have been written: each in the expander line that its set names (R276). -/
def State.tiersAfter (s : State) (lines : List Nat) : SMap Nat × SMap Nat :=
  lines.foldl (fun t line => match s.tierLine line with
    | none => t
    | some x => (t.1.ins line x, t.2.ins x line)) (s.mem.tierAt, s.mem.tierHas)

/-- Does an address lie in the area of saved measurements (R366)? -/
def State.measArea (s : State) (pa : Nat) : Bool := s.guard.msbase ≤ pa && pa < s.guard.msbase + 2 ^ 20

/-- What an access by a fen to a line meets: a set that is not mapped, a retired channel, the seal check, then the owner
check (R276, R284, R355, R356, R366, R385). -/
def State.lineErr (s : State) (f line : Nat) : Option LineErr :=
  if s.tierAbort (line * 64) then some .abort
  else if s.channelRetired (line * 64) then some .channel else
  match s.mem.bad.find line with
  | some .ecc => some .ecc
  | some .mac => some .mac
  | some .poison => some .abort
  | none =>
    let own := (s.tagOf line).own
    if s.tierMoved line then some .mac
    else if (own ≠ 0xFF ∧ own ≠ f ∧ own ≠ 0 ∧ s.sealedFen own) ∨ s.measArea (line * 64) then some .refused else none

/-- What a load delivers after a failure: a free value after a machine check, all ones after a device abort, else zero
(R171, R355). -/
def State.failValue (s : State) (cause : Nat) : Nat × State :=
  if isMc cause then s.freeNat else if cause = 0x4A then (2 ^ 256 - 1, s) else (0, s)

/-- What a load delivers for a finding. -/
def State.errValue (s : State) (e : LineErr) : Nat × State := s.failValue e.code

/-- What the line at a place of an access that starts at `pa` meets, with the address at which it is met. -/
def State.lineFound (s : State) (f pa i : Nat) : Option (LineErr × Nat) :=
  (s.lineErr f (pa / 64 + i)).map fun e => (e, if i = 0 then pa else (pa / 64 + i) * 64)

/-- The places of the lines of an access of `n` bytes. -/
def linesOf (pa n : Nat) : List Nat := List.range ((pa % 64 + n + 63) / 64)

/-- The first finding on the lines of an access of `n` bytes, with the address at which it is met. -/
def State.rangeErr (s : State) (f pa n : Nat) : Option (LineErr × Nat) := (linesOf pa n).findSome? (s.lineFound f pa)

/-- Every finding on the lines of an access, as cause code and address. -/
def State.rangeErrs (s : State) (f pa n : Nat) : List (Nat × Nat) :=
  ((linesOf pa n).filterMap (s.lineFound f pa)).map fun x => (x.1.code, x.2)

/-- The 32 bytes stored for a sector. -/
def Memory.rawSector (m : Memory) (sec : Nat) : List Byte := (List.range 32).map fun i => SMap.get 0 m.bytes (sec * 32 + i)

/-- A sector as a fen reads it (R350, R356): zero when scrubbed; otherwise its cipher text under the fen's key. -/
def State.readSector (s : State) (f sec : Nat) : List Byte :=
  let tag := s.tagOf (sec / 2)
  if tag.own = 0xFF then List.replicate 32 0
  else if tag.key = s.keyOf f then s.mem.rawSector sec
  else Crypto.recrypt tag.key (s.keyOf f) (sec * 32) (s.mem.rawSector sec)

/-- One byte as a fen reads it. -/
def State.readByte (s : State) (f pa : Nat) : Byte :=
  let tag := s.tagOf (pa / 64)
  if tag.own = 0xFF then 0
  else if tag.key = s.keyOf f then SMap.get 0 s.mem.bytes pa
  else (s.readSector f (pa / 32)).getD (pa % 32) 0

/-- Bytes as a fen reads them. -/
def State.readBytes (s : State) (f pa n : Nat) : List Byte := (List.range n).map fun i => s.readByte f (pa + i)

/-- A number of `n` bytes as a fen reads it (R5). -/
def State.readNat (s : State) (f pa n : Nat) : Nat := natLE (s.readBytes f pa n)

/-- The canonical form of memory: addresses and lines strictly rising, nothing listed that reads as unlisted. -/
def Memory.wf (m : Memory) : Bool := SMap.wf 0 m.bytes && SMap.wf LineTag.scrubbed m.tags

/-- Store bytes from an address on. -/
def putBytes : List Host.Cell → Nat → List Byte → List Host.Cell
  | m, _, [] => m
  | m, a, b :: bs => putBytes (SMap.put 0 m a b) (a + 1) bs

/-- Make a line the fen's own: its bytes as the fen reads them, its tag the fen's (R356). -/
def State.claimLine (s : State) (f line : Nat) : State :=
  let tag := s.tagOf line
  let k := s.keyOf f
  let tiers := s.tiersAfter [line]
  let bytes :=
    if tag.own ≠ 0xFF ∧ tag.key = k then s.mem.bytes
    else putBytes s.mem.bytes (line * 64) (s.readBytes f (line * 64) 64)
  let tags := SMap.put LineTag.scrubbed s.mem.tags line { own := f, key := k }
  { s with mem := { s.mem with bytes := bytes, tags := tags, tierAt := tiers.1, tierHas := tiers.2 } }

/-- Replace the bits of a byte that a mask selects. -/
def mergeByte (old x mask : Byte) : Byte := (old &&& ~~~mask) ||| (x &&& mask)

/-- One byte written by a fen: the line becomes the fen's (R356). -/
def State.writeByte (s : State) (f pa : Nat) (x mask : Byte) : State :=
  let s := s.claimLine f (pa / 64)
  let old := SMap.get (0 : Byte) s.mem.bytes pa
  { s with mem := { s.mem with bytes := SMap.put 0 s.mem.bytes pa (mergeByte old x mask) } }

/-- Bytes written by a fen, each under its bit mask. -/
def State.writeMasked : State → Nat → Nat → List (Byte × Byte) → State
  | s, _, _, [] => s
  | s, f, pa, (x, m) :: xs => (s.writeByte f pa x m).writeMasked f (pa + 1) xs

/-- Whole bytes with their masks. -/
def whole (bs : List Byte) : List (Byte × Byte) := bs.map fun b => (b, 0xFF)

/-- Bytes written by a fen. -/
def State.writeBytes (s : State) (f pa : Nat) (bs : List Byte) : State := s.writeMasked f pa (whole bs)

/-- The lines of a range scrubbed: their bytes zero and their owner 0xFF (R356, R359). -/
def State.scrubRange (s : State) (pa n : Nat) : State :=
  let tiers := s.tiersAfter ((List.range (if regionOf pa = 1 then n / 64 else 0)).map (pa / 64 + ·))
  { s with mem := { s.mem with
      tierAt := tiers.1, tierHas := tiers.2
      bytes := s.mem.bytes.filter fun c => c.1 < pa ∨ pa + n ≤ c.1
      tags := s.mem.tags.filter fun c => c.1 * 64 < pa ∨ pa + n ≤ c.1 * 64
      bad := s.mem.bad.filter fun c => c.1 * 64 < pa ∨ pa + n ≤ c.1 * 64 } }

end Sys2Proof.Machine
end

