-- ==== Sys2Proof/Machine/Translate.lean ====
section
/-!
DEFINITION. Translation (R144, R146 to R150) and instruction fetch (R394).
-/
namespace Sys2Proof.Machine

/-- Why a translation fails: a cause of R184, or a machine check for an uncorrectable table line (R355). -/
inductive WalkErr where
  | cause (n : Nat)
  | check (code pa : Nat)
  deriving DecidableEq, Repr

/-- The cause code of a failed walk. -/
def WalkErr.code : WalkErr → Nat
  | .cause n => n
  | .check code _ => code

/-- The failing physical address of a machine check. -/
def WalkErr.mcpa : WalkErr → Option Nat
  | .cause _ => none
  | .check _ pa => some pa

/-- Is a 64-bit address canonical (R144)? -/
def canonical (va : Nat) : Bool := bitsOf va 57 7 = (if bitOf va 56 then 127 else 0)

/-- One 8-byte entry of a table, read as memory of fen 0x00 (R146). -/
def State.tableEntry (s : State) (pa : Nat) : Except WalkErr Nat :=
  match s.lineErr 0 (pa / 64) with
  | some .ecc => .error (.check 0xF0 pa)
  | some .channel => .error (.check 0xF3 pa)
  | some .abort => .error (.cause 0x4A)
  | some .mac => .error (.cause 0x47)
  | some .refused => .error (.cause 0x48)
  | none => .ok (s.readNat 0 pa 8)

/-- A pointer to a table: PA[51:12], in region 0x0 (R146). -/
def tablePtr (e : Nat) : Except WalkErr Nat :=
  let t := bitsOf e 12 40 * 4096
  if regionOf t = 0 ∧ paNames t then .ok t else .error (.cause 0x48)

/-- Does a 64 KiB page's set of 16 entries agree (R148)? DESIGN CHOICE (log entry 147): SW, which the part ignores, is one of the other
fields that must not differ. -/
def State.pageSet (s : State) (table idx e : Nat) : Except WalkErr Bool :=
  (List.range 16).foldlM (fun ok k => do
    let x ← s.tableEntry (table + 8 * (idx / 16 * 16 + k))
    pure (ok && bitsOf x 12 4 = k && bitsOf x 0 12 = bitsOf e 0 12 && bitsOf x 16 48 = bitsOf e 16 48)) true

/-- A leaf at a level (R147, R148). -/
def State.walkLeaf (s : State) (fen va lvl table idx e : Nat) : Except WalkErr TlbEnt := do
  let c := bitOf e 5
  let fmt := bitsOf e 52 5
  if 3 ≤ lvl ∨ (c ∧ lvl ≠ 0) ∨ (0x13 ≤ fmt ∧ fmt ≤ 0x1E) ∨ 5 ≤ bitsOf e 57 3 then throw (.cause 0x48)
  if c then
    if !(← s.pageSet table idx e) then throw (.cause 0x48)
    pure { fen := fen, va := va / 65536 * 65536, size := 65536, pa := bitsOf e 16 36 * 65536, leaf := e }
  else
    let size := 2 ^ (12 + 9 * lvl)
    let pa := bitsOf e 12 40 * 4096
    if pa % size ≠ 0 then throw (.cause 0x48)
    pure { fen := fen, va := va / size * size, size := size, pa := pa, leaf := e }

/-- The walk from a table of a level downwards (R147, R148). -/
def State.walkFrom (s : State) (fen va : Nat) : Nat → Nat → Except WalkErr TlbEnt
  | lvl, table => do
    let idx := bitsOf va (12 + 9 * lvl) 9
    let e ← s.tableEntry (table + 8 * idx)
    if !bitOf e 0 then throw (.cause 0x40)
    if bitsOf e 60 4 ≠ 0 then throw (.cause 0x48)
    if bitOf e 1 then s.walkLeaf fen va lvl table idx e
    else if bitsOf e 2 6 ≠ 0 ∨ bitsOf e 52 8 ≠ 0 then throw (.cause 0x48)
    else match lvl with
      | 0 => throw (.cause 0x48)
      | l + 1 => s.walkFrom fen va l (← tablePtr e)

/-- The walk of a fen's tables (R146, R147); `va` has 57 bits. -/
def State.walk (s : State) (fen va : Nat) : Except WalkErr TlbEnt := do
  let root ← tablePtr s.ptbase.toNat
  let e ← s.tableEntry (root + 8 * (fen % 256))
  if !bitOf e 0 then throw (.cause 0x40)
  s.walkFrom fen va 4 (← tablePtr e)

/-- A core. -/
def State.core (s : State) (c : Nat) : Core := s.cores.get Core.cold c

/-- A core replaced. -/
def State.setCore (s : State) (c : Nat) (k : Core) : State := { s with cores := SMap.put Core.cold s.cores c k }

/-- A core changed. -/
def State.modCore (s : State) (c : Nat) (f : Core → Core) : State := s.setCore c (f (s.core c))

/-- The number of a system core, 192 + die (R373). -/
def sysCore (die : Nat) : Nat := 192 + die

/-- Is the core a system core? -/
def isSysCore (c : Nat) : Bool := 192 ≤ c

/-- The die of a core (R17, R373). -/
def dieOfCore (c : Nat) : Nat := if isSysCore c then c - 192 else c / 48

/-- The slice of a core: 0x3F for a system core (R17, R373). -/
def sliceOfCore (c : Nat) : Nat := if isSysCore c then 0x3F else c / 4

/-- The die of a slice (R17). -/
def dieOfSlice (x : Nat) : Nat := x / 12

/-- A translation that a TLB holds (R150). -/
def tlbFind (l : List TlbEnt) (fen va : Nat) : Option TlbEnt := l.find? fun e => e.fen = fen ∧ e.va ≤ va ∧ va < e.va + e.size

/-- A translation put into a TLB of `n` entries: the oldest of a full one leaves (R150, log entry 31). -/
def tlbPut (n : Nat) (e : TlbEnt) (l : List TlbEnt) : List TlbEnt :=
  (e :: l.filter fun x => x.fen ≠ e.fen ∨ x.va + x.size ≤ e.va ∨ e.va + e.size ≤ x.va).take n

/-- The TLB of an issue port, and that of a slice (R150). -/
def Core.tlb (k : Core) (port : Nat) : List TlbEnt := k.tlbs.get [] port
def State.sliceTlb (s : State) (slice : Nat) : List TlbEnt := s.sliceTlbs.get [] slice

/-- A translation that an issue port finds: in its own TLB, then in its slice's (R150). A system core is of no slice. -/
def State.tlbHit (s : State) (core port fen va : Nat) : Option TlbEnt :=
  (tlbFind ((s.core core).tlb port) fen va).orElse fun _ =>
    if isSysCore core then none else tlbFind (s.sliceTlb (sliceOfCore core)) fen va

/-- A translation enters the TLBs of a core's issue ports and of its slice (R150, log entry 31). -/
def State.fillTlb (s : State) (core : Nat) (e : TlbEnt) : State :=
  let put (n : Nat) (m : SMap (List TlbEnt)) (i : Nat) : SMap (List TlbEnt) := m.ins i (tlbPut n e (m.get [] i))
  let s := s.modCore core fun k => { k with tlbs := (List.range 4).foldl (put 64) k.tlbs }
  if isSysCore core then s else { s with sliceTlbs := put 8192 s.sliceTlbs (sliceOfCore core) }

/-- Every TLB without the entries that match (R182). -/
def State.dropTlb (s : State) (test : TlbEnt → Bool) : State :=
  let keep (m : SMap (List TlbEnt)) : SMap (List TlbEnt) :=
    m.filterMap fun x => match x.2.filter (fun e => !test e) with
      | [] => none
      | l => some (x.1, l)
  let s := s.cores.keys.foldl (fun s c => s.modCore c fun k => { k with tlbs := keep k.tlbs }) s
  { s with sliceTlbs := keep s.sliceTlbs }

/-- A translated address: physical address and leaf entry. -/
structure Xlate where
  pa : Nat
  size : Nat
  leaf : Nat
  deriving DecidableEq, Repr

/-- Permission bits and fields of a leaf (R148). -/
def Xlate.r (x : Xlate) : Bool := bitOf x.leaf 2
def Xlate.w (x : Xlate) : Bool := bitOf x.leaf 3
def Xlate.x (x : Xlate) : Bool := bitOf x.leaf 4
def Xlate.nc (x : Xlate) : Bool := bitOf x.leaf 6
def Xlate.da (x : Xlate) : Bool := bitOf x.leaf 7
def Xlate.fmt (x : Xlate) : Nat := bitsOf x.leaf 52 5
def Xlate.bg (x : Xlate) : Nat := bitsOf x.leaf 57 3

/-- The address that a page gives, which must name memory (R145) and lie in a region (R26). -/
def TlbEnt.apply (e : TlbEnt) (va : Nat) : Except WalkErr Xlate :=
  let pa := e.pa + (va - e.va)
  if !regionExists pa then .error (.cause 0x40)
  else if !paNames pa then .error (.cause 0x48)
  else .ok { pa := pa, size := e.size, leaf := e.leaf }

/-- Translation by the walk alone. -/
def State.walkXlate (s : State) (fen va : Nat) : Except WalkErr Xlate := do (← s.walk fen va).apply va

/-- Translation at an issue port of a core, through a TLB or by a walk (R150). -/
def State.xlate (s : State) (core port fen va : Nat) : Except WalkErr Xlate :=
  let va := va % 2 ^ 57
  match s.tlbHit core port fen va with
  | some e => e.apply va
  | none => s.walkXlate fen va

/-- Instruction fetch (R394): the word, or the cause that stops it; 0x02 for a misaligned address (R47). DESIGN CHOICE (log
entry 123): an expander's abort of a fetch from region 0x1 is the precise cause 0x4A. -/
def State.fetchWord (s : State) (core port fen pc : Nat) : Except Nat Nat := do
  let x ← (s.xlate core port fen pc).mapError WalkErr.code
  if !x.x || !isMemRegion x.pa then throw 0x41
  match s.lineErr fen (x.pa / 64) with
  | some e => throw e.code
  | none =>
    if pc % 4 ≠ 0 then throw 0x02
    pure (s.readNat fen x.pa 4)

end Sys2Proof.Machine
end

