-- ==== Sys2Proof/Machine/Regs.lean ====
section
/-!
DEFINITION. Access to teams, groups and registers: one operation for each kind of register (R15, R40, R66), the mode
register's fields (R51) and the active lanes (R9, R203).
-/
namespace Sys2Proof.Machine

/-- A team. -/
def State.team (s : State) (ti : Nat) : Team := s.teams.get Team.blank ti

/-- A team replaced. -/
def State.setTeam (s : State) (ti : Nat) (t : Team) : State := { s with teams := s.teams.ins ti t }

/-- A team changed. -/
def State.modTeam (s : State) (ti : Nat) (f : Team → Team) : State := s.setTeam ti (f (s.team ti))

/-- A group of a team. -/
def Team.group (t : Team) (gi : Nat) : Group := t.groups.get Group.blank gi

/-- A group replaced. -/
def Team.setGroup (t : Team) (gi : Nat) (g : Group) : Team := { t with groups := t.groups.ins gi g }

/-- A group of the machine. -/
def State.group (s : State) (ti gi : Nat) : Group := (s.team ti).group gi

/-- A group replaced. -/
def State.setGroup (s : State) (ti gi : Nat) (g : Group) : State := s.setTeam ti ((s.team ti).setGroup gi g)

/-- A group changed. -/
def State.modGroup (s : State) (ti gi : Nat) (f : Group → Group) : State := s.setGroup ti gi (f (s.group ti gi))

/-- A group changed if its team still exists: an operation may end after its team was ended. -/
def State.modGroup? (s : State) (ti gi : Nat) (f : Group → Group) : State :=
  match s.teams.find ti with
  | some _ => s.modGroup ti gi f
  | none => s

/-- A uniform register: `s63` reads zero (R40). -/
def Group.readS (g : Group) (n : Nat) : W64 := if n = 63 then 0 else g.s.get 0 n

/-- A write of a uniform register: `s63` discards it (R40). -/
def Group.writeS (g : Group) (n : Nat) (x : W64) : Group := if n = 63 then g else { g with s := SMap.put 0 g.s n x }

/-- The key of a lane register. -/
def vkey (l n : Nat) : Nat := 128 * l + n

/-- A lane register: `vz` reads zero (R40); inside a gate `v16` upwards name the gate rows (R347). -/
def Group.readV (g : Group) (l n : Nat) : W32 :=
  if n = 127 then 0
  else match g.gate with
    | some k => if 16 ≤ n then k.rows.get 0 (vkey l n) else g.v.get 0 (vkey l n)
    | none => g.v.get 0 (vkey l n)

/-- A write of a lane register: `vz` discards it (R40). -/
def Group.writeV (g : Group) (l n : Nat) (x : W32) : Group :=
  if n = 127 then g
  else match g.gate with
    | some k =>
      if 16 ≤ n then { g with gate := some { k with rows := SMap.put 0 k.rows (vkey l n) x } }
      else { g with v := SMap.put 0 g.v (vkey l n) x }
    | none => { g with v := SMap.put 0 g.v (vkey l n) x }

/-- The second register of a pair, `vz` pairing with itself (R40). -/
def pairHi (n : Nat) : Nat := if n = 127 then 127 else n + 1

/-- A register pair, low word in the even register (R40). -/
def Group.readV2 (g : Group) (l n : Nat) : W64 := g.readV l (pairHi n) ++ g.readV l n

/-- A write of a register pair (R40). -/
def Group.writeV2 (g : Group) (l n : Nat) (x : W64) : Group :=
  (g.writeV l n (x.setWidth 32)).writeV l (pairHi n) ((x >>> 32).setWidth 32)

/-- All lanes of a predicate: `p7` reads one (R40). -/
def Group.pmask (g : Group) (k : Nat) : W32 := if k = 7 then BitVec.allOnes 32 else g.p.get 0 k

/-- A predicate of a lane. -/
def Group.readP (g : Group) (l k : Nat) : Bool := (g.pmask k).getLsbD l

/-- The bits of `x` written to the selected lanes of a predicate: `p7` discards them (R40). -/
def Group.writePs (g : Group) (k : Nat) (sel x : W32) : Group :=
  if k = 7 then g else { g with p := SMap.put 0 g.p k ((g.pmask k &&& ~~~sel) ||| (x &&& sel)) }

/-- A write of one lane's predicate. -/
def Group.writeP (g : Group) (l k : Nat) (b : Bool) : Group :=
  g.writePs k (1#32 <<< l) (if b then BitVec.allOnes 32 else 0)

/-- A loop counter. -/
def Group.readLC (g : Group) (k : Nat) : W32 := g.lc.get 0 k

/-- A write of a loop counter. -/
def Group.writeLC (g : Group) (k : Nat) (x : W32) : Group := { g with lc := SMap.put 0 g.lc k x }

/-- A clause flag (R48). -/
def Group.flag (g : Group) (k : Nat) : Nat := g.cf.get 0 k

/-- A clause flag counts one operation more (R48). -/
def Group.flagUp (g : Group) (k : Nat) : Group := { g with cf := SMap.put 0 g.cf k (g.flag k + 1) }

/-- A clause flag counts one operation less (R48). -/
def Group.flagDown (g : Group) (k : Nat) : Group := { g with cf := SMap.put 0 g.cf k (g.flag k - 1) }

/-- Are all flags of a mask zero? -/
def Group.flagsZero (g : Group) (mask : Nat) : Bool := (List.range 12).all fun k => !bitOf mask k || g.flag k = 0

/-- A lane's transaction (R198). -/
def Group.txLane (g : Group) (l : Nat) : TxLane := g.tx.get TxLane.none l

/-- A lane's transaction replaced. -/
def Group.setTx (g : Group) (l : Nat) (x : TxLane) : Group := { g with tx := SMap.put TxLane.none g.tx l x }

/-- The lanes with an open transaction. -/
def Group.txOpen (g : Group) : W32 := maskOf ((g.tx.filter fun e => e.2.state = .opened).map (·.1))

/-- The lanes with an aborted transaction. -/
def Group.txAborted (g : Group) : W32 := maskOf ((g.tx.filter fun e => e.2.state = .aborted).map (·.1))

/-- The fields of the mode register (R51). -/
def modeTY (m : BitVec 23) : Nat := (m.extractLsb' 0 5).toNat
def modeCTY (m : BitVec 23) : Nat := (m.extractLsb' 5 5).toNat
def modeRM (m : BitVec 23) : Nat := (m.extractLsb' 10 3).toNat
def modeSAT (m : BitVec 23) : Bool := m.getLsbD 13
def modeFTZ (m : BitVec 23) : Bool := m.getLsbD 14
def modeGP (m : BitVec 23) : Nat := (m.extractLsb' 15 3).toNat
def modeGN (m : BitVec 23) : Bool := m.getLsbD 18
def modeGE (m : BitVec 23) : Bool := m.getLsbD 19
def modeFX (m : BitVec 23) : Bool := m.getLsbD 20

/-- The mode at launch and at entry to a handler or gate (R51, R105, R346). -/
def mode0 : BitVec 23 := 0x42

/-- The frame number that names none (R67). -/
def noFrame : BitVec 5 := 0x1F

/-- Lanes of a mask that pass the guard of a mode (R9): TxActive of R203. -/
def Group.guarded (g : Group) (mode : BitVec 23) (mask : W32) : W32 :=
  if modeGE mode then mask &&& (g.pmask (modeGP mode) ^^^ (if modeGN mode then BitVec.allOnes 32 else 0)) else mask

/-- Active() of R9, without the lanes whose transaction has aborted (R203). -/
def Group.active (g : Group) (mode : BitVec 23) (mask : W32) : W32 := g.guarded mode mask &&& ~~~ g.txAborted

/-- `%time` as a core reads it: at most 2 ahead of the package time, by a constant of the core (R96, log entry 8). -/
def State.timeOn (s : State) (core : Nat) : Nat := s.now + Config.timeSkew core % 3

/-- The issuing team, group and entry of a word. -/
structure Ctx where
  ti : Nat
  gi : Nat
  ei : Nat
  team : Team
  grp : Group
  ent : Splinter
  deriving DecidableEq, Repr

/-- The issuer that `cur` names, when its entry holds lanes. -/
def State.ctx (s : State) : Option Ctx :=
  let (ti, gi, ei) := s.cur
  match s.teams.find ti with
  | none => none
  | some t =>
    match t.groups.find gi with
    | none => none
    | some g =>
      match g.entries.find ei with
      | none => none
      | some e => some { ti := ti, gi := gi, ei := ei, team := t, grp := g, ent := e }

/-- The FENID borne (R333): the target fen inside a gate. -/
def fenBorne (t : Team) (g : Group) : Nat :=
  match g.gate with
  | some k => k.tfen
  | none => t.fen

/-- The FENID that the issuing group bears. -/
def Ctx.fen (c : Ctx) : Nat := fenBorne c.team c.grp

/-- The issuing splinter's lanes and mode. -/
def Ctx.mask (c : Ctx) : W32 := c.ent.mask
def Ctx.mode (c : Ctx) : BitVec 23 := c.ent.mode
def Ctx.ty (c : Ctx) : Nat := modeTY c.ent.mode

/-- The issuing splinter's active lanes. -/
def Ctx.active (c : Ctx) : W32 := c.grp.active c.ent.mode c.ent.mask

/-- The active lanes, ascending. -/
def Ctx.lanes (c : Ctx) : List Nat := lanesOf c.active

/-- The register budget of a group (R15, R347). -/
def budget (t : Team) (g : Group) (gi : Nat) : Nat :=
  match g.gate with
  | some k => 16 + 8 * k.grows
  | none => if gi < t.np then t.bp else t.bc

/-- The issuing group's register budget. -/
def Ctx.budget (c : Ctx) : Nat := Machine.budget c.team c.grp c.gi

/-- The role of a group: 0 producer, 1 consumer (R14). -/
def roleOf (t : Team) (gi : Nat) : Nat := if gi < t.np then 0 else 1

end Sys2Proof.Machine
end

