-- ==== Sys2Proof/Machine/Control.lean ====
section
/-!
DEFINITION. Splinter entries, reconvergence frames and hardware loops (R67, R68, R75 to R86) as operations on a group.
-/
namespace Sys2Proof.Machine

/-- An address as a PC. -/
def pcOf (n : Nat) : BitVec 57 := BitVec.ofNat 57 n

/-- A target: a signed word offset from an address (R43). -/
def targetOf (pc : BitVec 57) (o : BitVec 17) : BitVec 57 := pc + 4 * o.signExtend 57

/-- An entry after its word, when control goes on in sequence (R47). DESIGN CHOICE (log entry 135): outside a clause, where they are
not valid, CSETA, CSETB and CLEFT are zero (R67). -/
def Splinter.next (e : Splinter) : Splinter :=
  if e.cleft = 0 then { e with pc := e.pc + 4, mid := false, cseta := 0, csetb := 0 }
  else { e with pc := e.pc + 4, cleft := e.cleft - 1 }

/-- An entry moved to a target, at which a header is expected (R47). DESIGN CHOICE (log entry 135): CSETA, CSETB and CLEFT are
zero there (R67). -/
def Splinter.jump (e : Splinter) (pc : BitVec 57) : Splinter :=
  { e with pc := pc, mid := false, cseta := 0, csetb := 0, cleft := 0 }

/-- The header that follows the clause of the word at the entry's PC. -/
def Splinter.afterClause (e : Splinter) : BitVec 57 := e.pc + 4 + 4 * e.cleft.setWidth 57

/-- Where lanes of a frame arrive: the reconvergence point, or the loop end (R77, R85). -/
def Frame.point (f : Frame) : BitVec 57 :=
  match f.kind with
  | .loop => f.rpc + 4 * f.len.setWidth 57
  | _ => f.rpc

/-- The frames of a chain, innermost first, with their slots (R68). -/
def chainFrom (fs : SMap Frame) : Nat → BitVec 5 → List (Nat × Frame)
  | 0, _ => []
  | n + 1, k =>
    if k = noFrame then []
    else match fs.find k.toNat with
      | none => []
      | some f => (k.toNat, f) :: chainFrom fs n f.parent

/-- The chain of an entry (R68). -/
def Group.chain (g : Group) (e : Splinter) : List (Nat × Frame) := chainFrom g.frames 17 e.frame

/-- The innermost LOOP frame of an entry's chain. -/
def Group.loopOf (g : Group) (e : Splinter) : Option (Nat × Frame) := (g.chain e).find? fun x => x.2.kind = .loop

/-- A free entry that nothing has used, in a group whose team has not been launched. -/
def Splinter.blank : Splinter :=
  { pc := 0, mid := false, cseta := 0, csetb := 0, cleft := 0, frame := noFrame, mode := mode0, mask := 0 }

/-- The free splinter entry that is taken (R67): DESIGN CHOICE (log entry 114), the lowest numbered one. -/
def Group.freeEntry (g : Group) : Option Nat := g.entries.freeBelow 8

/-- The free frame slot that is taken (R68, R75, R82): DESIGN CHOICE (log entry 114), the lowest numbered one. -/
def Group.freeFrame (g : Group) : Option Nat := g.frames.freeBelow 16

/-- Does a DEFER frame exist? -/
def Group.hasDefer (g : Group) : Bool := g.frames.any fun x => x.2.kind = .defer

/-- An entry replaced; a free one is taken. -/
def Group.setEntry (g : Group) (i : Nat) (e : Splinter) : Group :=
  { g with entries := g.entries.ins i e, idle := g.idle.del i }

/-- An entry freed: only its MASK changes (R67, R77). -/
def Group.freeUp (g : Group) (i : Nat) : Group :=
  match g.entries.find i with
  | some e => { g with entries := g.entries.del i, idle := g.idle.ins i { e with mask := 0 } }
  | none => g

/-- A free frame slot that nothing has used (R68). -/
def Frame.blank : Frame :=
  { rpc := 0, kind := .recon, parent := noFrame, mask := 0, arrived := 0, broke := 0, amode := 0, len := 0, lc := 0, bmode := 0
    dmid := false, dseta := 0, dsetb := 0, dleft := 0 }

/-- A frame replaced; a free slot is taken. -/
def Group.setFrame (g : Group) (i : Nat) (f : Frame) : Group :=
  { g with frames := g.frames.ins i f, freed := g.freed.del i }

/-- A frame slot freed: only its MASK changes (R68). -/
def Group.closeFrame (g : Group) (i : Nat) : Group :=
  match g.frames.find i with
  | some f => { g with frames := g.frames.del i, freed := g.freed.ins i { f with mask := 0 } }
  | none => g

/-- Every frame slot freed. -/
def Group.closeFrames (g : Group) : Group := g.frames.keys.foldl Group.closeFrame g

/-- A splinter arrives at its innermost frame (R77, R85). -/
def Group.arrive (g : Group) (ei : Nat) (e : Splinter) (fi : Nat) (f : Frame) : Group :=
  { g.freeUp ei with
    frames := g.frames.ins fi { f with
      arrived := f.arrived ||| e.mask
      amode := if lowLane e.mask < lowLane f.arrived then e.mode else f.amode } }

/-- Does an entry stand at the point of its own innermost frame (R77)? -/
def Group.arriving (g : Group) (e : Splinter) : Option (Nat × Frame) :=
  if e.mid then none
  else match (g.chain e).head? with
    | some (fi, f) => if e.pc = f.point then some (fi, f) else none
    | none => none

/-- Is a frame complete, or its loop's iteration at an end (R77, R85)? -/
def Frame.complete (f : Frame) : Bool :=
  match f.kind with
  | .recon => f.arrived = f.mask
  | .loop => (f.arrived ||| f.broke) = f.mask
  | .defer => false

/-- A new splinter, at a header. -/
def newSplinter (pc : BitVec 57) (frame : BitVec 5) (mode : BitVec 23) (mask : W32) : Splinter :=
  { pc := pc, mid := false, cseta := 0, csetb := 0, cleft := 0, frame := frame, mode := mode, mask := mask }

/-- The completion of a RECON frame, or the end of a loop's iteration, into a free entry (R77, R85). -/
def Group.complete (g : Group) (ei fi : Nat) (f : Frame) : Group :=
  match f.kind with
  | .loop =>
    let lc := g.readLC f.lc.toNat - 1
    let g := g.writeLC f.lc.toNat lc
    if lc ≠ 0 ∧ f.arrived ≠ 0 then
      (g.setEntry ei (newSplinter f.rpc (BitVec.ofNat 5 fi) f.amode f.arrived)).setFrame fi { f with arrived := 0 }
    else
      let mode := if f.arrived.getLsbD (lowLane f.mask) then f.amode else f.bmode
      (g.setEntry ei (newSplinter f.point f.parent mode f.mask)).closeFrame fi
  | _ => (g.setEntry ei (newSplinter f.rpc f.parent f.amode f.mask)).closeFrame fi

/-- The lanes of a DEFER frame released into a free entry (R82). -/
def Group.release (g : Group) (ei fi : Nat) (f : Frame) : Group :=
  (g.setEntry ei { pc := f.rpc, mid := f.dmid, cseta := f.dseta, csetb := f.dsetb, cleft := f.dleft
                   frame := f.parent, mode := f.amode, mask := f.mask }).closeFrame fi

/-- One consequence of a move: an arrival, an empty frame, a completion, or a release, in this order (R77, R78, R82,
R85). DESIGN CHOICE (log entry 99): a splinter that a completion or a loop's end forms at its new innermost frame's point
arrives there at once. -/
def Group.settle1 (g : Group) : Option Group :=
  match g.entries.findSome? (fun x => (g.arriving x.2).map fun y => (x.1, x.2, y.1, y.2)) with
  | some (ei, e, fi, f) => some (g.arrive ei e fi f)
  | none =>
    match g.frames.find? (fun x => x.2.mask = 0) with
    | some (fi, _) => some (g.closeFrame fi)
    | none =>
      match g.freeEntry with
      | none => none
      | some ei =>
        match g.frames.find? (fun x => x.2.complete) with
        | some (fi, f) => some (g.complete ei fi f)
        | none => (g.frames.find? (fun x => x.2.kind = .defer)).map fun x => g.release ei x.1 x.2

/-- Every consequence of a move of lanes. At most 8 entries and 16 frames can arrive, complete or be released. -/
def Group.settle (g : Group) : Group := iterOpt Group.settle1 64 g

/-- The issuing entry after its word in sequence, with what follows (R47, R77, R85). -/
def Group.advance (g : Group) (ei : Nat) (e : Splinter) : Group := (g.setEntry ei e.next).settle

/-- The issuing entry at a target, with what follows. -/
def Group.jumpTo (g : Group) (ei : Nat) (e : Splinter) (pc : BitVec 57) : Group := (g.setEntry ei (e.jump pc)).settle

/-- Lanes taken out of the frames of a chain that satisfy a test (R78, R84). -/
def Group.dropLanes (g : Group) (chain : List (Nat × Frame)) (m : W32) : Group :=
  { g with frames := chain.foldl (fun fs x => fs.ins x.1 { x.2 with
      mask := x.2.mask &&& ~~~m, arrived := x.2.arrived &&& ~~~m, broke := x.2.broke &&& ~~~m }) g.frames }

/-- `Split` with a free entry, or the DEFER frame of R82; `none` when neither is free (R81, R82). -/
def Group.split (g : Group) (ei : Nat) (e : Splinter) (taken : W32) (target : BitVec 57) : Option Group :=
  let rest := { e.next with mask := e.mask &&& ~~~taken }
  match g.freeEntry with
  | some ni => some ((g.setEntry ni { e.jump target with mask := taken }).setEntry ei rest).settle
  | none =>
    match g.freeFrame with
    | none => none
    | some fi =>
      some ((g.setEntry ei { e.jump target with mask := taken }).setFrame fi
        { rpc := rest.pc, kind := .defer, parent := e.frame, mask := rest.mask, arrived := 0, broke := 0
          amode := e.mode, len := 0, lc := 0, bmode := 0, dmid := rest.mid, dseta := rest.cseta
          dsetb := rest.csetb, dleft := rest.cleft }).settle

/-- Is an address inside a loop's body (R86)? -/
def Frame.holds (f : Frame) (pc : BitVec 57) : Bool := f.rpc.toNat ≤ pc.toNat && pc.toNat < f.point.toNat

/-- LoopBodyCheck: does a transfer from `pc` to `target` leave the innermost loop's body (R86)? -/
def Group.leavesLoop (g : Group) (e : Splinter) (target : BitVec 57) : Bool :=
  match g.loopOf e with
  | some (_, f) => f.holds e.pc && !f.holds target
  | none => false

/-- Is the group unsplit with no frame open (R99, R346, R348)? -/
def Group.unsplit (g : Group) : Bool := g.entries.length = 1 && g.frames.isEmpty

/-- Have all lanes exited (R78)? -/
def Group.ended (g : Group) : Bool := g.exited = BitVec.allOnes 32

end Sys2Proof.Machine
end

