-- ==== Sys2Proof/Machine/Post.lean ====
section
/-!
DEFINITION. What the part reports to system software: fault records (R32, R309), events (R106), the machine-check log
(R376) and page requests that the part itself posts (R292).
-/
namespace Sys2Proof.Machine

/-- A partition's distributor block. -/
def State.part (s : State) (p : Nat) : Part := s.parts.get Part.cold p

/-- A partition's block replaced. -/
def State.setPart (s : State) (p : Nat) (x : Part) : State := { s with parts := SMap.put Part.cold s.parts p x }

/-- A partition's block changed. -/
def State.modPart (s : State) (p : Nat) (f : Part → Part) : State := s.setPart p (f (s.part p))

/-- A die's registers. -/
def State.die (s : State) (d : Nat) : Die := s.sys.dies.get Die.cold d

/-- A die's registers changed. -/
def State.modDie (s : State) (d : Nat) (f : Die → Die) : State :=
  { s with sys := { s.sys with dies := SMap.put Die.cold s.sys.dies d (f (s.die d)) } }

/-- The module limit of a mode, in watts (R3). -/
def modeLimit (mode : Nat) : Nat := if mode = 0 then 3200 else if mode = 2 then 4600 else 4000

/-- The module limit in force: the mean of the two die pairs' limits (R389). -/
def Sys.limit (y : Sys) : Nat := (modeLimit y.cur + modeLimit y.curb) / 2

/-- The draw held to the limit: since when it exceeds it, and since when it lies 5 % below it (R390). -/
def Sys.measure (y : Sys) (now : Nat) : Sys :=
  { y with
    drawOver := if y.limit < y.draw then some (y.drawOver.getD now) else none
    drawUnder := if 100 * y.draw ≤ 95 * y.limit then some (y.drawUnder.getD now) else none }

/-- An event bit set on the system core of a die (R106). -/
def State.setEvent (s : State) (d b : Nat) : State :=
  s.modCore (sysCore d) fun k => { k with event := k.event ||| (1#5 <<< b) }

/-- An event bit set on the system cores of some dies. -/
def State.setEvents (s : State) (ds : List Nat) (b : Nat) : State := ds.foldl (fun s d => s.setEvent d b) s

/-- The dies of a partition (R17). -/
def State.diesOf (s : State) (p : Nat) : List Nat :=
  (List.range 4).filter fun d => p / 12 ≤ d && d ≤ (p + (s.part p).size - 1) / 12

/-- The bits of SYS_EVENT (R106). -/
def evTimer : Nat := 0
def evFaultq : Nat := 1
def evPrq : Nat := 2
def evMchk : Nat := 3
def evIrq : Nat := 4

/-- A machine-check record added to a die's log; a full log discards its oldest record (R376). -/
def State.pushMc (s : State) (d : Nat) (r : McRec) : State :=
  s.modDie d fun x => { x with mclog := (x.mclog ++ [r]).drop (x.mclog.length + 1 - 64) }

/-- A machine check logged on a die and delivered to its system core (R37, R376). -/
def State.logMc (s : State) (d : Nat) (r : McRec) : State := (s.pushMc d r).setEvent d evMchk

/-- The die whose memory holds an address (R17, R145). -/
def dieOfPa (pa : Nat) : Nat := dieOfSlice (sliceOf pa)

/-- An uncorrectable memory error is logged where the failing resource lies (R37, R355, R376). -/
def State.logMem (s : State) (cause pa : Nat) (team : Bool) : State :=
  s.logMc (dieOfPa pa) { cause := cause, kind := 0, unit := sliceOf pa, team := team, time := s.now, pa := pa }

/-- What an access without a fault of its own met: a machine check is logged (R37, R385), another cause leaves no trace. -/
def State.logFound (s : State) (cause : Nat) (pa : Option Nat) : State :=
  match pa with
  | some pa => if isMc cause then s.logMem cause pa false else s
  | none => s

/-- Machine checks of an operation that are logged beside those that it delivers, `kept`: one for each code and line (R37, R385;
DESIGN CHOICE, log entry 153). Each is given as its code and its physical address. -/
def State.logBeside (s : State) (kept fs : List (Nat × Nat)) : State :=
  let others := (fs.filter fun f => isMc f.1).foldl (fun a f =>
    if (kept ++ a).any fun g => g.1 = f.1 && g.2 / 64 = f.2 / 64 then a else a ++ [f]) []
  others.foldl (fun s f => s.logMem f.1 f.2 false) s

/-- Bytes that the part itself wrote: their monitors are looked at when the next step begins (R194). -/
def State.touch (s : State) (pa n : Nat) : State :=
  { s with mem := { s.mem with touched := s.mem.touched ++ [(pa, n)] } }

/-- Bytes that the part writes for itself as memory of a fen. Where its lines have a finding, another sealed fen's owner tag
and the area of saved measurements among them, nothing is written, and a machine check is logged (R37, R276, R308, R343, R356,
R366, R385, log entry 109). -/
def State.ownWrite (s : State) (fen pa : Nat) (bs : List Byte) : State :=
  match s.rangeErr fen pa bs.length with
  | some (e, at_) => s.logFound e.code (some at_)
  | none => (s.writeBytes fen pa bs).touch pa bs.length

/-- The machine check that a fault delivers, as its code and physical address. -/
def Flt.check (f : Flt) : List (Nat × Nat) := (f.mcpa.map fun pa => (f.cause, pa)).toList

/-- Class S causes (R31, R97, R98, R184, R376 and the engine chapters). -/
def classS (cause : Nat) : Bool :=
  cause = 0x0A || cause = 0x0B || cause = 0x40 || cause = 0x41 || cause = 0x48 || cause = 0x84 || 0xF0 ≤ cause

/-- The fields of a fault record without PHASE (R32). -/
def faultRecord (f : Flt) (fen core group : Nat) (pc seq queue : Nat) : Nat :=
  f.cause + fen * 2 ^ 8 + core * 2 ^ 16 + group * 2 ^ 24 + b2n f.defer * 2 ^ 30 + f.lanes.toNat * 2 ^ 32
    + pc * 2 ^ 64 + f.addr % 2 ^ 57 * 2 ^ 128 + seq % 2 ^ 32 * 2 ^ 192 + flaneOf f.lanes * 2 ^ 224 + f.kind * 2 ^ 229
    + queue % 64 * 2 ^ 232

/-- Where a team's slot lies. -/
def State.slotPa (s : State) (t : Team) : Option Nat := t.slot.map fun x => (s.part t.pid).svbase + 65536 * x.1

/-- The place of FQIDX in a slot's header (R322, log entry 65). -/
def fqidxAt : Nat := 48

/-- The place of STATE in a slot's header, and its code for a faulted team (R322, log entry 65). -/
def slotStateAt : Nat := 40
def slotFaulted : Nat := 3

/-- The header of the slot of a team that is off its core says that it has faulted (R322, R324). -/
def State.markFaulted (s : State) (ti : Nat) : State :=
  match s.slotPa (s.team ti) with
  | some a => s.ownWrite 0 (a + slotStateAt) (bytesLE 8 slotFaulted)
  | none => s

/-- The record of a team's fault is written: its FQIDX, also in the header of its slot (R324). -/
def State.setFqidx (s : State) (ti idx : Nat) : State :=
  match s.teams.find ti with
  | none => s
  | some t =>
    if t.fqidx = none ∧ t.cause = OutCause.fault then
      let s := s.setTeam ti { t with fqidx := some idx }
      match (if t.status = .resident then none else s.slotPa t) with
      | some a => s.ownWrite 0 (a + fqidxAt) (bytesLE 8 idx)
      | none => s
    else s

/-- A fault record waiting for space is written when the queue exists and has room (R308, R309). -/
def State.flushFq1 (p : Nat) (s : State) : Option State :=
  let x := s.part p
  match x.fqwait with
  | [] => none
  | (r, ti) :: rest =>
    if bitOf x.fqbase 0 && (x.fqwr + 2 ^ 64 - x.fqrd) % 2 ^ 64 < 2 ^ x.fqsize then
      let at_ := bitsOf x.fqbase 12 40 * 4096 + 32 * (x.fqwr % 2 ^ x.fqsize)
      let rec_ := r.toNat + x.fqwr / 2 ^ x.fqsize % 2 * 2 ^ 31
      let s := s.ownWrite 0 at_ (bytesLE 32 rec_)
      let s := s.setPart p { x with fqwait := rest, fqwr := x.fqwr + 1 }
      some ((s.setFqidx ti x.fqwr).setEvents (s.diesOf p) evFaultq)
    else none

/-- Every fault record that can be written is written (R309). -/
def State.flushFq (s : State) (p : Nat) : State := iterOpt (State.flushFq1 p) ((s.part p).fqwait.length) s

/-- A fault record posted to a partition's fault queue (R31, R309). -/
def State.postFault (s : State) (p ti rec_ : Nat) : State :=
  (s.modPart p fun x => { x with fqwait := x.fqwait ++ [(BitVec.ofNat 256 rec_, ti)] }).flushFq p

/-- Entries of the page-request queue that a fen holds (R292). -/
def Reed.prqHeld (r : Reed) (fen : Nat) : Nat := (r.prq.filter fun e => e.fen = fen).length

/-- Shared entries in use (R292). DESIGN CHOICE (log entry 143): those that a fen holds beyond four, whichever of its entries are
acknowledged. -/
def Reed.prqShared (r : Reed) : Nat :=
  ((List.range 255).map fun f => r.prqHeld f - 4).foldl (· + ·) 0

/-- May a fen take an entry of the page-request queue (R292)? -/
def Reed.prqRoom (r : Reed) (fen : Nat) : Bool :=
  r.prqHeld fen < 4 || (r.prqHeld fen < 36 && r.prqShared < 3076)

/-- The entry number that a page request takes (R292). DESIGN CHOICE (log entry 142): the lowest that no entry holds. -/
def Reed.prqTag (r : Reed) : Nat := ((List.range 4096).find? fun k => r.prq.all fun e => e.tag ≠ k).getD 0

/-- A page request takes an entry (R292): the new state and its tag, or `none` when it is refused. -/
def State.prqTake (s : State) (e : PageReq) : Option (State × Nat) :=
  if s.reed.prqRoom e.fen then
    let tag := s.reed.prqTag
    let e := { e with tag := tag, popped := false, time := s.now, va := e.va / 4096 * 4096 }
    let s := { s with reed := { s.reed with prq := s.reed.prq ++ [e] } }
    some (s.setEvents [0, 1, 2, 3] evPrq, tag)
  else none

/-- A refused request is counted (R292). -/
def State.prqRefuse (s : State) (fen : Nat) : State :=
  let n := s.reed.refused.get 0 fen
  { s with reed := { s.reed with refused := SMap.put 0 s.reed.refused fen (min (n + 1) (2 ^ 32 - 1)) } }

/-- A page request of the part itself: dropped when it is refused (R34, R179, R292, R349). -/
def State.prqPost (s : State) (src acc fen va : Nat) : State :=
  match s.prqTake { tag := 0, popped := false, src := src, acc := acc, last := false, prgi := 0, fen := fen
                    va := va % 2 ^ 57, rid := 0, port := 0, pasid := 0, time := 0 } with
  | some (s, _) => s
  | none => s.prqRefuse fen

end Sys2Proof.Machine
end

