-- ==== Sys2Proof/Machine/Ops.lean ====
section
/-!
DEFINITION. What every word shares: the opcode map's classes (R55, R57), the order of checks (R30), eligibility (R70),
taking a fault (R31, R34, R36, R105, R349) and the return from a trap (R105), and the ways in which a word can end.
-/
namespace Sys2Proof.Machine

/-! ## The opcode map -/

/-- Instruction classes (R55). -/
inductive Cls where
  | control | uniform | lane | group | leader
  deriving DecidableEq, Repr

/-- Is a number between two others? -/
def within (lo hi n : Nat) : Bool := lo ≤ n && n ≤ hi

/-- The class of an opcode (R57). -/
def classOf (op : Nat) : Cls :=
  if op = 0x180 ∨ op = 0x181 ∨ op = 0x1B0 then .leader
  else if op = 0x03C ∨ op = 0x03D ∨ op = 0x083 ∨ op = 0x084 ∨ within 0x162 0x164 op ∨ op = 0x168
      ∨ within 0x183 0x194 op ∨ op = 0x1A1 ∨ op = 0x1A2 ∨ op = 0x1C0 then .group
  else if op = 0x001 ∨ op = 0x002 ∨ within 0x015 0x036 op ∨ op = 0x129 ∨ op = 0x131 ∨ op = 0x14B ∨ op = 0x160
      ∨ op = 0x161 ∨ op = 0x169 ∨ within 0x1A8 0x1AC op ∨ within 0x1B8 0x1BC op ∨ within 0x1C8 0x1CF op then .uniform
  else if op = 0x000 ∨ within 0x004 0x014 op ∨ op = 0x1C1 then .control
  else .lane

/-- Does the word count on SETA (R48, R57)? -/
def flagA (op : Nat) : Bool :=
  op = 0x035 || within 0x100 0x104 op || op = 0x110 || op = 0x120 || op = 0x122 || op = 0x124 || op = 0x130
    || within 0x140 0x14A op || op = 0x151 || op = 0x166 || op = 0x1AA

/-- Does the word count on SETB (R48, R57)? These are the asynchronous issues (R20). -/
def flagB (op : Nat) : Bool :=
  within 0x162 0x164 op || op = 0x168 || within 0x180 0x182 op || op = 0x1A0 || op = 0x1B0 || op = 0x1B1

/-- The privileged opcodes (R58). -/
def privileged (op : Nat) : Bool :=
  within 0x013 0x016 op || op = 0x130 || op = 0x131 || within 0x1A8 0x1AC op || within 0x1B8 0x1BC op
    || within 0x1C8 0x1CF op

/-- The words that raise FLT_GATE_OP inside a gate (R347). DEDUCED (log entry 126): `gcall` among them, where R346 gives it
FLT_GATE. -/
def gateOp (op : Nat) : Bool :=
  flagB op || within 0x188 0x18B op || within 0x160 0x169 op || op = 0x083 || op = 0x084 || within 0x150 0x154 op
    || op = 0x012 || op = 0x011 || op = 0x1C0

/-- The words that abort the open lanes of Active() with cause 8 (R201). -/
def txAborts (op : Nat) : Bool :=
  flagB op || within 0x120 0x123 op || within 0x140 0x14A op || op = 0x183 || op = 0x184 || within 0x189 0x18B op
    || within 0x191 0x193 op || op = 0x1A1 || op = 0x1A2 || op = 0x1C0

/-- The words that clear the flashback record (R100). -/
def fbClears (op : Nat) : Bool :=
  op = 0x036 || within 0x108 0x10C op || op = 0x111 || within 0x118 0x11A op || op = 0x121 || op = 0x123 || op = 0x125
    || within 0x140 0x154 op || flagB op || within 0x188 0x193 op || op = 0x084 || op = 0x1A1 || op = 0x1A2
    || op = 0x1C0 || op = 0x010 || op = 0x011

/-- The scratchpad words (R174). -/
def spadOp (op : Nat) : Bool := within 0x114 0x11A op

/-- The barrier words (R266). -/
def barOp (op : Nat) : Bool := within 0x190 0x194 op

/-! ## Transactions and gates, as far as faults and swaps need them -/

/-- Abort(l, c) of R203. -/
def Group.abortLane (g : Group) (cause detail l : Nat) : Group :=
  let x := g.txLane l
  g.setTx l { x with
    state := .aborted, cause := cause, detail := detail, reads := [], writes := []
    conf := if cause = 1 then min (x.conf + 1) 15 else if cause = 6 then x.conf else 0
    esc := (cause = 1 || cause = 6) && x.esc }

/-- A lane whose transaction has ended: STATE 00 (R198, R208). DESIGN CHOICE (log entry 13): CAUSE and DETAIL, no longer
valid, are held as zero; `txq` reads a free value for CAUSE. -/
def TxLane.ended (x : TxLane) : TxLane :=
  { x with state := .none, cause := 0, detail := 0, tried := false, reads := [], writes := [] }

/-- The open lanes of a mask aborted (R203). -/
def Group.abortLanes (g : Group) (m : W32) (cause detail : Nat) : Group :=
  (lanesOf (m &&& g.txOpen)).foldl (fun g l => g.abortLane cause detail l) g

/-- A range of lane registers of every lane zeroed. -/
def Group.zeroV (g : Group) (lo hi : Nat) : Group :=
  { g with v := g.v.filter fun e => e.1 % 128 < lo ∨ hi < e.1 % 128 }

/-- A range of uniform registers zeroed. -/
def Group.zeroS (g : Group) (lo hi : Nat) : Group := { g with s := g.s.filter fun e => e.1 < lo ∨ hi < e.1 }

/-- The group leaves a gate at its return header (R348, R349): `pass` keeps the passed registers as results. -/
def Group.gateLeave (g : Group) (k : Gate) (pass : Bool) : Group :=
  let g := { g with gate := none }
  let g := (g.zeroV (if pass then k.pv else 0) 15).zeroS (if pass then k.ps else 0) 7
  let g := { g.zeroS 62 62 with lc := [] }
  let g := (List.range 3).foldl (fun g i => g.writeLC i (k.lcs.getD i 0)) g
  let g := g.writePs k.pd (BitVec.allOnes 32) (if pass then BitVec.allOnes 32 else 0)
  let g := (g.entries.keys.foldl Group.freeUp g).closeFrames
  if g.ended then g else g.setEntry 0 (newSplinter k.ret noFrame k.mode (~~~ g.exited))

/-- A gate abort (R349), for a group that is inside one: what its gate still has in flight writes no register. -/
def Group.gateAbort (g : Group) : Group :=
  match g.gate with
  | some k => { g.gateLeave k false with pend := g.pend.map fun p => { p with dead := true }, block := none }
  | none => g

/-- An acquire of scope `k` (R160, R161): later loads of the group use no L1 sector filled before now, and its later releases
follow what its core's store order holds now. -/
def Group.acquire (g : Group) (now : Nat) : Group := { g with floor := now, joined := now }

/-! ## Taking teams off their core -/

/-- Does an access of `n` bytes touch a 32-byte sector? -/
def touches (sec pa n : Nat) : Bool := sec * 32 < pa + n && pa < sec * 32 + 32

/-- Where the bytes of an entry lie (R153). -/
def StoreEnt.pieces (e : StoreEnt) : List (Nat × List (Byte × Byte)) := (e.pa, e.bytes) :: e.more.toList

/-- A queued store enters the core store order, and the core's L1 sectors that it touches are dropped (R156, R159). -/
def State.enterOrder (s : State) (core : Nat) (e : StoreEnt) : State :=
  { s with nextId := s.nextId + 1 }.modCore core fun k =>
    { k with
      cso := k.cso ++ [{ e with entered := s.nextId }]
      l1 := k.l1.filter fun x => !e.pieces.any fun y => touches x.sector y.1 y.2.length }

/-- A group's queued stores enter the core store order of its core (R159), as a halted group's do. -/
def State.drainGroup (s : State) (ti gi : Nat) : State :=
  let g := s.group ti gi
  let c := (s.team ti).core
  let s := g.sq.foldl (fun s e => s.enterOrder c e) s
  s.modGroup ti gi fun g => { g with sq := [] }

/-- What a swap-out does to one group: open lanes abort with cause 6 and logs are dropped (R215), a gate is aborted
(R349), and the group's stores are in the core store order. What that order holds now comes before whatever the group does on
another core, since its loads may have taken it (R157, R159, log entry 131). -/
def State.haltGroup (ti : Nat) (s : State) (gi : Nat) : State :=
  let s := s.drainGroup ti gi
  s.modGroup ti gi fun g =>
    let g := g.abortLanes (BitVec.allOnes 32) 6 0
    { g.gateAbort with txBuf := false, tx := g.tx, joined := s.nextId }

/-- A gang word that has arrived at an open rendezvous is taken back: its group stands before it (R242). -/
def Group.unarrive (g : Group) : Group :=
  match g.arrivedGang with
  | some seq => { g with arrivedGang := none, gang := (g.gang <<< 8 >>> 8) ||| (BitVec.ofNat 64 seq <<< 56) }
  | none => g

/-- The gang words of a team at open rendezvous are taken back (R242). -/
def State.takeBack (s : State) (ti : Nat) : State :=
  s.modTeam ti fun t => { t with rdvs := [], groups := t.groups.map fun x => (x.1, x.2.unarrive) }

/-- Sedge quiescent for a team (R242, R243): its unfinished operations go into the saved context with their range-lock
entries, and its open rendezvous are taken back. -/
def State.quiesce (s : State) (ti : Nat) : State :=
  let t := s.team ti
  let k := s.core t.core
  let mine := k.sedge.filter fun o => o.team = ti
  let held (l : RangeLock) := mine.any fun o => o.id = l.id
  let s := s.setCore t.core { k with sedge := k.sedge.filter (fun o => o.team ≠ ti), locks := k.locks.filter fun l => !held l }
  (s.setTeam ti { t with sedge := t.sedge ++ mine, locks := t.locks ++ k.locks.filter held }).takeBack ti

/-- The copies of a team that is swapped out read its scratchpad as it stands then (R274). -/
def State.snapshot (s : State) (ti : Nat) : State :=
  { s with copies := s.copies.map fun o =>
      if o.team = ti then { o with snap := o.snap.orElse fun _ => some (s.team ti).spad } else o }

/-- A team halted and being saved (R326 steps 2 to 6, R324). After a fault its Sedge operations go on (R244). -/
def State.haltTeam (s : State) (ti : Nat) (cause : OutCause) : State :=
  let s := s.snapshot ti
  let s := if cause = .fault then s.takeBack ti else s.quiesce ti
  let t := s.team ti
  let s := t.groups.keys.foldl (State.haltGroup ti) s
  s.modTeam ti fun t => { t with status := .saving, cause := cause, since := s.now, resumed := false, fqidx := none }

/-- A grid changed. -/
def Part.modGrid (x : Part) (id : Nat) (f : Grid → Grid) : Part :=
  { x with grids := x.grids.map fun g => if g.id = id then f g else g }

/-- An ending fault recorded in the team's grid: no further teams start, and the first cause is kept (R31, R317). -/
def State.endGrid (s : State) (ti : Nat) (cause pc : Nat) (defer : Bool) : State :=
  let t := s.team ti
  let n := if t.counted then 0 else 1
  if t.system then s else
  let s := s.modPart t.pid fun x => x.modGrid t.grid fun g =>
    { g with stop := true, nend := g.nend + n, cause := if g.cause = 0 then cause else g.cause
             defer := if g.cause = 0 then defer else g.defer, pc := if g.cause = 0 then pc else g.pc }
  s.setTeam ti { t with counted := true }

/-- When a team ends, its monitor entries are freed and the results of its parks are discarded, those of a park that an aborted
gate left among them (R196, R349). -/
def State.dropParks (s : State) (ti : Nat) : State :=
  let parks := (s.mem.monitors.filter fun m => m.team = ti).map (·.pend)
  let s := s.modTeam ti fun t =>
    { t with groups := t.groups.map fun x => (x.1, { x.2 with pend := x.2.pend.filter fun p => !parks.contains p.id }) }
  { s with mem := { s.mem with monitors := s.mem.monitors.filter fun m => m.team ≠ ti } }

/-- A team ended: its groups stop, its Sedge operations are discarded, and it waits to retire (R31, R196, R244). -/
def State.endTeam (s : State) (ti : Nat) (cause pc : Nat) (defer : Bool) : State :=
  let s := s.endGrid ti cause pc defer
  let s := (s.team ti).groups.keys.foldl (fun s gi => s.drainGroup ti gi) s
  let s := (s.quiesce ti).dropParks ti
  s.modTeam ti fun t =>
    { t with
      status := .ended, killed := true, sedge := [], locks := []
      groups := t.groups.map fun x => (x.1, { x.2 with
        entries := [], frames := [], exited := BitVec.allOnes 32, tx := [], txBuf := false, gate := none, block := none }) }

/-! ## Taking a fault, and the return from a trap -/

/-- EXL of a group of a system core (R104). -/
def Group.exl (g : Group) : Bool := g.trap.ecause.getLsbD 25

/-- SYS_ECAUSE of a fault (R104); EXL is set. -/
def ecauseOf (f : Flt) (fen group : Nat) : W64 :=
  BitVec.ofNat 64 (f.cause + fen * 2 ^ 8 + group * 2 ^ 16 + b2n f.defer * 2 ^ 21 + f.kind * 2 ^ 22 + 2 ^ 25
    + flaneOf f.lanes * 2 ^ 26 + f.lanes.toNat * 2 ^ 32)

/-- SYS_ECLS of a splinter (R103). -/
def eclsOf (e : Splinter) : BitVec 13 := e.cleft ++ e.csetb ++ e.cseta ++ BitVec.ofBool e.mid

/-- A fault on a system core enters the trap vector (R36, R105). DESIGN CHOICE (log entry 137): a block of the group stays, and the
handler runs beside it. -/
def Group.trapEnter (g : Group) (tvec : BitVec 57) (ei gi fen : Nat) (e : Splinter) (f : Flt) : Group :=
  { g.setEntry ei { e.jump tvec with mode := mode0 } with
    trap := { g.trap with
      epc := f.pc.getD e.pc, ecause := ecauseOf f fen gi, eaddr := BitVec.ofNat 57 f.addr, emode := e.mode
      ecls := eclsOf e, lanes := e.mask } }

/-- The return from a trap (R105): PC, mode and clause state as saved, EXL := 0. DESIGN CHOICE (log entry 99): a return to the point
of the splinter's innermost frame arrives there at once. -/
def Group.trapReturn (g : Group) (ei : Nat) (e : Splinter) : Group :=
  let t := g.trap
  let e := { e with
    pc := t.epc, mode := t.emode, mid := t.ecls.getLsbD 0, cseta := t.ecls.extractLsb' 1 4
    csetb := t.ecls.extractLsb' 5 4, cleft := t.ecls.extractLsb' 9 4 }
  { g.setEntry ei e with trap := { t with ecause := t.ecause &&& ~~~(1#64 <<< 25) } }.settle

/-- A double fault stops the core's issue (R374); its own die's MCHK is set as for every record (R37, R106). -/
def State.doubleFault (s : State) (core : Nat) : State :=
  let d := dieOfCore core
  let s := s.logMc d { cause := 0xF1, kind := 4, unit := d, team := false, time := s.now, pa := 0 }
  let s := s.modCore core fun k => { k with stopped := true }
  s.setEvents ((List.range 4).filter fun x => x ≠ d) evMchk

/-- The group and entry at which a team meets a fault that no word of it raises: the lowest that still runs. -/
def Team.lowest (t : Team) : Option (Nat × Nat) := t.groups.findSome? fun g => g.2.entries.head?.map fun e => (g.1, e.1)

/-- The record of a fault of a user team's entry (R32); inside a gate PC is zero (R349). DESIGN CHOICE (log entry 151): a class S fault
that aborts a gate is recorded so too, with the target's FENID. -/
def State.recordOf (s : State) (ti gi : Nat) (e : Splinter) (f : Flt) : Nat :=
  let t := s.team ti
  let g := t.group gi
  faultRecord f (fenBorne t g) t.core gi (if g.gate.isSome then 0 else (f.pc.getD e.pc).toNat) t.seq t.queue

/-- The page request of a page fault that aborts a gate (R349). -/
def State.gatePage (s : State) (t : Team) (g : Group) (f : Flt) : State :=
  if g.gate.isSome ∧ f.cause = 0x40 then
    s.prqPost 2 (if f.kind = 2 then 2 else if f.kind = 3 then 3 else 1) (fenBorne t g) f.addr
  else s

/-- A fault of a user team is delivered under its policy (R31, R349). Its record is posted whether the team is swapped out
or ended (R32, R35, R309; log entry 12). A team that is off its core already waits for `resume` from now on (R37, R324). -/
def State.userFault (s : State) (ti gi : Nat) (e : Splinter) (f : Flt) : State :=
  let t := s.team ti
  let g := t.group gi
  let gated := g.gate.isSome
  let pc := if gated then 0 else (f.pc.getD e.pc).toNat
  let rec_ := s.recordOf ti gi e f
  if classS f.cause ∧ ¬ t.onf then
    let s := s.gatePage t g f
    let s := if t.status = .resident then s.haltTeam ti .fault
      else (s.modTeam ti fun t => { t with cause := .fault, resumed := false, fqidx := none }).markFaulted ti
    let ei := ((g.entries.find? fun x => x.2 = e).map (·.1)).getD 0
    let s := s.modTeam ti fun t =>
      { t with faultAt := (gi, if gated then 8 else ei), faultDefer := f.defer, faultCause := f.cause }
    s.postFault t.pid ti rec_
  else (s.endTeam ti f.cause pc f.defer).postFault t.pid ti rec_

/-- One of several faults of one moment is delivered (R35); `s0` is the state in which they were raised. The first fault of a
team decides its fate, and each further one only makes its record, with the same SEQ. -/
def State.settle1 (s0 : State) (a : State × List Nat) (x : Raised) : State × List Nat :=
  let t := s0.team x.team
  let g := t.group x.group
  match g.entries.find x.entry with
  | none => a
  | some e =>
    if a.2.contains x.team then
      let s := if classS x.flt.cause ∧ ¬ t.onf then a.1.gatePage t g x.flt else a.1
      (s.postFault t.pid x.team (s0.recordOf x.team x.group e x.flt), a.2)
    else (a.1.userFault x.team x.group e x.flt, x.team :: a.2)

/-- The faults of one moment are delivered in ascending group order (R35). -/
def State.settleFaults (s : State) : State :=
  let s0 := { s with gather := none }
  ((sortBy (fun a b : Raised => a.group ≤ b.group) (s.gather.getD [])).foldl (State.settle1 s0) (s0, [])).1

/-- What several groups do at one moment: the faults that they raise are delivered together (R35). -/
def State.together (s : State) (act : State → State) : State :=
  match s.gather with
  | some _ => act s
  | none => (act { s with gather := some [] }).settleFaults

/-- TAKING A FAULT, the one operation (R30, R31, R34, R36, R105, R374): open lanes of the group abort with cause 5; on a
system core the trap vector is entered, or the core stops; on a user core the team's policy applies, after the faults that
other groups raise at the same moment (R35). -/
def State.takeFault (s : State) (ti gi ei : Nat) (f : Flt) : State :=
  let s := s.modGroup ti gi fun g => g.abortLanes (BitVec.allOnes 32) 5 f.cause
  let s := match f.mcpa with
    | some pa =>
      let t := s.team ti
      s.logMem f.cause pa (!t.system && (t.status = TeamStatus.resident || t.onf))
    | none => s
  let t := s.team ti
  let g := t.group gi
  match g.entries.find ei with
  | none => s
  | some e =>
    if t.system then
      if g.exl then s.doubleFault t.core
      else s.modGroup ti gi fun g => g.trapEnter (s.core t.core).tvec ei gi (fenBorne t g) e f
    else match s.gather with
      | some fs => { s with gather := some (fs ++ [{ team := ti, group := gi, entry := ei, flt := f }]) }
      | none => s.userFault ti gi e f

/-! ## Issuing a word -/

/-- How a word ends. -/
inductive Res where
  /-- its effect is done, and the splinter goes on in sequence -/
  | ok (s : State)
  /-- its effect is done, control included -/
  | moved (s : State)
  /-- it is not eligible yet: nothing happens (R70) -/
  | stall
  /-- it does not retire yet -/
  | hold (s : State)
  /-- Raise of R9 -/
  | raise (f : Flt) (s : State)

/-- What a word declares to the issue engine. -/
structure Word where
  op : Nat
  /-- the field checks of its rule (R40) -/
  legal : Bool
  /-- lane registers named, checked against the budget (R15, R40) -/
  vs : List Nat := []
  /-- uniform registers named (R40) -/
  ss : List Nat := []
  /-- lane registers that must be even, or `vz`, under the mode (R40) -/
  pairs : Ctx → List Nat := fun _ => []
  /-- its own stage 2 checks (R30) -/
  pre : Ctx → State → Except Flt Unit := fun _ _ => .ok ()
  /-- its own stage 3 checks (R30), after those of `pairs` -/
  lanesOk : Ctx → State → Except Flt Unit := fun _ _ => .ok ()
  /-- can the engine that executes it accept it (R70)? -/
  ready : Ctx → State → Bool := fun _ _ => true
  /-- checks of the engine that executes it at stage 4 (R30) -/
  engineOk : Ctx → State → Except Flt Unit := fun _ _ => .ok ()
  /-- does it act with Active() empty too: a gang word arrives (R235), `gcall` waits (R346)? -/
  always : Ctx → Bool := fun _ => false
  /-- does it raise no fault of stages 3 to 6 (R179)? -/
  soft : Bool := false

/-- Lane register numbers that a budget permits (R15). -/
def vOk (b n : Nat) : Bool := n < b || n = 127

/-- Is an entry kept from issuing, whatever its word (R70, R105, R235, R374)? DESIGN CHOICE (log entry 100): EXL holds back
every splinter without a lane of the last trap, also where software set EXL. DESIGN CHOICE (log entry 137): a handler runs while
another splinter of its group stands at `halt`, `bwait` or `qpop`. -/
def Ctx.stalled (c : Ctx) (s : State) : Bool :=
  c.team.status ≠ .resident || (s.core c.team.core).stopped
    || (match c.grp.block with
        | some b => b.kind = .park || b.kind = .cfg || (b.entry ≠ c.ei && !c.grp.exl)
        | none => false)
    || c.grp.arrivedGang.isSome
    || (c.grp.exl && c.grp.trap.lanes &&& c.ent.mask = 0)

/-- The clause flag that a word counts on: `none` for no flag, `some none` when the clause names none (R48). -/
def Ctx.flagOf (c : Ctx) (op : Nat) : Option (Option Nat) :=
  if flagA op then some (if c.ent.cseta = 0 then none else some (c.ent.cseta.toNat - 1))
  else if flagB op then some (if c.ent.csetb = 0 then none else some (c.ent.csetb.toNat - 1))
  else none

/-- The flag number of a counting word that has passed R48's check. -/
def Ctx.flagNo (c : Ctx) (op : Nat) : Nat := ((c.flagOf op).bind id).getD 0

/-- The lanes that a class L, G or E word acts on; `txe` and `txq` use TxActive (R203). -/
def Ctx.acting (c : Ctx) (op : Nat) : W32 :=
  if op = 0x151 ∨ op = 0x154 then c.grp.guarded c.ent.mode c.ent.mask else c.active

/-- Is the word one whose Active() can be empty (R56)? -/
def guardedOp (op : Nat) : Bool :=
  match classOf op with
  | .lane | .group | .leader => true
  | _ => false

/-- Stage 1 of R30 for a decoded body word: position, privilege, field checks. -/
def Ctx.stage1 (c : Ctx) (w : Word) : Except Flt Unit :=
  if !c.ent.mid then .error { cause := 0x02 }
  else if privileged w.op && !c.team.system then .error { cause := 0x06 }
  else if !(w.legal && w.vs.all (vOk c.budget)) then .error { cause := 0x01 }
  else .ok ()

/-- Stage 2 of R30: the clause flag, the gate's list, and the word's own checks. -/
def Ctx.stage2 (c : Ctx) (w : Word) (s : State) : Except Flt Unit :=
  if c.flagOf w.op = some none then .error { cause := 0x03 }
  else if c.grp.gate.isSome && gateOp w.op then .error { cause := 0xB8 }
  else w.pre c s

/-- Stages 3 and 4 of R30: pairs, the word's own lane checks, and the fen checks inside a gate (R347). DESIGN CHOICE (log entry 91):
of FLT_DOMAIN_ENGINE raised as a lane check (R295, R301) and FLT_DOMAIN_REG, the former comes first. -/
def Ctx.stage34 (c : Ctx) (w : Word) (s : State) : Except Flt Unit :=
  if (w.pairs c).any (fun n => n ≠ 127 ∧ n % 2 = 1) then .error { cause := 0x27, lanes := if classOf w.op = .group then c.ent.mask else c.acting w.op }
  else match w.lanesOk c s with
    | .error f => .error f
    | .ok () =>
      if c.grp.gate.isNone then w.engineOk c s
      else if w.ss.any (within 8 61) then .error { cause := 0xB0 }
      else if spadOp w.op then .error { cause := 0xB1 }
      else if barOp w.op || w.op = 0x1A1 then .error { cause := 0xB2 }
      else w.engineOk c s

/-- Is Active() empty for a word that acts on it (R56)? -/
def Ctx.emptyFor (c : Ctx) (w : Word) : Bool := guardedOp w.op && c.acting w.op = 0

/-- Does the word only take its issue slot (R56)? -/
def Ctx.idles (c : Ctx) (w : Word) : Bool := c.emptyFor w && !w.always c

/-- Is the word one that counts on a full flag? It neither faults nor issues (R48), unless Active() is empty (R56). -/
def Ctx.flagFull (c : Ctx) (w : Word) : Bool :=
  match c.flagOf w.op with
  | some (some n) => c.ent.mid && c.grp.flag n = 63 && !c.emptyFor w
  | _ => false

/-- What the checks before a word's effect decide. -/
inductive Gatekeeper where
  | stall
  | fault (f : Flt)
  /-- empty Active(): the word only takes its issue slot (R56) -/
  | idle
  | go
  deriving DecidableEq, Repr

/-- The checks of R30 up to stage 4, and eligibility (R70). -/
def Ctx.check (c : Ctx) (w : Word) (s : State) : Gatekeeper :=
  if c.stalled s || c.flagFull w then .stall
  else match c.stage1 w with
  | .error f => .fault f
  | .ok () =>
    if w.ss.any (fun n => c.grp.tokens.contains n) then .stall
    else match c.stage2 w s with
    | .error f => .fault f
    | .ok () =>
      if c.idles w then .idle
      else match (if w.soft then .ok () else c.stage34 w s) with
      | .error f => .fault f
      | .ok () => if w.ready c s then .go else .stall

/-- The group after a word in sequence: the flashback record (R100), then the entry's next word (R47). -/
def Group.retire (g : Group) (ei op : Nat) : Group :=
  let g := if fbClears op then { g with fb := none } else g
  match g.entries.find ei with
  | some e => g.advance ei e
  | none => g

/-- The machine after a word in sequence. -/
def State.retire (s : State) (c : Ctx) (op : Nat) : State := s.modGroup c.ti c.gi fun g => g.retire c.ei op

/-- The lanes with open transactions that a word aborts, aborted (R201). -/
def Ctx.txAbort (c : Ctx) (w : Word) : Ctx :=
  if txAborts w.op then { c with grp := c.grp.abortLanes c.active 8 0 } else c

/-- How a word's end becomes the next state; `s0` is the state before it. A word that is held does not issue
and keeps the flashback record, but for one that blocks its group (R100, log entry 101: `Ctx.blocked`). -/
def Res.state (s0 : State) (c : Ctx) (op : Nat) : Res → State
  | .ok s => s.retire c op
  | .stall => s0
  | .moved s => if fbClears op then s.modGroup? c.ti c.gi (fun g => { g with fb := none }) else s
  | .hold s => s
  | .raise f s => s.takeFault c.ti c.gi c.ei f

/-- A word issues: the checks, then its effect on the context and state that the aborts of R201 leave. -/
def issue (w : Word) (act : Ctx → State → Res) (s : State) : Host.Outcome State Fault Refusal :=
  match s.ctx with
  | none => .refused .noIssuer
  | some c =>
    match c.check w s with
    | .stall => .next s
    | .fault f => .next (s.takeFault c.ti c.gi c.ei f)
    | .idle => .next (s.retire c w.op)
    | .go =>
      let c' := c.txAbort w
      let s' := if txAborts w.op then s.setGroup c.ti c.gi c'.grp else s
      if c'.idles w then .next (s'.retire c' w.op)
      else .next ((act c' s').state s c' w.op)

/-- A word whose whole effect is on its group. -/
def issueG (w : Word) (act : Ctx → Except Flt Group) : State → Host.Outcome State Fault Refusal :=
  issue w fun c s =>
    match act c with
    | .ok g => .ok (s.setGroup c.ti c.gi g)
    | .error f => .raise f s

end Sys2Proof.Machine
end

