-- ==== Sys2Proof/Machine/Operands.lean ====
section
/-!
DEFINITION. The operand forms: b operands (R41), lane operands by type (R108, R109), memory operands (R42) and the
surroundings that decoding and encoding depend on.
-/
namespace Sys2Proof

/-- The lane registers that a b operand names. -/
def Src.vs : Src → List Nat
  | .v n => [n.toNat]
  | _ => []

/-- The uniform registers that a b operand names. -/
def Src.ss : Src → List Nat
  | .s n => [n.toNat]
  | _ => []

/-- The lane registers that a memory operand names. -/
def Mem.vs (m : Mem) : List Nat := [m.a.toNat]

/-- The uniform registers that a memory operand names. -/
def Mem.ss (m : Mem) : List Nat := [m.s.toNat]

/-- The pair that a memory operand names (R42). -/
def Mem.pairs (m : Mem) : List Nat := if m.sc.toNat = 7 then [m.a.toNat] else []

end Sys2Proof

namespace Sys2Proof.Machine

/-- The codebook's entries (R117). -/
def Group.cb (g : Group) : List Nat := (List.range 16).map fun i => (g.codebook.get 0 i).toNat

/-- What Encode and Decode depend on (R119, R120). -/
def Ctx.env (c : Ctx) : Env :=
  { rm := modeRM c.mode, sat := modeSAT c.mode, ftz := modeFTZ c.mode, cb := c.grp.cb }

/-- A lane operand of a type: a register, or a pair (R109). -/
def Group.readOp (g : Group) (ty l n : Nat) : Nat := if tyPair ty then (g.readV2 l n).toNat else (g.readV l n).toNat

/-- A lane operand of a type written (R109). -/
def Group.writeOp (g : Group) (ty l n x : Nat) : Group :=
  if tyPair ty then g.writeV2 l n (BitVec.ofNat 64 x) else g.writeV l n (BitVec.ofNat 32 x)

/-- A signed 7-bit immediate (R41). -/
def immOf (n : BitVec 7) : Int := n.toInt

/-- The element to which an immediate is widened for a per-lane word (R41). -/
def immElem (ty : Nat) (n : BitVec 7) : Nat :=
  if ty = 0x10 then n.toNat % 16
  else if ty = 0x11 then (encodeInt true 0x11 (immOf n)).1
  else if tyInt ty then wrapTo (tyWidth ty) (immOf n)
  else (encodeFloat { rm := rmRNE, sat := true, ftz := false, cb := [] } ty (.ofInt (immOf n))).1

/-- The b operand of a lane (R41), as a 32-bit or a 64-bit operand of the type. -/
def Ctx.laneB (c : Ctx) (ty : Nat) (b : Src) (l : Nat) : Nat :=
  match b with
  | .v n => c.grp.readOp ty l n.toNat
  | .s n => if tyPair ty then (c.grp.readS n.toNat).toNat else (c.grp.readS n.toNat).toNat % 2 ^ 32
  | .imm n => joinElems ty (List.replicate (tyElems ty) (immElem ty n))
  | .p n => b2n (c.grp.readP l n.toNat)

/-- The b operand of a uniform word (R89). -/
def Ctx.uniB (c : Ctx) (b : Src) : W64 :=
  match b with
  | .s n => c.grp.readS n.toNat
  | .imm n => BitVec.ofInt 64 (immOf n)
  | .v _ => 0
  | .p _ => 0

/-- The operand's pair numbers under a 64-bit type (R52). -/
def pairsOf (ty : Nat) (ns : List Nat) : List Nat := if tyPair ty then ns else []

/-- The effective address or offset of a memory operand, in 64 bits (R42). -/
def Ctx.ea (c : Ctx) (m : Mem) (l : Nat) : Nat :=
  if m.sc.toNat = 7 then (c.grp.readV2 l m.a.toNat).toNat
  else ((c.grp.readS m.s.toNat) + ((c.grp.readV l m.a.toNat).signExtend 64 <<< m.sc.toNat)).toNat

/-- `n` consecutive uniform registers (R44). -/
def sRange (a n : Nat) : List Nat := (List.range n).map (a + ·)

end Sys2Proof.Machine
end

