-- ==== Sys2Proof/Machine/Flags.lean ====
section
/-!
DEFINITION. Conditions (R45) and the sticky floating-point flags with their traps (R121, R122, R143).
-/
namespace Sys2Proof.Machine

/-- Compare for integer operands, given as patterns and as the values that lt to ge compare (R45). -/
def cmpInt (cc : Cc) (a b : Int) (pa pb : Nat) : Bool :=
  match cc with
  | .eq => pa = pb
  | .ne => pa ≠ pb
  | .lt => a < b
  | .le => a ≤ b
  | .gt => b < a
  | .ge => b ≤ a
  | .ltu => pa < pb
  | .leu => pa ≤ pb
  | .gtu => pb < pa
  | .geu => pb ≤ pa
  | .un => false
  | .ord => true
  | .t => true
  | .f => false
  | .bset => pa &&& pb ≠ 0
  | .bclr => pa &&& pb = 0

/-- Compare for floating operands, with their patterns (R45). -/
def cmpFloat (cc : Cc) (x y : Val) (pa pb : Nat) : Bool :=
  let un := x.isNan || y.isNan
  match cc with
  | .eq => !un && x.eq y
  | .ne => un || !x.eq y
  | .lt => !un && x.lt y
  | .le => !un && !y.lt x
  | .gt => !un && y.lt x
  | .ge => !un && !x.lt y
  | .ltu => un || x.lt y
  | .leu => un || !y.lt x
  | .gtu => un || y.lt x
  | .geu => un || !x.lt y
  | .un => un
  | .ord => !un
  | .t => true
  | .f => false
  | .bset => pa &&& pb ≠ 0
  | .bclr => pa &&& pb = 0

/-- The integer that lt to ge compare for a type (R45, R128). -/
def intVal (ty x : Nat) : Int := if tySigned ty then signedOf (tyWidth ty) x else (x % 2 ^ tyWidth ty : Nat)

/-- Compare(cc, a, b) of one element of any type (R45, R131, R137). -/
def compareElem (v : Env) (cc : Cc) (ty a b : Nat) : Bool :=
  if tyInt ty then cmpInt cc (intVal ty a) (intVal ty b) a b
  else cmpFloat cc (decodeElem v ty a) (decodeElem v ty b) a b

/-- Compare of uniform operands: signed for lt to ge, unsigned for ltu to geu (R90). -/
def compareUni (cc : Cc) (a b : W64) : Bool := cmpInt cc a.toInt b.toInt a.toNat b.toNat

/-- NV that a floating compare raises (R137). -/
def cmpFlags (cc : Cc) (x y : Val) : Flags :=
  let strict := match cc with
    | .lt | .le | .gt | .ge => true
    | _ => false
  flagIf (x.isSnan || y.isSnan || (strict && (x.isNan || y.isNan))) fNV

/-- The cause that an element's flags trap with under FX: NV before DZ before OF (R122). -/
def trapCause (f : Flags) : Option Nat :=
  if f.getLsbD 0 then some 0x20 else if f.getLsbD 1 then some 0x21 else if f.getLsbD 2 then some 0x22 else none

/-- The first failing check of a lane, elements ascending (R122). -/
def laneTrap (fs : List Flags) : Option Nat := fs.findSome? trapCause

/-- The trap of a word under FX: the lowest failing lane decides, and the record names the lanes whose first failing
check gives the same cause (R30, R122, R143). -/
def fpTrap (fx : Bool) (rs : List (Nat × List Flags)) : Option Flt :=
  if !fx then none
  else match rs.findSome? (fun r => laneTrap r.2) with
    | none => none
    | some cause =>
      some { cause := cause, lanes := maskOf ((rs.filter fun r => laneTrap r.2 = some cause).map (·.1)) }

/-- The flags of a word joined to the group's sticky flags (R122). -/
def Group.setFp (g : Group) (rs : List (Nat × List Flags)) : Group :=
  { g with fp := rs.foldl (fun f r => r.2.foldl (· ||| ·) f) g.fp }

/-- One lane's result: the value of its destination operand and its elements' flags. -/
structure LaneRes where
  lane : Nat
  val : Nat
  flags : List Flags
  deriving DecidableEq, Repr

/-- A word's lane results written to a destination operand, unless they trap (R108, R122). -/
def Ctx.laneWrite (c : Ctx) (ty d : Nat) (rs : List LaneRes) : Except Flt Group :=
  let fs := rs.map fun r => (r.lane, r.flags)
  match fpTrap (modeFX c.mode) fs with
  | some f => .error f
  | none => .ok ((rs.foldl (fun g r => g.writeOp ty r.lane d r.val) c.grp).setFp fs)

/-- A word's lane results written to a predicate, unless they trap (R131, R137). -/
def Ctx.predWrite (c : Ctx) (pd : Nat) (rs : List LaneRes) : Except Flt Group :=
  let fs := rs.map fun r => (r.lane, r.flags)
  match fpTrap (modeFX c.mode) fs with
  | some f => .error f
  | none =>
    .ok ((c.grp.writePs pd c.active (maskOf ((rs.filter fun r => r.val = 1).map (·.lane)))).setFp fs)

end Sys2Proof.Machine
end

