-- ==== Sys2Proof/Machine/Access.lean ====
section
/-!
DEFINITION. What every access to memory shares: range locks (R165, R166), the checks of stage 5 (R144 to R149, R166, R169,
R172, R184), the binding of loads (R159, R160), operations in flight (R50), deferred causes (R33, R171), transactional
logs (R202), and writes at the home bank with the monitors that watch them (R157, R194).
-/
namespace Sys2Proof.Machine

/-- A number that no other operation has. -/
def State.fresh (s : State) : Nat × State := (s.nextId, { s with nextId := s.nextId + 1 })

/-! ## Range locks -/

/-- The first byte that an access of `n` bytes shares with an interval. -/
def Interval.hit (v : Interval) (spad : Bool) (lo n : Nat) : Option Nat :=
  if v.spad = spad ∧ lo < v.lo + v.len ∧ v.lo < lo + n then some (max lo v.lo) else none

/-- The lower of two first bytes. -/
def minHit : Option Nat → Option Nat → Option Nat
  | some a, some b => some (min a b)
  | some a, none => some a
  | none, b => b

/-- The first byte at which an access conflicts with an entry (R166). -/
def RangeLock.hit (e : RangeLock) (spad : Bool) (owner lo n : Nat) (write : Bool) : Option Nat :=
  if (if spad then e.team else e.fen) ≠ owner then none
  else minHit (e.dst.bind fun v => v.hit spad lo n) (if write then e.src.bind fun v => v.hit spad lo n else none)

/-- The first byte at which an access conflicts with a core's range-lock table (R166). The owner of a global address is
a fen, and that of a scratchpad offset a team. -/
def Core.lockHit (k : Core) (spad : Bool) (owner lo n : Nat) (write : Bool) : Option Nat :=
  k.locks.foldl (fun h e => minHit h (e.hit spad owner lo n write)) none

/-- An entry released at its operation's completion (R165). -/
def State.unlock (s : State) (core id : Nat) : State :=
  s.modCore core fun k => { k with locks := k.locks.filter fun e => e.id ≠ id }

/-! ## Stage 5 -/

/-- What a word needs of each address. -/
structure Rule where
  op : Nat
  bytes : Nat
  /-- permissions (R149) -/
  r : Bool
  w : Bool
  /-- KIND of a fault record (R32) -/
  kind : Nat
  /-- is it a load or store that a transaction can log or must abort (R201)? -/
  tx : Bool := false
  deriving DecidableEq, Repr

/-- Which words a region allows (R172, R286, R308, R340). -/
def regionOk (op region fen : Nat) : Bool :=
  if region ≤ 1 then true
  else if op = 0x128 ∨ op = 0x12A ∨ op = 0x12B then true
  else if region = 15 then
    fen = 0 && (op = 0x102 || op = 0x103 || op = 0x10A || op = 0x10B || op = 0x120 || op = 0x121 || op = 0x035 || op = 0x036)
  else within 0x100 0x104 op || within 0x108 0x10C op || op = 0x120 || op = 0x121 || op = 0x124 || op = 0x125
    || op = 0x035 || op = 0x036

/-- The result of one lane's address checks. -/
inductive LaneChk where
  | ok (x : Xlate)
  /-- a cause, its address, and the failing physical address of a machine check -/
  | bad (cause addr : Nat) (mc : Option Nat)
  /-- cause 8 of R201 -/
  | unsup
  deriving DecidableEq, Repr

/-- Does a translation give the permissions that a word needs (R149)? -/
def Rule.permits (r : Rule) (x : Xlate) : Bool := (!r.r || x.r) && (!r.w || x.w)

/-- The checks of one address in the order of R184; `opened` says that the lane's transaction is open. -/
def State.chk (s : State) (c : Ctx) (r : Rule) (opened : Bool) (va : Nat) : LaneChk :=
  if !canonical va then .bad 0x44 va none
  else if va % r.bytes ≠ 0 then .bad 0x42 va none
  else match s.xlate c.team.core c.grp.port c.fen va with
  | .error e => .bad e.code va e.mcpa
  | .ok x =>
    if !r.permits x then .bad 0x41 va none
    else if opened && r.tx && 2 ≤ regionOf x.pa then .unsup
    else if !regionOk r.op (regionOf x.pa) c.fen then .bad 0x49 va none
    else match (s.core c.team.core).lockHit false c.fen (va % 2 ^ 57) r.bytes r.w with
    | some a => if r.op = 0x12A ∨ r.op = 0x12B ∨ flagB r.op then .ok x else .bad 0x45 a none
    | none => .ok x

/-- The fault that the failing lanes give: that of the lowest, naming every lane with the same cause (R30). -/
def faultOf (kind : Nat) (bads : List (Nat × Nat × Nat × Option Nat)) : Option Flt :=
  match bads with
  | [] => none
  | (_, cause, addr, mc) :: _ =>
    some { cause := cause, lanes := maskOf ((bads.filter fun b => b.2.1 = cause).map (·.1)), addr := addr, kind := kind
           mcpa := mc }

/-- ACC of a page request (R293). -/
def Rule.acc (r : Rule) : Nat := if r.r && r.w then 3 else if r.w then 2 else 1

/-- A lane whose address check failed, or whose access cannot be made, inside its open transaction (R34, R201); a machine
check of the walk is logged (R37). -/
def State.txFail (s : State) (c : Ctx) (r : Rule) (l : Nat) : LaneChk → State
  | .ok _ => s
  | .unsup => s.modGroup c.ti c.gi fun g => g.abortLane 8 0 l
  | .bad cause addr mc =>
    let s := match mc with
      | some pa => s.logMem cause pa false
      | none => s
    let s := s.modGroup c.ti c.gi fun g => g.abortLane 5 cause l
    if cause = 0x40 then s.prqPost 3 r.acc c.fen addr else s

/-- Checks that lanes have passed or failed: the failures of open lanes abort them, the others give one fault; without
one, the lanes that go on. DESIGN CHOICE (log entry 133): so it is for every word that checks lanes, scratchpad words, `flush` and
`inv` too (R34, R215). -/
def State.settleLanes (s : State) (c : Ctx) (r : Rule) (rs : List (Nat × Nat × LaneChk)) :
    Except (Flt × State) (State × List (Nat × Nat × Xlate)) :=
  let opened (l : Nat) := (c.grp.txLane l).state = .opened
  let s1 := rs.foldl (fun s x => if opened x.1 then s.txFail c r x.1 x.2.2 else s) s
  let bads := rs.filterMap fun x => match x.2.2 with
    | .bad cause addr mc => if opened x.1 then none else some (x.1, cause, addr, mc)
    | _ => none
  match faultOf r.kind bads with
  | some f => .error (f, s1.logBeside f.check (bads.filterMap fun b => b.2.2.2.map fun pa => (b.2.1, pa)))
  | none => .ok (s1, rs.filterMap fun x => match x.2.2 with
    | .ok t => some (x.1, x.2.1, t)
    | _ => none)

/-- Stage 5 for every lane of a word, given with its address (R30, R34, R168). -/
def State.checkLanes (s : State) (c : Ctx) (r : Rule) (ads : List (Nat × Nat)) :
    Except (Flt × State) (State × List (Nat × Nat × Xlate)) :=
  s.settleLanes c r (ads.map fun a => (a.1, a.2, s.chk c r (decide ((c.grp.txLane a.1).state = .opened)) a.2))

/-- The context after its group has changed. -/
def Ctx.refresh (c : Ctx) (s : State) : Ctx := { c with grp := s.group c.ti c.gi }

/-! ## Binding loads -/

/-- Is an entry an atomic? -/
def StoreEnt.isAtomic (e : StoreEnt) : Bool :=
  match e.kind with
  | .atomic .. => true
  | _ => false

/-- The byte that an entry stores at an address, with the bits written. -/
def StoreEnt.at_ (e : StoreEnt) (pa : Nat) : Option (Byte × Byte) :=
  e.pieces.findSome? fun x => if x.1 ≤ pa then x.2[pa - x.1]? else none

/-- Does an entry touch one of `n` bytes? -/
def StoreEnt.touches (e : StoreEnt) (pa n : Nat) : Bool := e.pieces.any fun x => x.1 < pa + n && pa < x.1 + x.2.length

/-- The bits of a byte found in stores, youngest first: the bits still missing and those found; `none` when the load
must wait for an atomic, or for a store made under another FENID (R159, R192). -/
def takeByte (fen pa : Nat) : List StoreEnt → Byte → Byte → Option (Byte × Byte)
  | [], rem, acc => some (rem, acc)
  | e :: es, rem, acc =>
    if rem = 0 then some (rem, acc)
    else match e.at_ pa with
    | none => takeByte fen pa es rem acc
    | some (b, m) =>
      if e.isAtomic ∨ e.fen ≠ fen then none
      else takeByte fen pa es (rem &&& ~~~m) (acc ||| (b &&& m &&& rem))

/-- The stores that a load of the group can take bytes from, youngest first (R159). -/
def State.storesSeen (s : State) (c : Ctx) : List StoreEnt :=
  c.grp.sq.reverse ++ (s.core c.team.core).cso.reverse

/-- Does a load of the group to these bytes wait for an atomic of the group that is not applied (R192)? -/
def State.atomicOn (s : State) (c : Ctx) (pa n : Nat) : Bool :=
  (s.storesSeen c).any fun e => e.isAtomic && e.team = c.ti && e.group = c.gi && e.touches pa n

/-- Sets of the L1 under a split (R154). -/
def l1Sets (split : BitVec 2) : Nat := if split = 0 then 32 else if split = 1 then 64 else if split = 2 then 128 else 192

/-- Ways of the L1 that loads under a FENID may fill (R334). System cores have no fen slots, and fill all 16. -/
def Core.l1Ways (k : Core) (core fen : Nat) : Nat :=
  if isSysCore core then 16
  else (k.slots.map fun x => if x.2.fen = fen then (lanesOf (x.2.l1.setWidth 32)).length else 0).foldl (· + ·) 0

/-- The 128-byte line of a sector. -/
def L1Ent.line (e : L1Ent) : Nat := e.sector / 4

/-- A sector put into the L1, newest first: in its set a fen holds no more lines than it has ways, and the line that it
filled longest ago leaves (R154, R334, log entry 31). -/
def Core.l1Put (k : Core) (ways : Nat) (e : L1Ent) : Core :=
  let rest := k.l1.filter fun x => x.fen ≠ e.fen ∨ x.sector ≠ e.sector
  let rival (x : L1Ent) : Bool := x.fen = e.fen ∧ x.line ≠ e.line ∧ x.line % l1Sets k.splitCur = e.line % l1Sets k.splitCur
  let kept := (((rest.filter rival).map L1Ent.line).eraseDups).take (ways - 1)
  { k with l1 := e :: rest.filter fun x => !rival x || kept.contains x.line }

/-- An L1 sector that a load of the group may use (R156, R160). -/
def Core.l1Hit (k : Core) (fen sec floor : Nat) : Option L1Ent :=
  k.l1.find? fun e => e.fen = fen ∧ e.sector = sec ∧ floor ≤ e.stamp

/-- The bytes of an L1 sector as its fen reads them now (R27, R350). -/
def State.l1Bytes (s : State) (e : L1Ent) : List Byte :=
  if e.key = s.keyOf e.fen then e.bytes else Crypto.recrypt e.key (s.keyOf e.fen) (e.sector * 32) e.bytes

/-- A core's L1 sectors that a store touches are dropped, under every FENID (R156). -/
def State.dropL1 (s : State) (core pa n : Nat) : State :=
  s.modCore core fun k => { k with l1 := k.l1.filter fun e => !touches e.sector pa n }

/-- What a core's L1 holds of some bytes under a FENID leaves, after a read of them past it: it may be older (R157). Sectors of other
fens stay (R334). -/
def State.dropOwn (s : State) (core fen pa n : Nat) : State :=
  s.modCore core fun k => { k with l1 := k.l1.filter fun e => e.fen ≠ fen ∨ !touches e.sector pa n }

/-- A sector read at its home bank fills the L1 (R156), in place of what the core held of it under that FENID. -/
def State.fillL1 (s : State) (core fen sec : Nat) (bs : List Byte) : State :=
  let ways := (s.core core).l1Ways core fen
  let s := s.dropOwn core fen (sec * 32) 32
  if ways = 0 then s
  else
    let (id, s) := s.fresh
    s.modCore core fun k => k.l1Put ways { fen := fen, sector := sec, key := s.keyOf fen, bytes := bs, stamp := id }

/-- What a load binds: it must wait, its line cannot be read, or its bytes. -/
inductive Bound where
  | stall
  | err (e : LineErr) (pa : Nat)
  | val (bs : List Byte)
  deriving DecidableEq, Repr

/-- Bytes of a sector under the bits taken from stores. -/
def overlay (under : List Byte) (off : Nat) (taken : List (Byte × Byte)) : List Byte :=
  taken.zipIdx.map fun x => mergeByte x.1.2 (under.getD (off + x.2) 0) x.1.1

/-- The value of `n` bytes within one sector: from the group's own queue, the core store order, the L1 when `l1` says so and no
`txe` of the group is unobserved (R214), or the home bank (R159); `fill` says whether a read at the home bank fills the L1.
After a read past the L1 the core holds no older sector that a later load of the group could bind (R157). -/
def State.bind (s : State) (c : Ctx) (l1 fill : Bool) (pa n : Nat) : Bound × State :=
  let core := c.team.core
  if s.atomicOn c pa n then (.stall, s) else
  match (List.range n).mapM fun i => takeByte c.fen (pa + i) (s.storesSeen c) 0xFF 0 with
  | none => (.stall, s)
  | some taken =>
    let sec := pa / 32
    if taken.all (fun x => x.1 = 0) then (.val (taken.map (·.2)), s)
    else match (if l1 && c.grp.txeFlags = 0 then (s.core core).l1Hit c.fen sec c.grp.floor else none) with
    | some e => (.val (overlay (s.l1Bytes e) (pa % 32) taken), s)
    | none =>
      match s.lineErr c.fen (pa / 64) with
      | some e => (.err e pa, s)
      | none =>
        let bs := s.readSector c.fen sec
        (.val (overlay bs (pa % 32) taken), if fill then s.fillL1 core c.fen sec bs else s.dropOwn core c.fen pa n)

/-- A group that bears another FENID from now on uses no L1 sector filled before: what it has bound meanwhile, or before it entered a
call gate, may be newer (R157, R334, log entry 130). -/
def State.crossGate (s : State) (ti gi : Nat) : State := s.modGroup ti gi fun g => { g with floor := s.nextId }

/-- An acquire of scope `k` by a group (R160, R161). -/
def State.raiseFloor (s : State) (ti gi : Nat) : State := s.modGroup ti gi fun g => g.acquire s.nextId

/-- The latest floor of any group on the package, teams that have retired from this core included. -/
def State.topFloor (s : State) (core : Nat) : Nat :=
  s.teams.foldl (fun n t => t.2.groups.foldl (fun n g => max n g.2.floor) n) (s.core core).l1Floor

/-- An acquire of scope `t` (R161): happens-before is transitive, so that the group takes the floor of every group whose release
it can have observed, and its later releases follow what its core's store order holds now. -/
def State.joinFloor (s : State) (ti gi : Nat) : State :=
  s.modGroup ti gi fun g => { g with floor := max g.floor (s.topFloor (s.team ti).core), joined := s.nextId }

/-! ## Operations in flight -/

/-- A register write delivered (R50). -/
def Group.deliver (g : Group) : RegW → Group
  | .v l n x => g.writeV l n x
  | .s n x => g.writeS n x
  | .p l n b => g.writeP l n b

/-- An operation with nothing left to deliver. -/
def Pending.done (p : Pending) : Bool := p.writes.isEmpty && p.waiting = 0 && p.devs = []

/-- A new operation of a clause flag. -/
def Pending.new (id flag : Nat) : Pending :=
  { id := id, flag := flag, writes := [], waiting := 0, fp := 0, bad := none, isPark := false, devs := []
    acq := false, dead := false }

/-- A write of an operation in flight that goes to a lane of a mask, or to a uniform register. -/
def RegW.inLanes (m : W32) : RegW → Bool
  | .v l _ _ => m.getLsbD l
  | .s _ _ => true
  | .p l _ _ => m.getLsbD l

/-- The same write of all ones. -/
def RegW.ones : RegW → RegW
  | .v l n _ => .v l n (BitVec.allOnes 32)
  | .s n _ => .s n (BitVec.allOnes 64)
  | .p l n _ => .p l n true

/-- A failure of further lanes of an operation joined to its deferred cause: the lanes that failed with that cause, and the
address of the lowest (R33). -/
def Deferred.join (bad : Option Deferred) (d : Deferred) : Option Deferred :=
  match bad with
  | none => some d
  | some a =>
    some (if a.cause = d.cause then
      { a with lanes := a.lanes ||| d.lanes, addr := if lowLane d.lanes < lowLane a.lanes then d.addr else a.addr }
    else a)

/-- Reads of devices that an operation waits for end as device aborts (R171, R386): those that a test picks, each given by its
lane, its port and its address. -/
def Pending.abort (p : Pending) (which : Nat × Nat × Nat → Bool) : Pending :=
  match p.devs.filter which with
  | [] => p
  | (l, port, va) :: rest =>
    let m := maskOf (((l, port, va) :: rest).map (·.1))
    { p with
      devs := p.devs.filter fun d => !which d
      writes := p.writes.map fun w => if w.inLanes m then w.ones else w
      bad := Deferred.join p.bad {
        at_ := .flag p.flag, cause := 0x4A, kind := 1, addr := va % 2 ^ 57, pa := 0, op := 0
        lanes := if p.writes.any (fun w => match w with
          | .s _ _ => true
          | _ => false) then BitVec.allOnes 32 else m } }

/-- An operation in flight changed. -/
def Group.modPend (g : Group) (id : Nat) (f : Pending → Pending) : Group :=
  { g with pend := g.pend.map fun p => if p.id = id then f p else p }

/-- A failure joins the list in completion order; the lanes of one store word that fail with one cause make one (R33,
R171). -/
def Deferred.joinTo (d : Deferred) : List Deferred → List Deferred
  | [] => [d]
  | e :: es =>
    if d.op ≠ 0 ∧ e.op = d.op then
      (if e.cause = d.cause then
        { e with lanes := e.lanes ||| d.lanes, addr := if lowLane d.lanes < lowLane e.lanes then d.addr else e.addr }
      else e) :: es
    else e :: d.joinTo es

/-- A deferred cause (R33): kept for its header or its fence, or carried to the grid when the group has ended. -/
def State.defer (s : State) (ti gi : Nat) (d : Deferred) : State :=
  match s.teams.find ti with
  | none => s
  | some t =>
    if (t.group gi).ended then s.endGrid ti d.cause 0 true
    else s.modGroup ti gi fun g => { g with deferred := d.joinTo g.deferred }

/-- A machine check that affects a team outside any word of it (R37): logged, and delivered under the team's policy,
resident or not, at the group's lowest entry, or the team's; of a team whose groups have all ended it is carried to the
grid. -/
def State.machineCheck (s : State) (ti gi : Nat) (d : Deferred) : State :=
  match s.teams.find ti with
  | none => s.logMem d.cause d.pa false
  | some t =>
    match (((t.group gi).entries.head?.map fun e => (gi, e.1)).orElse fun _ => t.lowest) with
    | some (gi, ei) =>
      s.takeFault ti gi ei { cause := d.cause, lanes := d.lanes, addr := d.addr, kind := d.kind, mcpa := some d.pa }
    | none => (s.logMem d.cause d.pa false).defer ti gi d

/-- A failure found after its word has retired (R37, R171). -/
def State.failLate (s : State) (ti gi : Nat) (d : Deferred) : State :=
  if isMc d.cause then s.machineCheck ti gi d else s.defer ti gi d

/-- The end of an operation in flight: its flags join the group's, its clause flag falls, a park unblocks its group, but for
one that an aborted gate left (R349), and its failure is delivered (R48, R171, R193). -/
def State.finish (s : State) (ti gi : Nat) (p : Pending) : State :=
  let s := s.modGroup? ti gi fun g =>
    let g := { g.flagDown p.flag with fp := g.fp ||| p.fp, pend := g.pend.filter fun q => q.id ≠ p.id }
    if p.isPark && !p.dead then { g with block := none } else g
  match p.bad with
  | some d => s.failLate ti gi d
  | none => s

/-- An operation ends if nothing is left of it. -/
def State.finishIf (s : State) (ti gi id : Nat) : State :=
  match (s.group ti gi).pend.find? fun p => p.id = id with
  | some p => if p.done then s.finish ti gi p else s
  | none => s

/-- An operation in flight starts: its clause flag counts it (R48). -/
def State.begin (s : State) (ti gi : Nat) (p : Pending) : State :=
  s.modGroup ti gi fun g => { g.flagUp p.flag with pend := g.pend ++ [p] }

/-- A value for a lane's registers from `d` on, `vz` receiving nothing. -/
def laneWrites (l d regs : Nat) (x : Nat) : List RegW :=
  if d = 127 then [] else (List.range regs).map fun i => .v l (d + i) (BitVec.ofNat 32 (x / 2 ^ (32 * i)))

/-- The deferred cause of an operation whose lanes failed: that of the lowest lane (R33). -/
def deferOf (at_ : DeferAt) (kind : Nat) (bads : List (Nat × Nat × Nat × Nat)) : Option Deferred :=
  match bads with
  | [] => none
  | (_, cause, addr, pa) :: _ =>
    some { at_ := at_, cause := cause, kind := kind, addr := addr % 2 ^ 57, pa := pa, op := 0
           lanes := maskOf ((bads.filter fun b => b.2.1 = cause).map (·.1)) }

/-- The machine checks of failed lanes beside the cause that is deferred are logged (R37, R385). -/
def State.logLanes (s : State) (bads : List (Nat × Nat × Nat × Nat)) : State :=
  s.logBeside ((bads.take 1).map fun b => (b.2.1, b.2.2.2)) (bads.map fun b => (b.2.1, b.2.2.2))

/-- A deferred cause of an asynchronous operation (R33). -/
def asyncFault (flag cause va : Nat) (pa : Option Nat) (lanes : W32) : Deferred :=
  { at_ := .flag flag, cause := cause, kind := 5, lanes := lanes, addr := va % 2 ^ 57, pa := pa.getD 0, op := 0 }

/-! ## Transactional accesses -/

/-- The sectors that an access touches. -/
def sectorsOf (pa n : Nat) : List Nat := (List.range ((pa % 32 + n + 31) / 32)).map (pa / 32 + ·)

/-- A logged sector. -/
def logFind (es : List LogEnt) (sec : Nat) : Option LogEnt := es.find? fun e => e.sector = sec

/-- Must a transactional read wait: for the group's stores to its sectors (R202), and for those in the core store order, which an
earlier load of the group may have taken (R157, R159)? -/
def State.txWaits (s : State) (c : Ctx) (pa n : Nat) : Bool :=
  let hit (e : StoreEnt) := (sectorsOf pa n).any fun x => e.touches (x * 32) 32
  c.grp.sq.any hit
    || c.grp.scq.any (fun r => (r.data.isSome || r.atom.isSome) && (sectorsOf pa n).any fun x => touches x r.pa r.len)
    || (s.core c.team.core).cso.any hit

/-- The read log of a lane with a sector added: an abort cause and detail when that fails (R202, R34). -/
def State.txLog (s : State) (c : Ctx) (x : TxLane) (sec : Nat) : Except (Nat × Nat) TxLane :=
  match logFind x.reads sec with
  | some _ => .ok x
  | none =>
    if 8 ≤ x.reads.length then .error (2, 0)
    else match s.lineErr c.fen (sec / 2) with
    | some e => .error (5, e.code)
    | none => .ok { x with reads := x.reads ++ [{ sector := sec, bytes := s.readSector c.fen sec, mask := [] }] }

/-- The bits stored of a byte of an entry, with their values. -/
def LogEnt.bits (e : LogEnt) (pa : Nat) : Byte × Byte := (e.bytes.getD (pa % 32) 0, e.mask.getD (pa % 32) 0)

/-- A byte as a lane's transaction sees it: the bits that it has stored, in place of those that it has logged. -/
def TxLane.byte (x : TxLane) (pa : Nat) : Byte :=
  let old := ((logFind x.reads (pa / 32)).map fun r => r.bytes.getD (pa % 32) 0).getD 0
  match logFind x.writes (pa / 32) with
  | some e => mergeByte old (e.bits pa).1 (e.bits pa).2
  | .none => old

/-- A transactional load of `n` bytes (R202): the lane's logs and the bytes, or an abort cause and detail. -/
def State.txRead (s : State) (c : Ctx) (x : TxLane) (pa n : Nat) : Except (Nat × Nat) (TxLane × List Byte) := do
  let x ← (sectorsOf pa n).foldlM (fun x sec => s.txLog c x sec) x
  pure (x, (List.range n).map fun i => x.byte (pa + i))

/-- Bits of one byte stored into a lane's write entry for its sector (R202). -/
def LogEnt.put (e : LogEnt) (pa : Nat) (b m : Byte) : LogEnt :=
  { e with
    bytes := e.bytes.set (pa % 32) (mergeByte (e.bits pa).1 b m)
    mask := e.mask.set (pa % 32) ((e.bits pa).2 ||| m) }

/-- One byte stored in a transaction (R202): the bits of its mask and no others (R173). -/
def TxLane.storeByte (x : TxLane) (pa : Nat) (b m : Byte) : Except (Nat × Nat) TxLane :=
  match logFind x.writes (pa / 32) with
  | some _ => .ok { x with writes := x.writes.map fun e => if e.sector = pa / 32 then e.put pa b m else e }
  | .none =>
    if 4 ≤ x.writes.length then .error (3, 0)
    else
      let blank : LogEnt := { sector := pa / 32, bytes := List.replicate 32 0, mask := List.replicate 32 0 }
      .ok { x with writes := x.writes ++ [blank.put pa b m] }

/-- A transactional store (R202): the lane's logs, or an abort cause and detail. -/
def TxLane.store (x : TxLane) (pa : Nat) (bs : List (Byte × Byte)) : Except (Nat × Nat) TxLane :=
  bs.zipIdx.foldlM (fun x b => if b.1.2 = 0 then pure x else x.storeByte (pa + b.2) b.1.1 b.1.2) x

/-! ## Writes at the home bank -/

/-- Results of monitored lanes reach their park (R193, R196): the park ends when every lane has one. -/
def State.parkResult (s : State) (ti gi id pd : Nat) (lanes : W32) (ok : Bool) : State :=
  let s := s.modGroup? ti gi fun g => g.modPend id fun p =>
    { p with writes := p.writes ++ (lanesOf lanes).map (fun l => .p l pd ok), waiting := p.waiting - (lanesOf lanes).length }
  match (s.group ti gi).pend.find? fun p => p.id = id with
  | some p =>
    if p.waiting = 0 then
      let s := s.modGroup? ti gi fun g => if p.dead then g else p.writes.foldl Group.deliver g
      s.finish ti gi { p with writes := [] }
    else s
  | none => s

/-- Without codebook and mode: what the home bank compares with. -/
def bankEnv : Env := { rm := 0, sat := false, ftz := false, cb := [] }

/-- Does a monitored word compare true (R193, R194)? -/
def State.monitorTrue (s : State) (m : Monitor) : Bool :=
  compareElem bankEnv m.cc m.ty (s.readNat m.fen m.pa (tyWidth m.ty / 8)) m.b.toNat

/-- A result of 1 is an acquire of scope `k` (R197). -/
def State.monitorFire (s : State) (m : Monitor) : State :=
  let s := { s with mem := { s.mem with monitors := s.mem.monitors.erase m } }
  let s := s.modGroup? m.team m.group fun g => g.acquire s.nextId
  s.parkResult m.team m.group m.pend m.pd m.lanes true

/-- After a write to `n` bytes, every monitor on them that compares true is satisfied (R194). -/
def State.satisfy (s : State) (pa n : Nat) : State :=
  let hits := s.mem.monitors.filter fun m => m.pa < pa + n ∧ pa < m.pa + tyWidth m.ty / 8
  hits.foldl (fun s m => if s.monitorTrue m then s.monitorFire m else s) s

/-- A write applied at its home bank (R157, R194). -/
def State.applyWrite (s : State) (fen pa : Nat) (bs : List (Byte × Byte)) : State :=
  (s.writeMasked fen pa bs).satisfy pa bs.length

/-- A core's L1 sectors that an entry touches are dropped (R156). -/
def State.dropEntry (s : State) (core : Nat) (e : StoreEnt) : State :=
  e.pieces.foldl (fun s x => s.dropL1 core x.1 x.2.length) s

/-- A region 0x1 line written by an access of a group of some moment, or by a copy of the team, is not yet at its expander
(R160). -/
def State.markThrough (s : State) (ti : Nat) (gi : Option Nat) (moment pa : Nat) : State :=
  let mine (x : Through) : Bool := x.team = ti && x.group = gi && x.line = pa / 128
  if regionOf pa ≠ 1 then s
  else
    { s with mem := { s.mem with
      through :=
        if s.mem.through.any mine then
          s.mem.through.map fun x => if mine x then { x with at_ := min x.at_ moment } else x
        else s.mem.through ++ [{ team := ti, group := gi, line := pa / 128, at_ := moment, started := false }] } }

/-- Is a line one that a fence of scope `y` of the group waits for (R160)? -/
def Through.awaitedBy (x : Through) (ti gi : Nat) : Bool := x.team = ti && (x.group = some gi || x.group = none)

/-- Every piece of an entry's region 0x1 lines marked (R160). -/
def State.markEntry (s : State) (e : StoreEnt) : State :=
  e.pieces.foldl (fun s x =>
    (s.markThrough e.team (some e.group) e.word x.1).markThrough e.team (some e.group) e.word (x.1 + x.2.length - 1)) s

end Sys2Proof.Machine
end

