-- ==== Sys2Proof/Machine/Device.lean ====
section
/-!
DEFINITION. Which port or window takes an access to a device or a peer (R304, R306, R393), and the record of accesses
that leave the part.
-/
namespace Sys2Proof.Machine

/-- A port. -/
def State.port (s : State) (p : Nat) : Port := s.reed.ports.get Port.cold p

/-- A port changed. -/
def State.modPort (s : State) (p : Nat) (f : Port → Port) : State :=
  { s with reed := { s.reed with ports := SMap.put Port.cold s.reed.ports p (f (s.port p)) } }

/-- Is a port in the root-port or CXL role (R280)? -/
def Port.bridges (p : Port) : Bool := p.inForce = 1 || p.inForce = 2

/-- The bus address of a region 0x2 address (R393). -/
def busOf (pa : Nat) : Nat := pa % 2 ^ 48

/-- The port whose bridge memory windows, or the upstream port whose window, contain a bus address (R382, R393). -/
def State.claimPort (s : State) (pa : Nat) : Option Nat :=
  (List.range 40).find? fun p =>
    let x := s.port p
    (x.bridges || x.inForce = 4) && x.windows.any fun w => w.1 ≤ busOf pa && busOf pa ≤ w.2

/-- An NTB window descriptor's fields (R304). -/
structure Window where
  v : Bool
  incoming : Bool
  port : Nat
  fen : Nat
  log2 : Nat
  win : Nat
  loc : Nat
  rem : Nat
  deriving DecidableEq, Repr

/-- The fields of a descriptor (R304). -/
def windowOf (x : Nat) : Window :=
  { v := bitOf x 0, incoming := bitOf x 1, port := bitsOf x 2 6, fen := bitsOf x 8 8, log2 := bitsOf x 16 6
    win := bitsOf x 32 8, loc := bitsOf x 64 57, rem := bitsOf x 128 64 }

/-- A window in force. -/
def State.window (s : State) (w : Nat) : Window := windowOf (s.reed.ntbw.get 0 w).toNat

/-- The outgoing window that takes a region 0x3 access of a fen (R306). -/
def State.outWindow (s : State) (fen pa : Nat) : Option Window :=
  (s.reed.ntbw.keys.map s.window).find? fun w =>
    w.v && !w.incoming && w.fen = fen && w.loc ≤ pa && pa < w.loc + 2 ^ w.log2

/-- The port that takes an access to region 0x2 or 0x3, if one does. -/
def State.takes (s : State) (fen pa : Nat) : Option Nat :=
  if regionOf pa = 2 then s.claimPort pa else (s.outWindow fen pa).map (·.port)

/-- Does an access reach what lies below its port? -/
def State.reaches (s : State) (fen pa : Nat) : Bool :=
  match s.takes fen pa with
  | some p => (s.port p).up && !(s.port p).removed
  | none => false

/-- An access that leaves the part. -/
def State.sendOut (s : State) (pa : Nat) (write : Bool) (bs : List Byte) : State :=
  { s with reed := { s.reed with devices := { pa := pa, write := write, bytes := bs } :: s.reed.devices } }

end Sys2Proof.Machine
end

