-- ==== Sys2Proof/Machine/ReedRegs.lean ====
section
/-!
DEFINITION. Reed's registers (R279 to R282, R286, R289, R292, R296, R301) and what writing them does: training and
bifurcation of ports, loading and retiring of queue handles, and remap entries.
-/
namespace Sys2Proof.Machine

/-- A register after a write of the bits of `m`, of which the fields `rw` can be written (R7). -/
def mergeReg (cur v m rw : W64) : W64 := (cur &&& ~~~(m &&& rw)) ||| (v &&& m &&& rw)

/-- Bits `lo` to `lo + n - 1`. -/
def fieldMask (lo n : Nat) : W64 := BitVec.ofNat 64 ((2 ^ n - 1) * 2 ^ lo)

/-- A field of a 64-bit word. -/
def fld (x : W64) (lo n : Nat) : Nat := bitsOf x.toNat lo n

/-! ## Ports -/

/-- BIF of a group of lanes (R281). -/
def State.splitOf (s : State) (g : Nat) : Nat := s.reed.grp.get 0 g

/-- Does the bifurcation of its group provide a port (R279)? -/
def State.portExists (s : State) (p : Nat) : Bool :=
  p < 40 && match s.splitOf (p / 4) with
    | 0 => p % 4 = 0
    | 1 => p % 4 < 2
    | _ => true

/-- The die that holds a port (R279). -/
def dieOfPort (p : Nat) : Nat :=
  let g := p / 4
  if g ≤ 2 then 0 else if g ≤ 4 then 1 else if g ≤ 6 then 2 else 3

/-- The WIDTH code of a port's lanes (R279, R282). -/
def State.portLanes (s : State) (p : Nat) : Nat := 5 - s.splitOf (p / 4)

/-- A port whose link is down. -/
def Port.linkDown (x : Port) : Port := { x with rate := 0, width := 0, flit := false, up := false }

/-- IOX_PORTp (R282). -/
def State.portReg (s : State) (p : Nat) : W64 :=
  let x := s.port p
  BitVec.ofNat 64 (x.role + x.maxrate * 2 ^ 3 + b2n x.ide * 2 ^ 6 + x.deffen * 2 ^ 8 + b2n x.cfgerr * 2 ^ 17 + x.rate * 2 ^ 18
    + x.width * 2 ^ 21 + b2n x.flit * 2 ^ 24 + b2n x.up * 2 ^ 25)

/-- Does a training request break a limit of R280? -/
def State.trainBad (s : State) (p role : Nat) : Bool :=
  let others (r : Nat) := ((List.range 40).filter fun q => q ≠ p ∧ s.portExists q ∧ (s.port q).inForce = r).length
  5 ≤ role || (role = 3 && (s.portLanes p ≠ 5 || 4 ≤ others 3)) || (role = 4 && 1 ≤ others 4)

/-- TRAIN of a port (R280, R282): the link comes up when a partner is found. -/
def State.train (s : State) (p : Nat) : State :=
  s.modPort p fun x =>
    if s.trainBad p x.role then { x.linkDown with cfgerr := true, inForce := 0 }
    else { x.linkDown with cfgerr := false, inForce := x.role }

/-- A write of IOX_PORTp (R282). DESIGN CHOICE (log entry 120): a ROLE written without TRAIN is not in force: the role of the
last TRAIN stays until the next one, or until BIF changes. -/
def State.portWrite (s : State) (p : Nat) (v m : W64) : State :=
  if s.portExists p then
    let r := mergeReg (s.portReg p) v m (fieldMask 0 7 ||| fieldMask 8 8)
    let s := s.modPort p fun x =>
      { x with role := fld r 0 3, maxrate := fld r 3 3, ide := bitOf r.toNat 6, deffen := fld r 8 8 }
    if (v &&& m).getLsbD 16 then s.train p else s
  else s

/-- A write of IOX_GRPg (R281): under a new BIF no port of the group has been trained. -/
def State.bifWrite (s : State) (g x : Nat) : State :=
  let idle (p : Nat) := let x := s.port p; x.role = 0 && !x.up
  if g < 10 ∧ x ≤ 2 ∧ ((List.range 4).map (4 * g + ·)).all idle then
    if s.splitOf g = x then s
    else (List.range 4).foldl (fun s i => s.modPort (4 * g + i) fun y => { y with inForce := 0 })
      { s with reed := { s.reed with grp := SMap.put 0 s.reed.grp g x } }
  else s

/-! ## Queue handles -/

/-- A queue handle. -/
def State.handle (s : State) (h : Nat) : Handle := s.reed.handles.get Handle.none h

/-- A handle replaced. -/
def State.setHandle (s : State) (h : Nat) (x : Handle) : State :=
  { s with reed := { s.reed with handles := SMap.put Handle.none s.reed.handles h x } }

/-- A doorbell write (R299): posted through the handle's port; dropped, and counted, when the device is gone (R386). -/
def State.ring (s : State) (h : Nat) (cq : Bool) : State :=
  let x := s.handle h
  let s := s.setHandle h { x with ndb := (x.ndb + 1) % 2 ^ 16 }
  let p := s.port x.port
  if p.up && !p.removed then s.sendOut (if cq then x.cqdb else x.sqdb) true (bytesLE 4 (if cq then x.cqhead else x.tail)) else s

/-- The doorbell writes of a handle that are still due are made. -/
def State.ringAll (s : State) (h : Nat) : State :=
  let due := s.reed.doorbells.filter fun d => d.1 = h
  let s := due.foldl (fun s d => s.ring d.1 d.2) s
  { s with reed := { s.reed with doorbells := s.reed.doorbells.filter fun d => d.1 ≠ h } }

/-- Advance(handle, d) of R298: the pointer after the ready slots from it on, and the slots still ready. -/
def advanceFrom : Nat → Nat → List Nat → Nat → Nat × List Nat
  | 0, _, rdy, p => (p, rdy)
  | n + 1, m, rdy, p => if rdy.contains p then advanceFrom n m (rdy.erase p) ((p + 1) % (m + 1)) else (p, rdy)

/-- The ready slots of a handle after a mark, with the lanes whose slot was ready already (R298). -/
def markSlots (ss : List (Nat × Nat)) (rdy : List Nat) : List Nat × List Nat :=
  ss.foldl (fun a x => if a.1.contains x.1 then (a.1, a.2 ++ [x.2]) else (x.1 :: a.1, a.2)) (rdy, [])

/-- A handle after a mark: its pointer advances (R298). -/
def Handle.marked (x : Handle) (cq : Bool) (ss : List (Nat × Nat)) : Handle × List Nat :=
  let (rdy, twice) := markSlots (sortBy (fun a b => a.1 ≤ b.1) ss) (if cq then x.rdyCq else x.rdySq)
  let m := if cq then x.cqm1 else x.sqm1
  let (p, rdy) := advanceFrom 1024 m rdy (if cq then x.cqhead else x.tail)
  (if cq then { x with cqhead := p, rdyCq := rdy } else { x with tail := p, rdySq := rdy }, twice)

/-- A doorbell write scheduled: one that is due already reports this advance too (R299). -/
def State.schedule (s : State) (h : Nat) (cq : Bool) : State :=
  if s.reed.doorbells.contains (h, cq) then s
  else { s with reed := { s.reed with doorbells := s.reed.doorbells ++ [(h, cq)] } }

/-- The completion event of a mark (R22, R298). -/
def State.markDone (s : State) (m : Mark) : State :=
  let s := { s with reed := { s.reed with marks := s.reed.marks.filter fun x => x.id ≠ m.id } }
  (s.modGroup? m.team m.group fun g => g.flagDown m.flag).unlock m.core m.id

/-- Mark(handle, d, S) of R298. Marks that are due are made before their handle is retired; the load of any other may have been
retired. -/
def State.mark (s : State) (m : Mark) : State :=
  let x := s.handle m.handle
  if !x.loaded ∨ x.load ≠ m.load then s.markDone m
  else
    let (y, twice) := x.marked m.cq m.slots
    let s := s.setHandle m.handle y
    let s := if y.tail ≠ x.tail ∨ y.cqhead ≠ x.cqhead then s.schedule m.handle m.cq else s
    let s := s.markDone m
    if twice = [] then s else s.defer m.team m.group (asyncFault m.flag 0x91 0 none (maskOf twice))

/-- Is a mark's turn before those of its handle (R298)? -/
def State.markTurn (s : State) (m : Mark) : Bool :=
  m.due.any fun n => s.reed.marks.all fun x => x.handle ≠ m.handle || x.due.all fun k => n ≤ k

/-- The marks of a handle whose conditions hold are made, in their order (R298). -/
def State.makeMarks (s : State) (h : Nat) : State :=
  iterOpt (fun s => (s.reed.marks.find? fun m => m.handle = h && s.markTurn m).map s.mark) s.reed.marks.length s

/-- A handle retired: the marks that are due have been made, and its ready bits are discarded (R296). -/
def State.retireHandle (s : State) (h : Nat) : State :=
  let s := s.makeMarks h
  s.setHandle h { s.handle h with loaded := false, rdySq := [], rdyCq := [] }

/-- Is a handle entry valid (R295, R296)? Its reserved bits are ignored (R7). -/
def State.handleOk (s : State) (e : Nat) : Bool :=
  let fen := bitsOf e 8 8
  let port := bitsOf e 42 6
  bitOf e 0 && 1 ≤ fen && fen ≤ 0xFE && bitsOf e 16 10 ≠ 0 && bitsOf e 32 10 ≠ 0
    && s.portExists port && (s.port port).inForce = 1 && bitsOf e 64 57 % 64 = 0
    && regionOf (bitsOf e 128 52) = 2 && bitsOf e 128 52 % 4 = 0
    && regionOf (bitsOf e 192 52) = 2 && bitsOf e 192 52 % 4 = 0

/-- A handle loaded from its table entry (R295, R296). -/
def State.loadHandle (s : State) (h : Nat) : State :=
  let s := (s.retireHandle h).ringAll h
  let e := s.readNat 0 (s.reed.qhbase + 64 * h) 64
  let err := s.rangeErr 0 (s.reed.qhbase + 64 * h) 64
  let s := match err with
    | some x => if isMc x.1.code then s.logMem x.1.code x.2 false else s
    | none => s
  if s.handleOk e ∧ err.isNone then
    let (id, s) := (s.nextId, { s with nextId := s.nextId + 1 })
    s.setHandle h {
      loaded := true, err := false, load := id, fen := bitsOf e 8 8, cqv := bitOf e 1, sqm1 := bitsOf e 16 10
      cqm1 := bitsOf e 32 10, port := bitsOf e 42 6, rmap := bitsOf e 48 12
      sqbase := extend57 (bitsOf e 64 57), sqdb := bitsOf e 128 52, cqdb := bitsOf e 192 52, tail := 0
      cqhead := 0, ndb := 0, rdySq := [], rdyCq := [] }
  else s.setHandle h { s.handle h with err := true }

/-- A write of IOX_QHCMD (R296). -/
def State.handleCmd (s : State) (v : W64) : State :=
  match fld v 10 2 with
  | 1 => s.loadHandle (fld v 0 10)
  | 2 => s.retireHandle (fld v 0 10)
  | _ => s

/-- IOX_QHSTATh (R296). -/
def State.handleReg (s : State) (h : Nat) : W64 :=
  let x := s.handle h
  BitVec.ofNat 64 (x.tail + x.cqhead * 2 ^ 16 + b2n x.loaded * 2 ^ 31 + b2n x.err * 2 ^ 32 + x.ndb * 2 ^ 48)

/-! ## Remap entries -/

/-- A remap entry. -/
def State.remap (s : State) (e : Nat) : Remap := s.reed.remap.get Remap.cold e

/-- A remap entry replaced. -/
def State.setRemap (s : State) (e : Nat) (x : Remap) : State :=
  { s with reed := { s.reed with remap := SMap.put Remap.cold s.reed.remap e x } }

/-- The low and the high word of IOX_REMAPv (R301). -/
def Remap.lo (x : Remap) : W64 :=
  BitVec.ofNat 64 (b2n x.v + x.mode * 2 + x.bar * 2 ^ 4 + x.fen * 2 ^ 8 + x.port * 2 ^ 16 + x.seq % 2 ^ 32 * 2 ^ 32)
def Remap.hi (x : Remap) : W64 := BitVec.ofNat 64 (x.team % 2 ^ 32 + x.count * 2 ^ 32 + x.drop * 2 ^ 48)

/-- A write of one word of IOX_REMAPv (R301): word 0 or word 1. -/
def State.remapWrite (s : State) (e word : Nat) (v m : W64) : State :=
  let x := s.remap e
  if 4096 ≤ e then s
  else if word = 1 then (if fld (v &&& m) 48 16 = 0 then s else s.setRemap e { x with drop := 0 })
  else
    let r := mergeReg x.lo v m (fieldMask 0 3 ||| fieldMask 8 14)
    let x := { x with v := bitOf r.toNat 0, fen := fld r 8 8, port := fld r 16 6 }
    let mode := fld r 1 2
    s.setRemap e (if mode = 0 ∨ mode = 2 then { x with mode := mode, uid := none } else x)

/-! ## The block -/

/-- IOX_TSETi, IOX_RIDTn and IOX_QHBASE: the fields that can be written. -/
def tsetLo : W64 := fieldMask 0 3 ||| fieldMask 12 40
def tsetHi : W64 := BitVec.ofNat 64 ((List.range 8).map (fun i => 63 * 2 ^ (8 * i))).sum
def ridtRw : W64 := fieldMask 0 23 ||| fieldMask 24 32

/-- One word of IOX_TSETi. -/
def State.tset (s : State) (i : Nat) (hi : Bool) : W64 :=
  let x := s.reed.tset.get 0 i
  if hi then (x >>> 64).setWidth 64 else x.setWidth 64

/-- One word of IOX_TSETi written (R276). -/
def State.tsetWrite (s : State) (i : Nat) (hi : Bool) (v m : W64) : State :=
  let w := mergeReg (s.tset i hi) v m (if hi then tsetHi else tsetLo)
  { s with reed := { s.reed with
      tset := SMap.put 0 s.reed.tset i (if hi then w ++ s.tset i false else s.tset i true ++ w) } }

/-- A read of Reed's block at an offset that is a multiple of 8 (R286). -/
def State.reedRead (s : State) (o : Nat) : W64 :=
  if o = 0 then 0x0B48 + (Config.revision.setWidth 64 <<< 16)
  else if o = 8 then BitVec.ofNat 64 s.reed.atspend
  else if within 0x1000 0x104F o then BitVec.ofNat 64 (s.splitOf ((o - 0x1000) / 8))
  else if within 0x2000 0x213F o then (let p := (o - 0x2000) / 8; if s.portExists p then s.portReg p else 0)
  else if o = 0x4000 then BitVec.ofNat 64 s.reed.qhbase
  else if within 0x8000 0x9FFF o then s.handleReg ((o - 0x8000) / 8)
  else if within 0x10000 0x10FFF o then s.tset ((o - 0x10000) / 16) (o % 16 = 8)
  else if within 0x20000 0x2FFFF o then (let x := s.remap ((o - 0x20000) / 16); if o % 16 = 8 then x.hi else x.lo)
  else if within 0x30000 0x307F7 o then
    let f := (o - 0x30000) / 8
    BitVec.ofNat 64 (s.reed.refused.get 0 f + s.reed.prqHeld f * 2 ^ 32)
  else if within 0x40000 0x41FFF o then
    BitVec.ofNat 64 (bitsOf (s.reed.ntbw.get 0 ((o - 0x40000) / 32)).toNat (8 * (o % 32)) 64)
  else if within 0x60000 0x61FFF o then s.reed.ridt.get ridtCold ((o - 0x60000) / 8)
  else 0

/-- A write of the bits of `m` to Reed's block (R286). -/
def State.reedWrite (s : State) (o : Nat) (v m : W64) : State :=
  if within 0x1000 0x104F o then (if fld m 0 2 = 3 then s.bifWrite ((o - 0x1000) / 8) (fld v 0 2) else s)
  else if within 0x2000 0x213F o then s.portWrite ((o - 0x2000) / 8) v m
  else if o = 0x4000 then
    { s with reed := { s.reed with
        qhbase := (mergeReg (BitVec.ofNat 64 s.reed.qhbase) v m (fieldMask 12 40)).toNat } }
  else if o = 0x4008 then s.handleCmd (v &&& m)
  else if within 0x10000 0x10FFF o then s.tsetWrite ((o - 0x10000) / 16) (o % 16 = 8) v m
  else if within 0x20000 0x2FFFF o then s.remapWrite ((o - 0x20000) / 16) (o % 16 / 8) v m
  else if within 0x30000 0x307F7 o then
    (if fld (v &&& m) 0 32 = 0 then s
     else { s with reed := { s.reed with refused := s.reed.refused.del ((o - 0x30000) / 8) } })
  else if within 0x60000 0x61FFF o then
    let n := (o - 0x60000) / 8
    { s with reed := { s.reed with
        ridt := SMap.put ridtCold s.reed.ridt n (mergeReg (s.reed.ridt.get ridtCold n) v m ridtRw) } }
  else s

end Sys2Proof.Machine
end

