-- ==== Sys2Proof/Machine/DstRegs.lean ====
section
/-!
DEFINITION. The distributor's register blocks (R308 to R310): what reading and writing them does.
-/
namespace Sys2Proof.Machine

/-- Does a partition with this number exist (R308, R341)? -/
def State.isPart (s : State) (p : Nat) : Bool := (s.part p).size ≠ 0

/-- Is a fen bound to a partition (R339)? -/
def State.bound (s : State) (f p : Nat) : Bool := f ≠ 0 && (s.fen f).v && (s.fen f).pid = p

/-- A launch queue. -/
def Part.queue (x : Part) (q : Nat) : LQueue := x.queues.get LQueue.cold q

/-- A launch queue replaced. -/
def Part.setQueue (x : Part) (q : Nat) (l : LQueue) : Part := { x with queues := SMap.put LQueue.cold x.queues q l }

/-- The four words of a queue's registers (R310). -/
def LQueue.word (l : LQueue) (w : Nat) : W64 :=
  match w with
  | 0 => BitVec.ofNat 64 (b2n l.en + b2n l.ser * 2 + l.prio * 2 ^ 2 + l.fen * 2 ^ 8 + l.log2 * 2 ^ 16)
  | 1 => BitVec.ofNat 64 l.base
  | 2 => BitVec.ofNat 64 (l.head + l.tail * 2 ^ 16)
  | _ => BitVec.ofNat 64 l.nseq

/-- A write of a queue's first two words (R310, R339): the fields other than EN while EN is 0 and the queue is empty. -/
def State.queueWrite (s : State) (p q w : Nat) (v m : W64) : State :=
  let l := (s.part p).queue q
  let free := !l.en && l.head = l.tail
  match w with
  | 0 =>
    let r := mergeReg (l.word 0) v m (fieldMask 0 5 ||| fieldMask 8 13)
    if !s.bound (fld r 8 8) p then s
    else
      let l := { l with en := bitOf r.toNat 0 }
      let l := if free then { l with
          ser := bitOf r.toNat 1, prio := fld r 2 3, fen := fld r 8 8
          log2 := if within 4 12 (fld r 16 5) then fld r 16 5 else l.log2 } else l
      s.modPart p fun x => x.setQueue q l
  | 1 =>
    if free then s.modPart p fun x => x.setQueue q { l with base := (mergeReg (l.word 1) v m (fieldMask 12 40)).toNat }
    else s
  | _ => s

/-- A field of a register, where a write leaves it unless the value lies in a range. -/
def rangedWrite (cur lo hi : Nat) (v m : W64) : Nat :=
  let x := fld (mergeReg (BitVec.ofNat 64 cur) v m (fieldMask 0 5)) 0 5
  if within lo hi x then x else cur

/-- DST_HOLDk: bit i for fen 64k + i (R308). -/
def Part.holdWord (x : Part) (k : Nat) : W64 :=
  BitVec.ofNat 64 (((x.hold.filter fun f => f / 64 = k).map fun f => 2 ^ (f % 64)).foldl (· + ·) 0)

/-- A read of a partition's block at a multiple of 8 (R308). -/
def State.dstRead (s : State) (p o : Nat) : W64 :=
  let x := s.part p
  if !s.isPart p then 0
  else if o = 0 then BitVec.ofNat 64 (b2n x.en + x.pth * 2 ^ 8 + x.tsl * 2 ^ 16)
  else if o = 0x08 then BitVec.ofNat 64 x.jbase
  else if o = 0x10 then BitVec.ofNat 64 x.jsize
  else if o = 0x18 then BitVec.ofNat 64 x.jwr
  else if o = 0x20 then BitVec.ofNat 64 x.fqbase
  else if o = 0x28 then BitVec.ofNat 64 x.fqsize
  else if o = 0x30 then BitVec.ofNat 64 x.fqwr
  else if o = 0x38 then BitVec.ofNat 64 x.fqrd
  else if o = 0x40 then BitVec.ofNat 64 x.svbase
  else if o = 0x48 then BitVec.ofNat 64 x.svunits
  else if o = 0x50 then BitVec.ofNat 64 x.ruwait
  else if within 0x60 0x78 o then x.holdWord ((o - 0x60) / 8)
  else if within 0x1000 0x17FF o then (x.queue ((o - 0x1000) / 32)).word (o % 32 / 8)
  else 0

/-- A number as a register, with the bits of `m` written in the field `rw`. -/
def mergeNat (cur : Nat) (v m rw : W64) : Nat := (mergeReg (BitVec.ofNat 64 cur) v m rw).toNat

/-- A write of the bits of `m` to a partition's block (R308 to R310). -/
def State.dstWrite (s : State) (p o : Nat) (v m : W64) : State :=
  let x := s.part p
  if !s.isPart p then s
  else if o = 0 then
    let r := mergeReg (s.dstRead p 0) v m (fieldMask 0 1 ||| fieldMask 8 22)
    s.setPart p { x with en := bitOf r.toNat 0, pth := fld r 8 8, tsl := fld r 16 14 }
  else if o = 0x08 then s.setPart p { x with jbase := mergeNat x.jbase v m (fieldMask 0 1 ||| fieldMask 12 40), jwr := 0 }
  else if o = 0x10 then s.setPart p { x with jsize := rangedWrite x.jsize 6 16 v m }
  else if o = 0x20 then
    (s.setPart p { x with fqbase := mergeNat x.fqbase v m (fieldMask 0 1 ||| fieldMask 12 40), fqwr := 0 }).flushFq p
  else if o = 0x28 then (s.setPart p { x with fqsize := rangedWrite x.fqsize 6 16 v m }).flushFq p
  else if o = 0x38 then (s.setPart p { x with fqrd := mergeNat x.fqrd v m (fieldMask 0 64) }).flushFq p
  else if o = 0x40 then s.setPart p { x with svbase := mergeNat x.svbase v m (fieldMask 16 36) }
  else if o = 0x48 then s.setPart p { x with svunits := mergeNat x.svunits v m (fieldMask 0 24) }
  else if o = 0x50 then s.setPart p { x with ruwait := mergeNat x.ruwait v m (fieldMask 0 16) }
  else if within 0x60 0x78 o then
    let k := (o - 0x60) / 8
    s.setPart p { x with hold := x.hold.filter fun f => !(f / 64 = k && (v &&& m).getLsbD (f % 64)) }
  else if within 0x1000 0x17FF o then s.queueWrite p ((o - 0x1000) / 32) (o % 32 / 8) v m
  else s

end Sys2Proof.Machine
end

