-- ==== Sys2Proof/Machine/FenRegs.lean ====
section
/-!
DEFINITION. The fen guard's register block (R340): partitions (R341), copy-engine assignment (R342), fens (R339),
functions (R369) and the scrub engines' blocks (R357, R358).
-/
namespace Sys2Proof.Machine

/-! ## Partitions -/

/-- The partition of a slice (R341). -/
def State.partOf (s : State) (slice : Nat) : Option Nat :=
  (s.parts.find? fun e => e.1 ≤ slice && slice < e.1 + e.2.size).map (·.1)

/-- The partition of a user core (R17, R18). -/
def State.partOfCore (s : State) (c : Nat) : Option Nat := s.partOf (c / 4)

/-- The slices and the user cores of a run. -/
def slicesOf (first n : Nat) : List Nat := (List.range n).map (first + ·)
def coresOf (first n : Nat) : List Nat := (List.range (4 * n)).map (4 * first + ·)

/-- The runs that R341 permits. -/
def runOk (first n : Nat) : Bool :=
  ([1, 2, 3, 4, 6, 12].contains n && first % n = 0 && first < 48 && (first + n - 1) / 12 = first / 12)
    || (n = 24 && (first = 0 || first = 24)) || (n = 48 && first = 0)

/-- FEN_PSTAT after a command. -/
def State.pstat (s : State) (r : Nat) : State := { s with guard := { s.guard with pstat := r } }

/-- A partition made (R341): a run in which some slice is taken is busy. -/
def State.makePart (s : State) (first n : Nat) : State :=
  if !runOk first n then s.pstat 1
  else if (slicesOf first n).any fun x => (s.partOf x).isSome then s.pstat 2
  else
    let gen := s.guard.lgen + 1
    let s := { s with guard := { s.guard with lgen := gen } }
    (s.modPart first fun x => { x with gen := gen, size := n }).pstat 0

/-- Is a fen slot of a core valid (R335)? -/
def Core.slotUsed (k : Core) : Bool := k.slots.any fun x => x.2.fen ≠ 0xFF

/-- The conditions for unmaking and for gating a partition (R341, R392); `fens` says whether fens may stay bound. -/
def State.partIdle (s : State) (p : Nat) (fens : Bool) : Bool :=
  let x := s.part p
  !x.en && x.queues.all (fun q => !q.2.en) && s.teams.all (fun t => t.2.system || t.2.pid ≠ p || t.2.status = .waiting)
    && s.cores.all (fun k => k.2.lent.isNone || (k.2.lent ≠ some p && s.partOfCore k.1 ≠ some p))
    && (fens || s.guard.fens.all fun f => !s.bound f.1 p)
    && (coresOf p x.size).all fun c => !(s.core c).slotUsed

/-- A partition unmade (R341). -/
def State.unmakePart (s : State) (first n : Nat) : State :=
  if n = 0 ∨ (s.part first).size ≠ n then s.pstat 1
  else if !s.partIdle first false then s.pstat 2
  else (s.modPart first fun x => { x with gen := 0, size := 0 }).pstat 0

/-- A write of FEN_PCMD (R341). -/
def State.pcmd (s : State) (v : W64) : State :=
  match fld v 12 2 with
  | 1 => s.makePart (fld v 0 6) (fld v 6 6)
  | 2 => s.unmakePart (fld v 0 6) (fld v 6 6)
  | _ => s

/-! ## Copy engines -/

/-- A copy engine. -/
def State.engine (s : State) (e : Nat) : Engine := s.guard.engines.get Engine.cold e

/-- A copy engine replaced. -/
def State.setEngine (s : State) (e : Nat) (x : Engine) : State :=
  { s with guard := { s.guard with engines := SMap.put Engine.cold s.guard.engines e x } }

/-- A pending assignment takes effect once nothing is queued on the engine (R342). -/
def State.engineEffect (s : State) (e : Nat) : State :=
  let x := s.engine e
  match x.pend with
  | some (pid, v) => if s.copies.any fun c => c.engine = e then s else s.setEngine e { pid := pid, v := v, pend := none }
  | none => s

/-- FEN_CEe (R342): the assignment in force. -/
def Engine.word (x : Engine) : W64 := BitVec.ofNat 64 (x.pid + b2n x.v * 2 ^ 6 + b2n x.pend.isSome * 2 ^ 7)

/-- A write of FEN_CEe (R342). -/
def State.engineWrite (s : State) (e : Nat) (v m : W64) : State :=
  let r := mergeReg (s.engine e).word v m (fieldMask 0 7)
  let on := bitOf r.toNat 6
  if on ∧ !s.isPart (fld r 0 6) then s
  else (s.setEngine e { s.engine e with pend := some (fld r 0 6, on) }).engineEffect e

/-! ## Fens -/

/-- The core slots that a fen holds (R339). -/
def State.slotsOf (s : State) (f : Nat) : Nat :=
  (s.cores.map fun k => (k.2.slots.filter fun x => x.2.fen = f).length).foldl (· + ·) 0

/-- STATE of a fen (R366); that of fen 0x00 reads 0, as at reset (R339, log entry 108). -/
def State.fenState (s : State) (f : Nat) : Nat :=
  if f = 0 ∨ 0 < s.slotsOf f then 0 else if s.sys.gated.getLsbD (s.fen f).pid then 2 else 1

/-- FEN_FENf (R339). -/
def State.fenWord (s : State) (f : Nat) : W64 :=
  let x := s.fen f
  if x.v then
    BitVec.ofNat 64 (1 + b2n x.world * 2 + x.pid * 2 ^ 2 + s.fenState f * 2 ^ 8 + s.slotsOf f % 2 ^ 8 * 2 ^ 16
      + x.mseq % 2 ^ 32 * 2 ^ 32)
  else 0

/-- A function of the upstream port (R369). -/
def State.func (s : State) (i : Nat) : Func := s.guard.funcs.get Func.cold i

/-- A function replaced. -/
def State.setFunc (s : State) (i : Nat) (x : Func) : State :=
  { s with guard := { s.guard with funcs := SMap.put Func.cold s.guard.funcs i x } }

/-! ## Scrub engines -/

/-- A die's scrub engine. -/
def State.scrubber (s : State) (d : Nat) : Scrubber := s.guard.scrubs.get Scrubber.cold d

/-- A die's scrub engine replaced. -/
def State.setScrubber (s : State) (d : Nat) (x : Scrubber) : State :=
  { s with guard := { s.guard with scrubs := SMap.put Scrubber.cold s.guard.scrubs d x } }

/-- Entries in the list (R358). -/
def Scrubber.length (x : Scrubber) : Nat := (x.tail + 128 - x.head) % 128

/-- An entry's words (R357). -/
def ScrubEnt.word (e : ScrubEnt) (w : Nat) : W64 :=
  match w with
  | 0 => BitVec.ofNat 64 (e.kind + e.slot * 2 ^ 2 + e.core * 2 ^ 4 + e.fen * 2 ^ 12 + e.units * 2 ^ 20)
  | 1 => e.spec
  | _ => e.acc.setWidth 64

/-- A read of a die's scrub block (R357, R358). -/
def Scrubber.read (x : Scrubber) (o : Nat) : W64 :=
  if o = 0 then BitVec.ofNat 64 (x.done % 2 ^ 32 + x.total % 2 ^ 32 * 2 ^ 32)
  else if o = 8 then
    BitVec.ofNat 64 (x.head + x.tail * 2 ^ 8 + b2n (x.head ≠ x.tail) * 2 ^ 15 + b2n x.resumed * 2 ^ 16)
  else if within 0x100 0x8FF o then
    let k := (o - 0x100) / 32
    if o % 32 / 8 = 3 then 0
    else match x.entries.find k with
      | some e => e.word (o % 32 / 8)
      | none => 0
  else 0

/-! ## The block -/

/-- A read of the fen guard's block at a multiple of 8 (R340). -/
def State.fenRead (s : State) (o : Nat) : W64 :=
  let g := s.guard
  if o = 0 then BitVec.ofNat 64 g.lgen
  else if o = 0x10 then BitVec.ofNat 64 g.pstat
  else if o = 0x18 then BitVec.ofNat 64 g.gtbase
  else if o = 0x20 then BitVec.ofNat 64 g.gtsize
  else if within 0x30 0x58 o then BitVec.ofNat 64 (natLE ((g.fwmeas.drop (o - 0x30)).take 8))
  else if within 0x60 0x8F o then BitVec.ofNat 64 (natLE (((bytesBE 48 g.idpub.1).drop (o - 0x60)).take 8))
  else if within 0x90 0xB8 o then BitVec.ofNat 64 (natLE (((bytesBE 48 g.idpub.2).drop (o - 0x90)).take 8))
  else if within 0xC0 0xD8 o then g.aoscr.get 0 ((o - 0xC0) / 8)
  else if o = 0xE0 then BitVec.ofNat 64 g.msbase
  else if within 0x100 0x27F o then
    match s.partOf ((o - 0x100) / 8) with
    | some p => BitVec.ofNat 64 (p + 2 ^ 6)
    | none => 0
  else if within 0x300 0x47F o then BitVec.ofNat 64 (s.part ((o - 0x300) / 8)).gen
  else if within 0x500 0x6FF o then (s.engine ((o - 0x500) / 8)).word
  else if within 0x800 0xFF7 o then s.fenWord ((o - 0x800) / 8)
  else if within 0x1000 0x1307 o then
    let x := s.func ((o - 0x1000) / 8)
    BitVec.ofNat 64 (x.fen + x.mst * 2 ^ 8)
  else if within 0x100000 0x13FFFF o then (s.scrubber ((o - 0x100000) / 0x10000)).read (o % 0x10000)
  else 0

/-- A write of the bits of `m` to the fen guard's block (R340). -/
def State.fenWrite (s : State) (o : Nat) (v m : W64) : State :=
  let g := s.guard
  if o = 0x08 then s.pcmd (v &&& m)
  else if o = 0x18 then { s with guard := { g with gtbase := mergeNat g.gtbase v m (fieldMask 12 40) } }
  else if o = 0x20 then
    let n := mergeNat g.gtsize v m (fieldMask 0 13)
    if n ≤ 4096 then { s with guard := { g with gtsize := n } } else s
  else if o = 0x28 then { s with guard := { g with gcache := [] } }
  else if within 0xC0 0xD8 o then
    let i := (o - 0xC0) / 8
    { s with guard := { g with aoscr := SMap.put 0 g.aoscr i (mergeReg (g.aoscr.get 0 i) v m (fieldMask 0 64)) } }
  else if o = 0xE0 then { s with guard := { g with msbase := mergeNat g.msbase v m (fieldMask 20 32) } }
  else if within 0x500 0x6FF o then s.engineWrite ((o - 0x500) / 8) v m
  else if within 0x1000 0x1307 o then
    let i := (o - 0x1000) / 8
    let x := s.func i
    if x.mst = 0 then s.setFunc i { x with fen := mergeNat x.fen v m (fieldMask 0 8) } else s
  else if within 0x100000 0x13FFFF o ∧ o % 0x10000 = 8 then
    let d := (o - 0x100000) / 0x10000
    if (v &&& m).getLsbD 16 then s.setScrubber d { s.scrubber d with resumed := false } else s
  else s

end Sys2Proof.Machine
end

