-- ==== Sys2Proof/Machine/RegBlock.lean ====
section
/-!
DEFINITION. The on-chip registers of region 0xF: which unit an address names (R286, R308, R340) and accesses of 4 and 8
bytes (R172).
-/
namespace Sys2Proof.Machine

/-- The register at an offset of region 0xF, a multiple of 8. DESIGN CHOICE (log entry 140): outside the blocks of R286, R308 and
R340 fen 0x00 reads 0 and its writes do nothing (R172). -/
def State.regGet (s : State) (o : Nat) : W64 :=
  if within 0x10000000 0x100FFFFF o then s.reedRead (o - 0x10000000)
  else if within 0x20000000 0x202FFFFF o then s.dstRead ((o - 0x20000000) / 0x10000) (o % 0x10000)
  else if within 0x30000000 0x3013FFFF o then s.fenRead (o - 0x30000000)
  else 0

/-- The bits of `m` of the register at an offset of region 0xF written. -/
def State.regPut (s : State) (o : Nat) (v m : W64) : State :=
  if within 0x10000000 0x100FFFFF o then s.reedWrite (o - 0x10000000) v m
  else if within 0x20000000 0x202FFFFF o then s.dstWrite ((o - 0x20000000) / 0x10000) (o % 0x10000) v m
  else if within 0x30000000 0x3013FFFF o then s.fenWrite (o - 0x30000000) v m
  else s

/-- A load of 4 or 8 bytes: a 4-byte access reads half of a register. -/
def State.regRead (s : State) (pa n : Nat) : Nat :=
  let o := pa % 2 ^ 48
  (s.regGet (o / 8 * 8)).toNat / 2 ^ (8 * (o % 8)) % 2 ^ (8 * n)

/-- A store of 4 or 8 bytes: a 4-byte access writes half of a register. -/
def State.regWrite (s : State) (pa n x : Nat) : State :=
  let o := pa % 2 ^ 48
  s.regPut (o / 8 * 8) (BitVec.ofNat 64 (x * 2 ^ (8 * (o % 8)))) (fieldMask (8 * (o % 8)) (8 * n))

end Sys2Proof.Machine
end

