-- ==== Sys2Proof/Machine/Bank.lean ====
section
/-!
DEFINITION. What the home banks and the targets outside them do with a request: stores (R157, R160, R171), atomics
(R189 to R191), and sequentially consistent accesses with their stamps (R162, R163).
-/
namespace Sys2Proof.Machine

/-! ## Stores -/

/-- The lanes that a request's failure names. -/
def laneMask (l : Nat) : W32 := if l < 32 then 1#32 <<< l else BitVec.allOnes 32

/-- A failed store of a group, with the physical address at which it failed (R37, R171). -/
def State.storeFailed (s : State) (e : StoreEnt) (cause pa : Nat) : State :=
  s.failLate e.team e.group { at_ := .store, cause := cause, kind := 2, lanes := laneMask e.lane, addr := e.va, pa := pa, op := e.word }

/-- Is a `txe` of the group, issued before a moment, still committing? -/
def State.txeBefore (s : State) (ti gi before : Nat) : Bool :=
  s.txops.any fun t => t.team = ti && t.group = gi && t.pend < before

/-- Must a release of the group, made at a moment, follow this entry (R161)? Its own earlier stores, and stores of other groups
that its core's store order held at its last acquire, since happens-before is transitive (log entry 131). -/
def Group.follows (g : Group) (ti gi before : Nat) (e : StoreEnt) : Bool :=
  if e.team = ti ∧ e.group = gi then e.word < before else e.entered < min g.joined before

/-- Are the accesses that happen before a moment of the group performed at scope `k`, as a release needs (R161, R175, R192, R214)?
`stores` are those that may stand before it; later accesses are not waited for. -/
def State.releaseReady (s : State) (ti gi before : Nat) (stores : List StoreEnt) : Bool :=
  !(stores.any fun e => (s.group ti gi).follows ti gi before e)
    && (s.group ti gi).pend.all (fun p => p.devs = [] || before ≤ p.id) && !s.txeBefore ti gi before

/-- Has an acquire of the group from before a moment not been performed yet: an acquire-release atomic, a commit of its `txe`, or
an `lda` of a device (R161, R175, R192, R214)? -/
def State.acquiring (s : State) (ti gi before : Nat) : Bool :=
  let g := s.group ti gi
  let acq (e : StoreEnt) := match e.kind with
    | .atomic _ _ _ _ _ _ _ a => a && e.team = ti && e.group = gi && e.word < before
    | _ => false
  g.sq.any acq || (s.core (s.team ti).core).cso.any acq || s.txeBefore ti gi before
    || g.pend.any fun p => p.acq && p.devs ≠ [] && p.id < before

/-- A store reaches its home bank, its register block or its device; an element that straddles lines or a page is written
whole or not at all (R153, R160, R171, R393). -/
def State.applyStore (s : State) (e : StoreEnt) : State :=
  if isMemRegion e.pa then
    match e.pieces.findSome? fun x => s.rangeErr e.fen x.1 x.2.length with
    | some (err, pa) =>
      (s.logBeside [(err.code, pa)] (e.pieces.flatMap fun x => s.rangeErrs e.fen x.1 x.2.length)).storeFailed e err.code pa
    | none => (e.pieces.foldl (fun s x => s.applyWrite e.fen x.1 x.2) s).markEntry e
  else if regionOf e.pa = 15 then s.regWrite e.pa e.bytes.length (natLE (e.bytes.map (·.1)))
  else match s.takes e.fen e.pa with
  | none => s.storeFailed e 0x4A e.pa
  | some _ => if s.reaches e.fen e.pa then s.sendOut e.pa true (e.bytes.map (·.1)) else s

/-! ## Atomics -/

/-- The new value of an atomic (R189, R191). -/
def atomNew (op : AtomOp) (ty old b d : Nat) : Nat :=
  let w := tyWidth ty
  match op with
  | .add => (old + b) % 2 ^ w
  | .and => old &&& b
  | .or => old ||| b
  | .xor => old ^^^ b
  | .min => if intVal ty b < intVal ty old then b else old
  | .max => if intVal ty old < intVal ty b then b else old
  | .xchg => b
  | .inc => if b ≤ old then 0 else (old + 1) % 2 ^ w
  | .fadd =>
    (encodeFloat bankEnv ty ((decodeElem bankEnv ty old).add rmRNE (decodeElem bankEnv ty b)).1).1
  | .cas => if old = d then b else old

/-- The machine check of a lane's request is logged when the word already reports another failure (R37, R385). -/
def State.logReply (s : State) (ti gi id : Nat) (bad : Option Deferred) : State :=
  match ((s.group ti gi).pend.find? fun p => p.id = id).bind (·.bad), bad with
  | some a, some d => s.logBeside [(a.cause, a.pa)] [(d.cause, d.pa)]
  | _, _ => s

/-- The reply of a lane's request: its registers, each of which it then delivers on its own (R50), one request less, and the end
of the word when nothing is left of it. -/
def State.reply (s : State) (ti gi id lane dst regs x : Nat) (bad : Option Deferred) : State :=
  match s.teams.find ti with
  | none => s
  | some _ =>
    let s := (s.logReply ti gi id bad).modGroup ti gi fun g =>
      g.modPend id fun p => { p with
        waiting := p.waiting - 1
        writes := p.writes ++ laneWrites lane dst regs x
        bad := match bad with
          | none => p.bad
          | some d => Deferred.join p.bad d }
    s.finishIf ti gi id

/-- A failure of a lane's request (R171). -/
def requestFailed (flag kind cause lane va pa : Nat) : Deferred :=
  { at_ := .flag flag, cause := cause, kind := kind, lanes := laneMask lane, addr := va, pa := pa, op := 0 }

/-- The flag of an operation in flight. -/
def Group.flagOfPend (g : Group) (id : Nat) : Nat := ((g.pend.find? fun p => p.id = id).map (·.flag)).getD 0

/-- An atomic request applied at its home bank (R190): its reply is the old value, or zero when it fails (R171). -/
def State.applyAtomic (s : State) (ti gi fen lane va pa : Nat) (op : AtomOp) (ty : Nat) (b d : W64) (id dst : Nat)
    (acq : Bool) : State :=
  let n := tyWidth ty / 8
  let regs := if tyPair ty then 2 else 1
  let s := if acq then s.modGroup? ti gi fun g => g.acquire s.nextId else s
  match s.lineErr fen (pa / 64) with
  | some e =>
    let (v, s) := if isMc e.code then s.free else (0, s)
    s.reply ti gi id lane dst regs v.toNat (some (requestFailed ((s.group ti gi).flagOfPend id) 3 e.code lane va pa))
  | none =>
    let old := s.readNat fen pa n
    let s := s.applyWrite fen pa (whole (bytesLE n (atomNew op ty old b.toNat d.toNat)))
    (s.markThrough ti (some gi) id pa).reply ti gi id lane dst regs old none

/-! ## Sequentially consistent accesses -/

/-- The order of stamps: C first, then the core (R162). -/
def Stamp.le (a b : Stamp) : Bool := a.c < b.c || (a.c = b.c && a.core ≤ b.core)

/-- LS of a line, or the bank's floor stamp (R162). -/
def State.lsOf (s : State) (pa : Nat) : Stamp :=
  match s.mem.ls.find (pa / 128) with
  | some x => x
  | none => s.mem.fs.get { c := 0, core := 0 } (homeBank pa)

/-- The clock value at which the stamps roll over (R163). -/
def scLimit : Nat := 2 ^ 48 - 2 ^ 36

/-- Has a core's clock reached the limit (R163)? -/
def State.scFull (s : State) : Bool := s.cores.any fun k => scLimit ≤ k.2.clock

/-- Is an entry of a core's store order one that a read at the home bank must follow: it touches the bytes and had entered before
the reading word issued, so that an earlier load of the group may have taken it (R157, R159)? -/
def StoreEnt.precedes (e : StoreEnt) (word pa n : Nat) : Bool := e.entered < word && e.touches pa n

/-- May the first SC access of a group be sent (R157, R159, R161, R162, R176, R192, R214)? A store or atomic is a release; a load
waits for the group's own stores to its bytes, and for its acquires; each for the stores to its bytes in the core store order. -/
def State.scReady (s : State) (r : ScReq) : Bool :=
  let g := s.group r.team r.group
  let cso := (s.core (s.team r.team).core).cso
  !cso.any (fun e => e.precedes r.pend r.pa r.len) &&
    if r.data.isSome ∨ r.atom.isSome then s.releaseReady r.team r.group r.pend (g.sq ++ cso)
    else !s.acquiring r.team r.group r.pend
      && !((g.sq ++ cso.filter fun e => e.team = r.team && e.group = r.group).any fun e => e.touches r.pa r.len)

/-- An accepted SC access is performed at its home bank (R162, R171, R176). -/
def State.scPerform (s : State) (r : ScReq) : State :=
  match r.atom, r.data with
  | some (.atomic op ty b d id lane dst _), _ => s.applyAtomic r.team r.group r.fen lane r.va r.pa op ty b d id dst true
  | _, some bs =>
    s.applyStore { word := r.pend, team := r.team, group := r.group, lane := r.lane, fen := r.fen, va := r.va, pa := r.pa
                   bytes := whole bs, more := none, kind := .release }
  | _, none =>
    let s := s.modGroup? r.team r.group fun g => g.acquire s.nextId
    match s.lineErr r.fen (r.pa / 64) with
    | some e =>
      let (v, s) := s.errValue e
      s.reply r.team r.group r.pend r.lane r.dst (r.len / 4) (v % 2 ^ (8 * r.len))
        (some (requestFailed ((s.group r.team r.group).flagOfPend r.pend) 1 e.code r.lane r.va r.pa))
    | none => s.reply r.team r.group r.pend r.lane r.dst (r.len / 4) (s.readNat r.fen r.pa r.len) none

/-- Acceptance: the line and the core take the stamp, the group's next access may be sent (R162). -/
def State.scAccept (s : State) (r : ScReq) (core : Nat) (st : Stamp) : State :=
  let s := { s with mem := { s.mem with ls := s.mem.ls.ins (r.pa / 128) st } }
  let s := s.modCore core fun k => { k with clock := max k.clock st.c }
  let s := s.modGroup r.team r.group fun g => { g with scq := g.scq.drop 1, lastsc := st }
  let s := s.scPerform r
  if r.data.isSome ∨ r.atom.isSome then s.dropL1 core r.pa r.len else s

/-- The next SC access of a group is sent, if it can be (R162). -/
def State.pumpSc1 (ti gi : Nat) (s : State) : Option State :=
  let g := s.group ti gi
  match g.scq with
  | [] => none
  | r :: rest =>
    if r.refused ∨ s.scFull ∨ !s.scReady r then none
    else
      let core := (s.team ti).core
      let clock := max (s.core core).clock g.lastsc.c + 1
      let st : Stamp := { c := clock, core := core }
      let s := s.modCore core fun k => { k with clock := clock }
      let line := r.pa / 128
      let held := s.mem.resv.get [] line
      if held ≠ [] ∨ st.le (s.lsOf r.pa) then
        let s := { s with mem := { s.mem with resv := s.mem.resv.ins line (held ++ [(ti, gi)]) } }
        some (s.modGroup ti gi fun g => { g with scq := { r with refused := true, stamp := st } :: rest })
      else some (s.scAccept r core st)

/-- Every SC access of a group that can be accepted is (R162). -/
def State.pumpSc (s : State) (ti gi : Nat) : State := iterOpt (State.pumpSc1 ti gi) (s.group ti gi).scq.length s

/-- The SC accesses of every group of a core: a release of one may have waited for another's stores (R161, R162). -/
def State.pumpCore (s : State) (core : Nat) : State :=
  (s.teams.filter fun t => t.2.core = core).foldl (fun s t => t.2.groups.keys.foldl (fun s gi => s.pumpSc t.1 gi) s) s

/-- The first reservation of a line is granted, and its retry accepted (R162). -/
def State.scGrant (s : State) (line : Nat) : State :=
  match s.mem.resv.get [] line with
  | [] => s
  | (ti, gi) :: rest =>
    let s := { s with mem := { s.mem with resv := if rest = [] then s.mem.resv.del line else s.mem.resv.ins line rest } }
    match s.teams.find ti with
    | none => s
    | some t =>
      match (t.group gi).scq with
      | [] => s
      | r :: _ =>
        let clock := max (s.core t.core).clock (s.lsOf r.pa).c + 1
        (s.scAccept r t.core { c := clock, core := t.core }).pumpSc ti gi

end Sys2Proof.Machine
end

