-- ==== Sys2Proof/WellFormed.lean ====
section
/-!
DEFINITION. Which instructions are well formed: the field values that each instruction's rule permits. A word that
decodes and is not well formed raises FLT_ILLEGAL_OP at stage 1 (R40, R57); the register budgets, which depend on the
group, are checked when the word issues.
-/
namespace Sys2Proof

/-- A b operand of a vector word: bs 00, 01 with bit 6 zero, or 10 (R41, R108). -/
def Src.okVec : Src → Bool
  | .v _ => true
  | .s n => n.toNat < 64
  | .imm _ => true
  | .p _ => false

/-- A b operand of a uniform word: bs 01 with bit 6 zero, or 10 (R89). -/
def Src.okUni : Src → Bool
  | .s n => n.toNat < 64
  | .imm _ => true
  | _ => false

/-- A b operand that names a `v` or an `s` register only (R130). -/
def Src.okReg : Src → Bool
  | .v _ => true
  | .s n => n.toNat < 64
  | _ => false

/-- A b operand of `pmov` (R93). -/
def Src.okAny : Src → Bool
  | .v _ => true
  | .s n => n.toNat < 64
  | .imm _ => true
  | .p n => n.toNat < 8

/-- The phase operand of `bwait` and `btest`: bs 00 with b zero, or an `s` register (R266). -/
def Src.okPhase : Src → Bool
  | .v n => n.toNat = 0
  | .s n => n.toNat < 64
  | _ => false

/-- A memory operand of R42: sc 5 and 6 are reserved, and sc 7 needs `s63`. -/
def Mem.ok (m : Mem) : Bool :=
  m.sc.toNat < 5 || (m.sc.toNat = 7 && m.s.toNat = 63)

/-- A scratchpad operand: sc 0 to 4 (R155). -/
def Mem.okSpad (m : Mem) : Bool := m.sc.toNat < 5

/-- Which special register numbers `gets` reads (R95). -/
def getsOk (n : Nat) : Bool := 2 ≤ n && n ≤ 24

/-- Which special register numbers `getv` reads (R95). -/
def getvOk (n : Nat) : Bool := n ≤ 24 && n != 0x13

/-- Which selectors `cpg` reads (R273). -/
def cpgOk (n : Nat) : Bool := n ≤ 2 || (8 ≤ n && n ≤ 15)

/-- Is the instruction a word of the opcode map, not an event? -/
def Instr.isWord : Instr → Bool
  | .pageWalkComplete _ _ _ => false
  | .loadDataArrive _ _ _ _ => false
  | .storeQueueDrain _ _ => false
  | .storeApply _ _ => false
  | .atomicApply _ _ => false
  | .parkTimeout _ => false
  | .scReservationGrant _ => false
  | .scStampRollover => false
  | .txCommit _ _ => false
  | .rendezvousClose _ _ => false
  | .wavefrontComplete _ _ => false
  | .acczApply _ _ => false
  | .copyComplete _ => false
  | .cplComplete _ => false
  | .iodbMark _ => false
  | .doorbellWrite _ => false
  | .enqRecordCopy _ => false
  | .reorderFlushTimeout _ _ => false
  | .teamPlace _ => false
  | .teamRetire _ => false
  | .parkThresholdSwap _ => false
  | .timeSliceExpiry _ => false
  | .portTrain _ _ => false
  | .groupBifurcate _ _ => false
  | .linkPartnerDetect _ _ _ _ => false
  | .laneFailure _ _ => false
  | .deviceRemoval _ => false
  | .deviceMemoryRequest _ _ _ _ _ _ _ => false
  | .atsTranslationRequest _ _ _ _ => false
  | .atsInvalidateCompletion _ => false
  | .pageRequestMessage _ _ _ _ _ _ _ => false
  | .msixMessage _ _ _ => false
  | .legacyInterruptMessage _ => false
  | .ntbIncomingRequest _ _ _ _ _ => false
  | .cfgCompletion _ _ _ => false
  | .cfgCompletionTimeout _ => false
  | .qhLoad _ => false
  | .qhRetire _ => false
  | .remapWrite _ _ _ => false
  | .hostDoorbellWrite _ => false
  | .featOk _ _ => false
  | .functionLevelReset _ => false
  | .dstQueueWrite _ _ _ _ => false
  | .dstJbaseWrite _ _ => false
  | .dstFqbaseWrite _ _ => false
  | .dstFqrdWrite _ _ => false
  | .dstHoldClear _ _ _ => false
  | .partitionMake _ _ => false
  | .partitionUnmake _ _ => false
  | .gateTableInvalidate => false
  | .copyEngineAssign _ _ => false
  | .copyEngineAssignEffect _ => false
  | .scrubUnit _ => false
  | .scrubResume _ => false
  | .fenMeasurementSave _ => false
  | .systemCoreRestart _ => false
  | .spareSubstitute _ _ => false
  | .coreRetire _ _ => false
  | .channelRetire _ _ _ => false
  | .firmwareHandover => false
  | .powerModeWrite _ => false
  | .powerModeEffect => false
  | .partitionGate _ => false
  | .partitionUngate _ => false
  | .mclogPop _ => false
  | .splitEffect _ => false
  | .timecmpEvent _ => false
  | .powerCapEngage => false
  | .powerCapRelease => false
  | .thermalCap _ => false
  | .thermalTrip _ => false
  | .thermalRecovery => false
  | .thermalShutdown _ => false
  | .coreUncorrectableError _ _ => false
  | .linkDataLoss _ _ _ => false
  | .coldReset => false
  | .warmReset => false
  | .registerWrite _ _ => false
  | .deviceReadCompletionTimeout _ _ _ => false
  | .expanderWriteComplete _ => false
  | .contextSaveComplete _ => false
  | _ => true

/-- The field checks of each instruction's rule. -/
def wellFormed : Instr → Bool
  | .clauseHeader _ a b _ _ _ => a.toNat ≤ 12 && b.toNat ≤ 12
  | .gets _ i => getsOk i.toNat
  | .getv _ i => getvOk i.toNat
  | .loop l c n e => l.toNat != 3 && (c.toNat = 1 || n.toNat < 64) && 1 ≤ e.toNat && e.toNat ≤ 256
  | .sadd b _ _ => b.okUni
  | .ssub b _ _ => b.okUni
  | .smul b _ _ => b.okUni
  | .smulh b _ _ => b.okUni
  | .sand b _ _ => b.okUni
  | .sor b _ _ => b.okUni
  | .sxor b _ _ => b.okUni
  | .sshl b _ _ => b.okUni
  | .sshr b _ _ => b.okUni
  | .ssra b _ _ => b.okUni
  | .smin b _ _ => b.okUni
  | .smax b _ _ => b.okUni
  | .scmp b _ _ _ => b.okUni
  | .ssel b _ _ => b.okUni
  | .smov b _ => b.okUni
  | .pmov b _ => b.okAny
  | .vadd b _ _ => b.okVec
  | .vsub b _ _ => b.okVec
  | .vmul b _ _ => b.okVec
  | .vmulh b _ _ => b.okVec
  | .vmad b _ _ => b.okVec
  | .vdiv b _ _ => b.okVec
  | .vrem b _ _ => b.okVec
  | .vmin b _ _ => b.okVec
  | .vmax b _ _ => b.okVec
  | .vand b _ _ => b.okVec
  | .vor b _ _ => b.okVec
  | .vxor b _ _ => b.okVec
  | .vshl b _ _ => b.okVec
  | .vshr b _ _ => b.okVec
  | .vsra b _ _ => b.okVec
  | .vbfx b _ _ => b.okReg
  | .vbfi b _ _ => b.okReg
  | .vsel b _ _ => b.okVec
  | .vcmp b _ _ _ => b.okVec
  | .vmov b _ => b.okVec
  | .vfadd b _ _ => b.okVec
  | .vfsub b _ _ => b.okVec
  | .vfmul b _ _ => b.okVec
  | .vfma b _ _ => b.okVec
  | .vfmin b _ _ => b.okVec
  | .vfmax b _ _ => b.okVec
  | .vfcmp b _ _ _ => b.okVec
  | .vfdiv b _ _ => b.okVec
  | .vshf b _ _ => b.okVec
  | .vrot b _ _ => b.okUni
  | .vrd b _ _ => b.okUni
  | .vred _ _ o => o.toNat ≤ 5
  | .vscan _ _ o => o.toNat ≤ 5
  | .vseed b _ => b.okVec
  | .cbld a => a.toNat ≤ 60
  | .cbst d => d.toNat ≤ 60
  | .ldb _ m => m.ok
  | .ldh _ m => m.ok
  | .ldw _ m => m.ok
  | .ldd _ m => m.ok
  | .ldq _ m => m.ok
  | .stb _ m => m.ok
  | .sth _ m => m.ok
  | .stw _ m => m.ok
  | .std _ m => m.ok
  | .stq _ m => m.ok
  | .ldf _ m => m.ok
  | .stf _ m => m.ok
  | .ldsw _ m => m.okSpad
  | .ldsd _ m => m.okSpad
  | .ldsq _ m => m.okSpad
  | .stsw _ m => m.okSpad
  | .stsd _ m => m.okSpad
  | .stsq _ m => m.okSpad
  | .lda _ m => m.ok
  | .stl _ m => m.ok
  | .ldsc _ m => m.ok
  | .stsc _ m => m.ok
  | .ldnx _ m => m.ok
  | .stnx _ m => m.ok
  | .pref h m => h.toNat != 3 && m.ok
  | .fence k s => k.toNat != 3 && s.toNat ≤ 4
  | .flush m => m.ok
  | .inv m => m.ok
  | .xlat _ m => m.ok
  | .aadd b _ _ => b.okVec
  | .aand b _ _ => b.okVec
  | .aor b _ _ => b.okVec
  | .axor b _ _ => b.okVec
  | .amin b _ _ => b.okVec
  | .amax b _ _ => b.okVec
  | .axchg b _ _ => b.okVec
  | .ainc b _ _ => b.okVec
  | .afadd b _ _ => b.okVec
  | .acas b _ _ => b.okVec
  | .park b _ _ _ => b.okVec
  | .ldga _ m => m.ok
  | .mstat _ s => s.toNat ≤ 5
  | .cpt _ _ c _ _ => c.toNat ≤ 61
  | .cpx _ _ c _ => c.toNat ≤ 61
  | .cpl b _ _ => b.okVec
  | .cpg _ s => cpgOk s.toNat
  | .binit b _ => b.okUni
  | .bexp b _ => b.okUni
  | .bwait b _ => b.okPhase
  | .btest b _ _ => b.okPhase
  | .iodb b _ => b.okVec
  | .iodbCq b _ => b.okVec
  | .prqpop d => d.toNat ≤ 60
  | .prqack _ c => c.toNat ≤ 2
  | .ntbmap a => a.toNat ≤ 60
  | .enq b _ _ => b.okUni
  | .launch _ _ n => 1 ≤ n.toNat && n.toNat ≤ 63
  | .resumeRestart _ a => a.toNat ≤ 61
  | .resumeSkip _ a => a.toNat ≤ 61
  | .resumeSkipArgs _ a => a.toNat ≤ 53
  | .resumeEnd _ a => a.toNat ≤ 61
  | .gcallImm _ n => n.toNat ≤ 63
  | .scrub _ a => a.toNat ≤ 61
  | .fset _ a => a.toNat ≤ 61
  | .attestEvidence _ a => a.toNat ≤ 61
  | .attestEphemeral _ a => a.toNat ≤ 61
  | .attestRelease _ a => a.toNat ≤ 61
  | .meas _ a => a.toNat ≤ 56
  | .migrSet _ a => a.toNat ≤ 60
  | .migrSave _ a => a.toNat ≤ 60
  | .migrLoad _ a => a.toNat ≤ 60
  | i => i.isWord

end Sys2Proof
end

