-- ==== Sys2Proof/Machine/Branch.lean ====
section
/-!
DEFINITION. Clause headers (R46 to R49, R79), branches and reconvergence (R73 to R77), hardware loops (R83 to R86), the
waiting words (R88), traps and system calls (R97, R98), the return from a trap (R105) and `halt` (R106).
-/
namespace Sys2Proof.Machine

/-- Is a word a clause header (R38)? -/
def isHeader (w : Nat) : Bool := w / 2 ^ 28 = 15

/-- HeaderCheck of R47, made once the target has been fetched (R394): a failed fetch is raised at the target later. -/
def State.headerCheck (s : State) (c : Ctx) (t : BitVec 57) : Option Flt :=
  match s.fetchWord c.team.core c.grp.port c.fen t.toNat with
  | .ok w => if isHeader w then none else some { cause := 0x02, pc := some t }
  | .error cause => if cause = 0x02 then some { cause := 0x02, pc := some t } else none

/-- A word without register operands. -/
def ctlW (op : Nat) (i : Instr) : Word := { op := op, legal := wellFormed i }

/-! ## Headers -/

/-- Fusion at a header (R79): every splinter of the group that stands there with MID = 0 and the same innermost frame
joins the entering entry; the mode is that of the lowest lane's splinter (R54). A DEFER frame is released into an entry that
this frees (R82). -/
def Group.fuse (g : Group) (ei : Nat) (e : Splinter) : Group :=
  let same := g.entries.filter fun x => x.2.pc = e.pc ∧ x.2.mid = false ∧ x.2.frame = e.frame
  let low := same.foldl (fun m x => if lowLane x.2.mask < lowLane m.mask then x.2 else m) e
  let mask := same.foldl (fun m x => m ||| x.2.mask) e.mask
  let g := same.foldl (fun g x => if x.1 = ei then g else g.freeUp x.1) g
  (g.setEntry ei { e with mask := mask, mode := low.mode }).settle

/-- The first deferred cause due at a header with this WAIT (R33). -/
def Group.dueAt (g : Group) (wait : Nat) : Option Deferred :=
  g.deferred.find? fun d => match d.at_ with
    | .flag n => bitOf wait n
    | .store => false

/-- A deferred cause as a fault (R33, R171). -/
def Deferred.flt (d : Deferred) : Flt :=
  { cause := d.cause, lanes := d.lanes, addr := d.addr, kind := d.kind, defer := true }

/-- A group without one deferred cause. -/
def Group.dropDeferred (g : Group) (d : Deferred) : Group := { g with deferred := g.deferred.erase d }

/-- A splinter that starts the clause of the header at its PC (R47, R49). -/
def Splinter.start (e : Splinter) (a b n : BitVec 4) : Splinter :=
  { e with pc := e.pc + 4, mid := true, cseta := a, csetb := b, cleft := n }

/-- Flags observed as zero: after a `txe` of theirs the group's loads use no L1 sector filled before `now` (R21, R214). -/
def Group.observe (g : Group) (wait now : Nat) : Group :=
  let seen := g.txeFlags &&& BitVec.ofNat 12 wait
  if seen = 0 then g else { g.acquire now with txeFlags := g.txeFlags &&& ~~~seen }

/-- The entry of a splinter into a header whose fields have passed: fusion, deferred faults, WAIT (R33, R49, R79). -/
def State.enterHeader (s : State) (c : Ctx) (wait : Nat) (a b n : BitVec 4) : State :=
  let g := c.grp.fuse c.ei c.ent
  match g.dueAt wait with
  | some d => (s.setGroup c.ti c.gi (g.dropDeferred d)).takeFault c.ti c.gi c.ei d.flt
  | none =>
    if g.flagsZero wait then
      match g.entries.find c.ei with
      | some e => s.setGroup c.ti c.gi ((g.setEntry c.ei (e.start a b n)).observe wait s.nextId)
      | none => s
    else s.setGroup c.ti c.gi g

/-- CLAUSE_HEADER (R46 to R49); YH and LB change timing only -/
def execClauseHeader (w : BitVec 12) (a b n : BitVec 4) (y cap : BitVec 1) (s : State) :
    Host.Outcome State Fault Refusal :=
  match s.ctx with
  | none => .refused .noIssuer
  | some c =>
    if c.stalled s then .next s
    else if c.ent.mid then .next (s.takeFault c.ti c.gi c.ei { cause := 0x02 })
    else if wellFormed (.clauseHeader w a b n y cap) then .next (s.enterHeader c w.toNat a b n)
    else .next (s.takeFault c.ti c.gi c.ei { cause := 0x01 })

/-! ## Waiting -/

/-- `nop` (R88) -/
def execNop (i : BitVec 23) (s : State) : Host.Outcome State Fault Refusal :=
  issueG (ctlW 0x000 (.nop i)) (fun c => .ok c.grp) s

/-- `yield` (R88): the window order is timing -/
def execYield (s : State) : Host.Outcome State Fault Refusal :=
  issueG (ctlW 0x00E .yield) (fun c => .ok c.grp) s

/-- `wait` (R88): not eligible until every named flag is zero -/
def execWait (f : BitVec 12) (s : State) : Host.Outcome State Fault Refusal :=
  issue (ctlW 0x00F (.wait f)) (fun c s => if c.grp.flagsZero f.toNat then .ok (s.setGroup c.ti c.gi (c.grp.observe f.toNat s.nextId)) else .hold s) s

/-! ## Branches -/

/-- The lanes of a splinter whose condition holds (R43). -/
def Ctx.taken (c : Ctx) (q : BitVec 3) (n : BitVec 1) : W32 :=
  c.mask &&& (c.grp.pmask q.toNat ^^^ (if n = 1 then BitVec.allOnes 32 else 0))

/-- `br` (R73) -/
def execBr (h : BitVec 2) (q : BitVec 3) (n : BitVec 1) (o : BitVec 17) (s : State) : Host.Outcome State Fault Refusal :=
  issue (ctlW 0x004 (.br h q n o)) (fun c s =>
    let target := targetOf c.ent.pc o
    let t := c.taken q n
    if h = 3 ∧ t ≠ 0 ∧ t ≠ c.mask then .raise { cause := 0x05 } s
    else if t = 0 then .ok s
    else if c.grp.leavesLoop c.ent target then .raise { cause := 0x09 } s
    else match s.headerCheck c target with
    | some f => .raise f s
    | none =>
      if t = c.mask then .moved (s.setGroup c.ti c.gi (c.grp.jumpTo c.ei c.ent target))
      else match c.grp.split c.ei c.ent t target with
      | some g => .moved (s.setGroup c.ti c.gi g)
      | none => .raise { cause := 0x0C } s) s

/-- A failed check as a result of stage 2. -/
def exceptOf : Option Flt → Except Flt Unit
  | some f => .error f
  | none => .ok ()

/-- A word that moves the whole splinter (R74): its opcode, the registers it names, its target, whether R86 is checked, and
its effect on the group. The checks of R86 and R47 are of stage 2 (R107). -/
def transferWord (op : Nat) (i : Instr) (ss : List Nat) (body : Bool) (target : Ctx → BitVec 57) (f : Ctx → Group → Group) :
    State → Host.Outcome State Fault Refusal :=
  issue
    { ctlW op i with
      ss := ss
      pre := fun c s =>
        if body && c.grp.leavesLoop c.ent (target c) then .error { cause := 0x09 } else exceptOf (s.headerCheck c (target c)) }
    (fun c s => .moved (s.setGroup c.ti c.gi ((f c c.grp).jumpTo c.ei c.ent (target c))))

/-- `jmp` (R74) -/
def execJmp (hx : BitVec 6) (o : BitVec 17) (s : State) : Host.Outcome State Fault Refusal :=
  transferWord 0x005 (.jmp hx o) [] true (fun c => targetOf c.ent.pc o) (fun _ g => g) s

/-- `call` (R74): `s62` is the link. DESIGN CHOICE (log entry 136): bits [63:57] of `s62` are zero, whatever bit 56 is. -/
def execCall (hx : BitVec 6) (o : BitVec 17) (s : State) : Host.Outcome State Fault Refusal :=
  transferWord 0x007 (.call hx o) [] false (fun c => targetOf c.ent.pc o)
    (fun c g => g.writeS 62 (c.ent.afterClause.setWidth 64)) s

/-- The target of `jr` and `ret`: bits [56:0] of a uniform register (R74). -/
def Ctx.regTarget (c : Ctx) (a : BitVec 6) : BitVec 57 := (c.grp.readS a.toNat).setWidth 57

/-- `jr` (R74) -/
def execJr (a : BitVec 6) (s : State) : Host.Outcome State Fault Refusal :=
  transferWord 0x006 (.jr a) [a.toNat] true (fun c => c.regTarget a) (fun _ g => g) s

/-- `ret` (R74) -/
def execRet (a : BitVec 6) (s : State) : Host.Outcome State Fault Refusal :=
  transferWord 0x008 (.ret a) [a.toNat] true (fun c => c.regTarget a) (fun _ g => g) s

/-- A frame opened by the issuing splinter, which becomes its innermost frame (R75, R83). -/
def Group.openFrame (g : Group) (ei fi : Nat) (e : Splinter) (f : Frame) : Group :=
  (g.setFrame fi f).setEntry ei { e with frame := BitVec.ofNat 5 fi }

/-- A frame of the issuing splinter's lanes (R75, R83). DESIGN CHOICE (log entry 134): the fields of the slot that these rules do
not assign are zero (R68). -/
def Splinter.newFrame (e : Splinter) (kind : FrameKind) (rpc : BitVec 57) (len : BitVec 9) (lc : BitVec 2) : Frame :=
  { rpc := rpc, kind := kind, parent := e.frame, mask := e.mask, arrived := 0, broke := 0, amode := 0, len := len
    lc := lc, bmode := 0, dmid := false, dseta := 0, dsetb := 0, dleft := 0 }

/-- `recon` (R75) -/
def execRecon (o : BitVec 17) (s : State) : Host.Outcome State Fault Refusal :=
  issue (ctlW 0x009 (.recon o)) (fun c s =>
    let target := targetOf c.ent.pc o
    match s.headerCheck c target with
    | some f => .raise f s
    | none =>
      if c.grp.leavesLoop c.ent target then .raise { cause := 0x09 } s
      else match c.grp.freeFrame with
      | none => .raise { cause := 0x0C } s
      | some fi => .ok (s.setGroup c.ti c.gi (c.grp.openFrame c.ei fi c.ent (c.ent.newFrame .recon target 0 0)))) s

/-- `join` (R76) -/
def execJoin (s : State) : Host.Outcome State Fault Refusal :=
  issue (ctlW 0x00A .join) (fun c s =>
    match (c.grp.chain c.ent).head? with
    | none => .raise { cause := 0x10 } s
    | some (_, f) => .moved (s.setGroup c.ti c.gi (c.grp.jumpTo c.ei c.ent f.point))) s

/-! ## Loops -/

/-- The checks of `loop` at stage 2, in their order (R83). -/
def Ctx.loopCheck (c : Ctx) (s : State) (l : BitVec 2) (start fin : BitVec 57) : Option Flt :=
  let loops := (c.grp.chain c.ent).filter fun x => x.2.kind = .loop
  if c.grp.entries.length ≠ 1 ∨ c.grp.hasDefer then some { cause := 0x0D }
  else if loops.any (fun x => x.2.lc = l) ∨ 3 ≤ loops.length then some { cause := 0x08 }
  else if c.grp.leavesLoop c.ent start then some { cause := 0x09 }
  else if loops.head?.any (fun x => x.2.point.toNat < fin.toNat) then some { cause := 0x09 }
  else s.headerCheck c fin

/-- The count register of `loop`, when it names one (R43). -/
def loopRegs (c : BitVec 1) (n : BitVec 10) : List Nat := if c = 1 then [] else [n.toNat % 64]

/-- The count of `loop` (R83). -/
def Ctx.loopCount (c : Ctx) (ci : BitVec 1) (n : BitVec 10) : W32 :=
  if ci = 1 then n.setWidth 32 else (c.grp.readS (n.toNat % 64)).setWidth 32

/-- The end of the loop that `loop` opens (R83). -/
def Ctx.loopEnd (c : Ctx) (e : BitVec 10) : BitVec 57 := c.ent.afterClause + 4 * e.setWidth 57

/-- `loop` (R83); it must be the last body word of its clause -/
def execLoop (l : BitVec 2) (ci : BitVec 1) (n e : BitVec 10) (s : State) : Host.Outcome State Fault Refusal :=
  issue
    { op := 0x00B, legal := wellFormed (.loop l ci n e) && s.ctx.all (fun c => c.ent.cleft = 0), ss := loopRegs ci n
      pre := fun c s => match c.loopCheck s l c.ent.afterClause (c.loopEnd e) with
        | some f => .error f
        | none => if c.loopCount ci n ≠ 0 ∧ c.grp.freeFrame = none then .error { cause := 0x0C } else .ok () }
    (fun c s =>
      let start := c.ent.afterClause
      match (if c.loopCount ci n = 0 then none else c.grp.freeFrame) with
      | none => .moved (s.setGroup c.ti c.gi (c.grp.jumpTo c.ei c.ent (c.loopEnd e)))
      | some fi =>
        let g := (c.grp.writeLC l.toNat (c.loopCount ci n)).setFrame fi (c.ent.newFrame .loop start (e.setWidth 9) l)
        .moved (s.setGroup c.ti c.gi (g.jumpTo c.ei { c.ent with frame := BitVec.ofNat 5 fi } start))) s

/-- Lanes that leave the innermost loop (R84): they wait at its end, and no longer belong to the frames inside it. -/
def Group.breakLanes (g : Group) (ei : Nat) (e : Splinter) (fi : Nat) (f : Frame) (t : W32) : Group :=
  let g := g.dropLanes ((g.chain e).takeWhile fun x => x.1 ≠ fi) t
  let g := g.setFrame fi { f with
    broke := f.broke ||| t
    bmode := if lowLane t < lowLane f.broke then e.mode else f.bmode }
  let rest := e.mask &&& ~~~t
  (if rest = 0 then g.freeUp ei else g.setEntry ei { e.next with mask := rest }).settle

/-- `lbrk` (R84) -/
def execLbrk (h : BitVec 2) (q : BitVec 3) (n : BitVec 1) (o : BitVec 17) (s : State) : Host.Outcome State Fault Refusal :=
  issue (ctlW 0x00C (.lbrk h q n o)) (fun c s =>
    match c.grp.loopOf c.ent with
    | none => .raise { cause := 0x09 } s
    | some (fi, f) =>
      let t := c.taken q n
      if targetOf c.ent.pc o ≠ f.point then .raise { cause := 0x09 } s
      else if t = 0 then .ok s
      else .moved (s.setGroup c.ti c.gi (c.grp.breakLanes c.ei c.ent fi f t))) s

/-! ## Traps -/

/-- A word that raises a cause of its own after clearing the flashback record (R97, R98, R100). -/
def trapWord (op : Nat) (i : Instr) (cause : Nat) : State → Host.Outcome State Fault Refusal :=
  issue (ctlW op i) fun c s =>
    .raise { cause := cause, lanes := c.mask } (s.modGroup c.ti c.gi fun g => { g with fb := none })

/-- `trap` (R97) -/
def execTrap (n : BitVec 16) (s : State) : Host.Outcome State Fault Refusal := trapWord 0x010 (.trap n) 0x0A s

/-- `sys` (R98) -/
def execSys (n : BitVec 16) (s : State) : Host.Outcome State Fault Refusal := trapWord 0x011 (.sys n) 0x0B s

/-- `eret` (R105) -/
def execEret (s : State) : Host.Outcome State Fault Refusal :=
  issue (ctlW 0x013 .eret) (fun c s => .moved (s.setGroup c.ti c.gi (c.grp.trapReturn c.ei c.ent))) s

/-- SYS_EVENT as it reads when the core's `%time` is `now`: TIMER is level (R106). -/
def Core.events (k : Core) (now : Nat) : BitVec 5 :=
  k.event ||| (if k.timecmp.toNat ≤ now then 1 else 0)

/-- `halt` (R106): not eligible until an unmasked event is pending -/
def execHalt (s : State) : Host.Outcome State Fault Refusal :=
  issue (ctlW 0x014 .halt) (fun c s =>
    let k := s.core c.team.core
    if (k.events (s.timeOn c.team.core)).setWidth 64 &&& k.evmask ≠ 0 then .ok (s.setGroup c.ti c.gi { c.grp with block := none })
    else .hold (s.setGroup c.ti c.gi { c.grp with block := some { kind := .halt, entry := c.ei, since := s.now } })) s

end Sys2Proof.Machine
end

