-- ==== Sys2Proof/Machine/LoadStore.lean ====
section
/-!
DEFINITION. The load-store words: plain, uniform, formatted, scratchpad, acquire and release, sequentially consistent and
non-temporal accesses (R92, R167 to R177), fences (R178), prefetch and cache words (R179, R180), `xlat` and `tlbi`
(R181, R182).
-/
namespace Sys2Proof.Machine

/-! ## Acquires in progress -/

/-- Must a later access wait (R161, R175, R176, R192, R214)? An acquire of the group, an SC one among them, has not been
performed yet. -/
def State.acquirePending (s : State) (c : Ctx) : Bool :=
  s.acquiring c.ti c.gi s.nextId || (s.group c.ti c.gi).scq.any fun r => r.data.isNone || r.atom.isSome

/-- Must a later store wait: also for an SC store of the group (R159, R176)? -/
def State.storeMustWait (s : State) (c : Ctx) : Bool := s.acquirePending c || !c.grp.scq.isEmpty

/-- Does an access touch bytes of an SC store of the group that has not been performed (R157, R176)? -/
def Ctx.scOverlap (c : Ctx) (pa n : Nat) : Bool := c.grp.scq.any fun r => r.pa < pa + n && pa < r.pa + r.len

/-! ## Loads -/

/-- A load in progress over its lanes: the state, what has been found, and whether the word must wait. -/
structure LoadAcc where
  s : State
  writes : List RegW
  /-- failing lanes: cause, virtual address, physical address -/
  bads : List (Nat × Nat × Nat × Nat)
  devs : List (Nat × Nat × Nat)
  stall : Bool

/-- How a load word reads. -/
structure LoadSpec where
  /-- bytes of an access -/
  n : Nat
  /-- may it bind from the L1 (R156, R175, R176)? -/
  l1 : Bool
  /-- does a read at the home bank fill the L1 (R156, R177)? -/
  fill : Bool
  /-- the register writes of a lane from the value read -/
  out : Nat → Nat → List RegW
  /-- the register writes of a lane whose access failed, from a pattern -/
  failed : Nat → Nat → List RegW
  /-- a uniform load: its failure names every lane (R92) -/
  uni : Bool := false

/-- Does the group have stores to regions 0x2, 0x3 and 0xF that have not reached their targets (R172)? -/
def State.outstandingIo (s : State) (c : Ctx) : Bool :=
  let io (e : StoreEnt) := 2 ≤ regionOf e.pa
  c.grp.sq.any io || (s.core c.team.core).cso.any fun e => e.team = c.ti && e.group = c.gi && io e

/-- A lane whose transactional access failed: a machine check is logged, and the lane aborts (R34, R37, R202). -/
def State.txFailed (s : State) (c : Ctx) (l pa cause detail : Nat) : State :=
  let s := if isMc detail then s.logMem detail pa false else s
  s.modGroup c.ti c.gi fun g => g.abortLane cause detail l

/-- A lane whose transactional read has been logged: the bank's bytes are newer than what the core's L1 holds (R157). -/
def State.txLogged (s : State) (c : Ctx) (l : Nat) (x : TxLane) (pa n : Nat) : State :=
  (s.modGroup c.ti c.gi fun g => g.setTx l x).dropOwn c.team.core c.fen pa n

/-- A lane of a load inside its open transaction (R202). -/
def LoadAcc.txLane (a : LoadAcc) (c : Ctx) (spec : LoadSpec) (l pa : Nat) : LoadAcc :=
  if a.s.txWaits c pa spec.n then { a with stall := true }
  else
    match a.s.txRead c ((a.s.group c.ti c.gi).txLane l) pa spec.n with
    | .ok (x, bs) =>
      { a with s := a.s.txLogged c l x pa spec.n, writes := a.writes ++ spec.out l (natLE bs) }
    | .error (cause, detail) => { a with s := a.s.txFailed c l pa cause detail }

/-- A lane of a load from region 0x0 or 0x1 (R159, R171). -/
def LoadAcc.memLane (a : LoadAcc) (c : Ctx) (spec : LoadSpec) (l va : Nat) (x : Xlate) : LoadAcc :=
  match a.s.bind c (spec.l1 && !x.nc) (spec.fill && !x.nc) x.pa spec.n with
  | (.stall, _) => { a with stall := true }
  | (.val bs, s) => { a with s := s, writes := a.writes ++ spec.out l (natLE bs) }
  | (.err e pa, s) =>
    let (v, s) := s.errValue e
    { a with s := s, writes := a.writes ++ spec.failed l v, bads := a.bads ++ [(l, e.code, va, pa)] }

/-- A lane of a load from region 0x2, 0x3 or 0xF (R171, R172, R393): what a device answers is a free value. -/
def LoadAcc.ioLane (a : LoadAcc) (c : Ctx) (spec : LoadSpec) (l va pa : Nat) : LoadAcc :=
  if a.s.outstandingIo c then { a with stall := true }
  else if regionOf pa = 15 then { a with writes := a.writes ++ spec.out l (a.s.regRead pa spec.n) }
  else if a.s.reaches c.fen pa then
    let (x, s) := a.s.freeNat
    let v := x % 2 ^ (8 * spec.n)
    { a with
      s := s.sendOut pa false [], writes := a.writes ++ spec.out l v,
      devs := a.devs ++ [(l, (a.s.takes c.fen pa).getD 0, va)] }
  else { a with writes := a.writes ++ spec.failed l (2 ^ 256 - 1), bads := a.bads ++ [(l, 0x4A, va, pa)] }

/-- One lane of a load. -/
def LoadAcc.lane (c : Ctx) (spec : LoadSpec) (tx : Bool) (a : LoadAcc) (y : Nat × Nat × Xlate) : LoadAcc :=
  let (l, va, x) := y
  if a.stall then a
  else if tx && (c.grp.txLane l).state = .opened then a.txLane c spec l x.pa
  else if isMemRegion x.pa then a.memLane c spec l va x
  else a.ioLane c spec l va x.pa

/-- The lanes of a load that have passed their checks: the word becomes an operation of its flag (R48, R168, R171). -/
def State.loadLanes (s : State) (c : Ctx) (op : Nat) (spec : LoadSpec) (tx : Bool)
    (lanes : List (Nat × Nat × Xlate)) : Res :=
  let c := c.refresh s
  let a := lanes.foldl (LoadAcc.lane c spec tx) { s := s, writes := [], bads := [], devs := [], stall := false }
  if a.stall || s.acquirePending c || lanes.any (fun y => c.scOverlap y.2.2.pa spec.n) then .stall
  else
    let (id, s) := (a.s.logLanes a.bads).fresh
    let bad := deferOf (.flag (c.flagNo op)) 1 a.bads
    .ok (s.begin c.ti c.gi { Pending.new id (c.flagNo op) with
      writes := a.writes, devs := a.devs, acq := op = 0x120
      bad := if spec.uni then bad.map fun b => { b with lanes := BitVec.allOnes 32 } else bad })

/-- The lanes of a word with their effective addresses (R42). -/
def Ctx.addresses (c : Ctx) (m : Mem) : List (Nat × Nat) := c.lanes.map fun l => (l, c.ea m l)

/-- Registers of an access of n bytes. -/
def regsOf (n : Nat) : Nat := (n + 3) / 4

/-- A loaded value extended to its register (R168). -/
def Ctx.extended (c : Ctx) (n x : Nat) : Nat :=
  if n < 4 ∧ tySigned c.ty then wrapTo 32 (signedOf (8 * n) x) else x

/-- The plan of a load of n bytes into the registers from `d` on. -/
def Ctx.loadSpec (c : Ctx) (n d : Nat) (l1 fill : Bool) : LoadSpec :=
  { n := n, l1 := l1, fill := fill
    out := fun l x => laneWrites l d (regsOf n) (c.extended n x)
    failed := fun l x => laneWrites l d (regsOf n) x }

/-- The field rules of a memory word: the data register's alignment by size (R40, R167). -/
def memW (op : Nat) (i : Instr) (n : Ctx → Nat) (load : Bool) (d : BitVec 7) (m : Mem) : Word :=
  { op := op, legal := wellFormed i, vs := d.toNat :: m.vs, ss := m.ss
    pairs := fun c => (if n c = 8 then [d.toNat] else []) ++ m.pairs
    lanesOk := fun c _ =>
      if n c = 16 ∧ d.toNat % 4 ≠ 0 ∧ ¬ (load ∧ d.toNat = 127) then .error { cause := 0x27, lanes := c.active } else .ok () }

/-- A plain or non-temporal load (R168, R177). -/
def loadWord (op n : Nat) (fill : Bool) (i : Instr) (d : BitVec 7) (m : Mem) : State → Host.Outcome State Fault Refusal :=
  issue (memW op i (fun _ => n) true d m) fun c s =>
    match s.checkLanes c { op := op, bytes := n, r := true, w := false, kind := 1, tx := true } (c.addresses m) with
    | .error (f, s) => .raise f s
    | .ok (s1, ls) => s1.loadLanes c op (c.loadSpec n d.toNat true fill) true ls

/-- `ldb` (R168) -/
def execLdb (d : BitVec 7) (m : Mem) (s : State) : Host.Outcome State Fault Refusal := loadWord 0x100 1 true (.ldb d m) d m s

/-- `ldh` (R168) -/
def execLdh (d : BitVec 7) (m : Mem) (s : State) : Host.Outcome State Fault Refusal := loadWord 0x101 2 true (.ldh d m) d m s

/-- `ldw` (R168) -/
def execLdw (d : BitVec 7) (m : Mem) (s : State) : Host.Outcome State Fault Refusal := loadWord 0x102 4 true (.ldw d m) d m s

/-- `ldd` (R168) -/
def execLdd (d : BitVec 7) (m : Mem) (s : State) : Host.Outcome State Fault Refusal := loadWord 0x103 8 true (.ldd d m) d m s

/-- `ldq` (R168) -/
def execLdq (d : BitVec 7) (m : Mem) (s : State) : Host.Outcome State Fault Refusal := loadWord 0x104 16 true (.ldq d m) d m s

/-- `ldnx` (R177) -/
def execLdnx (d : BitVec 7) (m : Mem) (s : State) : Host.Outcome State Fault Refusal :=
  loadWord 0x124 16 false (.ldnx d m) d m s

/-- Bytes of `lda`, `stl`, `ldsc` and `stsc` (R175). -/
def Ctx.syncBytes (c : Ctx) : Nat := if tyPair c.ty then 8 else 4

/-- `lda` (R175): never from the L1, and later loads use no sector filled before it -/
def execLda (d : BitVec 7) (m : Mem) (s : State) : Host.Outcome State Fault Refusal :=
  issue (memW 0x120 (.lda d m) Ctx.syncBytes true d m) (fun c s =>
    match s.checkLanes c { op := 0x120, bytes := c.syncBytes, r := true, w := false, kind := 1 } (c.addresses m) with
    | .error (f, s) => .raise f s
    | .ok (s1, ls) =>
      match s1.loadLanes c 0x120 (c.loadSpec c.syncBytes d.toNat false false) false ls with
      | .ok t => .ok (t.raiseFloor c.ti c.gi)
      | r => r) s

/-- `sld` (R92): one lane's `ldd` -/
def execSld (d n : BitVec 6) (s : State) : Host.Outcome State Fault Refusal :=
  issue { op := 0x035, legal := wellFormed (.sld d n), ss := [d.toNat, n.toNat] } (fun c s =>
    let va := (c.grp.readS n.toNat).toNat
    match s.chk c { op := 0x035, bytes := 8, r := true, w := false, kind := 1 } false va with
    | .bad cause addr mc => .raise { cause := cause, addr := addr, kind := 1, mcpa := mc } s
    | .unsup => .hold s
    | .ok x =>
      let spec : LoadSpec := {
        n := 8, l1 := true, fill := true, out := fun _ x => [.s d.toNat (BitVec.ofNat 64 x)]
        failed := fun _ x => [.s d.toNat (BitVec.ofNat 64 x)], uni := true }
      s.loadLanes c 0x035 spec false [(0, va, x)]) s

/-! ## Stores -/

/-- A failure of an earlier store of the group that is due at this word (R171). -/
def Ctx.dueStore (c : Ctx) : Option Deferred := c.grp.deferred.find? fun d => d.at_ = .store

/-- A word at which failures of stores are delivered (R171). -/
def Ctx.storeFaults (c : Ctx) (s : State) (k : Unit → Res) : Res :=
  match c.dueStore with
  | some d => .raise d.flt (s.modGroup c.ti c.gi fun g => g.dropDeferred d)
  | none => k ()

/-- An entry of the group's store queue. -/
def Ctx.storeEnt (c : Ctx) (word l va pa : Nat) (bs : List (Byte × Byte)) (kind : StKind) : StoreEnt :=
  { word := word, team := c.ti, group := c.gi, lane := l, fen := c.fen, va := va % 2 ^ 57, pa := pa, bytes := bs
    more := none, kind := kind }

/-- A store of a lane: queued, or logged inside its open transaction, in which an element takes every entry it needs or aborts
the lane; what follows an abort is not made (R168, R202, R203). -/
def State.putStore (s : State) (c : Ctx) (e : StoreEnt) : State :=
  if (c.grp.txLane e.lane).state = .opened then
    let x := (s.group c.ti c.gi).txLane e.lane
    if x.state ≠ .opened then s
    else match e.pieces.foldlM (fun x p => x.store p.1 p.2) x with
    | .ok x => s.modGroup c.ti c.gi fun g => g.setTx e.lane x
    | .error (cause, detail) => s.txFailed c e.lane e.pa cause detail
  else s.modGroup c.ti c.gi fun g => { g with sq := g.sq ++ [e] }

/-- One lane of a store (R168). DESIGN CHOICE (log entry 31): a group's store queue has no size, so that a store word never
waits for room (R170). -/
def Ctx.storeLane (c : Ctx) (word : Nat) (kind : StKind) (s : State) (y : Nat × Nat × Nat × List (Byte × Byte)) : State :=
  s.putStore c (c.storeEnt word y.1 y.2.1 y.2.2.1 y.2.2.2 kind)

/-- The low n bytes of the registers from `d` on. -/
def Group.dataBytes (g : Group) (l d n : Nat) : List Byte :=
  ((List.range (regsOf n)).flatMap fun i => bytesLE 4 (g.readV l (if d = 127 then 127 else d + i)).toNat).take n

/-- A store of n bytes into the group's queue (R168). -/
def storeWord (op : Nat) (n : Ctx → Nat) (kind : StKind) (i : Instr) (d : BitVec 7) (m : Mem) :
    State → Host.Outcome State Fault Refusal :=
  issue (memW op i n false d m) fun c s0 =>
    match s0.checkLanes c { op := op, bytes := n c, r := false, w := true, kind := 2, tx := kind = .plain } (c.addresses m) with
    | .error (f, s) => .raise f s
    | .ok (s, ls) =>
      let c := c.refresh s
      let go (_ : Unit) : Res :=
        let (w, s) := s.fresh
        .ok ((ls.map fun y => (y.1, y.2.1, y.2.2.pa, whole (c.grp.dataBytes y.1 d.toNat (n c)))).foldl (c.storeLane w kind) s)
      if s.storeMustWait c then .stall
      else if kind = .plain then go () else c.storeFaults s go

/-- `stb` (R168) -/
def execStb (d : BitVec 7) (m : Mem) (s : State) : Host.Outcome State Fault Refusal :=
  storeWord 0x108 (fun _ => 1) .plain (.stb d m) d m s

/-- `sth` (R168) -/
def execSth (d : BitVec 7) (m : Mem) (s : State) : Host.Outcome State Fault Refusal :=
  storeWord 0x109 (fun _ => 2) .plain (.sth d m) d m s

/-- `stw` (R168) -/
def execStw (d : BitVec 7) (m : Mem) (s : State) : Host.Outcome State Fault Refusal :=
  storeWord 0x10A (fun _ => 4) .plain (.stw d m) d m s

/-- `std` (R168) -/
def execStd (d : BitVec 7) (m : Mem) (s : State) : Host.Outcome State Fault Refusal :=
  storeWord 0x10B (fun _ => 8) .plain (.std d m) d m s

/-- `stq` (R168) -/
def execStq (d : BitVec 7) (m : Mem) (s : State) : Host.Outcome State Fault Refusal :=
  storeWord 0x10C (fun _ => 16) .plain (.stq d m) d m s

/-- `stnx` (R177) -/
def execStnx (d : BitVec 7) (m : Mem) (s : State) : Host.Outcome State Fault Refusal :=
  storeWord 0x125 (fun _ => 16) .plain (.stnx d m) d m s

/-- `stl` (R175) -/
def execStl (d : BitVec 7) (m : Mem) (s : State) : Host.Outcome State Fault Refusal :=
  storeWord 0x121 Ctx.syncBytes .release (.stl d m) d m s

/-- `sst` (R92): one lane's `std` -/
def execSst (d n : BitVec 6) (s : State) : Host.Outcome State Fault Refusal :=
  issue { op := 0x036, legal := wellFormed (.sst d n), ss := [d.toNat, n.toNat] } (fun c s =>
    let va := (c.grp.readS n.toNat).toNat
    match s.chk c { op := 0x036, bytes := 8, r := false, w := true, kind := 2 } false va with
    | .bad cause addr mc => .raise { cause := cause, addr := addr, kind := 2, mcpa := mc } s
    | .unsup => .hold s
    | .ok x =>
      let bs := whole (bytesLE 8 (c.grp.readS d.toNat).toNat)
      let (w, s1) := s.fresh
      if s.storeMustWait c then .hold s
      else .ok (s1.modGroup c.ti c.gi fun g => { g with sq := g.sq ++ [c.storeEnt w 32 va x.pa bs .plain] })) s

/-! ## Sequentially consistent accesses -/

/-- A lane's SC access, to be sent (R162, R176). -/
def Ctx.scReq (c : Ctx) (l va pa n : Nat) (data : Option (List Byte)) (pend dst : Nat) : ScReq :=
  { team := c.ti, group := c.gi, fen := c.fen, va := va % 2 ^ 57, pa := pa, len := n, data := data, atom := none
    pend := pend, lane := l, dst := dst, stamp := { c := 0, core := 0 }, refused := false }

/-- `ldsc` (R176) -/
def execLdsc (d : BitVec 7) (m : Mem) (s : State) : Host.Outcome State Fault Refusal :=
  issue (memW 0x122 (.ldsc d m) Ctx.syncBytes true d m) (fun c s =>
    match s.checkLanes c { op := 0x122, bytes := c.syncBytes, r := true, w := false, kind := 1 } (c.addresses m) with
    | .error (f, s) => .raise f s
    | .ok (s, ls) =>
      let (id, s) := s.fresh
      let s := s.begin c.ti c.gi { Pending.new id (c.flagNo 0x122) with waiting := ls.length }
      .ok ((s.modGroup c.ti c.gi fun g => { g with
        scq := g.scq ++ ls.map fun y => c.scReq y.1 y.2.1 y.2.2.pa c.syncBytes none id d.toNat }).pumpSc c.ti c.gi)) s

/-- `stsc` (R176) -/
def execStsc (d : BitVec 7) (m : Mem) (s : State) : Host.Outcome State Fault Refusal :=
  issue (memW 0x123 (.stsc d m) Ctx.syncBytes false d m) (fun c s =>
    match s.checkLanes c { op := 0x123, bytes := c.syncBytes, r := false, w := true, kind := 2 } (c.addresses m) with
    | .error (f, s) => .raise f s
    | .ok (s, ls) =>
      c.storeFaults s fun _ =>
        let (w, s) := s.fresh
        .ok ((s.modGroup c.ti c.gi fun g => { g with
          scq := g.scq ++ ls.map fun y =>
            c.scReq y.1 y.2.1 y.2.2.pa c.syncBytes (some (c.grp.dataBytes y.1 d.toNat c.syncBytes)) w 0 }).pumpSc c.ti c.gi)) s

/-! ## Formatted accesses -/

/-- Base address and first element of a lane's `ldf` or `stf` (R173). -/
def Ctx.elemBase (c : Ctx) (m : Mem) (l : Nat) : Nat × Int :=
  if m.sc.toNat = 7 then ((c.grp.readV2 l m.a.toNat).toNat, 0)
  else ((c.grp.readS m.s.toNat).toNat, ((c.grp.readV l m.a.toNat).signExtend 64 <<< m.sc.toNat).toInt)

/-- The first bit of an element, counted from the base (R152). -/
def elemBit (fmt : Nat) (j : Int) : Int :=
  if fmt = 0x0F then 384 * (j / 64) + 6 * (j % 64) else (tyWidth fmt : Int) * j

/-- The bytes that elements j to j + n - 1 touch: first and last address, modulo 2^64 (R152). -/
def elemSpan (fmt base : Nat) (j : Int) (n : Nat) : Int × Int :=
  ((base : Int) + elemBit fmt j / 8, (base : Int) + (elemBit fmt (j + n - 1) + tyWidth fmt - 1) / 8)

/-- One part of a formatted access: address and length within a page (R153). -/
structure Part' where
  va : Nat
  pa : Nat
  len : Nat
  nc : Bool
  deriving DecidableEq, Repr

/-- The check of one part (R145, R152, R153): the bytes from `va` on, at most `left` of them. -/
def State.chkPart (s : State) (c : Ctx) (r : Rule) (opened : Bool) (fmt va left : Nat) : Except LaneChk Part' :=
  if !canonical va then .error (.bad 0x44 va none)
  else match s.xlate c.team.core c.grp.port c.fen va with
  | .error e => .error (.bad e.code va e.mcpa)
  | .ok x =>
    let len := min left (x.size - x.pa % x.size)
    if !paNames (x.pa + len - 1) then .error (.bad 0x48 (va + (paLimit - bitsOf x.pa 0 36)) none)
    else if !r.permits x then .error (.bad 0x41 va none)
    else if opened && 2 ≤ regionOf x.pa then .error .unsup
    else if 2 ≤ regionOf x.pa then .error (.bad 0x49 va none)
    else if x.fmt ≠ fmt then .error (.bad 0x43 (va / x.size * x.size) none)
    else match (s.core c.team.core).lockHit false c.fen (va % 2 ^ 57) len r.w with
    | some a => .error (.bad 0x45 a none)
    | none => .ok { va := va, pa := x.pa, len := len, nc := x.nc }

/-- The parts of a formatted access in ascending order (R153). An access of 32 elements spans at most three pages. -/
def State.chkParts (s : State) (c : Ctx) (r : Rule) (opened : Bool) (fmt : Nat) :
    Nat → Nat → Nat → Except LaneChk (List Part')
  | 0, _, _ => .ok []
  | fuel + 1, va, left => do
    if left = 0 then pure []
    else
      let p ← s.chkPart c r opened fmt va left
      let ps ← s.chkParts c r opened fmt fuel ((va + p.len) % 2 ^ 64) (left - p.len)
      pure (p :: ps)

/-- The format of the base's page, after the checks that come before it (R152). -/
def State.chkBase (s : State) (c : Ctx) (base : Nat) : Except LaneChk Nat :=
  if !canonical base then .error (.bad 0x44 base none)
  else if base % 16 ≠ 0 then .error (.bad 0x42 base none)
  else match s.xlate c.team.core c.grp.port c.fen base with
  | .error e => .error (.bad e.code base e.mcpa)
  | .ok x => if x.fmt = 0x1F then .error (.bad 0x43 base none) else .ok x.fmt

/-- A lane's formatted access after its checks: format, first bit within the first byte, and parts. -/
structure FmtAcc where
  fmt : Nat
  bit : Nat
  parts : List Part'

/-- The checks of a lane's `ldf` or `stf` (R152, R153). -/
def State.chkFmt (s : State) (c : Ctx) (r : Rule) (m : Mem) (l : Nat) : Except LaneChk FmtAcc := do
  let (base, j) := c.elemBase m l
  let opened := decide ((c.grp.txLane l).state = .opened)
  let fmt ← s.chkBase c base
  let (lo, hi) := elemSpan fmt base j (tyElems c.ty)
  let ps ← s.chkParts c r opened fmt 8 (wrapTo 64 lo) ((hi - lo + 1).toNat)
  pure { fmt := fmt, bit := ((elemBit fmt j) % 8).toNat, parts := ps }

/-- Offsets in bits of the E elements from the first, counted from the first byte (R152). -/
def fmtBits (fmt : Nat) (j : Int) (n : Nat) : List Nat :=
  (List.range n).map fun q : Nat => (elemBit fmt (j + (q : Int)) - 8 * (elemBit fmt j / 8)).toNat

/-- Elements of a stored number. -/
def fmtElems (fmt : Nat) (bits : List Nat) (x : Nat) : List Nat := bits.map fun b => bitsOf x b (tyWidth fmt)

/-- Conversion between a page's format and a register's (R173): equal formats move unchanged. -/
def fmtConvert (v : Env) (src dst x : Nat) : Nat × Flags := if src = dst then (x, 0) else convertElem v src dst x

/-- The bytes, counted from the first, of elements that lie in two sectors; `sectors` are those of the bytes. They are not bound from
the L1, whose sectors were filled at different moments, so that each element is single-copy atomic (R156, R173). -/
def astride (fmt : Nat) (bits sectors : List Nat) : List Nat :=
  bits.flatMap fun b =>
    let lo := b / 8
    let hi := (b + tyWidth fmt - 1) / 8
    if sectors[lo]? = sectors[hi]? then [] else (List.range (hi - lo + 1)).map (lo + ·)

/-- One byte read for an `ldf`: bound as a plain load's byte, from the L1 if `l1` says so, or through the lane's transaction. -/
def LoadAcc.fmtByte (c : Ctx) (tx : Bool) (l va pa : Nat) (nc l1 : Bool) (a : LoadAcc × List Byte) : LoadAcc × List Byte :=
  let (a, bs) := a
  if a.stall then (a, bs)
  else if tx then
    if ((a.s.group c.ti c.gi).txLane l).state ≠ .opened then (a, bs)
    else if a.s.txWaits c pa 1 then ({ a with stall := true }, bs)
    else match a.s.txRead c ((a.s.group c.ti c.gi).txLane l) pa 1 with
    | .ok (x, b) => ({ a with s := a.s.txLogged c l x pa 1 }, bs ++ b)
    | .error (cause, detail) => ({ a with s := a.s.txFailed c l pa cause detail }, bs)
  else match a.s.bind c (l1 && !nc) (!nc) pa 1 with
  | (.stall, _) => ({ a with stall := true }, bs)
  | (.val b, s) => ({ a with s := s }, bs ++ b)
  | (.err e p, s) => ({ a with s := s, bads := a.bads ++ [(l, e.code, va, p)] }, bs ++ [0])

/-- An `ldf` over its lanes: the loads, the sticky flags, and the traps found when the data arrive (R173): one
trap leaves every destination of the word unchanged. -/
structure FmtLoad where
  a : LoadAcc
  flags : Flags
  traps : List (Nat × Nat × Nat × Nat)

/-- One lane of `ldf` (R173). -/
def FmtLoad.lane (c : Ctx) (d : Nat) (m : Mem) (f : FmtLoad) (y : Nat × FmtAcc) : FmtLoad :=
  let (l, acc) := y
  let tx := decide ((c.grp.txLane l).state = .opened)
  let n0 := f.a.bads.length
  let cells := acc.parts.flatMap fun p => (List.range p.len).map fun i => (p.va + i, p.pa + i, p.nc)
  let bits := fmtBits acc.fmt (c.elemBase m l).2 (tyElems c.ty)
  let apart := astride acc.fmt bits (cells.map fun x => x.2.1 / 32)
  let (a, bs) := cells.zipIdx.foldl (fun a x =>
    LoadAcc.fmtByte c tx l x.1.1 x.1.2.1 x.1.2.2 (!apart.contains x.2) a) (f.a, [])
  if a.stall ∨ bs.length ≠ cells.length then { f with a := a }
  else if a.bads.length ≠ n0 then
    let (v, s) := (a.s.logLanes (a.bads.drop n0)).failValue (((a.bads.drop n0).map (·.2.1)).headD 0)
    { f with a := { a with s := s, bads := a.bads.take (n0 + 1)
                           writes := a.writes ++ laneWrites l d (if tyPair c.ty then 2 else 1) v } }
  else
    let es := fmtElems acc.fmt bits (natLE bs)
    let rs := es.map (fmtConvert c.env acc.fmt c.ty)
    match (if modeFX c.mode then laneTrap (rs.map (·.2)) else none) with
    | some cause => { f with a := a, traps := f.traps ++ [(l, cause, (acc.parts.map (·.va)).headD 0, 0)] }
    | none =>
      { f with
        a := { a with writes := a.writes ++ laneWrites l d (if tyPair c.ty then 2 else 1) (joinElems c.ty (rs.map (·.1))) }
        flags := rs.foldl (fun g r => g ||| r.2) f.flags }

/-- The lanes of a formatted word with their checks settled (R34, R153). -/
def State.checkFmt (s : State) (c : Ctx) (r : Rule) (m : Mem) : Except (Flt × State) (State × List (Nat × FmtAcc)) :=
  let rs := c.lanes.map fun l => (l, s.chkFmt c r m l)
  let dummy : Xlate := { pa := 0, size := 0, leaf := 0 }
  match s.settleLanes c r (rs.map fun x => (x.1, 0, match x.2 with
    | .ok _ => .ok dummy
    | .error e => e)) with
  | .error e => .error e
  | .ok (s, _) => .ok (s, rs.filterMap fun x => match x.2 with
    | .ok a => some (x.1, a)
    | .error _ => none)

/-- The field rules of `ldf` and `stf` (R173). -/
def fmtW (op : Nat) (i : Instr) (d : BitVec 7) (m : Mem) : Word :=
  { op := op, legal := wellFormed i, vs := d.toNat :: m.vs, ss := m.ss, pairs := fun c => pairsOf c.ty [d.toNat] ++ m.pairs }

/-- `ldf` (R173) -/
def execLdf (d : BitVec 7) (m : Mem) (s : State) : Host.Outcome State Fault Refusal :=
  issue (fmtW 0x110 (.ldf d m) d m) (fun c s =>
    match s.checkFmt c { op := 0x110, bytes := 1, r := true, w := false, kind := 1, tx := true } m with
    | .error (f, s) => .raise f s
    | .ok (s1, ls) =>
      let c := c.refresh s1
      let f := ls.foldl (FmtLoad.lane c d.toNat m)
        { a := { s := s1, writes := [], bads := [], devs := [], stall := false }, flags := 0, traps := [] }
      if f.a.stall || s.acquirePending c || ls.any (fun y => y.2.parts.any fun p => c.scOverlap p.pa p.len) then .hold s
      else
        let bads := sortBy (fun x y => x.1 ≤ y.1) (f.a.bads ++ f.traps)
        let (id, s) := (f.a.s.logLanes bads).fresh
        let clean := f.traps.isEmpty
        .ok (s.begin c.ti c.gi { Pending.new id (c.flagNo 0x110) with
          writes := if clean then f.a.writes else [], fp := if clean then f.flags else 0
          bad := deferOf (.flag (c.flagNo 0x110)) 1 bads })) s

/-- The bits that a lane's `stf` writes, over its bytes: value and mask (R173). -/
def fmtPattern (fmt len : Nat) (bits ys : List Nat) : List (Byte × Byte) :=
  let v := (bits.zip ys).foldl (fun n x => n + x.2 * 2 ^ x.1) 0
  let k := bits.foldl (fun n b => n + (2 ^ tyWidth fmt - 1) * 2 ^ b) 0
  (bytesLE len v).zip (bytesLE len k)

/-- The bytes of the first parts, split among them. -/
def splitParts : List Part' → List (Byte × Byte) → List (Part' × List (Byte × Byte))
  | [], _ => []
  | p :: ps, bs => (p, bs.take p.len) :: splitParts ps (bs.drop p.len)

/-- What a part takes of an element: addresses and bytes from the first to the last byte that it writes, if it writes one. -/
def trimPart (p : Part' × List (Byte × Byte)) : Option (Nat × Nat × List (Byte × Byte)) :=
  let lead := (p.2.takeWhile fun x => x.2 = 0).length
  match ((p.2.drop lead).reverse.dropWhile fun x => x.2 = 0).reverse with
  | [] => none
  | body => some (p.1.va + lead, p.1.pa + lead, body)

/-- `stf` (R173): each element is an entry of its own, single-copy atomic also across a page (R153) -/
def execStf (d : BitVec 7) (m : Mem) (s : State) : Host.Outcome State Fault Refusal :=
  issue (fmtW 0x111 (.stf d m) d m) (fun c s0 =>
    match s0.checkFmt c { op := 0x111, bytes := 1, r := false, w := true, kind := 2, tx := true } m with
    | .error (f, s) => .raise f s
    | .ok (s, ls) =>
      let c := c.refresh s
      let rs := ls.map fun y =>
        (y.1, y.2, (elemsOf c.ty (c.grp.readOp c.ty y.1 d.toNat)).map (fmtConvert c.env c.ty y.2.fmt))
      match fpTrap (modeFX c.mode) (rs.map fun r => (r.1, r.2.2.map (·.2))) with
      | some f => .raise f s
      | none =>
        if s.storeMustWait c then .stall else
        let (w, s) := s.fresh
        let s := s.modGroup c.ti c.gi fun g => g.setFp (rs.map fun r => (r.1, r.2.2.map (·.2)))
        .ok (rs.foldl (fun s r =>
          let (l, acc, es) := r
          let bits := fmtBits acc.fmt (c.elemBase m l).2 es.length
          let len := (acc.parts.map (·.len)).foldl (· + ·) 0
          (bits.zip es).foldl (fun s be =>
            match (splitParts acc.parts (fmtPattern acc.fmt len [be.1] [be.2.1])).filterMap trimPart with
            | [] => s
            | (va, pa, bs) :: rest =>
              s.putStore c { c.storeEnt w l va pa bs .plain with more := rest.head?.map (·.2) }) s) s)) s

/-! ## Scratchpad -/

/-- A team's scratchpad size in bytes (R155). -/
def Team.spadBytes (t : Team) : Nat := t.nspad * 16384

/-- Bytes of a team's scratchpad. -/
def Team.readSpad (t : Team) (o n : Nat) : List Byte := (List.range n).map fun i => SMap.get 0 t.spad (o + i)

/-- Bytes written into a team's scratchpad. -/
def Team.writeSpad (t : Team) (o : Nat) (bs : List Byte) : Team := { t with spad := putBytes t.spad o bs }

/-- The checks of one scratchpad offset (R155, R166). -/
def State.chkSpad (s : State) (c : Ctx) (n : Nat) (write : Bool) (o : Nat) : LaneChk :=
  if o % n ≠ 0 then .bad 0x42 o none
  else if c.team.spadBytes < o + n then .bad 0x46 o none
  else match (s.core c.team.core).lockHit true c.ti o n write with
  | some a => .bad 0x45 a none
  | none => .ok { pa := o, size := 0, leaf := 0 }

/-- Stage 5 of a scratchpad word. -/
def State.checkSpad (s : State) (c : Ctx) (op n : Nat) (write : Bool) (m : Mem) :
    Except (Flt × State) (State × List (Nat × Nat × Xlate)) :=
  s.settleLanes c { op := op, bytes := n, r := !write, w := write, kind := if write then 2 else 1 }
    ((c.addresses m).map fun a => (a.1, a.2, s.chkSpad c n write a.2))

/-- A scratchpad load (R174, R175). -/
def spadLoad (op n : Nat) (i : Instr) (d : BitVec 7) (m : Mem) : State → Host.Outcome State Fault Refusal :=
  issue (memW op i (fun _ => n) true d m) fun c s =>
    match s.checkSpad c op n false m with
    | .error (f, s) => .raise f s
    | .ok (s, ls) =>
      if s.acquirePending c then .stall else
      .ok (s.modGroup c.ti c.gi fun g => ls.foldl (fun g y =>
        (laneWrites y.1 d.toNat (regsOf n) (natLE (c.team.readSpad y.2.1 n))).foldl Group.deliver g) g)

/-- A scratchpad store (R174, R175). -/
def spadStore (op n : Nat) (i : Instr) (d : BitVec 7) (m : Mem) : State → Host.Outcome State Fault Refusal :=
  issue (memW op i (fun _ => n) false d m) fun c s =>
    match s.checkSpad c op n true m with
    | .error (f, s) => .raise f s
    | .ok (s, ls) =>
      if s.acquirePending c then .stall else
      .ok (s.modTeam c.ti fun t => ls.foldl (fun t y => t.writeSpad y.2.1 (c.grp.dataBytes y.1 d.toNat n)) t)

/-- `ldsw` (R174) -/
def execLdsw (d : BitVec 7) (m : Mem) (s : State) : Host.Outcome State Fault Refusal := spadLoad 0x114 4 (.ldsw d m) d m s

/-- `ldsd` (R174) -/
def execLdsd (d : BitVec 7) (m : Mem) (s : State) : Host.Outcome State Fault Refusal := spadLoad 0x115 8 (.ldsd d m) d m s

/-- `ldsq` (R174) -/
def execLdsq (d : BitVec 7) (m : Mem) (s : State) : Host.Outcome State Fault Refusal := spadLoad 0x116 16 (.ldsq d m) d m s

/-- `stsw` (R174) -/
def execStsw (d : BitVec 7) (m : Mem) (s : State) : Host.Outcome State Fault Refusal := spadStore 0x118 4 (.stsw d m) d m s

/-- `stsd` (R174) -/
def execStsd (d : BitVec 7) (m : Mem) (s : State) : Host.Outcome State Fault Refusal := spadStore 0x119 8 (.stsd d m) d m s

/-- `stsq` (R174) -/
def execStsq (d : BitVec 7) (m : Mem) (s : State) : Host.Outcome State Fault Refusal := spadStore 0x11A 16 (.stsq d m) d m s

/-! ## Fences, prefetch and cache words -/

/-- Are the group's earlier stores performed at a scope, and from scope `d` on those that happen before them (R160, R161)? -/
def State.storesAt (s : State) (ti gi : Nat) (scope : Nat) : Bool :=
  let g := s.group ti gi
  let mine (e : StoreEnt) := e.team = ti && e.group = gi
  if scope = 0 then true
  else
    g.sq.isEmpty && g.scq.isEmpty && (!s.txops.any fun t => t.team = ti && t.group = gi)
      && (scope = 1 || (s.cores.all fun k => !k.2.cso.any mine) && (s.core (s.team ti).core).cso.all fun e => g.joined ≤ e.entered)

/-- Are the group's earlier loads bound (R160)? -/
def State.loadsBound (s : State) (ti gi : Nat) : Bool :=
  let g := s.group ti gi
  g.pend.all (fun p => p.devs = []) && !g.scq.any fun r => r.data.isNone

/-- Have the region 0x1 lines that the group or a copy of its team wrote reached their expanders (R160)? -/
def State.throughDone (s : State) (ti gi : Nat) : Bool :=
  !s.mem.through.any fun x => x.awaitedBy ti gi

/-- A fence of scope `y` starts every write to an expander that it waits for (R160). -/
def State.startThrough (s : State) (ti gi : Nat) : State :=
  let start (x : Through) : Through := if x.awaitedBy ti gi then { x with started := true } else x
  { s with mem := { s.mem with through := s.mem.through.map start } }

/-- `fence` (R178) -/
def execFence (k : BitVec 2) (sc : BitVec 3) (s : State) : Host.Outcome State Fault Refusal :=
  issue { op := 0x129, legal := wellFormed (.fence k sc) } (fun c s =>
    let scope := sc.toNat
    let stores := k.toNat = 1 || s.storesAt c.ti c.gi scope
    let loads := scope = 0 || s.loadsBound c.ti c.gi
    let body (_ : Unit) : Res :=
      .ok (if k.toNat = 2 ∨ scope = 0 then s else if scope = 1 then s.joinFloor c.ti c.gi else s.raiseFloor c.ti c.gi)
    if !(stores && loads) then .hold s
    else if scope = 4 ∧ k.toNat ≠ 1 ∧ !s.throughDone c.ti c.gi then .hold (s.startThrough c.ti c.gi)
    else if 2 ≤ scope then c.storeFaults s body else body ()) s

/-- A line's four sectors of a fen dropped from a core's L1 (R180). -/
def State.dropLine (s : State) (core fen pa : Nat) : State :=
  s.modCore core fun k => { k with l1 := k.l1.filter fun e => e.fen ≠ fen ∨ e.sector / 4 ≠ pa / 128 }

/-- `pref` (R179): where a word of its form would raise FLT_DOMAIN_REG (R347) it does nothing; a machine check that its walk
or its line meets is logged (R37) -/
def execPref (h : BitVec 2) (m : Mem) (s : State) : Host.Outcome State Fault Refusal :=
  issue { op := 0x128, legal := wellFormed (.pref h m), vs := m.vs, ss := m.ss, soft := true } (fun c s =>
    if c.grp.gate.isSome && m.ss.any (within 8 61) then .ok s else
    .ok (c.lanes.foldl (fun s l =>
      let va := c.ea m l
      if !canonical va then s
      else match s.xlate c.team.core c.grp.port c.fen va with
      | .error e => if e.code = 0x40 then s.prqPost 2 1 c.fen va else s.logFound e.code e.mcpa
      | .ok x =>
        if h = 0 ∧ isMemRegion x.pa ∧ !x.nc then
          match s.lineErr c.fen (x.pa / 64) with
          | some e => s.logFound e.code (some x.pa)
          | none => s.fillL1 c.team.core c.fen (x.pa / 32) (s.readSector c.fen (x.pa / 32))
        else s) s)) s

/-- The rules of `flush` and `inv` (R149, R180). -/
def cacheRule (op : Nat) : Rule :=
  { op := op, bytes := 1, r := op = 0x12B, w := op = 0x12A, kind := if op = 0x12B then 1 else 2 }

/-- `flush` (R180): it starts the write of the group's earlier stores to a region 0x1 line -/
def execFlush (m : Mem) (s : State) : Host.Outcome State Fault Refusal :=
  issue { op := 0x12A, legal := wellFormed (.flush m), vs := m.vs, ss := m.ss, pairs := fun _ => m.pairs } (fun c s =>
    match s.checkLanes c (cacheRule 0x12A) (c.addresses m) with
    | .error (f, s) => .raise f s
    | .ok (s1, ls) =>
      let lines := (ls.filter fun y => regionOf y.2.2.pa = 1).map fun y => y.2.2.pa / 128
      let c := c.refresh s1
      let queued (e : StoreEnt) := e.team = c.ti && e.group = c.gi &&
        e.pieces.any fun y => lines.contains (y.1 / 128) || lines.contains ((y.1 + y.2.length - 1) / 128)
      let start (x : Through) : Through :=
        if x.team = c.ti ∧ x.group = some c.gi ∧ lines.contains x.line then { x with started := true } else x
      if c.grp.sq.any queued || (s.core c.team.core).cso.any queued then .hold s
      else .ok { s1 with mem := { s1.mem with through := s1.mem.through.map start } }) s

/-- `inv` (R180) -/
def execInv (m : Mem) (s : State) : Host.Outcome State Fault Refusal :=
  issue { op := 0x12B, legal := wellFormed (.inv m), vs := m.vs, ss := m.ss, pairs := fun _ => m.pairs } (fun c s =>
    match s.checkLanes c (cacheRule 0x12B) (c.addresses m) with
    | .error (f, s) => .raise f s
    | .ok (s, ls) => .ok (ls.foldl (fun s y =>
        if isMemRegion y.2.2.pa then s.dropLine c.team.core c.fen y.2.2.pa else s) s)) s

/-! ## Translation words -/

/-- SIZE of an `xlat` result (R181). -/
def sizeCode (size : Nat) : Nat := if size = 4096 then 0 else if size = 65536 then 1 else if size = 2 ^ 21 then 2 else 3

/-- The result of `xlat` for a lane (R181): a failed table line is raised precisely (R146). -/
def State.xlatOf (s : State) (core port fen va : Nat) : Except WalkErr W64 :=
  if !canonical va then .ok 0x44
  else match s.xlate core port fen va with
  | .ok x =>
    .ok (BitVec.ofNat 64 (x.pa + sizeCode x.size * 2 ^ 52 + x.fmt * 2 ^ 54 + b2n x.r * 2 ^ 59 + b2n x.w * 2 ^ 60
      + b2n x.x * 2 ^ 61 + b2n x.nc * 2 ^ 62 + 2 ^ 63))
  | .error e => if e.code = 0x40 ∨ e.code = 0x48 then .ok (BitVec.ofNat 64 e.code) else .error e

/-- `xlat` (R181). DESIGN CHOICE (log entry 133): a walk that fails is delivered, also for a lane with an open transaction
(R34, R215). -/
def execXlat (d : BitVec 7) (m : Mem) (s : State) : Host.Outcome State Fault Refusal :=
  issue (memW 0x130 (.xlat d m) (fun _ => 8) true d m) (fun c s =>
    let fen := (s.core c.team.core).xfen.toNat
    let rs := c.lanes.map fun l => (l, c.ea m l, s.xlatOf c.team.core c.grp.port fen (c.ea m l))
    let bads := rs.filterMap fun r => match r.2.2 with
      | .error e => some (r.1, e.code, r.2.1, e.mcpa)
      | .ok _ => none
    match faultOf 1 bads with
    | some f => .raise f (s.logBeside f.check (bads.filterMap fun b => b.2.2.2.map fun pa => (b.2.1, pa)))
    | none =>
      let (id, s) := s.fresh
      .ok (s.begin c.ti c.gi { Pending.new id (c.flagNo 0x130) with
        writes := rs.flatMap fun r => match r.2.2 with
          | .ok x => laneWrites r.1 d.toNat 2 x.toNat
          | .error _ => [] })) s

/-- Every TLB without the entries that match, and an ATS Invalidate Request to every function that may hold a
translation of the fens (R182, R290). DESIGN CHOICE (log entry 119): one request covers all that a function may hold of a
fen, a page's invalidation too, and the function is taken to hold nothing of it from then on. -/
def State.invalidate (s : State) (test : TlbEnt → Bool) (fens : Nat → Bool) : State :=
  let s := s.dropTlb test
  let held := s.reed.ats.filter fun x => fens x.1
  { s with reed := { s.reed with
      ats := s.reed.ats.filter fun x => !fens x.1, atspend := s.reed.atspend + held.length } }

/-- A `tlbi` word (R182). -/
def tlbiWord (i : Instr) (n : BitVec 6) (f : Ctx → State → State) : State → Host.Outcome State Fault Refusal :=
  issue { op := 0x131, legal := wellFormed i, ss := [n.toNat] } fun c s => .ok (f c s)

/-- `tlbi.page` (R182) -/
def execTlbiPage (n : BitVec 6) (s : State) : Host.Outcome State Fault Refusal :=
  tlbiWord (.tlbiPage n) n (fun c s =>
    let fen := (s.core c.team.core).xfen.toNat
    let va := (c.grp.readS n.toNat).toNat % 2 ^ 57
    s.invalidate (fun e => e.fen = fen && e.va ≤ va && va < e.va + e.size) (fun f => f = fen)) s

/-- `tlbi.fen` (R182) -/
def execTlbiFen (n : BitVec 6) (s : State) : Host.Outcome State Fault Refusal :=
  tlbiWord (.tlbiFen n) n (fun c s =>
    let fen := (s.core c.team.core).xfen.toNat
    s.invalidate (fun e => e.fen = fen) (fun f => f = fen)) s

/-- `tlbi.all` (R182) -/
def execTlbiAll (n : BitVec 6) (s : State) : Host.Outcome State Fault Refusal :=
  tlbiWord (.tlbiAll n) n (fun _ s => s.invalidate (fun _ => true) (fun _ => true)) s

end Sys2Proof.Machine
end

