-- ==== Sys2Proof/Machine/Sedge.lean ====
section
/-!
DEFINITION. Sedge (R217 to R244): accumulator tiles, the wavefront's exact sum, operand layouts, the reuse latch, gangs
and their rendezvous, and the matrix words.
-/
namespace Sys2Proof.Machine

/-! ## Layouts -/

/-- The 16-bit types of A (R221). -/
def sedgeHalf (ty : Nat) : Bool := ty = 0x08 || ty = 0x09

/-- The 8-bit types of A (R221). -/
def sedgeByte (ty : Nat) : Bool := ty = 0x0C || ty = 0x0D || ty = 0x0E

/-- The combinations of R221. -/
def sedgeTypes (op ty cty : Nat) : Bool :=
  if op = 0x164 then ty = 0x09 && (cty = 0x11 || cty = 0x12)
  else (sedgeHalf ty && sedgeHalf cty) || (sedgeByte ty && (sedgeByte cty || cty = 0x0F))

/-- Values per group, positions per group, bits of an index, bits of a group's field (R225). -/
structure Pattern where
  kept : Nat
  span : Nat
  bits : Nat
  field : Nat

/-- The patterns 2:4 and 4:8 (R225). -/
def patternOf (pat : Bool) : Pattern :=
  if pat then { kept := 4, span := 8, bits := 3, field := 12 } else { kept := 2, span := 4, bits := 2, field := 4 }

/-- Metadata registers of a sparse fragment (R225). -/
def metaRegs (ty : Nat) (pat : Bool) : Nat :=
  if sedgeHalf ty then (if pat then 2 else 1) else if sedgeByte ty then (if pat then 3 else 2) else 0

/-- Registers of a word's fragment (R224, R225). -/
def fragRegs (op ty : Nat) (pat : Bool) : Nat := if op = 0x163 then 8 + metaRegs ty pat else 8

/-- A fragment: registers of 32 lanes, keyed as lane registers. -/
abbrev Frag := SMap (BitVec 32)

/-- A register of a fragment. -/
def Frag.reg (f : Frag) (l i : Nat) : Nat := (f.get 0 (vkey l i)).toNat

/-- The fragment's registers of the lanes of a mask, other lanes zero (R228). -/
def Group.fragment (g : Group) (mask : W32) (a n : Nat) : Frag :=
  (lanesOf mask).foldl (fun f l =>
    (List.range n).foldl (fun f i => SMap.put 0 f (vkey l i) (g.readV l (a + i))) f) []

/-- The stored values of a lane of a fragment, in order (R224, R225). -/
def Frag.values (f : Frag) (ty l : Nat) : List Nat := (List.range 8).flatMap fun i => elemsOf ty (f.reg l i)

/-- The metadata of a lane (R225). -/
def Frag.metaBits (f : Frag) (ty : Nat) (pat : Bool) (l : Nat) : Nat :=
  ((List.range (metaRegs ty pat)).map fun i => f.reg l (8 + i) * 2 ^ (32 * i)).foldl (· + ·) 0

/-- The index of a stored value (R225). -/
def indexOf (p : Pattern) (m v : Nat) : Nat := bitsOf m (p.field * (v / p.kept) + p.bits * (v % p.kept)) p.bits

/-- Are the indices of every group of a lane strictly ascending (R225)? -/
def Frag.ascending (f : Frag) (ty : Nat) (pat : Bool) (l : Nat) : Bool :=
  let p := patternOf pat
  let m := f.metaBits ty pat l
  (List.range (f.values ty l).length).all fun v => v % p.kept = 0 || indexOf p m (v - 1) < indexOf p m v

/-- What Sedge decodes with: no flush to zero (R222). -/
def sedgeEnv : Env := { rm := rmRNE, sat := false, ftz := false, cb := [] }

/-- The dense patterns of a lane's half-row (R224, R225). -/
def Frag.half (f : Frag) (sparse : Bool) (ty : Nat) (pat : Bool) (l : Nat) : List Nat :=
  let vs := f.values ty l
  if sparse then
    let p := patternOf pat
    let m := f.metaBits ty pat l
    let at_ (v : Nat) : Nat := p.span * (v / p.kept) + indexOf p m v
    (List.range (2 * vs.length)).map fun k =>
      match (List.range vs.length).find? fun v => at_ v = k with
      | some v => vs.getD v 0
      | none => 0
  else vs

/-- Row r of A (R224, R225). -/
def SedgeOp.rowA (o : SedgeOp) (r : Nat) : List Val :=
  let half (l : Nat) := Frag.half o.frag (o.kind = .mmas) o.ty o.pat l
  (half (2 * r) ++ half (2 * r + 1)).map fun x => decodeElem sedgeEnv o.ty x

/-- A signed SOFF (R219). -/
def soffOf (scfg : BitVec 21) : Int := (scfg.extractLsb' 0 16).toInt

/-- SBL and ASTR (R219). -/
def sblOf (scfg : BitVec 21) : Bool := scfg.getLsbD 16
def astrOf (scfg : BitVec 21) : Nat := (scfg.extractLsb' 17 4).toNat

/-- The first byte and the size of the scale rows of an `mmaw` (R227). -/
def scaleRows (boff : Nat) (scfg : BitVec 21) : Int × Nat :=
  ((boff : Int) + 128 * soffOf scfg, if sblOf scfg then 128 else 256)

/-- Bytes of a team's scratchpad as a number. -/
def Team.spadNat (t : Team) (o n : Nat) : Nat := natLE (t.readSpad o n)

/-- B[k][n] as an operand value (R226, R227). -/
def SedgeOp.elemB (o : SedgeOp) (t : Team) (k n : Nat) : Val :=
  match o.kind with
  | .mmaw =>
    let q := bitsOf (t.spadNat (o.boff + 32 * k + n / 2) 1) (4 * (n % 2)) 4
    let row := ((scaleRows o.boff o.scfg).1 + (if sblOf o.scfg then 0 else 128 * (k / 16 : Nat) : Int)).toNat
    let scale := decodeElem sedgeEnv 0x09 (t.spadNat (row + 2 * n) 2)
    decodeElem sedgeEnv 0x09 (encodeFloat sedgeEnv 0x09 ((decodeElem sedgeEnv o.cty q).mul scale).1).1
  | _ =>
    if sedgeHalf o.cty then decodeElem sedgeEnv o.cty (t.spadNat (o.boff + 128 * k + 2 * n) 2)
    else if o.cty = 0x0F then
      decodeElem sedgeEnv o.cty (bitsOf (t.spadNat (o.boff + 64 * k + 6 * n / 8) 2) (6 * n % 8) 6)
    else decodeElem sedgeEnv o.cty (t.spadNat (o.boff + 64 * k + n) 1)

/-- The key of an element of a tile. -/
def accKey (tile r n : Nat) : Nat := 1024 * tile + 64 * r + n

/-- One element of the result: the exact sum, rounded once (R222). -/
def sumElem (c : Val) (a b : List Val) : BitVec 32 :=
  let s := (a.zip b).foldl (fun s x => (s.add rmRNE (x.1.mul x.2).1).1) c
  BitVec.ofNat 32 (encodeFloat sedgeEnv 0x0A s).1

/-- The bytes of a B tile (R226). -/
def tileBytes (op : Nat) : Nat := if op = 0x162 then 4096 else if op = 0x163 then 8192 else 1024

/-- The interval of a word's range-lock entry (R165, R228). -/
def intervalB (op boff : Nat) (scfg : BitVec 21) : Interval :=
  if op = 0x164 then
    let (lo, n) := scaleRows boff scfg
    let first := min boff lo.toNat
    { spad := true, lo := first, len := max (boff + 1024) (lo.toNat + n) - first }
  else { spad := true, lo := boff, len := tileBytes op }

/-- What a wavefront reads of its team's scratchpad: the B tile and the scale rows (R226, R227, R236). -/
def SedgeOp.readB (o : SedgeOp) (t : Team) : SMap (BitVec 8) :=
  let v := intervalB (if o.kind = .mmaw then 0x164 else if o.kind = .mmas then 0x163 else 0x162) o.boff o.scfg
  t.spad.filter fun x => v.lo ≤ x.1 && x.1 < v.lo + v.len

/-- A wavefront's tile (R222). -/
def SedgeOp.wavefront (o : SedgeOp) (t : Team) : Team :=
  let rows := (List.range 16).map fun r => o.rowA r
  let depth := (rows.headD []).length
  let cols := (List.range 64).map fun n => (List.range depth).map fun k => o.elemB t k n
  { t with acc := (List.range 16).foldl (fun acc r =>
      (List.range 64).foldl (fun acc n =>
        let key := accKey o.tile r n
        let c := if o.z then .fin false 0 1 else decodeElem sedgeEnv 0x0A (t.acc.get 0 key).toNat
        SMap.put 0 acc key (sumElem c (rows.getD r []) (cols.getD n []))) acc) t.acc }

/-! ## Gangs and tiles -/

/-- COUNT of a gang register, 0 when it says solo (R233). -/
def gangCount (v : Nat) : Nat := if bitsOf v 0 8 ≤ 1 then 0 else bitsOf v 0 8

/-- The groups of a gang, in position order (R233). -/
def gangGroups (v : Nat) : List Nat := (List.range (gangCount v)).map fun i => bitsOf v (8 + 8 * i) 5

/-- SEQ (R233). -/
def gangSeq (v : Nat) : Nat := bitsOf v 56 8

/-- The groups of the issuing group's gang; none for a solo group. -/
def Ctx.gang (c : Ctx) : List Nat := gangGroups c.grp.gang.toNat

/-- The issuing group's position in its gang (R218). -/
def Ctx.gangPos (c : Ctx) : Nat := c.gang.idxOf c.gi % (max c.gang.length 1)

/-- Tile translation (R218). -/
def Ctx.tile (c : Ctx) (acc : BitVec 6) : Nat := acc.toNat + astrOf c.grp.scfg * c.gangPos

/-- The range check of R218. -/
def Ctx.tileOk (c : Ctx) (acc : BitVec 6) : Except Flt Unit :=
  if c.tile acc < c.team.nacc then .ok () else .error { cause := 0x72 }

/-- Operations on a tile that are accepted and not complete (R228). -/
def State.pendingTile (s : State) (core ti e : Nat) : Nat :=
  ((s.core core).sedge.filter fun o => o.team = ti ∧ o.tile = e).length

/-- Can Sedge hold one operation more (R229)? A gang operation is one. -/
def Core.sedgeRoom (k : Core) : Bool := (k.sedge.map (·.op)).eraseDups.length < 32

/-- Can the range-lock table take `n` entries more (R165)? -/
def Core.lockRoom (k : Core) (n : Nat) : Bool := k.locks.length + n ≤ 32

/-- The checks of B and of scale rows (R226, R227). -/
def Ctx.tileB (c : Ctx) (op boff : Nat) : Bool :=
  boff % 128 = 0 && boff + tileBytes op ≤ c.team.spadBytes
    && (op ≠ 0x164
      || (0 ≤ (scaleRows boff c.grp.scfg).1
        && (scaleRows boff c.grp.scfg).1 + (scaleRows boff c.grp.scfg).2 ≤ c.team.spadBytes))

/-! ## Acceptance and completion -/

/-- The kind of a matrix word's operation (R243). -/
def sedgeKindOf (op : Nat) : SedgeKind := if op = 0x162 then .mma else if op = 0x163 then .mmas else .mmaw

/-- The latch after a word's acceptance (R228, R232). -/
def Latch.accept (k : Latch) (a : Arrival) : Latch :=
  if !a.ru then { k with valid := false }
  else if k.valid then k
  else { valid := true, a := BitVec.ofNat 7 a.a, op := BitVec.ofNat 9 a.op, ty := BitVec.ofNat 5 a.ty, pat := a.pat
         data := a.frag }

/-- Accept of R228 for one member of the operation numbered `op`, which has `n` members. -/
def State.acceptMember (ti op n : Nat) (s : State) (x : Arrival × Nat) : State :=
  let (a, pos) := x
  let (id, s) := s.fresh
  let t := s.team ti
  let fen := fenBorne t (t.group a.group)
  let s := s.modCore t.core fun k => { k with
    sedge := k.sedge ++ [{
      id := id, op := op, count := n, kind := sedgeKindOf a.op, team := ti, fen := fen, group := a.group, pos := pos
      tile := a.tile, done := false, pat := a.pat, z := a.z, ty := a.ty, cty := a.cty, boff := a.boff, scfg := a.scfg
      flag := a.flag, frag := a.frag, bread := none }]
    locks := k.locks ++ [{ id := id, fen := fen, team := ti, src := some (intervalB a.op a.boff a.scfg), dst := none }] }
  s.modGroup ti a.group fun g => { g.flagUp a.flag with latch := g.latch.accept a }

/-- An operation accepted: one wavefront for each of its members (R228, R235). -/
def State.acceptAll (s : State) (ti : Nat) (members : List (Arrival × Nat)) : State :=
  let (op, s) := s.fresh
  members.foldl (State.acceptMember ti op members.length) s

/-- May an operation be applied now: is no earlier one on its tile unfinished (R229)? -/
def Core.sedgeNext (k : Core) (id : Nat) : Option SedgeOp :=
  match k.sedge.find? fun o => o.id = id with
  | none => none
  | some o =>
    if o.done ∨ (k.sedge.takeWhile fun x => x.id ≠ id).any (fun x => x.team = o.team ∧ x.tile = o.tile ∧ !x.done) then none
    else some o

/-- The members of an operation that is complete leave Sedge: flags, pending counts and entries fall (R228, R236). -/
def State.sedgeFinish (s : State) (core op : Nat) : State :=
  let ms := (s.core core).sedge.filter fun o => o.op = op
  if ms.all (·.done) then
    let s := ms.foldl (fun s o => (s.unlock core o.id).modGroup? o.team o.group fun g => g.flagDown o.flag) s
    s.modCore core fun k => { k with sedge := k.sedge.filter fun o => o.op ≠ op }
  else s

/-- Records as Sedge accepts them again (R243): the first record of an operation says how many follow as its members, and the
operation takes that record's number; B is read anew. The arguments are how many members are still to come, and of which
operation. -/
def acceptRecords : Nat → Nat → List SedgeOp → List SedgeOp
  | _, _, [] => []
  | 0, _, o :: os => { o with op := o.id, bread := none } :: acceptRecords (o.count - 1) o.id os
  | n + 1, op, o :: os => { o with op := op, bread := none } :: acceptRecords n op os

/-- The duration of a wavefront in picoseconds: a free value within R245. -/
def durationOf (x : W64) : Nat := 700 + x.toNat % 5301

/-- An operation that has written its tile. -/
def Core.sedgeDone (k : Core) (id : Nat) : Core :=
  { k with sedge := k.sedge.map fun o => if o.id = id then { o with done := true } else o }

/-- What the first wavefront of an operation has read of B, kept for the others (R235, log entry 111). -/
def Core.sharedB (k : Core) (op : Nat) (b : SMap (BitVec 8)) : Core :=
  { k with sedge := k.sedge.map fun o => if o.op = op then { o with bread := some b } else o }

/-- WAVEFRONT_COMPLETE (R222, R228, R229, R235, R241) -/
def execWavefrontComplete (core op : Nat) (s : State) : Host.Outcome State Fault Refusal :=
  match (s.core core).sedgeNext op with
  | none => .next s
  | some o =>
    if o.kind = .accz then .next s
    else
      let (x, s) := s.free
      let dur := durationOf x
      let b := o.bread.getD (o.readB (s.team o.team))
      let s := s.modTeam o.team fun t => { t with acc := (o.wavefront { t with spad := b }).acc }
      let s := s.modGroup o.team o.group fun g => { g with mstat0 := g.mstat0 + 1, mstat1 := g.mstat1 + dur }
      let s := s.modCore core fun k => { (k.sedgeDone op).sharedB o.op b with wfCount := k.wfCount + 1, wfTime := k.wfTime + dur }
      .next (s.sedgeFinish core o.op)

/-- ACCZ_APPLY (R237) -/
def execAcczApply (core op : Nat) (s : State) : Host.Outcome State Fault Refusal :=
  match (s.core core).sedgeNext op with
  | none => .next s
  | some o =>
    if o.kind = .accz then
      let s := s.modTeam o.team fun t => { t with acc := t.acc.filter fun e => e.1 / 1024 ≠ o.tile }
      .next ((s.modCore core fun k => k.sedgeDone op).sedgeFinish core o.op)
    else .next s

/-! ## Rendezvous -/

/-- Arrived members raise a cause at their gang words (R234, R235): the words are taken back first (R28). The faults are
of one moment (R35). -/
def State.raiseArrived (s : State) (ti cause : Nat) (as : List Arrival) : State :=
  let as := sortBy (fun a b : Arrival => a.group ≤ b.group) as
  let s := as.foldl (fun s a => s.modGroup ti a.group Group.unarrive) s
  s.together fun s => as.foldl (fun s a => s.takeFault ti a.group a.entry { cause := cause }) s

/-- Every open rendezvous that waits for a group breaks (R234, R235). -/
def State.breakGangs (s : State) (ti gi : Nat) : State :=
  let hit (r : Rendezvous) := r.groups.contains gi && !r.arrivals.any fun a => a.group = gi
  let rs := (s.team ti).rdvs
  let s := s.modTeam ti fun t => { t with rdvs := rs.filter fun r => !hit r }
  s.raiseArrived ti 0x78 ((rs.filter hit).flatMap (·.arrivals))

/-- Do two arrivals agree (R235)? -/
def Arrival.agrees (x y : Arrival) : Bool :=
  x.gang = y.gang && x.op = y.op && x.pat = y.pat && x.z = y.z && x.ty = y.ty && x.cty = y.cty && x.boff = y.boff
    && (x.op ≠ 0x164 || x.scfg.setWidth 17 = y.scfg.setWidth 17)

/-- The arrivals of a rendezvous in position order, when all have arrived. -/
def Rendezvous.complete (r : Rendezvous) : Option (List Arrival) :=
  r.groups.mapM fun g => r.arrivals.find? fun a => a.group = g

/-- Members' words retire (R235). -/
def State.retireArrived (s : State) (ti : Nat) (as : List Arrival) : State :=
  as.foldl (fun s a => s.modGroup ti a.group fun g => { g with arrivedGang := none }.retire a.entry a.op) s

/-- RENDEZVOUS_CLOSE (R235): the rendezvous that `idx` names, once it can close -/
def execRendezvousClose (team idx : Nat) (s : State) : Host.Outcome State Fault Refusal :=
  let t := s.team team
  match (t.rdvs[idx]?).bind fun r => r.complete with
  | none => .next s
  | some as =>
    let act := (as.zipIdx).filter fun x => x.1.active
    let k := s.core t.core
    if !(k.lockRoom act.length && k.sedgeRoom) then .next s
    else
      let s := s.modTeam team fun t => { t with rdvs := dropAt t.rdvs idx }
      if as.all fun a => as.all a.agrees then .next ((s.acceptAll team act).retireArrived team as)
      else .next (s.raiseArrived team 0x77 as)

/-! ## The matrix words -/

/-- The fields of an MX matrix word (R228). -/
structure Mx where
  op : Nat
  ru : Bool
  acc : BitVec 6
  a : Nat
  s : Nat
  pat : Bool
  z : Bool

/-- Does a matrix word use the latched fragment (R232)? -/
def Mx.latched (f : Mx) (c : Ctx) : Bool := f.ru && c.grp.latch.valid

/-- The fragment of a matrix word (R228). -/
def Mx.frag (f : Mx) (c : Ctx) : Frag :=
  if f.latched c then c.grp.latch.data else c.grp.fragment c.mask f.a (fragRegs f.op c.ty f.pat)

/-- Does the latch agree with the word (R232)? -/
def Mx.fresh (f : Mx) (c : Ctx) : Bool :=
  let k := c.grp.latch
  !f.latched c || (k.a.toNat = f.a && k.op.toNat = f.op && k.ty.toNat = c.ty && k.pat = f.pat)

/-- The B offset of a matrix word. -/
def Mx.boff (f : Mx) (c : Ctx) : Nat := (c.grp.readS f.s).toNat

/-- Has a group of the gang ended, so that the rendezvous can never close (R235, R244)? -/
def Ctx.gangBroken (c : Ctx) : Bool := c.gang.any fun g => (c.team.group g).ended

/-- Stage 2 of a matrix word, in order (R221, R218, R226, R227, R232, R235). -/
def Mx.pre (f : Mx) (c : Ctx) : Except Flt Unit := do
  if !sedgeTypes f.op c.ty (modeCTY c.mode) then throw { cause := 0x71 }
  c.tileOk f.acc
  if !c.tileB f.op (f.boff c) then throw { cause := 0x73 }
  if !f.fresh c then throw { cause := 0x74 }
  if c.gangBroken then throw { cause := 0x78 }

/-- Stage 3 of a matrix word: the metadata of its fragment, also of a latched one (R225). -/
def Mx.metaOk (f : Mx) (c : Ctx) : Except Flt Unit :=
  if f.op ≠ 0x163 then .ok ()
  else
    let bad := (lanesOf c.mask).filter fun l => !(f.frag c).ascending c.ty f.pat l
    if bad = [] then .ok () else .error { cause := 0x75, lanes := maskOf bad }

/-- The arrival of a matrix word, its operands read (R228). -/
def Mx.arrival (f : Mx) (c : Ctx) : Arrival :=
  { group := c.gi, entry := c.ei, gang := c.grp.gang.setWidth 56, op := f.op, acc := f.acc.toNat, a := f.a, ru := f.ru
    pat := f.pat, z := f.z, ty := c.ty, cty := modeCTY c.mode, boff := f.boff c, scfg := c.grp.scfg, tile := c.tile f.acc
    flag := c.flagNo f.op, active := c.active ≠ 0, frag := f.frag c }

/-- The open rendezvous that a gang word meets (R235): one that lists its group, or in which a word of a group that it lists waits. -/
def Ctx.meets (c : Ctx) (r : Rendezvous) : Bool :=
  r.seq = gangSeq c.grp.gang.toNat && (r.groups.contains c.gi || r.arrivals.any fun a => c.gang.contains a.group)
    && !r.arrivals.any fun a => a.group = c.gi

/-- Can a matrix word be taken: has Sedge room, and the table, or a rendezvous for a gang word (R165, R229, R235)? -/
def Ctx.sedgeReady (c : Ctx) (s : State) : Bool :=
  (s.core c.team.core).sedgeRoom
    && (if c.gang = [] then (s.core c.team.core).lockRoom 1 else c.team.rdvs.any c.meets || c.team.rdvs.length < 8)

/-- Two rendezvous that one gang word meets are one: every listed group, every arrival (R235, log entry 127). -/
def Rendezvous.join (r x : Rendezvous) : Rendezvous :=
  { r with groups := r.groups ++ x.groups.filter (fun g => !r.groups.contains g), arrivals := r.arrivals ++ x.arrivals }

/-- The open rendezvous after an arrival: in one rendezvous with all that it meets, else in a new one (R235). DEDUCED (log
entry 127): rendezvous that were opened apart become one, in the place of the first, which closes when every group that any of
its members lists has arrived; so the order of the arrivals does not matter. -/
def Ctx.joined (c : Ctx) (rs : List Rendezvous) (a : Arrival) : List Rendezvous :=
  let own : Rendezvous := { seq := gangSeq c.grp.gang.toNat, groups := c.gang, arrivals := [a] }
  match rs.filter c.meets with
  | [] => rs ++ [own]
  | r :: more =>
    rs.takeWhile (fun x => !c.meets x) ++ (more.foldl Rendezvous.join r).join own
      :: (rs.dropWhile fun x => !c.meets x).filter fun x => !c.meets x

/-- A gang word arrives (R235). -/
def Ctx.arriveGang (c : Ctx) (s : State) (a : Arrival) : State :=
  let seq := gangSeq c.grp.gang.toNat
  let s := s.modTeam c.ti fun t => { t with rdvs := c.joined t.rdvs a }
  s.modGroup c.ti c.gi fun g => { g with
    arrivedGang := some seq, gang := (g.gang <<< 8 >>> 8) ||| (BitVec.ofNat 64 ((seq + 1) % 256) <<< 56) }

/-- The mode's TY of the word that issues, as its field checks need it. -/
def State.issuingTy (s : State) : Nat := (s.ctx.map fun c => c.ty).getD 0

/-- The registers from `a` on. -/
def vRange (a n : Nat) : List Nat := (List.range n).map (a + ·)

/-- `mma`, `mmas` and `mmaw` (R228, R235) -/
def matrixWord (i : Instr) (f : Mx) (s : State) : Host.Outcome State Fault Refusal :=
  issue
    { op := f.op, legal := wellFormed i, vs := vRange f.a (fragRegs f.op s.issuingTy f.pat), ss := [f.s]
      pre := fun c _ => f.pre c, lanesOk := fun c _ => if c.active = 0 then .ok () else f.metaOk c
      ready := fun c s => c.sedgeReady s, always := fun c => c.gang ≠ [] }
    (fun c s =>
      let a := f.arrival c
      if c.gang = [] then .ok (s.acceptAll c.ti [(a, 0)])
      else .hold (c.arriveGang s a)) s

/-- `mma` (R228) -/
def execMma (r : BitVec 1) (c : BitVec 6) (a : BitVec 7) (sr : BitVec 6) (z : BitVec 1) (s : State) :
    Host.Outcome State Fault Refusal :=
  matrixWord (.mma r c a sr z)
    { op := 0x162, ru := r = 1, acc := c, a := a.toNat, s := sr.toNat, pat := false, z := z = 1 } s

/-- `mmas` (R228) -/
def execMmas (r : BitVec 1) (c : BitVec 6) (a : BitVec 7) (sr : BitVec 6) (t z : BitVec 1) (s : State) :
    Host.Outcome State Fault Refusal :=
  matrixWord (.mmas r c a sr t z)
    { op := 0x163, ru := r = 1, acc := c, a := a.toNat, s := sr.toNat, pat := t = 1, z := z = 1 } s

/-- `mmaw` (R228) -/
def execMmaw (r : BitVec 1) (c : BitVec 6) (a : BitVec 7) (sr : BitVec 6) (z : BitVec 1) (s : State) :
    Host.Outcome State Fault Refusal :=
  matrixWord (.mmaw r c a sr z)
    { op := 0x164, ru := r = 1, acc := c, a := a.toNat, s := sr.toNat, pat := false, z := z = 1 } s

/-- `mcfg` (R220) -/
def execMcfg (i : BitVec 21) (s : State) : Host.Outcome State Fault Refusal :=
  issueG { op := 0x160, legal := wellFormed (.mcfg i) }
    (fun c => .ok { c.grp with scfg := i, latch := { c.grp.latch with valid := false } }) s

/-- The value check of `mgang` (R234). -/
def Ctx.gangBad (c : Ctx) (v : Nat) : Bool :=
  let n := bitsOf v 0 8
  let pos := (List.range 6).map fun i => bitsOf v (8 + 8 * i) 5
  6 < n || bitsOf v 56 8 ≠ 0 || (List.range 6).any (fun i => bitsOf v (13 + 8 * i) 3 ≠ 0)
    || (if 2 ≤ n then
          (pos.take n).eraseDups.length ≠ n || (pos.take n).any (fun g => c.team.np + c.team.nc ≤ g)
            || !(pos.take n).contains c.gi || (pos.drop n).any (· ≠ 0)
        else bitsOf v 8 48 ≠ 0)

/-- `mgang` (R234) -/
def execMgang (b : BitVec 6) (s : State) : Host.Outcome State Fault Refusal :=
  issue
    { op := 0x161, legal := wellFormed (.mgang b), ss := [b.toNat]
      pre := fun c _ => if c.gangBad (c.grp.readS b.toNat).toNat then .error { cause := 0x76 } else .ok () }
    (fun c s =>
      let s := s.setGroup c.ti c.gi { c.grp with gang := c.grp.readS b.toNat }
      .ok (s.breakGangs c.ti c.gi)) s

/-- `accz` (R237) -/
def execAccz (ac : BitVec 6) (s : State) : Host.Outcome State Fault Refusal :=
  issue
    { op := 0x168, legal := wellFormed (.accz ac), pre := fun c _ => c.tileOk ac
      ready := fun c s => (s.core c.team.core).sedgeRoom }
    (fun c s =>
      let (id, s) := s.fresh
      let s := s.modCore c.team.core fun k => { k with sedge := k.sedge ++ [{
        id := id, op := id, count := 1, kind := .accz, team := c.ti, fen := c.fen, group := c.gi, pos := 0, tile := c.tile ac
        done := false, pat := false, z := false, ty := c.ty, cty := modeCTY c.mode, boff := 0, scfg := c.grp.scfg
        flag := c.flagNo 0x168, frag := [], bread := none }] }
      .ok (s.modGroup c.ti c.gi fun g => g.flagUp (c.flagNo 0x168))) s

/-- `accld` (R238) -/
def execAccld (ac : BitVec 6) (a : BitVec 7) (p : BitVec 2) (s : State) : Host.Outcome State Fault Refusal :=
  issue
    { op := 0x167, legal := wellFormed (.accld ac a p), vs := vRange a.toNat 8
      pre := fun c s => do
        c.tileOk ac
        if s.pendingTile c.team.core c.ti (c.tile ac) ≠ 0 then throw { cause := 0x70 } }
    (fun c s =>
      .ok (s.setGroup c.ti c.gi (c.lanes.foldl (fun g l => (List.range 8).foldl (fun g i =>
        g.writeV l (a.toNat + i) (c.team.acc.get 0 (accKey (c.tile ac) (4 * p.toNat + l / 8) (8 * (l % 8) + i)))) g) c.grp))) s

/-! ## The other words -/

/-- Is the first value's magnitude greater, a NaN above every number (R239)? -/
def magAbove (x y : Val) : Bool :=
  let abs (v : Val) := if v.neg? then v.negate else v
  if y.isNan then false else x.isNan || (abs y).lt (abs x)

/-- The positions that a group keeps, ascending (R239). -/
def keptOf (n : Nat) (vs : List Val) : List Nat :=
  (List.range vs.length).filter fun p =>
    ((List.range vs.length).filter fun q =>
      magAbove (vs.getD q .qnan) (vs.getD p .qnan)
        || (!magAbove (vs.getD p .qnan) (vs.getD q .qnan) && q < p)).length < n

/-- The result of `mcomp` for a lane: stored patterns, metadata, and whether a value was dropped (R239). -/
def compress (ty : Nat) (pat : Bool) (xs : List Nat) : List Nat × Nat × Bool :=
  let p := patternOf pat
  let groups := (List.range (xs.length / p.span)).map fun g => (xs.drop (p.span * g)).take p.span
  let one (g : List Nat) : List Nat × Bool :=
    let vs := g.map (decodeElem sedgeEnv ty)
    let ks := keptOf p.kept vs
    (ks, (List.range g.length).any fun q => !ks.contains q && !(vs.getD q .qnan).isZero)
  let rs := groups.map one
  ((groups.zip rs).flatMap fun x => x.2.1.map fun k => x.1.getD k 0
   , (rs.zipIdx.flatMap fun x => x.1.1.zipIdx.map fun k => k.1 * 2 ^ (p.field * x.2 + p.bits * k.2)).foldl (· + ·) 0
   , rs.any (·.2))

/-- One lane of `mcomp` (R239). -/
def Ctx.compressLane (c : Ctx) (d a pd : Nat) (pat : Bool) (g : Group) (l : Nat) : Group :=
  let xs := (List.range 16).flatMap fun i => elemsOf c.ty (c.grp.readV l (a + i)).toNat
  let (st, m, dropped) := compress c.ty pat xs
  let per := tyElems c.ty
  let g := (List.range 8).foldl (fun g i =>
    g.writeV l (d + i) (BitVec.ofNat 32 (joinElems c.ty ((st.drop (per * i)).take per)))) g
  let g := (List.range (metaRegs c.ty pat)).foldl (fun g i => g.writeV l (d + 8 + i) (BitVec.ofNat 32 (m / 2 ^ (32 * i)))) g
  g.writeP l pd dropped

/-- `mcomp` (R239) -/
def execMcomp (d a : BitVec 7) (n : BitVec 3) (t : BitVec 1) (s : State) : Host.Outcome State Fault Refusal :=
  issueG
    { op := 0x165, legal := wellFormed (.mcomp d a n t)
      vs := vRange a.toNat 16 ++ vRange d.toNat (8 + metaRegs s.issuingTy (t = 1))
      pre := fun c _ => if sedgeHalf c.ty || sedgeByte c.ty then .ok () else .error { cause := 0x71 } }
    (fun c => .ok (c.lanes.foldl (c.compressLane d.toNat a.toNat n.toNat (t = 1)) c.grp)) s

/-- `ldga` (R240) -/
def execLdga (d : BitVec 7) (m : Mem) (s : State) : Host.Outcome State Fault Refusal :=
  issue
    { op := 0x166, legal := wellFormed (.ldga d m), vs := vRange d.toNat 8 ++ m.vs, ss := m.ss, pairs := fun _ => m.pairs }
    (fun c s =>
      match s.checkLanes c { op := 0x104, bytes := 32, r := true, w := false, kind := 1, tx := true } (c.addresses m) with
      | .error (f, s) => .raise f s
      | .ok (s, ls) => s.loadLanes c 0x166 (c.loadSpec 32 d.toNat true true) true ls) s

/-- The Sedge speed mode of a core (R241, R389). -/
def State.speedMode (s : State) (core : Nat) : Nat := if dieOfCore core < 2 then s.sys.cur else s.sys.curb

/-- A Sedge counter (R241). -/
def State.sedgeStat (s : State) (c : Ctx) (sel : Nat) : Nat :=
  let k := s.core c.team.core
  match sel with
  | 0 => c.grp.mstat0
  | 1 => c.grp.mstat1
  | 2 => (k.sedge.filter fun o => o.team = c.ti ∧ o.group = c.gi).length + b2n c.grp.arrivedGang.isSome
  | 3 => k.wfCount
  | 4 => k.wfTime
  | _ => s.speedMode c.team.core

/-- `mstat` (R241) -/
def execMstat (d : BitVec 6) (sel : BitVec 9) (s : State) : Host.Outcome State Fault Refusal :=
  issue { op := 0x169, legal := wellFormed (.mstat d sel), ss := [d.toNat] } (fun c s =>
    .ok (s.modGroup c.ti c.gi fun g => g.writeS d.toNat (BitVec.ofNat 64 (s.sedgeStat c sel.toNat)))) s

end Sys2Proof.Machine
end

