-- ==== Sys2Proof/Machine/Barrier.lean ====
section
/-!
DEFINITION. Barriers (R263 to R267), streams (R268 to R272), and the counters and fence of copies (R273).
-/
namespace Sys2Proof.Machine

/-! ## Barriers -/

/-- A barrier of a team. -/
def Team.bar (t : Team) (n : Nat) : Barrier := t.bars.get Barrier.zero n

/-- A barrier replaced. -/
def Team.setBar (t : Team) (n : Nat) (b : Barrier) : Team := { t with bars := SMap.put Barrier.zero t.bars n b }

/-- A phase completes (R264). -/
def Barrier.step (b : Barrier) : Option Barrier :=
  if b.members ≠ 0 ∧ b.members ≤ b.arr ∧ b.xarr = b.xexp then
    some { b with arr := b.arr - b.members, xexp := 0, xarr := 0, phase := (b.phase + 1) % 2 ^ 16 }
  else none

/-- Every phase that completes. -/
def Barrier.settle (b : Barrier) : Barrier := iterOpt Barrier.step 1024 b

/-- A barrier of a team changed, with the phases that this completes (R264). -/
def State.modBar (s : State) (ti n : Nat) (f : Barrier → Barrier) : State :=
  s.modTeam ti fun t => t.setBar n (f (t.bar n)).settle

/-- An arrival from an interrupt or a notify (R264): dropped when the barrier is not initialised, or full. -/
def State.arriveBar (s : State) (ti n : Nat) : Option State :=
  let b := (s.team ti).bar n
  if b.members = 0 ∨ 1023 ≤ b.arr then none else some (s.modBar ti n fun b => { b with arr := b.arr + 1 })

/-- Does a condition hold of the word's issuer, when there is one? -/
def State.issuer (s : State) (f : Ctx → Bool) : Bool := s.ctx.all f

/-- A barrier word (R266): a barrier above the team's count is an illegal field. -/
def barW (s : State) (op : Nat) (i : Instr) (n : Nat) (ss : List Nat) : Word :=
  { op := op, legal := wellFormed i && s.issuer fun c => n < c.team.nbar, ss := ss }

/-- `binit` (R266) -/
def execBinit (b : Src) (n : BitVec 4) (s : State) : Host.Outcome State Fault Refusal :=
  issue
    { barW s 0x190 (.binit b n) n.toNat b.ss with
      pre := fun c _ =>
        let x := c.team.bar n.toNat
        if x.arr ≠ 0 ∨ x.xexp ≠ 0 ∨ x.xarr ≠ 0 then .error { cause := 0x86 }
        else if 1 ≤ (c.uniB b).toNat ∧ (c.uniB b).toNat ≤ 1023 then .ok ()
        else .error { cause := 0x87 } }
    (fun c s => .ok (s.modBar c.ti n.toNat fun x => { x with members := (c.uniB b).toNat })) s

/-- `barv` (R265 to R267): a release of scope `t` -/
def execBarv (d : BitVec 6) (n : BitVec 4) (s : State) : Host.Outcome State Fault Refusal :=
  issue
    { barW s 0x191 (.barv d n) n.toNat [d.toNat] with
      pre := fun c _ =>
        let x := c.team.bar n.toNat
        if x.members = 0 then .error { cause := 0x85 } else if x.arr = 1023 then .error { cause := 0x87 } else .ok ()
      ready := fun c s => s.storesAt c.ti c.gi 1 }
    (fun c s =>
      let x := c.team.bar n.toNat
      let p := (x.phase + x.arr / x.members) % 2 ^ 16
      let s := s.modGroup c.ti c.gi fun g =>
        { g.writeS d.toNat (BitVec.ofNat 64 p) with lph := SMap.put 0 g.lph n.toNat (BitVec.ofNat 16 p) }
      .ok (s.modBar c.ti n.toNat fun x => { x with arr := x.arr + 1 })) s

/-- `bexp` (R266) -/
def execBexp (b : Src) (n : BitVec 4) (s : State) : Host.Outcome State Fault Refusal :=
  issue
    { barW s 0x192 (.bexp b n) n.toNat b.ss with
      pre := fun c _ =>
        let x := c.team.bar n.toNat
        if x.members = 0 then .error { cause := 0x85 }
        else if 2 ^ 32 ≤ x.xexp + (c.uniB b).toNat % 2 ^ 32 then .error { cause := 0x87 }
        else .ok () }
    (fun c s => .ok (s.modBar c.ti n.toNat fun x => { x with xexp := x.xexp + (c.uniB b).toNat % 2 ^ 32 })) s

/-- The phase that `bwait` and `btest` wait for (R265, R266). -/
def Ctx.phaseOf (c : Ctx) (b : Src) (n : Nat) : Nat :=
  match b with
  | .s x => (c.grp.readS x.toNat).toNat % 2 ^ 16
  | _ => (c.grp.lph.get 0 n).toNat

/-- The issuing group blocked by a word, since the moment when it first was (R70). DEDUCED (log entry 101): the word has issued, so
that the flashback record is cleared (R100). -/
def Ctx.blocked (c : Ctx) (s : State) (k : BlockKind) : State :=
  s.setGroup c.ti c.gi { c.grp with
    fb := none
    block := match c.grp.block with
      | some b => some { b with kind := k }
      | none => some { kind := k, entry := c.ei, since := s.now } }

/-- The issuing group no longer blocked. -/
def Ctx.unblocked (c : Ctx) : Group := { c.grp with block := none }

/-- `bwait` (R266, R267): an acquire of scope `t`, with everything that happens before the arrivals -/
def execBwait (b : Src) (n : BitVec 4) (s : State) : Host.Outcome State Fault Refusal :=
  issue (barW s 0x193 (.bwait b n) n.toNat b.ss) (fun c s =>
    let p := c.phaseOf b n.toNat
    if (c.team.bar n.toNat).phase = p then .hold (c.blocked s (.bwait n.toNat p))
    else .ok ((s.setGroup c.ti c.gi c.unblocked).raiseFloor c.ti c.gi)) s

/-- `btest` (R266, R267): an acquire when the phase has completed -/
def execBtest (b : Src) (p : BitVec 3) (n : BitVec 4) (s : State) : Host.Outcome State Fault Refusal :=
  issue (barW s 0x194 (.btest b p n) n.toNat b.ss) (fun c s =>
    let done := (c.team.bar n.toNat).phase ≠ c.phaseOf b n.toNat
    let s := s.setGroup c.ti c.gi (c.grp.writePs p.toNat c.active (if done then BitVec.allOnes 32 else 0))
    .ok (if done then s.raiseFloor c.ti c.gi else s)) s

/-! ## Streams -/

/-- A stream of a team. -/
def Team.stream (t : Team) (n : Nat) : Stream := t.streams.get Stream.zero n

/-- A stream replaced. -/
def Team.setStream (t : Team) (n : Nat) (q : Stream) : Team := { t with streams := SMap.put Stream.zero t.streams n q }

/-- A stream of a team changed. -/
def State.modStream (s : State) (ti n : Nat) (f : Stream → Stream) : State :=
  s.modTeam ti fun t => t.setStream n (f (t.stream n))

/-- NSLOT (R268). -/
def Stream.slots (q : Stream) : Nat := q.nsm1 + 1

/-- The pop index and the claim index (R268). -/
def Stream.popIdx (q : Stream) : Nat := (q.freei + q.np) % q.slots
def Stream.claimIdx (q : Stream) : Nat := (q.freei + q.np + q.nc) % q.slots

/-- The scratchpad offset of a slot (R268). -/
def Stream.offset (q : Stream) (i : Nat) : Nat := q.base + 128 * q.ssz * i

/-- A bit of a mask set, and cleared. -/
def setBitN (m i : Nat) : Nat := if bitOf m i then m else m + 2 ^ i
def clearBitN (m i : Nat) : Nat := if bitOf m i then m - 2 ^ i else m

/-- A slot claimed (R270). -/
def Stream.claim (q : Stream) (hand : Bool) : Stream :=
  { q with nc := q.nc + 1, hand := if hand then setBitN q.hand q.claimIdx else q.hand }

/-- Is a slot free to claim (R270)? -/
def Stream.room (q : Stream) : Bool := q.np + q.nc < q.slots

/-- A slot filled (R270). -/
def Stream.fill (q : Stream) (i : Nat) : Stream := { q with filled := setBitN q.filled i }

/-- Is the slot at the pop index ready (R270)? -/
def Stream.canPop (q : Stream) : Bool := 1 ≤ q.nc && bitOf q.filled q.popIdx

/-- The slot claimed by hand that `qpush.pub` fills (R271). -/
def Stream.handSlot (q : Stream) : Option Nat :=
  ((List.range q.nc).map fun i => (q.popIdx + i) % q.slots).find? fun i => bitOf q.hand i

/-- A stream word: a stream above the team's count is refused at stage 2, before the word's own checks (R271). DEDUCED (log entry
146): `qcfg` (R269), of which R271 does not speak, too. -/
def streamW (op : Nat) (i : Instr) (n : Nat) (ss : List Nat) (own : Ctx → Except Flt Unit) : Word :=
  { op := op, legal := wellFormed i, ss := ss
    pre := fun c _ => if n < c.team.nstr then own c else .error { cause := 0x01 } }

/-- A stream that a word needs configured (R271). -/
def Ctx.streamOk (c : Ctx) (n : Nat) : Except Flt Unit :=
  if (c.team.stream n).v then .ok () else .error { cause := 0x88 }

/-- Is a stream description permitted (R269)? -/
def streamBad (t : Team) (v : Nat) : Bool :=
  let base := bitsOf v 0 19
  let ssz := bitsOf v 32 12
  bitsOf v 19 5 ≠ 0 || bitsOf v 30 2 ≠ 0 || bitsOf v 44 20 ≠ 0 || base % 128 ≠ 0 || ssz = 0 || 3584 < ssz
    || t.spadBytes < base + 128 * ssz * (bitsOf v 24 6 + 1)

/-- `qcfg` (R269) -/
def execQcfg (n : BitVec 3) (b : BitVec 6) (s : State) : Host.Outcome State Fault Refusal :=
  issue
    (streamW 0x188 (.qcfg n b) n.toNat [b.toNat] fun c =>
      let q := c.team.stream n.toNat
      if q.nc ≠ 0 ∨ q.np ≠ 0 then .error { cause := 0x89 }
      else if streamBad c.team (c.grp.readS b.toNat).toNat then .error { cause := 0x88 }
      else .ok ())
    (fun c s =>
      let v := (c.grp.readS b.toNat).toNat
      .ok (s.modStream c.ti n.toNat fun q => { q with
        base := bitsOf v 0 19, nsm1 := bitsOf v 24 6, ssz := bitsOf v 32 12, freei := 0, v := true, filled := 0, hand := 0
        stall := 0, start := s.now })) s

/-- `qpush.res` (R271) -/
def execQpushRes (d : BitVec 6) (n : BitVec 3) (s : State) : Host.Outcome State Fault Refusal :=
  issue
    { streamW 0x189 (.qpushRes d n) n.toNat [d.toNat] fun c => c.streamOk n.toNat with
      ready := fun c _ => (c.team.stream n.toNat).room }
    (fun c s =>
      let q := c.team.stream n.toNat
      let s := s.modGroup c.ti c.gi fun g => g.writeS d.toNat (BitVec.ofNat 64 (q.offset q.claimIdx))
      .ok (s.modStream c.ti n.toNat fun q => q.claim true)) s

/-- `qpush.pub` (R271): a release of scope `t` -/
def execQpushPub (n : BitVec 3) (s : State) : Host.Outcome State Fault Refusal :=
  issue
    { streamW 0x189 (.qpushPub n) n.toNat [] fun c => do
        c.streamOk n.toNat
        if (c.team.stream n.toNat).handSlot.isNone then throw { cause := 0x8A } with
      ready := fun c s => s.storesAt c.ti c.gi 1 }
    (fun c s => .ok (s.modStream c.ti n.toNat fun q =>
      match q.handSlot with
      | some i => { q.fill i with hand := clearBitN q.hand i }
      | none => q)) s

/-- `qfree` (R271) -/
def execQfree (n : BitVec 3) (s : State) : Host.Outcome State Fault Refusal :=
  issue
    (streamW 0x18A (.qfree n) n.toNat [] fun c => do
      c.streamOk n.toNat
      if (c.team.stream n.toNat).np = 0 then throw { cause := 0x8A })
    (fun c s => .ok (s.modStream c.ti n.toNat fun q => { q with freei := (q.freei + 1) % q.slots, np := q.np - 1 })) s

/-- The time that a group has been blocked in `qpop` on a stream since the stream's `qcfg` (R268). -/
def Group.stalledOn (g : Group) (now start q : Nat) : Nat :=
  match g.block with
  | some { kind := .qpop x, since := since, .. } => if x = q then now - max since start else 0
  | _ => 0

/-- `qpop` (R270, R271): an acquire of scope `t` -/
def execQpop (d : BitVec 6) (n : BitVec 3) (s : State) : Host.Outcome State Fault Refusal :=
  issue (streamW 0x18B (.qpop d n) n.toNat [d.toNat] fun c => c.streamOk n.toNat) (fun c s =>
    let q := c.team.stream n.toNat
    if q.canPop then
      let s := s.setGroup c.ti c.gi (c.unblocked.writeS d.toNat (BitVec.ofNat 64 (q.offset q.popIdx)))
      .ok ((s.modStream c.ti n.toNat fun q => { q with
        filled := clearBitN q.filled q.popIdx, nc := q.nc - 1, np := q.np + 1
        stall := q.stall + c.grp.stalledOn s.now q.start n.toNat }).raiseFloor c.ti c.gi)
    else .hold (c.blocked s (.qpop n.toNat))) s

/-! ## Counters -/

/-- A copy counter (R273). -/
def Ctx.copyStat (c : Ctx) (now sel : Nat) : Nat :=
  match sel with
  | 0 => c.grp.copies
  | 1 => (c.team.groups.map fun g => g.2.copies).foldl (· + ·) 0
  | 2 => c.grp.copyBytes
  | _ =>
    let q := sel - 8
    (c.team.stream q).stall + (c.team.groups.map fun g => g.2.stalledOn now (c.team.stream q).start q).foldl (· + ·) 0

/-- `cpg` (R273) -/
def execCpg (d : BitVec 6) (sel : BitVec 7) (s : State) : Host.Outcome State Fault Refusal :=
  issue { op := 0x183, legal := wellFormed (.cpg d sel), ss := [d.toNat] } (fun c s =>
    .ok (s.setGroup c.ti c.gi (c.grp.writeS d.toNat (BitVec.ofNat 64 (c.copyStat s.now sel.toNat))))) s

/-- `cpf` (R273) -/
def execCpf (s : State) : Host.Outcome State Fault Refusal :=
  issue { op := 0x184, legal := wellFormed .cpf, ready := fun c _ => c.grp.copies = 0 } (fun c s =>
    .ok (s.raiseFloor c.ti c.gi)) s

end Sys2Proof.Machine
end

