-- ==== Sys2Proof/Machine/Copy.lean ====
section
/-!
DEFINITION. The copy engines (R247 to R262, R274, R275): layout records, boxes and their skewed images, `cpt`, `cpx` and
`cpl`, and the completion of a copy.
-/
namespace Sys2Proof.Machine

/-! ## Layout records -/

/-- A layout record's fields (R249). -/
structure Layout where
  base : Int
  ndim : Nat
  ty : Nat
  skw : Nat
  clip : Nat
  pb : Bool
  pq : Bool
  qid : Nat
  bga : Bool
  fill : Nat
  size : List Nat
  stride : List Nat
  box : List Nat
  rsv : Bool
  deriving DecidableEq, Repr

/-- The fields of a record (R249); strides start with that of dimension 0, which is none. -/
def layoutOf (r : Nat) : Layout :=
  { base := signedOf 57 (bitsOf r 0 57), ndim := bitsOf r 57 3, ty := bitsOf r 64 5, skw := bitsOf r 69 3
    clip := bitsOf r 72 2, pb := bitOf r 74, pq := bitOf r 75, qid := bitsOf r 76 3, bga := bitOf r 79
    fill := bitsOf r 96 32
    size := (List.range 5).map fun i => bitsOf r (128 + 32 * i) 32
    stride := 0 :: (List.range 4).map fun i => bitsOf r (288 + 40 * i) 40
    box := (List.range 5).map fun i => bitsOf r (448 + 8 * i) 8
    rsv := bitsOf r 60 4 ≠ 0 || bitsOf r 80 16 ≠ 0 || bitsOf r 488 24 ≠ 0 }

/-- Box extent in a dimension. -/
def Layout.ext (y : Layout) (i : Nat) : Nat := y.box.getD i 0 + 1

/-- Box bytes with elements of a width (R250). -/
def Layout.bytes (y : Layout) (w : Nat) : Nat := y.ext 0 * y.ext 1 * y.ext 2 * y.ext 3 * y.ext 4 * w / 8

/-- Panel width of a skew (R252). -/
def panel (skw : Nat) : Nat := 32 * 2 ^ skw

/-- Is a record valid (R250), with `ws` the scratchpad-side width? -/
def Layout.valid (y : Layout) (ws : Nat) (toGlobal : Bool) : Bool :=
  let w := tyWidth y.ty
  let n := y.bytes ws
  1 ≤ y.ndim && y.ndim ≤ 5 && y.ty ≤ 0x12 && y.skw ≤ 4 && y.clip ≤ 1 && !y.rsv
    && (List.range 5).all (fun i =>
      if i < y.ndim then 1 ≤ y.size.getD i 0
      else y.size.getD i 0 = 0 && y.stride.getD i 0 = 0 && y.box.getD i 0 = 0)
    && y.base % 16 = 0 && y.stride.all (fun x => x % 16 = 0)
    && (y.ty ≠ 0x0F || (y.size.getD 0 0 % 64 = 0 && y.ext 0 % 64 = 0))
    && (w ≠ 4 || (y.size.getD 0 0 % 2 = 0 && y.ext 0 % 2 = 0))
    && n ≤ 458752 && n % 16 = 0 && (y.skw = 0 || n % panel y.skw = 0) && !(y.pq && toGlobal)

/-- The starting coordinates (R251); those at or above NDIM are ignored. -/
def Layout.coords (y : Layout) (c0 c1 c2 : Nat) : List Int :=
  let all := [signedOf 32 c0, signedOf 32 c1, signedOf 32 c2, signedOf 32 (c0 / 2 ^ 32), signedOf 32 (c1 / 2 ^ 32)]
  all.zipIdx.map fun x => if x.2 < y.ndim then x.1 else 0

/-- Are the coordinate registers permitted (R251)? DESIGN CHOICE (log entry 121): bits [63:51] of the third one belong to SPOFF,
and are not checked when PQ = 1, which does not use it. -/
def Layout.coordsOk (y : Layout) (c0 c2 : Nat) : Bool :=
  (signedOf 32 c0 * (tyWidth y.ty : Nat)) % 128 = 0 && (y.pq || bitsOf c2 51 13 = 0)

/-- The scratchpad offset of an image byte (R252). -/
def skewed (skw o : Nat) : Nat :=
  if skw = 0 then o
  else
    let wp := panel skw
    let p := o / wp
    wp * p + 16 * ((o % wp / 16 + p) % (wp / 16)) + o % 16

/-! ## Boxes -/

/-- One piece of a box: an element, or a byte of elements narrower than one. -/
structure Piece where
  /-- offset in the image, before the skew -/
  off : Nat
  /-- address in global memory (R251) -/
  addr : Nat
  /-- the same; `none` when the piece is clipped -/
  va : Option Nat
  deriving DecidableEq, Repr

/-- Bytes of a piece of a width. -/
def pieceBytes (w : Nat) : Nat := if w < 8 then 1 else w / 8

/-- The coordinates of the rows of a box, dimensions 1 to 4, in image order. -/
def Layout.rows (y : Layout) (c : List Int) : List (List Int) :=
  let axis (i : Nat) : List Int := (List.range (y.ext i)).map fun j : Nat => c.getD i 0 + (j : Int)
  (axis 4).flatMap fun x4 => (axis 3).flatMap fun x3 => (axis 2).flatMap fun x2 => (axis 1).map fun x1 => [x1, x2, x3, x4]

/-- The bytes from BASE to a row (R251). -/
def Layout.rowBase (y : Layout) (row : List Int) : Int :=
  (row.zip (y.stride.drop 1)).foldl (fun a x => a + x.1 * (x.2 : Nat)) y.base

/-- Does a row lie outside the tensor (R253)? -/
def Layout.rowClipped (y : Layout) (row : List Int) : Bool :=
  (List.range 4).any fun i =>
    i + 1 < y.ndim && (row.getD i 0 < 0 || (y.size.getD (i + 1) 0 : Int) ≤ row.getD i 0)

/-- The pieces of a box in image order (R251 to R253), for a scratchpad-side width. -/
def Layout.pieces (y : Layout) (c : List Int) (ws : Nat) : List Piece :=
  let w := tyWidth y.ty
  let gb := pieceBytes w
  let sb := pieceBytes ws
  let per := y.ext 0 * w / 8 / gb
  let c0 := c.getD 0 0
  ((y.rows c).zipIdx.map fun r =>
    (List.range per).map fun i =>
      let x := c0 + (8 * gb * i / w : Nat)
      let off := (r.2 * per + i) * sb
      let va := wrapTo 64 (y.rowBase r.1 + c0 * (w : Nat) / 8 + (gb * i : Nat))
      let clipped := y.rowClipped r.1 || x < 0 || (y.size.getD 0 0 : Int) ≤ x
      { off := off, addr := va, va := if clipped then none else some va }).flatten

/-- The fill byte of an image offset (R253). -/
def fillByte (fill ws o : Nat) : Byte :=
  let f := if ws = 64 then wrapTo 64 (signedOf 32 fill) else fill
  BitVec.ofNat 8 ((List.range 8).map (fun i => b2n (bitOf f ((8 * o + i) % ws)) * 2 ^ i)).sum

/-- The smallest interval that covers the global bytes of a box (R165). -/
def Layout.globalSpan (y : Layout) (c : List Int) (ws : Nat) : Option Interval :=
  match (y.pieces c ws).filterMap (·.va) with
  | [] => none
  | v :: vs =>
    let lo := vs.foldl min v
    let hi := vs.foldl max v + pieceBytes (tyWidth y.ty)
    some { spad := false, lo := lo % 2 ^ 57, len := hi - lo }

/-! ## cpt and cpx -/

/-- The copy engines of a partition (R247, R342). -/
def State.enginesOf (s : State) (pid : Nat) : List Nat :=
  (List.range 64).filter fun e => let x := s.guard.engines.get Engine.cold e; x.v && x.pid = pid

/-- Bytes queued at an engine. -/
def State.engineLoad (s : State) (e : Nat) : Nat :=
  ((s.copies.filter fun c => c.engine = e).map (·.bytes)).foldl (· + ·) 0

/-- The engine that takes a copy (R247). -/
def State.pickEngine (s : State) (pid : Nat) : Option Nat :=
  match s.enginesOf pid with
  | [] => none
  | e :: es => some (es.foldl (fun b e => if s.engineLoad e < s.engineLoad b then e else b) e)

/-- The engines that serve the issuing core: none for a system core, which belongs to no partition (R247, R373). -/
def Ctx.engine (c : Ctx) (s : State) : Option Nat := if c.team.system then none else s.pickEngine c.team.pid

/-- How a bulk copy moves its elements (R255, R256). -/
structure CopyCmd where
  toGlobal : Bool
  bar : Nat
  /-- scratchpad-side type, `none` for `cpt` -/
  sty : Option Nat
  crm : Nat
  csat : Bool

/-- The command of a `cpx` (R256). -/
def cpxCmd (x : Nat) : CopyCmd :=
  { toGlobal := bitOf x 0, bar := bitsOf x 1 4, sty := some (bitsOf x 5 5), crm := bitsOf x 10 2, csat := bitOf x 12 }

/-- The stage 2 check of a command word alone (R256). -/
def cpxBad (x : Nat) : Bool :=
  let ty := bitsOf x 5 5
  bitsOf x 10 2 = 3 || bitsOf x 13 51 ≠ 0 || !(ty = 0x09 || ty = 0x0C || ty = 0x0D)

/-- The pairs of types of `cpx` (R256). -/
def cpxPair (ty sty : Nat) : Bool :=
  (ty = 0x09 && (sty = 0x0C || sty = 0x0D)) || (sty = 0x09 && (ty = 0x0C || ty = 0x0D))

/-- A fault of a leader word at an address (R30, R32). -/
def Ctx.leaderFlt (c : Ctx) (cause addr kind : Nat) : Flt :=
  { cause := cause, lanes := 1#32 <<< lowLane c.active, addr := addr, kind := kind }

/-- A read of up to 64 bytes at issue, bound as a load (R164, R257): the word must wait, a finding, or the bytes. -/
def State.bind64 (s : State) (c : Ctx) (nc : Bool) (pa : Nat) : Bound × State :=
  match s.bind c (!nc) (!nc) pa 32 with
  | (.val lo, s) =>
    match s.bind c (!nc) (!nc) (pa + 32) 32 with
    | (.val hi, s) => (.val (lo ++ hi), s)
    | r => r
  | r => r

/-- What a copy is to do, once its record has been read. -/
structure CopyPlan where
  y : Layout
  coord : List Int
  bytes : Nat
  d : Nat
  slot : Option (Nat × Nat)
  rec_ : Nat

/-- The checks of a record at stage 5, in order (R250, R251, R257). FLT_COPY_LAYOUT, also for bad coordinates, gives the
record's address and KIND 1: the model's choice (log entry 49), as R32 does not say whether it involves an address. -/
def Ctx.copyPlan (c : Ctx) (cmd : CopyCmd) (crd ra rec_ : Nat) : Except Flt CopyPlan := do
  let y := layoutOf rec_
  let r (i : Nat) := (c.grp.readS (crd + i)).toNat
  let ws := tyWidth (cmd.sty.getD y.ty)
  if !(y.valid ws cmd.toGlobal && y.coordsOk (r 0) (r 2)) then throw (c.leaderFlt 0x80 ra 1)
  let bytes := y.bytes ws
  let q := c.team.stream y.qid
  if y.pq then
    if y.qid ≥ c.team.nstr ∨ !q.v then throw (c.leaderFlt 0x88 0 0)
    if 128 * q.ssz < bytes then throw (c.leaderFlt 0x8B 0 0)
  let d := if y.pq then q.offset q.claimIdx else r 2 / 2 ^ 32
  let kind := if cmd.toGlobal then 1 else 2
  if d % 16 ≠ 0 then throw (c.leaderFlt 0x42 d kind)
  if c.team.spadBytes < d + bytes then throw (c.leaderFlt 0x46 d kind)
  let b := c.team.bar cmd.bar
  if y.pb then
    if cmd.bar ≥ c.team.nbar ∨ b.members = 0 then throw (c.leaderFlt 0x85 0 0)
    if 2 ^ 32 ≤ b.xexp + bytes then throw (c.leaderFlt 0x87 0 0)
  return { y := y, coord := y.coords (r 0) (r 1) (r 2), bytes := bytes, d := d
           slot := if y.pq then some (y.qid, q.claimIdx) else none, rec_ := rec_ }

/-- The acceptance of a bulk copy: its postings take effect together (R257). -/
def Ctx.acceptCopy (c : Ctx) (op tok : Nat) (cmd : CopyCmd) (engine : Nat) (p : CopyPlan) (s : State) : State :=
  let (id, s) := s.fresh
  let core := c.team.core
  let ws := tyWidth (cmd.sty.getD p.y.ty)
  let glob := p.y.globalSpan p.coord ws
  let spad : Option Interval := some { spad := true, lo := p.d, len := p.bytes }
  let s := if p.y.pb then s.modBar c.ti cmd.bar fun b => { b with xexp := b.xexp + p.bytes } else s
  let s := match p.slot with
    | some (q, _) => s.modStream c.ti q fun q => q.claim false
    | none => s
  let s := s.modCore core fun k => { k with
    locks := k.locks ++ [{
      id := id, fen := c.fen, team := c.ti
      src := if cmd.toGlobal then spad else glob, dst := if cmd.toGlobal then glob else spad }] }
  let s := s.modGroup c.ti c.gi fun g => { g.flagUp (c.flagNo op) with
    tokens := if tok = 63 then g.tokens else g.tokens ++ [tok], copies := g.copies + 1 }
  { s with copies := s.copies ++ [{
      id := id, team := c.ti, group := c.gi, core := core, engine := engine, fen := c.fen
      rec_ := BitVec.ofNat 512 p.rec_, coord := p.coord, d := p.d, toGlobal := cmd.toGlobal
      bar := if p.y.pb then some cmd.bar else none, stream := p.slot, tok := if tok = 63 then none else some tok
      flag := c.flagNo op, sty := cmd.sty.getD p.y.ty, crm := cmd.crm, csat := cmd.csat, bytes := p.bytes
      waits := none, asked := none, failed := [] }] }

/-- What the read of a record at issue gives (R257). -/
inductive RecRead where
  | stall
  | bad (f : Flt)
  /-- the expander's abort (R171) -/
  | abort
  | val (n : Nat)
  deriving DecidableEq, Repr

/-- The read of the 64 bytes at a record's address, with its checks, bound as a load (R164, R257). -/
def Ctx.readRecord (c : Ctx) (op ra : Nat) (s : State) : RecRead × State :=
  match s.chk c { op := op, bytes := 64, r := true, w := false, kind := 1 } false ra with
  | .bad cause addr mc => (.bad { c.leaderFlt cause addr 1 with mcpa := mc }, s)
  | .unsup => (.stall, s)
  | .ok x =>
    if s.acquirePending c || c.scOverlap x.pa 64 then (.stall, s)
    else match s.bind64 c x.nc x.pa with
    | (.stall, s) => (.stall, s)
    | (.err .abort _, s) => (.abort, s)
    | (.err e pa, s) => (.bad { c.leaderFlt e.code ra 1 with mcpa := if isMc e.code then some pa else none }, s)
    | (.val bs, s) => (.val (natLE bs), s)

/-- `cpt` and `cpx` once the record is known (R257). -/
def Ctx.planCopy (c : Ctx) (op tok crd ra : Nat) (cmd : CopyCmd) (rec_ : Nat) (s : State) : Res :=
  match c.copyPlan cmd crd ra rec_ with
  | .error f => .raise f s
  | .ok p =>
    let room := p.slot.all fun q => (c.team.stream q.1).room
    match c.engine s with
    | some e => if room && (s.core c.team.core).lockRoom 1 then .ok (c.acceptCopy op tok cmd e p s) else .stall
    | none => .raise { cause := 0x84 } s

/-- `cpt` and `cpx` from stage 5 on (R257). An expander's abort is deferred on the word's flag and gives a record of ones,
which no record permits (R171, R184, log entry 49). -/
def Ctx.bulkCopy (c : Ctx) (op tok lay crd : Nat) (cmd : CopyCmd) (s : State) : Res :=
  let ra := (c.grp.readS lay).toNat
  match c.readRecord op ra s with
  | (.stall, _) => .stall
  | (.bad f, s) => .raise f s
  | (.abort, s) =>
    c.planCopy op tok crd ra cmd (2 ^ 512 - 1) (s.defer c.ti c.gi {
      at_ := .flag (c.flagNo op), cause := 0x4A, kind := 1, lanes := BitVec.allOnes 32, addr := ra % 2 ^ 57, pa := 0, op := 0 })
  | (.val n, s) => c.planCopy op tok crd ra cmd n s

/-- The stage 2 check of the pair of types of a `cpx`, made when the record can be read (R256, log entry 49). -/
def Ctx.pairOk (c : Ctx) (ra sty : Nat) (s : State) : Bool :=
  match (c.readRecord 0x181 ra s).1 with
  | .val n => cpxPair (layoutOf n).ty sty
  | _ => true

/-- The stage 2 check for an engine (R247). -/
def Ctx.engineOk (c : Ctx) (s : State) : Except Flt Unit :=
  if (c.engine s).isSome then .ok () else .error { cause := 0x84 }

/-- `cpt` (R255, R257) -/
def execCpt (t l cr : BitVec 6) (b : BitVec 4) (r : BitVec 1) (s : State) : Host.Outcome State Fault Refusal :=
  issue
    { op := 0x180, legal := wellFormed (.cpt t l cr b r), ss := [t.toNat, l.toNat] ++ sRange cr.toNat 3
      pre := fun c s => c.engineOk s }
    (fun c s => c.bulkCopy 0x180 t.toNat l.toNat cr.toNat
      { toGlobal := r = 1, bar := b.toNat, sty := none, crm := 0, csat := false } s) s

/-- `cpx` (R255 to R257) -/
def execCpx (t l cr : BitVec 6) (m : BitVec 5) (s : State) : Host.Outcome State Fault Refusal :=
  issue
    { op := 0x181, legal := wellFormed (.cpx t l cr m), ss := [t.toNat, l.toNat, m.toNat] ++ sRange cr.toNat 3
      pre := fun c s =>
        let x := (c.grp.readS m.toNat).toNat
        if cpxBad x || !c.pairOk (c.grp.readS l.toNat).toNat (bitsOf x 5 5) s then .error { cause := 0x82 }
        else c.engineOk s }
    (fun c s => c.bulkCopy 0x181 t.toNat l.toNat cr.toNat (cpxCmd (c.grp.readS m.toNat).toNat) s) s

/-! ## The engine -/

/-- Have the stores that an operation must observe been performed (R164): those that its group issued before it, and those
that other groups had then put into the core store order, among which are all that happen before the issue. -/
def State.storesBefore (s : State) (ti gi id : Nat) : Bool :=
  let g := s.group ti gi
  !(g.sq.any (fun e => e.word < id) || (s.core (s.team ti).core).cso.any (fun e => e.word < id)
    || g.scq.any (fun r => r.pend < id) || s.txops.any fun t => t.team = ti && t.group = gi && t.pend < id)

/-- What a copy finds at a global address (R258): a page that is not present, a cause, or the physical address. -/
inductive Found where
  | absent
  | bad (cause : Nat) (mc : Option Nat)
  | at_ (x : Xlate)
  deriving DecidableEq, Repr

/-- The engine's translation and permission checks (R258). -/
def State.copyFind (s : State) (fen : Nat) (write : Bool) (va : Nat) : Found :=
  if !canonical va then .bad 0x44 none
  else match s.walkXlate fen (va % 2 ^ 57) with
  | .error (.cause n) => if n = 0x40 then .absent else .bad n none
  | .error (.check code pa) => .bad code (some pa)
  | .ok x =>
    if !(if write then x.w else x.r) then .bad 0x41 none
    else if !isMemRegion x.pa then .bad 0x49 none
    else .at_ x

/-- A copy in progress: the state, the image where it is the destination, and the first failure. -/
structure CopyAcc where
  s : State
  img : SMap (BitVec 8)
  fail : Option (Nat × Nat × Option Nat)
  /-- causes and physical addresses of the machine checks met -/
  checks : List (Nat × Nat) := []

/-- A failure noted; the first one counts, and every machine check is kept for the log (R385). -/
def CopyAcc.failAt (a : CopyAcc) (cause va : Nat) (mc : Option Nat) : CopyAcc :=
  { a with
    fail := a.fail.orElse fun _ => some (cause, va, mc)
    checks := match mc with
      | some pa => if a.checks.any fun x => x.1 = cause && x.2 / 64 = pa / 64 then a.checks else a.checks ++ [(cause, pa)]
      | none => a.checks }

/-- The machine check that the first failure is, if it is one. -/
def CopyAcc.kept (a : CopyAcc) : List (Nat × Nat) :=
  match a.fail with
  | some (cause, _, some pa) => [(cause, pa)]
  | _ => []

/-- What converts an element (R256). -/
def CopyOp.env (o : CopyOp) : Env :=
  { rm := if o.crm = 1 then rmRTZ else if o.crm = 2 then rmRNA else rmRNE, sat := o.csat, ftz := false, cb := [] }

/-- The bytes of a piece after conversion (R256). -/
def CopyOp.convert (o : CopyOp) (src dst : Nat) (bs : List Byte) : List Byte :=
  if src = dst then bs else bytesLE (tyWidth dst / 8) (convertElem o.env src dst (natLE bs)).1

/-- A piece's bytes put into the image. -/
def CopyOp.put (o : CopyOp) (y : Layout) (p : Piece) (a : CopyAcc) (bs : List Byte) : CopyAcc :=
  { a with img := bs.zipIdx.foldl (fun m b => SMap.put 0 m (o.d + skewed y.skw (p.off + b.2)) b.1) a.img }

/-- A piece that fails: the bytes of the image that it would have filled are free values (R23, log entry 47). -/
def CopyOp.lose (o : CopyOp) (y : Layout) (p : Piece) (a : CopyAcc) (cause va : Nat) (mc : Option Nat) : CopyAcc :=
  let a := a.failAt cause va mc
  if o.toGlobal then a
  else
    let (x, s) := a.s.freeNat
    o.put y p { a with s := s } (bytesLE (pieceBytes (tyWidth o.sty)) x)

/-- Was a page's request answered as failed (R258)? -/
def CopyOp.refused (o : CopyOp) (va : Nat) : Bool := o.failed.contains (va % 2 ^ 57 / 4096)

/-- One piece of a copy (R253, R258). -/
def CopyOp.move (o : CopyOp) (y : Layout) (a : CopyAcc) (p : Piece) : CopyAcc :=
  let gb := pieceBytes (tyWidth y.ty)
  let sb := pieceBytes (tyWidth o.sty)
  match p.va with
  | none =>
    if o.toGlobal then a
    else o.put y p a ((List.range sb).map fun i => fillByte y.fill (tyWidth o.sty) (p.off + i))
  | some va =>
    if o.refused va then o.lose y p a 0x40 va none
    else match a.s.copyFind o.fen o.toGlobal va with
    | .absent => o.lose y p a 0x40 va none
    | .bad cause mc => o.lose y p a cause va mc
    | .at_ x =>
      match a.s.lineErr o.fen (x.pa / 64) with
      | some e => o.lose y p a e.code va (if isMc e.code then some x.pa else none)
      | none =>
        if o.toGlobal then
          let bs := (List.range sb).map fun i => SMap.get 0 a.img (o.d + skewed y.skw (p.off + i))
          { a with s := (a.s.applyWrite o.fen x.pa (whole (o.convert o.sty y.ty bs))).markThrough o.team none o.id x.pa }
        else o.put y p a (o.convert y.ty o.sty (a.s.readBytes o.fen x.pa gb))

/-- The global pages of a copy that translate, whatever their permissions and region, as an address and its BG (R258). -/
def CopyOp.blocks (o : CopyOp) (s : State) (vas : List Nat) : List (Nat × Nat) :=
  vas.filterMap fun va =>
    if !canonical va then none
    else match s.walkXlate o.fen (va % 2 ^ 57) with
    | .ok x => some (va, x.bg)
    | .error _ => none

/-- The address at which the check of BGA fails (R258): the first whose page has a BG other than the first page's, or the
first of all when its BG does not divide the box. -/
def CopyOp.blockFail (o : CopyOp) (s : State) (y : Layout) (vas : List Nat) : Option Nat :=
  match o.blocks s vas with
  | [] => none
  | (va, b) :: rest =>
    match rest.find? fun x => x.2 ≠ b with
    | some x => some x.1
    | none => if o.coord.getD 0 0 % ((16 * 2 ^ b : Nat) : Int) = 0 ∧ y.ext 0 % (16 * 2 ^ b) = 0 then none else some va

/-- The status word (R259). -/
def CopyOp.status (o : CopyOp) (clipped : Bool) (fail : Option (Nat × Nat × Option Nat)) : Nat :=
  b2n clipped * 2 ^ 8 + match fail with
    | some (cause, va, _) => cause + b2n o.toGlobal * 2 ^ 9 + bitsOf va 4 53 * 2 ^ 11
    | none => 0

/-- Has a team exited, so that what its copies report is discarded (R275)? -/
def State.gone (s : State) (ti : Nat) : Bool := (s.teams.find ti).all fun t => t.status = .ended

/-- Later loads of a team's groups use no L1 sector filled before a copy's writes (R262). -/
def State.raiseFloors (s : State) (ti : Nat) : State :=
  s.modTeam ti fun t => { t with groups := t.groups.map fun g => (g.1, { g.2 with floor := s.nextId }) }

/-- The completion event of a copy, on every path (R22, R23, R258, R275). -/
def CopyOp.complete (o : CopyOp) (s : State) (clipped : Bool) (fail : Option (Nat × Nat × Option Nat)) : State :=
  let s := s.unlock o.core o.id
  let s := { s with copies := s.copies.filter fun c => c.id ≠ o.id }
  let s := s.modGroup? o.team o.group fun g =>
    { g.flagDown o.flag with copies := g.copies - 1, copyBytes := g.copyBytes + o.bytes }
  let s := if s.gone o.team then s
    else
      let s := if o.toGlobal then s.raiseFloors o.team else s
      let s := match o.tok with
        | some t => s.modGroup o.team o.group fun g =>
            { g.writeS t (BitVec.ofNat 64 (o.status clipped fail)) with tokens := g.tokens.filter (· ≠ t) }
        | none => s
      let s := match o.bar with
        | some b => s.modBar o.team b fun x => { x with xarr := x.xarr + o.bytes }
        | none => s
      match o.stream with
      | some (q, i) => s.modStream o.team q fun x => x.fill i
      | none => s
  match fail with
  | none => s
  | some (cause, va, mc) =>
    if isMc cause then s.machineCheck o.team o.group (asyncFault o.flag cause va mc (BitVec.allOnes 32))
    else if o.tok.isSome then s
    else s.defer o.team o.group (asyncFault o.flag cause va mc (BitVec.allOnes 32))

/-- A page request of a copy (R258, R292): refused, it is counted once and made again later. -/
def CopyOp.request (o : CopyOp) (s : State) (va : Nat) : State :=
  let page := va % 2 ^ 57 / 4096
  let mod (s : State) (f : CopyOp → CopyOp) : State :=
    { s with copies := s.copies.map fun c => if c.id = o.id then f c else c }
  match s.prqTake { tag := 0, popped := false, src := 1, acc := if o.toGlobal then 2 else 1, last := false, prgi := 0
                    fen := o.fen, va := va % 2 ^ 57, rid := 0, port := 0, pasid := 0, time := 0 } with
  | some (s, tag) => mod s fun c => { c with waits := some tag, asked := none }
  | none => if o.asked = some page then s else mod (s.prqRefuse o.fen) fun c => { c with asked := some page }

/-- The scratchpad that a copy reads, or into which it writes (R274). -/
def CopyOp.source (o : CopyOp) (s : State) : SMap (BitVec 8) := if o.toGlobal then o.snap.getD (s.team o.team).spad else (s.team o.team).spad

/-- The copy's work, once it is not held by a page request (R253, R258). DESIGN CHOICE (log entry 122): the global pages of the
box are those of elements that are not clipped. -/
def CopyOp.run (o : CopyOp) (s : State) : State :=
  let y := layoutOf o.rec_.toNat
  let ps := y.pieces o.coord (tyWidth o.sty)
  let vas := ps.filterMap (·.va)
  let out := ps.find? fun p => p.va.isNone
  let clipped := out.isSome
  match (if y.clip = 1 then out else none) with
  | some p => o.complete s clipped (some (0x81, p.addr, none))
  | none =>
  match vas.find? fun va => !o.refused va && s.copyFind o.fen o.toGlobal va = .absent with
  | some va => o.request s va
  | none =>
    match (if y.bga then o.blockFail s y vas else none) with
    | some va => o.complete s clipped (some (0x8C, va, none))
    | none =>
      let a := ps.foldl (o.move y) { s := s, img := o.source s, fail := none }
      let a := { a with s := a.s.logBeside a.kept a.checks }
      let s := if o.toGlobal then a.s else a.s.modTeam o.team fun t => { t with spad := a.img }
      o.complete s clipped a.fail

/-- COPY_COMPLETE (R164, R258): the copy numbered `op`, when nothing holds it -/
def execCopyComplete (op : Nat) (s : State) : Host.Outcome State Fault Refusal :=
  match s.copies.find? fun c => c.id = op with
  | none => .next s
  | some o => if o.waits.isSome ∨ !s.storesBefore o.team o.group o.id then .next s else .next (o.run s)

/-! ## cpl -/

/-- Bits [31:0] of a lane's b operand, an immediate sign-extended whatever the type (R260, R297). DESIGN CHOICE (log
entry 149): a `v` operand is the one register that b names, under a 64-bit Mode.TY too, with no pair and no alignment rule (R41). -/
def Ctx.low32 (c : Ctx) (b : Src) (l : Nat) : Nat :=
  match b with
  | .v n => (c.grp.readV l n.toNat).toNat
  | .s n => (c.grp.readS n.toNat).toNat % 2 ^ 32
  | .imm n => wrapTo 32 (immOf n)
  | .p _ => 0

/-- The physical addresses of the bytes of a lane's source, or what stops them (R260). -/
def State.cplPages (s : State) (c : Ctx) (va n : Nat) : Except (Nat × Nat × Option Nat) (List Nat) :=
  (List.range n).mapM fun i =>
    let a := (va + i) % 2 ^ 64
    match s.xlate c.team.core c.grp.port c.fen a with
    | .error e => .error (e.code, a, e.mcpa)
    | .ok x =>
      if !x.r then .error (0x41, a, none)
      else if !isMemRegion x.pa then .error (0x49, a, none)
      else .ok x.pa

/-- The stage 5 checks of one lane (R260): cause, address, machine check and KIND, or the lane's part of the copy. -/
def State.cplLane (s : State) (c : Ctx) (b : Src) (d a l : Nat) : Except (Nat × Nat × Option Nat × Nat) CplLane :=
  let n := c.low32 b l
  let o := (c.grp.readV l d).toNat
  let va := (c.grp.readV2 l a).toNat
  if o % 32 ≠ 0 then .error (0x42, o, none, 2)
  else if c.team.spadBytes < o + 32 then .error (0x46, o, none, 2)
  else if n = 0 then .ok { lane := l, off := o, va := va, pas := [] }
  else if !canonical va then .error (0x44, va, none, 1)
  else if va % 16 ≠ 0 then .error (0x42, va, none, 1)
  else match s.cplPages c va n with
  | .error (cause, addr, mc) => .error (cause, addr, mc, 1)
  | .ok pas => .ok { lane := l, off := o, va := va, pas := pas }

/-- The interval of a `cpl` (R165). -/
def cplSpan (ls : List CplLane) : Interval :=
  let lo := ls.foldl (fun m x => min m x.off) ((ls.head?.map (·.off)).getD 0)
  { spad := true, lo := lo, len := ls.foldl (fun m x => max m (x.off + 32)) 0 - lo }

/-- The failing lanes of a `cpl`. -/
def cplFault (rs : List (Nat × Except (Nat × Nat × Option Nat × Nat) CplLane)) : Option Flt :=
  let bads := rs.filterMap fun r => match r.2 with
    | .error e => some (r.1, e)
    | .ok _ => none
  match bads with
  | [] => none
  | (_, cause, addr, mc, kind) :: _ =>
    some { cause := cause, lanes := maskOf ((bads.filter fun b => b.2.1 = cause).map (·.1)), addr := addr, kind := kind
           mcpa := mc }

/-- `cpl` (R260) -/
def execCpl (b : Src) (d a : BitVec 7) (s : State) : Host.Outcome State Fault Refusal :=
  issue
    { op := 0x182, legal := wellFormed (.cpl b d a), vs := d.toNat :: a.toNat :: b.vs, ss := b.ss
      pairs := fun _ => [a.toNat]
      lanesOk := fun c _ =>
        let bad := c.lanes.filter fun l => 32 < c.low32 b l
        if bad = [] then .ok () else .error { cause := 0x83, lanes := maskOf bad }
      ready := fun c s => (s.core c.team.core).lockRoom 1 }
    (fun c s =>
      let rs := c.lanes.map fun l => (l, s.cplLane c b d.toNat a.toNat l)
      match cplFault rs with
      | some f => .raise f (s.logBeside f.check (rs.filterMap fun r => match r.2 with
          | Except.error (cause, _, some pa, _) => some (cause, pa)
          | _ => none))
      | none =>
        let ls := rs.filterMap fun r => r.2.toOption
        let (id, s) := s.fresh
        let s := s.modCore c.team.core fun k => { k with
          locks := k.locks ++ [{ id := id, fen := c.fen, team := c.ti, src := none, dst := some (cplSpan ls) }] }
        let s := s.modGroup c.ti c.gi fun g => { g.flagUp (c.flagNo 0x182) with copies := g.copies + 1 }
        .ok { s with cpls := s.cpls ++ [{
          id := id, team := c.ti, group := c.gi, core := c.team.core, fen := c.fen, flag := c.flagNo 0x182
          lanes := ls }] }) s

/-- The finding on a lane's source lines (R261). -/
def State.cplErr (s : State) (fen : Nat) (x : CplLane) : Option (LineErr × Nat) :=
  x.pas.findSome? fun pa => (s.lineErr fen (pa / 64)).map fun e => (e, pa)

/-- A byte that a `cpl` reads, as an `ldq` would: from the stores of the core's other groups, else from the home bank; `none`
when it must wait (R159, R261). -/
def CplOp.byte (o : CplOp) (s : State) (pa : Nat) : Option Byte :=
  let seen := ((s.core o.core).cso.filter fun e => !(e.team = o.team && e.group = o.group)).reverse
  (takeByte o.fen pa seen 0xFF 0).map fun x => mergeByte x.2 (s.readByte o.fen pa) x.1

/-- May a `cpl` read every byte now (R164, R192)? -/
def CplOp.canRead (o : CplOp) (s : State) : Bool :=
  s.storesBefore o.team o.group o.id && o.lanes.all fun x => x.pas.all fun pa => (o.byte s pa).isSome

/-- One lane of a `cpl` written into the scratchpad (R260, R261). -/
def CplOp.lane (o : CplOp) (s : State) (x : CplLane) : State :=
  let bs := match s.cplErr o.fen x with
    | some _ => []
    | none => x.pas.map fun pa => (o.byte s pa).getD 0
  s.modTeam o.team fun t => t.writeSpad x.off (bs ++ List.replicate (32 - bs.length) 0)

/-- CPL_COMPLETE (R164, R260, R261) -/
def execCplComplete (op : Nat) (s : State) : Host.Outcome State Fault Refusal :=
  match s.cpls.find? fun c => c.id = op with
  | none => .next s
  | some o =>
    if !o.canRead s then .next s
    else
      let bads := o.lanes.filterMap fun x => (s.cplErr o.fen x).map fun e => (x.lane, e.1.code, x.va, e.2)
      let s := match s.teams.find o.team with
        | some _ => o.lanes.foldl o.lane s
        | none => s
      let s := s.unlock o.core o.id
      let s := { s with cpls := s.cpls.filter fun c => c.id ≠ o.id }
      let s := s.modGroup? o.team o.group fun g =>
        { g.flagDown o.flag with copies := g.copies - 1, copyBytes := g.copyBytes + 32 * o.lanes.length }
      let s := s.logLanes bads
      match deferOf (.flag o.flag) 5 bads with
      | some d => .next (s.failLate o.team o.group d)
      | none => .next s

end Sys2Proof.Machine
end

