-- ==== Sys2Proof/Machine/Exit.lean ====
section
/-!
DEFINITION. The end of lanes, groups and teams (R24, R33, R78, R215, R235), recipes (R312) and `fbpt` (R99).
-/
namespace Sys2Proof.Machine

/-- `n` bytes at an address as the part reads them for a fen: a readable page of region 0x0 or 0x1 and a line without a
finding, else `none`. -/
def State.readFen (s : State) (fen va n : Nat) : Option (List Byte) :=
  if !canonical va then none
  else match s.walkXlate fen (va % 2 ^ 57) with
  | .error _ => none
  | .ok x => if x.r && isMemRegion x.pa && (s.lineErr fen (x.pa / 64)).isNone then some (s.readBytes fen x.pa n) else none

/-- Bytes of any alignment as the part reads them for a fen. -/
def State.readRange (s : State) (fen va n : Nat) : Option (List Byte) :=
  ((List.range n).mapM fun i => s.readFen fen ((va + i) % 2 ^ 64) 1).map List.flatten

/-- The machine check that the part's own access for a fen meets at an address, a table line's among them (R37, R385). -/
def State.fenCheck1 (s : State) (fen va : Nat) : Option (Nat × Nat) :=
  if !canonical va then none
  else match s.walkXlate fen (va % 2 ^ 57) with
  | .error (.check code pa) => some (code, pa)
  | .error _ => none
  | .ok x => (s.lineErr fen (x.pa / 64)).bind fun e => if isMc e.code then some (e.code, x.pa) else none

/-- The same for `n` bytes, looked at line by line. -/
def State.fenCheck (s : State) (fen va n : Nat) : Option (Nat × Nat) :=
  (List.range ((va % 64 + n + 63) / 64)).findSome? fun i =>
    s.fenCheck1 fen (if i = 0 then va else (va / 64 + i) * 64 % 2 ^ 64)

/-- A machine check of the part's own access is logged (R37, R385). -/
def State.fenProbe (s : State) (fen va n : Nat) : State :=
  match s.fenCheck fen va n with
  | some (code, pa) => s.logMem code pa false
  | none => s

/-- The machine check that a walk of the part's own meets is logged (R37, R385). -/
def State.walkProbe (s : State) (fen va : Nat) : State :=
  if !canonical va then s
  else match s.walkXlate fen (va % 2 ^ 57) with
  | .error e => s.logFound e.code e.mcpa
  | .ok _ => s

/-- A recipe (R312): keep masks of `v` and `s`, and the entry header. -/
structure Recipe where
  keepV : Nat
  keepS : Nat
  entry : Nat
  deriving DecidableEq, Repr

/-- Where recipe `n` of a team lies (R312). The sum is taken in the 57 bits of RTAB (log entry 132). -/
def Team.recipeAt (t : Team) (n : Nat) : Nat := extend57 (t.rtab.toNat + 32 * n)

/-- Recipe `n` of a team; there is none without a table, where it cannot be read, or where its entry is zero. -/
def State.recipe (s : State) (t : Team) (n : Nat) : Option Recipe :=
  if t.rtab = 0 then none
  else match s.readRange t.fen (t.recipeAt n) 32 with
  | none => none
  | some bs =>
    let x := natLE bs
    let r : Recipe := { keepV := bitsOf x 0 127, keepS := bitsOf x 128 64, entry := bitsOf x 192 57 }
    if r.entry = 0 then none else some r

/-- `fbpt` (R99, R100) -/
def execFbpt (n : BitVec 6) (s : State) : Host.Outcome State Fault Refusal :=
  issue
    { op := 0x012, legal := wellFormed (.fbpt n)
      pre := fun c s => if (s.recipe c.team n.toNat).isSome then .ok ()
        else match (if c.team.rtab = 0 then none else s.fenCheck c.team.fen (c.team.recipeAt n.toNat) 32) with
        | some (code, pa) => .error { cause := code, mcpa := some pa }
        | none => .error { cause := 0x0E } }
    (fun c s =>
      .ok (s.setGroup c.ti c.gi
        (if c.grp.entries.length ≠ 1 ∨ c.ent.frame ≠ noFrame ∨ c.grp.hasDefer then { c.grp with fb := none }
        else { c.grp with fb := some (n, c.mode), fbRec := (n, c.mode) }))) s

/-- A group without the lanes of one of its entries (R78, R215): frames forget them, and their logs are discarded. -/
def Group.exitLanes (g : Group) (ei : Nat) (e : Splinter) : Group :=
  let g := g.dropLanes (g.chain e) e.mask
  let g := { g.freeUp ei with exited := g.exited ||| e.mask }
  let g := (lanesOf e.mask).foldl (fun g l =>
    let x := g.txLane l
    if x.state = .none then g else g.setTx l x.ended) g
  let g := if g.tx.any fun x => x.2.state ≠ .none then g else { g with txBuf := false }
  let g := g.settle
  if g.ended then { g with entries := [], frames := [], gate := none, block := none } else g

/-- A group has ended: its deferred causes go to the grid (R33), gangs that wait for it break (R235), and the team ends
with its last group (R78), its monitors with it (R196). -/
def State.groupEnd (s : State) (ti gi : Nat) : State :=
  let ds := (s.group ti gi).deferred
  let s := ds.foldl (fun s d => s.endGrid ti d.cause 0 true) s
  let s := s.modGroup ti gi fun g => { g with deferred := [] }
  let s := s.breakGangs ti gi
  let t := s.team ti
  if t.status = .resident ∧ t.groups.all (fun g => g.2.ended) then (s.dropParks ti).modTeam ti fun t => { t with status := .ended }
  else s

/-- `exit` (R78) -/
def execExit (s : State) : Host.Outcome State Fault Refusal :=
  issue { op := 0x00D, legal := wellFormed .exit } (fun c s =>
    let s := s.setGroup c.ti c.gi (c.grp.exitLanes c.ei c.ent)
    .moved (if (s.group c.ti c.gi).ended then s.groupEnd c.ti c.gi else s)) s

end Sys2Proof.Machine
end

