-- ==== Sys2Proof/Machine/Image.lean ====
section
/-!
DEFINITION. The context save area as memory (R322, R323): a team's slot as 64-bit words, what system software's edits of
it mean, and the words that a flashback leaves out (R327). A number here is an offset in words of 8 bytes.
-/
namespace Sys2Proof.Machine

/-- Word `i` of a wide number. -/
def wordAt (x i : Nat) : Nat := x / 2 ^ (64 * i) % 2 ^ 64

/-- The number in `n` words from an offset on. -/
def fromWords (f : Nat → Nat) (o n : Nat) : Nat := ((List.range n).map fun i => f (o + i) * 2 ^ (64 * i)).foldl (· + ·) 0

/-! ## Records -/

/-- A splinter entry as a number (R67). -/
def Splinter.nat (e : Splinter) : Nat :=
  e.pc.toNat + b2n e.mid * 2 ^ 57 + e.cseta.toNat * 2 ^ 58 + e.csetb.toNat * 2 ^ 62 + e.cleft.toNat * 2 ^ 66
    + e.frame.toNat * 2 ^ 70 + e.mode.toNat * 2 ^ 75 + e.mask.toNat * 2 ^ 128

/-- A mode register read from an edited record: its reserved bits read as zero (R7, R51). -/
def modeOf (x : Nat) : BitVec 23 := BitVec.ofNat 23 (x % 2 ^ 21)

/-- The entry that a number holds; MASK 0 is a free one (R67). -/
def splinterOf (x : Nat) : Splinter :=
  { pc := BitVec.ofNat 57 x, mid := bitOf x 57, cseta := BitVec.ofNat 4 (x / 2 ^ 58), csetb := BitVec.ofNat 4 (x / 2 ^ 62)
    cleft := BitVec.ofNat 4 (x / 2 ^ 66), frame := BitVec.ofNat 5 (x / 2 ^ 70), mode := modeOf (x / 2 ^ 75)
    mask := BitVec.ofNat 32 (x / 2 ^ 128) }

/-- What an entry holds, free or not (R67). -/
def Group.entryNat (g : Group) (i : Nat) : Nat := ((g.entries.find i).getD (g.idle.get Splinter.blank i)).nat

/-- The code of a frame kind (R68). -/
def FrameKind.code : FrameKind → Nat
  | .recon => 0
  | .loop => 1
  | .defer => 2

/-- A frame as a number (R68). -/
def Frame.nat (f : Frame) : Nat :=
  f.rpc.toNat + f.kind.code * 2 ^ 57 + f.parent.toNat * 2 ^ 59 + f.mask.toNat * 2 ^ 64 + f.arrived.toNat * 2 ^ 96
    + f.broke.toNat * 2 ^ 128 + f.amode.toNat * 2 ^ 160 + f.len.toNat * 2 ^ 183 + f.lc.toNat * 2 ^ 192
    + f.bmode.toNat * 2 ^ 194 + b2n f.dmid * 2 ^ 217 + f.dseta.toNat * 2 ^ 218 + f.dsetb.toNat * 2 ^ 222
    + f.dleft.toNat * 2 ^ 226

/-- The frame that a number holds; MASK 0 is a free slot (R68). DESIGN CHOICE (log entry 115): KIND 11, which the part never
writes, is read as RECON. -/
def frameOf (x : Nat) : Frame :=
  { rpc := BitVec.ofNat 57 x
    kind := if bitsOf x 57 2 = 1 then .loop else if bitsOf x 57 2 = 2 then .defer else .recon
    parent := BitVec.ofNat 5 (x / 2 ^ 59), mask := BitVec.ofNat 32 (x / 2 ^ 64), arrived := BitVec.ofNat 32 (x / 2 ^ 96)
    broke := BitVec.ofNat 32 (x / 2 ^ 128), amode := modeOf (x / 2 ^ 160), len := BitVec.ofNat 9 (x / 2 ^ 183)
    lc := BitVec.ofNat 2 (x / 2 ^ 192), bmode := modeOf (x / 2 ^ 194), dmid := bitOf x 217
    dseta := BitVec.ofNat 4 (x / 2 ^ 218), dsetb := BitVec.ofNat 4 (x / 2 ^ 222), dleft := BitVec.ofNat 4 (x / 2 ^ 226) }

/-- What a frame slot holds, free or not (R68). -/
def Group.frameNat (g : Group) (i : Nat) : Nat := ((g.frames.find i).getD (g.freed.get Frame.blank i)).nat

/-- A flashback record as a number (R101). -/
def Group.fbNat (g : Group) : Nat := g.fbRec.1.toNat + b2n g.fb.isSome * 2 ^ 6 + g.fbRec.2.toNat * 2 ^ 7

/-- A transaction summary as a number (R198). -/
def TxLane.nat (x : TxLane) : Nat :=
  (if x.state = .none then 0 else if x.state = .opened then 1 else 2) + x.cause * 2 ^ 8 + x.detail * 2 ^ 16
    + x.conf * 2 ^ 24 + b2n x.esc * 2 ^ 28 + x.reads.length * 2 ^ 32 + x.writes.length * 2 ^ 36 + x.stc * 2 ^ 64
    + x.stcore * 2 ^ 112

/-- A latch's control word (R231). -/
def Latch.nat (k : Latch) : Nat :=
  b2n k.valid + k.a.toNat * 2 + k.op.toNat * 2 ^ 8 + k.ty.toNat * 2 ^ 17 + b2n k.pat * 2 ^ 22

/-- A barrier as a number (R263). -/
def Barrier.nat (b : Barrier) : Nat :=
  b.members + b.arr * 2 ^ 10 + b.phase * 2 ^ 20 + b.xexp % 2 ^ 32 * 2 ^ 64 + b.xarr % 2 ^ 32 * 2 ^ 96

/-- The barrier that a number holds (R263). -/
def barrierOf (x : Nat) : Barrier :=
  { members := bitsOf x 0 10, arr := bitsOf x 10 10, phase := bitsOf x 20 16, xexp := bitsOf x 64 32, xarr := bitsOf x 96 32 }

/-- A stream as a number (R268). -/
def Stream.nat (q : Stream) : Nat :=
  q.base + q.nsm1 * 2 ^ 24 + q.ssz * 2 ^ 32 + q.freei * 2 ^ 64 + q.np * 2 ^ 70 + q.nc * 2 ^ 77 + b2n q.v * 2 ^ 84
    + q.filled * 2 ^ 128 + q.hand * 2 ^ 192 + q.stall % 2 ^ 64 * 2 ^ 256

/-- The stream that a number holds (R268); STALL is not written by software. -/
def streamOf (q : Stream) (x : Nat) : Stream :=
  { q with
    base := bitsOf x 0 19, nsm1 := bitsOf x 24 6, ssz := bitsOf x 32 12, freei := bitsOf x 64 6, np := bitsOf x 70 7
    nc := bitsOf x 77 7, v := bitOf x 84, filled := bitsOf x 128 64, hand := bitsOf x 192 64 }

/-- The control word of a Sedge record (R243). -/
def SedgeOp.nat (o : SedgeOp) : Nat :=
  (match o.kind with
    | .mma => 1
    | .mmas => 2
    | .mmaw => 3
    | .accz => 4) + o.tile * 2 ^ 4 + o.group * 2 ^ 10 + o.pos * 2 ^ 15 + o.count * 2 ^ 18 + b2n o.done * 2 ^ 21
    + b2n o.pat * 2 ^ 22 + b2n o.z * 2 ^ 23 + o.ty * 2 ^ 24 + o.cty * 2 ^ 29 + o.boff * 2 ^ 34 + o.scfg.toNat * 2 ^ 64

/-- A Sedge operation as a record's words say (R243). -/
def SedgeOp.fromRecord (o : SedgeOp) (x : Nat) (frag : SMap (BitVec 32)) : SedgeOp :=
  let op := bitsOf x 0 4
  { o with
    kind := if op = 1 then .mma else if op = 2 then .mmas else if op = 3 then .mmaw else if op = 4 then .accz else o.kind
    tile := bitsOf x 4 6, group := bitsOf x 10 5, pos := bitsOf x 15 3, count := bitsOf x 18 3, done := bitOf x 21
    pat := bitOf x 22, z := bitOf x 23, ty := bitsOf x 24 5, cty := bitsOf x 29 5, boff := bitsOf x 34 19
    scfg := BitVec.ofNat 21 (x / 2 ^ 64), frag := frag }

/-- A deferred cause of a group as words; their layout is the model's (log entry 65). -/
def Deferred.words (gi : Nat) (d : Deferred) : List Nat :=
  let at_ := match d.at_ with
    | .flag n => n
    | .store => 15
  [d.cause + d.kind * 2 ^ 8 + at_ * 2 ^ 16 + gi * 2 ^ 24 + d.lanes.toNat * 2 ^ 32, d.addr, d.pa]

/-- An interval as a word. -/
def intervalNat : Option Interval → Nat
  | none => 0
  | some v => v.lo % 2 ^ 57 + b2n v.spad * 2 ^ 62 + 2 ^ 63

/-- A range-lock entry as words; their layout is the model's (log entry 65). -/
def RangeLock.words (e : RangeLock) : List Nat :=
  [intervalNat e.src, (e.src.map (·.len)).getD 0, intervalNat e.dst, (e.dst.map (·.len)).getD 0]

/-- An open rendezvous as words; their layout is the model's (log entry 65). -/
def Rendezvous.words (r : Rendezvous) : List Nat :=
  (r.seq % 256 + (r.groups.map fun g => 2 ^ g).foldl (· + ·) 0 * 2 ^ 32) :: r.arrivals.map fun a =>
    a.group + a.entry * 2 ^ 5 + a.op % 2 ^ 9 * 2 ^ 8 + a.tile % 2 ^ 6 * 2 ^ 17 + b2n a.active * 2 ^ 23 + a.flag % 16 * 2 ^ 24
      + a.boff % 2 ^ 19 * 2 ^ 32

/-! ## A group record -/

/-- Two lanes of a register in one word, lane 0 first. -/
def lanePair (r : Nat → W32) (i : Nat) : Nat := (r (2 * i)).toNat + (r (2 * i + 1)).toNat * 2 ^ 32

/-- A word of a group's fixed part (R323). -/
def Group.fixedWord (t : Team) (gi : Nat) (g : Group) (k : Nat) : Nat :=
  if k < 24 then wordAt (g.entryNat (k / 3)) (k % 3)
  else if k < 88 then wordAt (g.frameNat ((k - 24) / 4)) ((k - 24) % 4)
  else if k < 152 then (g.s.get 0 (k - 88)).toNat
  else if k < 156 then (g.pmask (2 * (k - 152))).toNat + (g.pmask (2 * (k - 152) + 1)).toNat * 2 ^ 32
  else if k < 158 then wordAt (((List.range 12).map fun i => g.flag i * 2 ^ (6 * i)).foldl (· + ·) 0) (k - 156)
  else if k < 160 then wordAt (((List.range 3).map fun i => (g.readLC i).toNat * 2 ^ (32 * i)).foldl (· + ·) 0) (k - 158)
  else if k = 160 then g.hbc.toNat
  else if k = 161 then g.scfg.toNat
  else if k = 162 then g.gang.toNat
  else if k = 163 then g.fbNat
  else if k = 164 then g.lastsc.c + g.lastsc.core * 2 ^ 48
  else if k = 165 then g.fp.toNat
  else if k = 167 then g.mstat0 % 2 ^ 64
  else if k = 168 then g.mstat1 % 2 ^ 64
  else if k = 169 then (t.sedge.filter fun o => o.group = gi).length
  else if within 170 173 k then wordAt (((List.range 16).map fun i => (g.lph.get 0 i).toNat * 2 ^ (16 * i)).foldl (· + ·) 0) (k - 170)
  else if within 174 177 k then
    wordAt (((List.range 16).map fun i => (g.codebook.get 0 i).toNat * 2 ^ (16 * i)).foldl (· + ·) 0) (k - 174)
  else if k = 178 then g.latch.nat
  else if within 192 255 k then wordAt (g.txLane ((k - 192) / 2)).nat (k % 2)
  else if within 256 319 k then wordAt (g.rng.get 0 ((k - 256) / 2)).toNat (k % 2)
  else if within 320 495 k then lanePair (fun l => g.latch.data.get 0 (vkey l ((k - 320) / 16))) ((k - 320) % 16)
  else 0

/-- A word of a register's 128 bytes. -/
def Group.vWord (g : Group) (r i : Nat) : Nat := if r = 127 then 0 else lanePair (fun l => g.v.get 0 (vkey l r)) i

/-- The fixed words that a flashback leaves out: entries, frames, flags, predicates, and `s` that are not kept (R327). -/
def flashOmits (keepS k : Nat) : Bool :=
  k < 88 || (within 88 151 k && !bitOf keepS (k - 88)) || within 152 157 k

/-- The kept `v` registers, ascending (R327). -/
def keptList (keepV : Nat) : List Nat := (List.range 127).filter fun r => bitOf keepV r

/-- The budget of a group's role. -/
def roleBudget (t : Team) (gi : Nat) : Nat := if gi < t.np then t.bp else t.bc

/-- The registers in a group's record, in order (R322, R327). DESIGN CHOICE (log entry 150): a keep mask that names registers at or above
the role's budget has them all saved, one after another. -/
def Team.savedRegs (t : Team) (gi : Nat) : List Nat :=
  match t.flashed.find gi with
  | some (kv, _, _) => keptList kv
  | none => List.range (roleBudget t gi)

/-- The fixed words in a group's record. -/
def Team.savedFixed (t : Team) (gi : Nat) : List Nat :=
  match t.flashed.find gi with
  | some (_, ks, _) => (List.range 512).filter fun k => !flashOmits ks k
  | none => List.range 512

/-- Where a group's record begins (R322). -/
def Team.recordAt (t : Team) (gi : Nat) : Nat :=
  512 + ((List.range gi).map fun j => 512 + 16 * roleBudget t j).foldl (· + ·) 0

/-- Where tiles, the scratchpad and Sedge records begin (R322). -/
def Team.tilesAt (t : Team) : Nat := t.recordAt (t.np + t.nc)
def Team.spadAt (t : Team) : Nat := t.tilesAt + 512 * t.nacc
def Team.sedgeAt (t : Team) : Nat := t.spadAt + 2048 * t.nspad

/-- Size of a slot in units of 64 KiB (R322). -/
def Team.slotUnits (t : Team) : Nat := ((t.sedgeAt + if 0 < t.nacc then 192 * 192 else 0) + 8191) / 8192

/-- A group's record. -/
def Team.groupWords (t : Team) (gi : Nat) : List (Nat × Nat) :=
  let g := t.group gi
  let o := t.recordAt gi
  (t.savedFixed gi).map (fun k => (o + k, g.fixedWord t gi k))
    ++ (t.savedRegs gi).zipIdx.flatMap fun r => (List.range 16).map fun i => (o + 512 + 16 * r.2 + i, g.vWord r.1 i)

/-! ## The slot -/

/-- STATE of the header: 0 resident, 1 pre-empted, 2 blocked, 3 faulted (R322). -/
def Team.slotState (t : Team) : Nat :=
  if t.status = .resident then 0
  else match t.cause with
    | .fault => 3
    | .blocked => 2
    | _ => 1

/-- The header (R322); the places of its fields are the model's. -/
def Team.header (t : Team) : List (Nat × Nat) :=
  [(0, t.pid), (1, t.queue), (2, t.seq), (3, t.linear), (4, t.fen), (5, t.slotState), (6, (t.fqidx.getD 0) % 2 ^ 64)
  , (7, (t.flashed.map fun x => 2 ^ x.1).foldl (· + ·) 0)]

/-- A Sedge record: its control word, and its fragment and metadata from byte 128 on (R322). -/
def Team.sedgeWords (t : Team) (o : SedgeOp) (k : Nat) : List (Nat × Nat) :=
  let at_ := t.sedgeAt + 192 * k
  (List.range 2).map (fun i => (at_ + i, wordAt o.nat i))
    ++ (List.range 176).map fun i => (at_ + 16 + i, lanePair (fun l => o.frag.get 0 (vkey l (i / 16))) (i % 16))

/-- The rendezvous latch, range-lock images and pending deferred causes (R322), 384 words. -/
def Team.pendWords (t : Team) : List Nat :=
  (t.rdvs.flatMap Rendezvous.words ++ t.locks.flatMap RangeLock.words
    ++ t.groups.flatMap fun g => g.2.deferred.flatMap (Deferred.words g.1)).take 384

/-- Everything that a slot holds beyond its header. -/
def Team.body (t : Team) : List (Nat × Nat) :=
  (List.range 32).map (fun k => (32 + k, wordAt (t.bar (k / 2)).nat (k % 2)))
    ++ (List.range 64).map (fun k => (64 + k, wordAt (t.stream (k / 8)).nat (k % 8)))
    ++ (let xs := t.pendWords
        (List.range 384).map fun k => (128 + k, xs.getD k 0 % 2 ^ 64))
    ++ (List.range (t.np + t.nc)).flatMap t.groupWords
    ++ (List.range (512 * t.nacc)).map (fun k =>
      (t.tilesAt + k, lanePair (fun i => t.acc.get 0 (1024 * (k / 512) + i)) (k % 512)))
    ++ (List.range (2048 * t.nspad)).map (fun k => (t.spadAt + k, natLE (t.readSpad (8 * k) 8)))
    ++ (if 0 < t.nacc then (t.sedge.take 192).zipIdx.flatMap fun o => t.sedgeWords o.1 o.2 else [])

/-! ## Edits -/

/-- A table of the entries that are there. -/
def tableOf {α : Type} (n : Nat) (f : Nat → Option α) : SMap α :=
  (List.range n).filterMap fun i => (f i).map fun x => (i, x)

/-- A table without what an unlisted key reads as. -/
def sparseOf {α : Type} [DecidableEq α] (d : α) (ks : List Nat) (f : Nat → α) : SMap α :=
  ks.foldl (fun m k => SMap.put d m k (f k)) []

/-- Half `l` of a lane pair. -/
def laneHalf (f : Nat → Nat) (o l : Nat) : W32 := BitVec.ofNat 32 (f (o + l / 2) / 2 ^ (32 * (l % 2)))

/-- The bits of GANG that an edit of the record changes: not SEQ and the reserved ones (R7, R233). -/
def gangEdit : BitVec 64 := 0x001F1F1F1F1F1FFF

/-- A group as its record's words say (R323, R67, R68); fields that are RO keep what they hold. -/
def Group.fromRecord (g : Group) (f : Nat → Nat) (flash : Option (Nat × Nat × Nat)) (regs : List Nat) : Group :=
  let keepS := flash.elim (2 ^ 64 - 1) (·.2.1)
  let g := match flash with
    | some _ => g
    | none => { g with
        entries := tableOf 8 fun i => let e := splinterOf (fromWords f (3 * i) 3); if e.mask = 0 then none else some e
        idle := tableOf 8 fun i => let e := splinterOf (fromWords f (3 * i) 3); if e.mask = 0 then some e else none
        frames := tableOf 16 fun i => let e := frameOf (fromWords f (24 + 4 * i) 4); if e.mask = 0 then none else some e
        freed := tableOf 16 fun i => let e := frameOf (fromWords f (24 + 4 * i) 4); if e.mask = 0 then some e else none
        p := sparseOf 0 (List.range 7) fun i => laneHalf f 152 i
        cf := sparseOf 0 (List.range 12) fun i => bitsOf (fromWords f 156 2) (6 * i) 6 }
  let fb := f 163
  let s' := (List.range 63).foldl (fun m i => if bitOf keepS i then SMap.put 0 m i (BitVec.ofNat 64 (f (88 + i))) else m) g.s
  let v' := regs.zipIdx.foldl (fun m r =>
    if r.1 = 127 then m
    else lanes32.foldl (fun m l => SMap.put 0 m (vkey l r.1) (laneHalf f (512 + 16 * r.2) l)) m) g.v
  let data := sparseOf 0 ((List.range 32).flatMap fun l => (List.range 11).map (vkey l)) fun k =>
    laneHalf f (320 + 16 * (k % 128)) (k / 128)
  let lc := f 178
  { g with
    s := s', v := v'
    lc := sparseOf 0 (List.range 3) fun i => BitVec.ofNat 32 (fromWords f 158 2 / 2 ^ (32 * i))
    hbc := BitVec.ofNat 34 (f 160), scfg := BitVec.ofNat 21 (f 161)
    gang := (g.gang &&& ~~~gangEdit) ||| (BitVec.ofNat 64 (f 162) &&& gangEdit)
    fbRec := (BitVec.ofNat 6 fb, modeOf (fb / 2 ^ 7))
    fb := if bitOf fb 6 then some (BitVec.ofNat 6 fb, modeOf (fb / 2 ^ 7)) else none
    lastsc := { c := bitsOf (f 164) 0 48, core := bitsOf (f 164) 48 8 }, fp := BitVec.ofNat 6 (f 165)
    mstat0 := f 167, mstat1 := f 168
    lph := sparseOf 0 (List.range 16) fun i => BitVec.ofNat 16 (fromWords f 170 4 / 2 ^ (16 * i))
    codebook := sparseOf 0 (List.range 16) fun i => BitVec.ofNat 16 (fromWords f 174 4 / 2 ^ (16 * i))
    latch := {
      valid := bitOf lc 0, a := BitVec.ofNat 7 (lc / 2), op := BitVec.ofNat 9 (lc / 2 ^ 8), ty := BitVec.ofNat 5 (lc / 2 ^ 17)
      pat := bitOf lc 22, data := data }
    rng := sparseOf 0 lanes32 fun l => BitVec.ofNat 128 (fromWords f (256 + 2 * l) 2) }

/-- A team as its slot's words say (R322). -/
def Team.fromSlot (t : Team) (f : Nat → Nat) : Team :=
  { t with
    bars := sparseOf Barrier.zero (List.range 16) fun n => (barrierOf (fromWords f (32 + 2 * n) 2)).settle
    streams := sparseOf Stream.zero (List.range 8) fun n => streamOf (t.stream n) (fromWords f (64 + 8 * n) 4)
    groups := (List.range (t.np + t.nc)).map fun gi =>
      (gi, (t.group gi).fromRecord (fun k => f (t.recordAt gi + k)) (t.flashed.find gi) (t.savedRegs gi))
    sedge := t.sedge.zipIdx.map fun o =>
      let at_ := t.sedgeAt + 192 * o.2
      if 192 ≤ o.2 then o.1
      else o.1.fromRecord (fromWords f at_ 2) (sparseOf 0 ((List.range 32).flatMap fun l => (List.range 11).map (vkey l)) fun k =>
        laneHalf f (at_ + 16 + 16 * (k % 128)) (k / 128))
    acc := sparseOf 0 (List.range (1024 * t.nacc)) fun k => laneHalf f t.tilesAt k
    spad := sparseOf 0 (List.range (16384 * t.nspad)) fun o => BitVec.ofNat 8 (f (t.spadAt + o / 8) / 2 ^ (8 * (o % 8))) }

/-! ## Slots in memory -/

/-- A word of a slot written: the header as memory of fen 0x00, the rest so for an open fen only (R322). -/
def State.writeSlot (t : Team) (at_ : Nat) (s : State) (w : Nat × Nat) : State :=
  let fen := if w.1 < 32 ∨ !s.sealedFen t.fen then 0 else t.fen
  s.ownWrite fen (at_ + 8 * w.1) (bytesLE 8 w.2)

/-- The header written (R322). -/
def State.writeHeader (s : State) (ti : Nat) : State :=
  let t := s.team ti
  match s.slotPa t with
  | some a => t.header.foldl (State.writeSlot t a) s
  | none => s

/-- A team's slot written whole (R326 step 6). -/
def State.saveImage (s : State) (ti : Nat) : State :=
  let t := s.team ti
  match s.slotPa t with
  | some a => (t.body.foldl (State.writeSlot t a) (s.writeHeader ti)).modTeam ti fun t => { t with image := t.body }
  | none => s

/-- A swapped-out team and its slot made to agree: system software's edits of an open fen's slot go into the team, then
what completed into the team goes into the slot (R274, R322, R328). A line that fen 0x00 cannot read holds no edit (R356, log entry
109). -/
def State.syncImage (s : State) (ti : Nat) : State :=
  let t := s.team ti
  match s.slotPa t with
  | none => s
  | some a =>
    let old : SMap Nat := t.image
    let now (o : Nat) : Option Nat :=
      if s.sealedFen t.fen ∨ (s.rangeErr 0 (a + 8 * o) 8).isSome then old.find o else some (s.readNat 0 (a + 8 * o) 8)
    let edits := t.image.filterMap fun w => (now w.1).bind fun x => if x = w.2 then none else some (w.1, x)
    let cur : SMap Nat := t.body
    let edited : SMap Nat := edits
    let t' := if edits = [] then t else t.fromSlot fun o => ((edited.find o).orElse fun _ => cur.find o).getD 0
    let body := t'.body
    let seen (w : Nat × Nat) : Bool := now w.1 = some w.2
    let s := s.setTeam ti { t' with image := body }
    (body.filter fun w => !seen w).foldl (State.writeSlot t' a) s

end Sys2Proof.Machine
end

