-- ==== Sys2Proof/Machine/Special.lean ====
section
/-!
DEFINITION. The special functions of R136: the special inputs, and elsewhere a binary32 significand within the bound of
the exact result, the part's own choice within that bound being free (Config.special; log entry 11). The exact result
is enclosed by fixed-point arithmetic of 640 bits, far finer than any bound of R136.
-/
namespace Sys2Proof.Machine.Special

/-- Bits below the point of the fixed-point numbers. -/
def P : Nat := 640

/-- One. -/
def one : Int := (2 ^ P : Nat)

/-- Product and quotient of fixed-point numbers. -/
def fmul (a b : Int) : Int := a * b / one
def fdiv (a b : Int) : Int := if b = 0 then 0 else a * one / b

/-- atanh of a small fixed-point number, by its series. -/
def atanh (z : Int) : Int :=
  let z2 := fmul z z
  ((List.range 220).foldl (fun (acc, t) k => (acc + t / ((2 * k + 1 : Nat) : Int), fmul t z2)) ((0 : Int), z)).1

/-- arctangent of 1/n, by its series. -/
def atanInv (n : Int) : Int :=
  ((List.range 300).foldl (fun (acc, t, s) k =>
    (acc + s * (t / ((2 * k + 1 : Nat) : Int)), t / (n * n), -s)) ((0 : Int), one / n, (1 : Int))).1

/-- ln 2 and π. -/
def ln2 : Int := 2 * atanh (one / 3)
def pi : Int := 16 * atanInv 5 - 4 * atanInv 239

/-- exp of a fixed-point number between 0 and 1, by its series. -/
def expSmall (z : Int) : Int :=
  ((List.range 160).foldl (fun (acc, t) (k : Nat) => (acc + t, fmul t z / ((k + 1 : Nat) : Int))) ((0 : Int), one)).1

/-- A fraction as a fixed-point number. -/
def fixed (x : Int) (d : Nat) : Int := x * one / (d : Int)

/-- 2^z of a fixed-point number, as a positive fraction; arguments beyond ±4096 act as ±4096. -/
def exp2 (z : Int) : Nat × Nat :=
  let z := max (-4096 * one) (min (4096 * one) z)
  let i := z / one
  let m := (expSmall (fmul (z - i * one) ln2)).toNat
  if 0 ≤ i then (m * 2 ^ i.toNat, 2 ^ P) else (m, 2 ^ P * 2 ^ (-i).toNat)

/-- log2 of a positive fraction. -/
def log2 (n d : Nat) : Int :=
  let e := floorLog2 n d
  let (a, b) := if 0 ≤ e then (n, d * 2 ^ e.toNat) else (n * 2 ^ (-e).toNat, d)
  e * one + fdiv (2 * atanh (fixed ((a : Int) - b) (a + b))) ln2

/-- sin of a fixed-point number between 0 and 2π, by its series; a phase of π/2 gives cos. -/
def sinSmall (z : Int) : Int :=
  let z2 := fmul z z
  ((List.range 130).foldl (fun (acc, t) k =>
    (acc + t, -(fmul t z2) / (((2 * k + 2) * (2 * k + 3) : Nat) : Int))) ((0 : Int), z)).1

/-- sin of a fraction plus a phase. -/
def sin (x : Int) (d : Nat) (phase : Int) : Int :=
  let y := fixed x d + phase
  sinSmall (y - y / (2 * pi) * (2 * pi))

/-- e^z, with e^z = 2^(z / ln 2). -/
def exp (z : Int) : Nat × Nat := exp2 (fdiv z ln2)

/-- A signed fixed-point number as a sign and a fraction. -/
def ofFixed (z : Int) : Bool × Nat × Nat := (z < 0, z.natAbs, 2 ^ P)

/-- The exact result for a finite argument, as a sign and a fraction, but for special inputs. -/
def exact (op : Nat) (s : Bool) (n d : Nat) : Bool × Nat × Nat :=
  let x : Int := if s then -(n : Int) else n
  match op with
  | 0x069 => (s, d, n)
  | 0x06A => (false, isqrt (d * 4 ^ P / n), 2 ^ P)
  | 0x06C => let (a, b) := exp2 (fixed x d); (false, a, b)
  | 0x06D => ofFixed (log2 n d)
  | 0x06E => ofFixed (sin x d 0)
  | 0x06F => ofFixed (sin x d (pi / 2))
  | 0x070 =>
    let (a, b) := exp (2 * fixed (min (1000 * (d : Int)) (max (-1000 * (d : Int)) x)) d)
    (s, (if a < b then b - a else a - b), a + b)
  | _ =>
    let (a, b) := exp (-fixed x d)
    (false, b, a + b)

/-- Is the bound of R136 absolute, and the exponent of its size? An ulp bound is relative to the result. DESIGN CHOICE (log entry
105): outside binary32's normal range the result keeps 24 bits and an unbounded exponent, and the ulp is that exponent's, until
Encode. -/
def bound (op : Nat) (n d rn rd : Nat) : Int :=
  let ulp := floorLog2 rn rd - 23
  match op with
  | 0x069 | 0x06A => ulp
  | 0x06D => if d ≤ 2 * n ∧ n ≤ 2 * d then -22 else ulp + 1
  | 0x06E | 0x06F => if n ≤ 2 ^ 16 * d then -22 else -20
  | _ => ulp + 1

/-- The binary32 significand chosen: `r` moved by θ/2^64 of the bound and rounded back towards `r`. -/
def choose (neg : Bool) (n d : Nat) (b : Int) (theta : Int) : Val :=
  let one' : Nat := 2 ^ 64
  let (bn, bd) : Nat × Nat := if 0 ≤ b then (2 ^ b.toNat, 1) else (1, 2 ^ (-b).toNat)
  let num : Int := (n * bd * one' : Nat) + theta * (bn * d : Nat)
  let den := d * bd * one'
  if num = 0 then .fin neg 0 1
  else
    let flip := num < 0
    let m := num.natAbs
    let e := floorLog2 m den - 23
    let up := !flip && theta < 0
    let (q, _) := roundTo (if up then rmRUP else rmRTZ) false m den e
    dyadic (neg != flip) q e

/-- The result and flags for a special or a finite input (R136). -/
def result (op mode pattern : Nat) (x : Val) : Val × Flags :=
  match x with
  | .nan b => (.qnan, flagIf b fNV)
  | .inf s =>
    match op with
    | 0x069 => (.fin s 0 1, 0)
    | 0x06A => if s then (.qnan, fNV) else (.fin false 0 1, 0)
    | 0x06C => (if s then .fin false 0 1 else .inf false, 0)
    | 0x06D => if s then (.qnan, fNV) else (.inf false, 0)
    | 0x06E | 0x06F => (.qnan, fNV)
    | 0x070 => (.fin s 1 1, 0)
    | _ => (if s then .fin false 0 1 else .fin false 1 1, 0)
  | .fin s n d =>
    if n = 0 then
      match op with
      | 0x069 | 0x06A => (.inf s, fDZ)
      | 0x06C | 0x06F => (.fin false 1 1, 0)
      | 0x06D => (.inf true, fDZ)
      | 0x06E | 0x070 => (.fin s 0 1, 0)
      | _ => (.fin false 1 2, 0)
    else if s ∧ (op = 0x06A ∨ op = 0x06D) then (.qnan, fNV)
    else
      let (neg, rn, rd) := exact op s n d
      let theta : Int := ((Config.special op mode pattern % (2 ^ 65 + 1) : Nat) : Int) - 2 ^ 64
      if rn = 0 then (choose neg 0 1 (bound op n d 1 (2 ^ 23)) theta, 0)
      else (choose neg rn rd (bound op n d rn rd) theta, 0)

end Sys2Proof.Machine.Special
end

