-- ==== Sys2Proof/Machine/Uniform.lean ====
section
/-!
DEFINITION. The uniform ALU (R89 to R91), predicates (R93, R94), `setm` (R53) and the special registers (R95, R96).
-/
namespace Sys2Proof.Machine

/-- A word that names uniform registers only. -/
def uniW (op : Nat) (i : Instr) (ss : List Nat) : Word := { op := op, legal := wellFormed i, ss := ss }

/-- A uniform word of two operands (R89). -/
def uni2 (op : Nat) (i : Instr) (b : Src) (d a : BitVec 6) (f : W64 → W64 → W64) : State → Host.Outcome State Fault Refusal :=
  issueG (uniW op i (d.toNat :: a.toNat :: b.ss)) fun c =>
    .ok (c.grp.writeS d.toNat (f (c.grp.readS a.toNat) (c.uniB b)))

/-- A shift count, B[5:0] (R89). -/
def shCount (b : W64) : Nat := (b.setWidth 6).toNat

/-- Bits [127:64] of a signed product (R89). -/
def smulHigh (a b : W64) : W64 := BitVec.ofInt 64 (a.toInt * b.toInt / 2 ^ 64)

/-- Leading zeros of `w` bits (R89, R129). -/
def clz (w x : Nat) : Nat := ((List.range w).find? fun i => bitOf x (w - 1 - i)).getD w

/-- One bits of `w` bits (R89, R129). -/
def pop (w x : Nat) : Nat := ((List.range w).filter fun i => bitOf x i).length


/-- A 16-bit field of a uniform register replaced (R91). -/
def putHalf (x : W64) (lo : Nat) (i : BitVec 16) : W64 := (x &&& ~~~(0xFFFF#64 <<< lo)) ||| (i.setWidth 64 <<< lo)


/-- `sadd` (R89) -/
def execSadd (b : Src) (d a : BitVec 6) (s : State) : Host.Outcome State Fault Refusal :=
  uni2 0x020 (.sadd b d a) b d a (fun a b => a + b) s

/-- `ssub` (R89) -/
def execSsub (b : Src) (d a : BitVec 6) (s : State) : Host.Outcome State Fault Refusal :=
  uni2 0x021 (.ssub b d a) b d a (fun a b => a - b) s

/-- `smul` (R89) -/
def execSmul (b : Src) (d a : BitVec 6) (s : State) : Host.Outcome State Fault Refusal :=
  uni2 0x022 (.smul b d a) b d a (fun a b => a * b) s

/-- `smulh` (R89) -/
def execSmulh (b : Src) (d a : BitVec 6) (s : State) : Host.Outcome State Fault Refusal :=
  uni2 0x023 (.smulh b d a) b d a (smulHigh) s

/-- `sand` (R89) -/
def execSand (b : Src) (d a : BitVec 6) (s : State) : Host.Outcome State Fault Refusal :=
  uni2 0x024 (.sand b d a) b d a (fun a b => a &&& b) s

/-- `sor` (R89) -/
def execSor (b : Src) (d a : BitVec 6) (s : State) : Host.Outcome State Fault Refusal :=
  uni2 0x025 (.sor b d a) b d a (fun a b => a ||| b) s

/-- `sxor` (R89) -/
def execSxor (b : Src) (d a : BitVec 6) (s : State) : Host.Outcome State Fault Refusal :=
  uni2 0x026 (.sxor b d a) b d a (fun a b => a ^^^ b) s

/-- `sshl` (R89) -/
def execSshl (b : Src) (d a : BitVec 6) (s : State) : Host.Outcome State Fault Refusal :=
  uni2 0x027 (.sshl b d a) b d a (fun a b => a <<< shCount b) s

/-- `sshr` (R89) -/
def execSshr (b : Src) (d a : BitVec 6) (s : State) : Host.Outcome State Fault Refusal :=
  uni2 0x028 (.sshr b d a) b d a (fun a b => a >>> shCount b) s

/-- `ssra` (R89) -/
def execSsra (b : Src) (d a : BitVec 6) (s : State) : Host.Outcome State Fault Refusal :=
  uni2 0x029 (.ssra b d a) b d a (fun a b => a.sshiftRight (shCount b)) s

/-- `smin` (R89) -/
def execSmin (b : Src) (d a : BitVec 6) (s : State) : Host.Outcome State Fault Refusal :=
  uni2 0x02A (.smin b d a) b d a (fun a b => if a.sle b then a else b) s

/-- `smax` (R89) -/
def execSmax (b : Src) (d a : BitVec 6) (s : State) : Host.Outcome State Fault Refusal :=
  uni2 0x02B (.smax b d a) b d a (fun a b => if b.sle a then a else b) s

/-- `scmp` (R90): every lane of the splinter, the guard ignored -/
def execScmp (b : Src) (cc : Cc) (pd : BitVec 3) (a : BitVec 6) (s : State) : Host.Outcome State Fault Refusal :=
  issueG (uniW 0x02C (.scmp b cc pd a) (a.toNat :: b.ss)) (fun c =>
    let r := compareUni cc (c.grp.readS a.toNat) (c.uniB b)
    .ok (c.grp.writePs pd.toNat c.mask (if r then BitVec.allOnes 32 else 0))) s

/-- `ssel` (R89) -/
def execSsel (b : Src) (d a : BitVec 6) (s : State) : Host.Outcome State Fault Refusal :=
  issueG (uniW 0x02D (.ssel b d a) (d.toNat :: a.toNat :: b.ss)) (fun c =>
    .ok (c.grp.writeS d.toNat (if c.grp.readS d.toNat ≠ 0 then c.grp.readS a.toNat else c.uniB b))) s

/-- `smov` (R89) -/
def execSmov (b : Src) (d : BitVec 6) (s : State) : Host.Outcome State Fault Refusal :=
  issueG (uniW 0x02E (.smov b d) (d.toNat :: b.ss)) (fun c => .ok (c.grp.writeS d.toNat (c.uniB b))) s

/-- `smovi` (R91) -/
def execSmovi (d : BitVec 6) (i : BitVec 16) (s : State) : Host.Outcome State Fault Refusal :=
  issueG (uniW 0x02F (.smovi d i) [d.toNat]) (fun c => .ok (c.grp.writeS d.toNat (i.signExtend 64))) s

/-- `smovh` (R91) -/
def execSmovh (d : BitVec 6) (i : BitVec 16) (s : State) : Host.Outcome State Fault Refusal :=
  issueG (uniW 0x030 (.smovh d i) [d.toNat]) (fun c =>
    .ok (c.grp.writeS d.toNat (putHalf (c.grp.readS d.toNat) 16 i))) s

/-- `smovx` (R91) -/
def execSmovx (d : BitVec 6) (i : BitVec 16) (s : State) : Host.Outcome State Fault Refusal :=
  issueG (uniW 0x031 (.smovx d i) [d.toNat]) (fun c =>
    .ok (c.grp.writeS d.toNat (putHalf (c.grp.readS d.toNat) 32 i))) s

/-- `smovy` (R91) -/
def execSmovy (d : BitVec 6) (i : BitVec 16) (s : State) : Host.Outcome State Fault Refusal :=
  issueG (uniW 0x032 (.smovy d i) [d.toNat]) (fun c =>
    .ok (c.grp.writeS d.toNat (putHalf (c.grp.readS d.toNat) 48 i))) s

/-- `sclz` (R89) -/
def execSclz (d a : BitVec 6) (s : State) : Host.Outcome State Fault Refusal :=
  issueG (uniW 0x033 (.sclz d a) [d.toNat, a.toNat]) (fun c =>
    .ok (c.grp.writeS d.toNat (BitVec.ofNat 64 (clz 64 (c.grp.readS a.toNat).toNat)))) s

/-- `spop` (R89) -/
def execSpop (d a : BitVec 6) (s : State) : Host.Outcome State Fault Refusal :=
  issueG (uniW 0x034 (.spop d a) [d.toNat, a.toNat]) (fun c =>
    .ok (c.grp.writeS d.toNat (BitVec.ofNat 64 (pop 64 (c.grp.readS a.toNat).toNat)))) s

/-- A predicate word of class L (R93): the result for all lanes, of which Active() is written. -/
def predW (op : Nat) (i : Instr) (d : BitVec 3) (f : Group → W32) : State → Host.Outcome State Fault Refusal :=
  issueG { op := op, legal := wellFormed i } fun c => .ok (c.grp.writePs d.toNat c.active (f c.grp))

/-- `pand` (R93) -/
def execPand (d a b : BitVec 3) (s : State) : Host.Outcome State Fault Refusal :=
  predW 0x038 (.pand d a b) d (fun g => g.pmask a.toNat &&& g.pmask b.toNat) s

/-- `por` (R93) -/
def execPor (d a b : BitVec 3) (s : State) : Host.Outcome State Fault Refusal :=
  predW 0x039 (.por d a b) d (fun g => g.pmask a.toNat ||| g.pmask b.toNat) s

/-- `pxor` (R93) -/
def execPxor (d a b : BitVec 3) (s : State) : Host.Outcome State Fault Refusal :=
  predW 0x03A (.pxor d a b) d (fun g => g.pmask a.toNat ^^^ g.pmask b.toNat) s

/-- `pnot` (R93) -/
def execPnot (d a : BitVec 3) (s : State) : Host.Outcome State Fault Refusal :=
  predW 0x03B (.pnot d a) d (fun g => ~~~ g.pmask a.toNat) s

/-- `pany` (R94) -/
def execPany (d : BitVec 6) (a : BitVec 3) (s : State) : Host.Outcome State Fault Refusal :=
  issueG (uniW 0x03C (.pany d a) [d.toNat]) (fun c =>
    .ok (c.grp.writeS d.toNat (if c.grp.pmask a.toNat &&& c.active ≠ 0 then 1 else 0))) s

/-- `pall` (R94) -/
def execPall (d : BitVec 6) (a : BitVec 3) (s : State) : Host.Outcome State Fault Refusal :=
  issueG (uniW 0x03D (.pall d a) [d.toNat]) (fun c =>
    .ok (c.grp.writeS d.toNat (if c.active &&& ~~~ c.grp.pmask a.toNat = 0 then 1 else 0))) s

/-- The operand of `pmov` for all lanes (R93). -/
def pmovMask (g : Group) (b : Src) : W32 :=
  match b with
  | .v n => maskOf (lanes32.filter fun l => g.readV l n.toNat ≠ 0)
  | .s n => (g.readS n.toNat).setWidth 32
  | .imm n => if n.getLsbD 0 then BitVec.allOnes 32 else 0
  | .p n => g.pmask n.toNat

/-- `pmov` (R93) -/
def execPmov (b : Src) (d : BitVec 3) (s : State) : Host.Outcome State Fault Refusal :=
  issueG { op := 0x03E, legal := wellFormed (.pmov b d), vs := b.vs, ss := b.ss } (fun c =>
    .ok (c.grp.writePs d.toNat c.active (pmovMask c.grp b))) s

/-- Does a mode value name reserved codes (R53)? -/
def modeIllegal (m : BitVec 23) : Bool :=
  m.extractLsb' 21 2 ≠ 0 || 0x12 < modeTY m || 0x12 < modeCTY m || 4 < modeRM m

/-- `setm` (R53): the copy of the issuing splinter -/
def execSetm (m : BitVec 23) (s : State) : Host.Outcome State Fault Refusal :=
  issueG
    { op := 0x001, legal := wellFormed (.setm m)
      pre := fun _ _ => if modeIllegal m then .error { cause := 0x04 } else .ok () }
    (fun c => .ok (c.grp.setEntry c.ei { c.ent with mode := m })) s

/-- A special register for a lane (R95). `%time` is given by the caller. -/
def specialReg (c : Ctx) (time n l : Nat) : Nat :=
  let t := c.team
  match n with
  | 0x000 => l
  | 0x001 => l / 4
  | 0x002 => c.gi
  | 0x003 => roleOf t c.gi
  | 0x004 => t.np + t.nc
  | 0x005 => t.coord.1
  | 0x006 => t.coord.2.1
  | 0x007 => t.coord.2.2
  | 0x008 => t.dims.1
  | 0x009 => t.dims.2.1
  | 0x00A => t.dims.2.2
  | 0x00B => t.core
  | 0x00C => dieOfCore t.core
  | 0x00D => sliceOfCore t.core
  | 0x00E => c.fen
  | 0x00F => time
  | 0x010 => c.mask.toNat
  | 0x011 => c.active.toNat
  | 0x012 => c.grp.fp.toNat
  | 0x013 => c.grp.fp.toNat
  | 0x014 => (c.grp.readLC 0).toNat
  | 0x015 => (c.grp.readLC 1).toNat
  | 0x016 => (c.grp.readLC 2).toNat
  | 0x017 => t.arg.toNat
  | 0x018 => t.nspad * 16384
  | _ => 0

/-- `%time` as the group reads it (R96): within 2 of package time, and never less than its last read. -/
def Ctx.timeNow (c : Ctx) (s : State) : Nat := max c.grp.lastTime (s.timeOn c.team.core)

/-- The group after a read of a special register: the last `%time`, and the flags that `%fpclr` clears (R95, R96). -/
def Ctx.afterRead (c : Ctx) (s : State) (n : Nat) : Group :=
  if n = 0x00F then { c.grp with lastTime := c.timeNow s }
  else if n = 0x013 then { c.grp with fp := 0 }
  else c.grp

/-- `gets` (R95) -/
def execGets (d : BitVec 6) (i : BitVec 9) (s : State) : Host.Outcome State Fault Refusal :=
  issue (uniW 0x002 (.gets d i) [d.toNat]) (fun c s =>
    .ok (s.setGroup c.ti c.gi ((c.afterRead s i.toNat).writeS d.toNat
      (BitVec.ofNat 64 (specialReg c (c.timeNow s) i.toNat 0))))) s

/-- `getv` (R95) -/
def execGetv (d : BitVec 7) (i : BitVec 9) (s : State) : Host.Outcome State Fault Refusal :=
  issue { op := 0x003, legal := wellFormed (.getv d i), vs := [d.toNat] } (fun c s =>
    .ok (s.setGroup c.ti c.gi (c.lanes.foldl (fun g l =>
      g.writeV l d.toNat (BitVec.ofNat 32 (specialReg c (c.timeNow s) i.toNat l))) (c.afterRead s i.toNat)))) s

end Sys2Proof.Machine
end

