-- ==== Sys2Proof/Machine/Vector.lean ====
section
/-!
DEFINITION. The vector engine: integer, bit-moving and floating-point words, conversion, the codebook, lane exchange,
reductions, lane masks and random numbers (R108 to R142).
-/
namespace Sys2Proof.Machine

/-- FLT_TYPE at stage 2 unless the mode's TY is accepted (R128, R130, R133, R136). -/
def tyCheck (ok : Nat → Bool) : Ctx → State → Except Flt Unit :=
  fun c _ => if ok c.ty then .ok () else .error { cause := 0x23 }

/-- Any type. -/
def tyAny (_ : Nat) : Bool := true

/-- The integer types of R128. -/
def tyIntOk (ty : Nat) : Bool := tyInt ty

/-- The types of `vbfx` and `vbfi` (R130). -/
def tyBf (ty : Nat) : Bool := ty = 2 || ty = 3 || ty = 6 || ty = 7

/-- The types of the special functions (R136). -/
def tySpecial (ty : Nat) : Bool := tyFloat ty && ty != 0x0B

/-- A vector word whose lane operands all have the mode's TY (R108). -/
def vecW (op : Nat) (i : Instr) (ok : Nat → Bool) (vs ss : List Nat) : Word :=
  { op := op, legal := wellFormed i, vs := vs, ss := ss, pairs := fun c => pairsOf c.ty vs, pre := tyCheck ok }

/-- The lane results of a word that works element by element on operands A, B and D (R128, R133). -/
def Ctx.elemwise (c : Ctx) (b : Src) (d a : Nat) (f : Env → Nat → Nat → Nat → Nat → Nat × Flags) : List LaneRes :=
  c.lanes.map fun l =>
    let es := (elemsOf c.ty (c.grp.readOp c.ty l a)).zip
      ((elemsOf c.ty (c.laneB c.ty b l)).zip (elemsOf c.ty (c.grp.readOp c.ty l d)))
    let rs := es.map fun e => f c.env c.ty e.1 e.2.1 e.2.2
    { lane := l, val := joinElems c.ty (rs.map (·.1)), flags := rs.map (·.2) }

/-- A word that works element by element (R128, R133). -/
def vec (op : Nat) (i : Instr) (ok : Nat → Bool) (b : Src) (d a : BitVec 7)
    (f : Env → Nat → Nat → Nat → Nat → Nat × Flags) : State → Host.Outcome State Fault Refusal :=
  issueG (vecW op i ok (d.toNat :: a.toNat :: b.vs) b.ss) fun c =>
    c.laneWrite c.ty d.toNat (c.elemwise b d.toNat a.toNat f)

/-- A word of one operand that works element by element. -/
def vec1 (op : Nat) (i : Instr) (ok : Nat → Bool) (d a : BitVec 7) (f : Env → Nat → Nat → Nat × Flags) :
    State → Host.Outcome State Fault Refusal :=
  issueG (vecW op i ok [d.toNat, a.toNat] []) fun c =>
    c.laneWrite c.ty d.toNat (c.elemwise (.v a) d.toNat a.toNat fun v ty x _ _ => f v ty x)

/-- An integer operation with its one Encode (R128). -/
def intOp (f : Int → Int → Int → Int) : Env → Nat → Nat → Nat → Nat → Nat × Flags :=
  fun v ty a b d => encodeInt v.sat ty (f (intVal ty a) (intVal ty b) (intVal ty d))

/-- Division truncated towards zero, with its corners (R129). -/
def divOp (v : Env) (ty a b : Nat) : Nat × Flags :=
  if intVal ty b = 0 then (2 ^ tyWidth ty - 1, fDZ)
  else encodeInt v.sat ty ((intVal ty a).tdiv (intVal ty b))

/-- Remainder with its corners (R129). -/
def remOp (v : Env) (ty a b : Nat) : Nat × Flags :=
  if intVal ty b = 0 then (a, fDZ)
  else encodeInt v.sat ty ((intVal ty a).tmod (intVal ty b))

/-- A pattern reversed within `w` bits (R129). -/
def brev (w x : Nat) : Nat := ((List.range w).map fun i => b2n (bitOf x i) * 2 ^ (w - 1 - i)).foldl (· + ·) 0

/-- A pattern shifted right copying its top bit (R129). -/
def sraPat (w x n : Nat) : Nat := wrapTo w (signedOf w x / ((2 ^ n : Nat) : Int))

/-- Bits pos and up of `vbfx`, sign-extended or zero-extended (R130). -/
def bfx (ty a b : Nat) : Nat :=
  let w := tyWidth ty
  let pos := bitsOf b 0 7
  let len := min (bitsOf b 8 7) w
  let bit (i : Nat) : Bool := if i < w then bitOf a i else tySigned ty && bitOf a (w - 1)
  let x := ((List.range len).map fun i => b2n (bit (pos + i)) * 2 ^ i).foldl (· + ·) 0
  if len = 0 then 0 else if tySigned ty then wrapTo w (signedOf len x) else x

/-- The field of `vbfi` inserted (R130). -/
def bfi (ty a b d : Nat) : Nat :=
  let w := tyWidth ty
  let pos := bitsOf b 0 7
  let len := min (bitsOf b 8 7) w
  ((List.range w).map fun i =>
    b2n (if pos ≤ i ∧ i < pos + len then bitOf a (i - pos) else bitOf d i) * 2 ^ i).foldl (· + ·) 0

/-- A word on whole operands (R132): no type check, no flag. -/
def vecRaw (op : Nat) (i : Instr) (b : Src) (d a : BitVec 7) (f : Nat → Nat → Nat → Nat → Nat) :
    State → Host.Outcome State Fault Refusal :=
  issueG (vecW op i tyAny (d.toNat :: a.toNat :: b.vs) b.ss) fun c =>
    c.laneWrite c.ty d.toNat (c.lanes.map fun l =>
      { lane := l, flags := []
        val := f c.ty (c.grp.readOp c.ty l a.toNat) (c.laneB c.ty b l) (c.grp.readOp c.ty l d.toNat) })

/-- The bits of an operand of a type. -/
def opBits (ty : Nat) : Nat := if tyPair ty then 64 else 32

/-- A compare word over the elements of a type (R131, R137). -/
def vecCmp (op : Nat) (i : Instr) (ok : Nat → Bool) (b : Src) (cc : Cc) (pd : BitVec 3) (a : BitVec 7)
    (fl : Val → Val → Flags) : State → Host.Outcome State Fault Refusal :=
  issueG (vecW op i ok (a.toNat :: b.vs) b.ss) fun c =>
    c.predWrite pd.toNat (c.lanes.map fun l =>
      let es := (elemsOf c.ty (c.grp.readOp c.ty l a.toNat)).zip (elemsOf c.ty (c.laneB c.ty b l))
      { lane := l
        val := b2n (es.all fun e => compareElem c.env cc c.ty e.1 e.2)
        flags := es.map fun e => fl (decodeElem c.env c.ty e.1) (decodeElem c.env c.ty e.2) })

/-- A floating operation with its one Encode (R133). -/
def floatOp (f : Nat → Val → Val → Val → Val × Flags) : Env → Nat → Nat → Nat → Nat → Nat × Flags :=
  fun v ty a b d =>
    let (x, g) := f v.rm (decodeElem v ty a) (decodeElem v ty b) (decodeElem v ty d)
    let (r, h) := encodeFloat v ty x
    (r, g ||| h)

/-- The class of a pattern of a binary format (R135). -/
def classFp (ty x : Nat) : Nat :=
  match decodeFp ty x with
  | .nan b => if b then 9 else 8
  | .inf s => if s then 0 else 7
  | .fin s n _ =>
    if n = 0 then (if s then 3 else 4)
    else if isSubnormal ty x then (if s then 2 else 5)
    else if s then 1 else 6

/-- The class of an element (R135). -/
def classOfElem (v : Env) (ty x : Nat) : Nat :=
  if ty = 0x0E ∨ ty = 0x0F then
    match decodeTapered ty x with
    | .fin s n _ => if n = 0 then 4 else if s then 1 else 6
    | _ => 8
  else if ty = 0x10 then classFp 0x09 (v.cb.getD (x % 16) 0)
  else classFp ty x

/-- A special function, encoded under RNE (R136). -/
def specialOp (op mode : Nat) : Env → Nat → Nat → Nat × Flags :=
  fun v ty x =>
    let (y, g) := Special.result op mode (if ty = 0x10 then v.cb.getD (x % 16) 0 else x) (decodeElem v ty x)
    let (r, h) := encodeFloat { v with rm := rmRNE } ty y
    (r, g ||| h)

/-- A special function word (R136). -/
def vecSpecial (op : Nat) (i : Instr) (d a : BitVec 7) : State → Host.Outcome State Fault Refusal :=
  issueG (vecW op i tySpecial [d.toNat, a.toNat] []) fun c =>
    c.laneWrite c.ty d.toNat (c.elemwise (.v a) d.toNat a.toNat fun v ty x _ _ => specialOp op c.mode.toNat v ty x)

/-- Conversion into elements `dst` and up of a destination of a type (R124). -/
def vecCvt (op : Nat) (i : Instr) (d a : BitVec 7) (dst src : BitVec 3) (cty : Ctx → Nat) :
    State → Host.Outcome State Fault Refusal :=
  issueG
    { op := op, legal := wellFormed i, vs := [d.toNat, a.toNat]
      pairs := fun c => pairsOf c.ty [a.toNat] ++ pairsOf (cty c) [d.toNat]
      pre := fun c _ =>
        if tyElems c.ty ≤ src.toNat ∨ tyElems (cty c) ≤ dst.toNat then .error { cause := 0x23 } else .ok () }
    fun c =>
      let ct := cty c
      let n := min (tyElems c.ty - src.toNat) (tyElems ct - dst.toNat)
      c.laneWrite ct d.toNat (c.lanes.map fun l =>
        let xs := elemsOf c.ty (c.grp.readOp c.ty l a.toNat)
        let ds := elemsOf ct (c.grp.readOp ct l d.toNat)
        let rs := (List.range n).map fun q => convertElem c.env c.ty ct (xs.getD (src.toNat + q) 0)
        { lane := l, flags := rs.map (·.2)
          val := joinElems ct ((List.range n).foldl (fun ds q => setAt ds (dst.toNat + q) (rs.getD q (0, 0)).1) ds) })

/-- The types of `vpack` and `vunpack` (R126): no reserved code is among them. -/
def tyPack (ty : Nat) : Bool := ty ≤ 0x12 && tyElems ty % 2 = 0 && 2 ≤ tyElems ty

/-- `vpack` and `vunpack` (R126). -/
def vecPack (op : Nat) (i : Instr) (d a b : BitVec 7) (f : Nat → List Nat → List Nat → List Nat) :
    State → Host.Outcome State Fault Refusal :=
  issueG (vecW op i tyPack [d.toNat, a.toNat, b.toNat] []) fun c =>
    c.laneWrite c.ty d.toNat (c.lanes.map fun l =>
      { lane := l, flags := []
        val := joinElems c.ty (f (tyElems c.ty / 2) (elemsOf c.ty (c.grp.readOp c.ty l a.toNat))
          (elemsOf c.ty (c.grp.readOp c.ty l b.toNat))) })

/-- Word i of the codebook (R117). -/
def Group.cbWord (g : Group) (i : Nat) : W64 :=
  BitVec.ofNat 64 (((List.range 4).map fun j => g.cb.getD (4 * i + j) 0 * 2 ^ (16 * j)).foldl (· + ·) 0)

/-- Word i of the codebook written (R117). -/
def Group.setCbWord (g : Group) (i : Nat) (x : W64) : Group :=
  { g with codebook := (List.range 4).foldl (fun m j => SMap.put 0 m (4 * i + j) (x.extractLsb' (16 * j) 16)) g.codebook }

/-- A lane-exchange word (R138): lane l takes the operand of lane `source l`, or 0 outside the splinter. -/
def vecMove (op : Nat) (i : Instr) (d a : BitVec 7) (b : Src) (source : Ctx → Nat → Nat) :
    State → Host.Outcome State Fault Refusal :=
  issueG (vecW op i tyAny (d.toNat :: a.toNat :: b.vs) b.ss) fun c =>
    c.laneWrite c.ty d.toNat (c.lanes.map fun l =>
      let m := source c l
      { lane := l, flags := [], val := if c.mask.getLsbD m then c.grp.readOp c.ty m a.toNat else 0 })

/-- The lane index that a B operand gives, bits [4:0] (R138). -/
def Ctx.laneIdx (c : Ctx) (b : Src) (l : Nat) : Nat :=
  match b with
  | .imm n => n.toNat % 32
  | _ => c.laneB c.ty b l % 32

/-- The exact sum of many values (R139). -/
def sumVals (rm : Nat) (xs : List Val) : Val × Flags :=
  let sn := flagIf (xs.any Val.isSnan) fNV
  if xs.any (· = .inf true) && xs.any (· = .inf false) then (.qnan, fNV)
  else if xs.any Val.isNan then (.qnan, sn)
  else
    match xs with
    | [] => (.fin false 0 1, 0)
    | x :: rest => (rest.foldl (fun y z => (y.add rm z).1) x, 0)

/-- The least or greatest of many values (R139). -/
def extremeVals (max : Bool) (xs : List Val) : Val × Flags :=
  match xs with
  | [] => (.fin false 0 1, 0)
  | x :: rest => (rest.foldl (fun y z => (y.minMax max z).1) x, flagIf (xs.any Val.isSnan) fNV)

/-- The least or greatest integer. -/
def extremeInts (max : Bool) (xs : List Int) : Int :=
  match xs with
  | [] => 0
  | x :: rest => rest.foldl (fun y z => if decide (y < z) = max then z else y) x

/-- The reduction of one element over lanes (R139), for the operations add, min and max. -/
def reduceElem (v : Env) (ty o : Nat) (xs : List Nat) : Nat × Flags :=
  if tyInt ty then
    let ys := xs.map (intVal ty)
    encodeInt v.sat ty (if o = 0 then ys.foldl (· + ·) 0 else extremeInts (o = 2) ys)
  else
    let ys := xs.map (decodeElem v ty)
    let (y, f) := if o = 0 then sumVals v.rm ys else extremeVals (o = 2) ys
    let (r, g) := encodeFloat v ty y
    (r, f ||| g)

/-- The reduction over some lanes (R139): patterns for and, or and xor. DESIGN CHOICE (log entry 106): of the whole register also
under t6, whose bits [31:30] R109 leaves out elsewhere. -/
def Ctx.reduce (c : Ctx) (o a : Nat) (ls : List Nat) : Nat × List Flags :=
  let xs := ls.map fun l => c.grp.readOp c.ty l a
  match o with
  | 3 => (xs.foldl (· &&& ·) (2 ^ opBits c.ty - 1), [])
  | 4 => (xs.foldl (· ||| ·) 0, [])
  | 5 => (xs.foldl (· ^^^ ·) 0, [])
  | _ =>
    let rs := (List.range (tyElems c.ty)).map fun j =>
      reduceElem c.env c.ty o (xs.map fun x => (elemsOf c.ty x).getD j 0)
    (joinElems c.ty (rs.map (·.1)), rs.map (·.2))

/-- A reduction or scan: lane l takes the reduction over the lanes that `sel l` picks (R139). -/
def vecReduce (op : Nat) (i : Instr) (d a : BitVec 7) (o : BitVec 3) (sel : Nat → Nat → Bool) :
    State → Host.Outcome State Fault Refusal :=
  issueG (vecW op i tyAny [d.toNat, a.toNat] []) fun c =>
    c.laneWrite c.ty d.toNat (c.lanes.map fun l =>
      let r := c.reduce o.toNat a.toNat (c.lanes.filter (sel l))
      { lane := l, val := r.1, flags := r.2 })

/-- One step of a lane's generator (R142). -/
def rngStep (x : BitVec 128) : BitVec 128 :=
  let a : W32 := x.extractLsb' 0 32
  let w : W32 := x.extractLsb' 96 32
  let t := a ^^^ (a <<< 11)
  let w' := w ^^^ (w >>> 19) ^^^ t ^^^ (t >>> 8)
  w' ++ (x.extractLsb' 32 96)

/-- The state that `vseed` leaves (R142). -/
def rngSeed (a b : W32) (l : Nat) : BitVec 128 :=
  (List.range 16).foldl (fun x _ => rngStep x) (0x6C078965#32 ++ BitVec.ofNat 32 l ++ b ++ a)

/-- A lane's generator. -/
def Group.rngOf (g : Group) (l : Nat) : BitVec 128 := g.rng.get 0 l

/-- A lane's generator replaced. -/
def Group.setRng (g : Group) (l : Nat) (x : BitVec 128) : Group := { g with rng := SMap.put 0 g.rng l x }


/-- `vadd` (R129) -/
def execVadd (b : Src) (d a : BitVec 7) (s : State) : Host.Outcome State Fault Refusal :=
  vec 0x040 (.vadd b d a) tyIntOk b d a (intOp fun a b _ => a + b) s

/-- `vsub` (R129) -/
def execVsub (b : Src) (d a : BitVec 7) (s : State) : Host.Outcome State Fault Refusal :=
  vec 0x041 (.vsub b d a) tyIntOk b d a (intOp fun a b _ => a - b) s

/-- `vmul` (R129) -/
def execVmul (b : Src) (d a : BitVec 7) (s : State) : Host.Outcome State Fault Refusal :=
  vec 0x042 (.vmul b d a) tyIntOk b d a (intOp fun a b _ => a * b) s

/-- `vmulh` (R129) -/
def execVmulh (b : Src) (d a : BitVec 7) (s : State) : Host.Outcome State Fault Refusal :=
  vec 0x043 (.vmulh b d a) tyIntOk b d a (fun v ty a b _ => encodeInt v.sat ty (intVal ty a * intVal ty b / ((2 ^ tyWidth ty : Nat) : Int))) s

/-- `vmad` (R129) -/
def execVmad (b : Src) (d a : BitVec 7) (s : State) : Host.Outcome State Fault Refusal :=
  vec 0x044 (.vmad b d a) tyIntOk b d a (intOp fun a b d => a * b + d) s

/-- `vdiv` (R129) -/
def execVdiv (b : Src) (d a : BitVec 7) (s : State) : Host.Outcome State Fault Refusal :=
  vec 0x045 (.vdiv b d a) tyIntOk b d a (fun v ty a b _ => divOp v ty a b) s

/-- `vrem` (R129) -/
def execVrem (b : Src) (d a : BitVec 7) (s : State) : Host.Outcome State Fault Refusal :=
  vec 0x046 (.vrem b d a) tyIntOk b d a (fun v ty a b _ => remOp v ty a b) s

/-- `vmin` (R129) -/
def execVmin (b : Src) (d a : BitVec 7) (s : State) : Host.Outcome State Fault Refusal :=
  vec 0x049 (.vmin b d a) tyIntOk b d a (intOp fun a b _ => min a b) s

/-- `vmax` (R129) -/
def execVmax (b : Src) (d a : BitVec 7) (s : State) : Host.Outcome State Fault Refusal :=
  vec 0x04A (.vmax b d a) tyIntOk b d a (intOp fun a b _ => max a b) s

/-- `vshl` (R129) -/
def execVshl (b : Src) (d a : BitVec 7) (s : State) : Host.Outcome State Fault Refusal :=
  vec 0x04F (.vshl b d a) tyIntOk b d a (fun _ ty a b _ => (a * 2 ^ (b % tyWidth ty) % 2 ^ tyWidth ty, 0)) s

/-- `vshr` (R129) -/
def execVshr (b : Src) (d a : BitVec 7) (s : State) : Host.Outcome State Fault Refusal :=
  vec 0x050 (.vshr b d a) tyIntOk b d a (fun _ ty a b _ => (a / 2 ^ (b % tyWidth ty), 0)) s

/-- `vsra` (R129) -/
def execVsra (b : Src) (d a : BitVec 7) (s : State) : Host.Outcome State Fault Refusal :=
  vec 0x051 (.vsra b d a) tyIntOk b d a (fun _ ty a b _ => (sraPat (tyWidth ty) a (b % tyWidth ty), 0)) s

/-- `vabs` (R129) -/
def execVabs (d a : BitVec 7) (s : State) : Host.Outcome State Fault Refusal :=
  vec1 0x047 (.vabs d a) tyIntOk d a (fun v ty a => encodeInt v.sat ty ((intVal ty a).natAbs : Int)) s

/-- `vneg` (R129) -/
def execVneg (d a : BitVec 7) (s : State) : Host.Outcome State Fault Refusal :=
  vec1 0x048 (.vneg d a) tyIntOk d a (fun v ty a => encodeInt v.sat ty (-intVal ty a)) s

/-- `vclz` (R129) -/
def execVclz (d a : BitVec 7) (s : State) : Host.Outcome State Fault Refusal :=
  vec1 0x052 (.vclz d a) tyIntOk d a (fun _ ty a => (clz (tyWidth ty) a, 0)) s

/-- `vpop` (R129) -/
def execVpop (d a : BitVec 7) (s : State) : Host.Outcome State Fault Refusal :=
  vec1 0x053 (.vpop d a) tyIntOk d a (fun _ ty a => (pop (tyWidth ty) a, 0)) s

/-- `vbrev` (R129) -/
def execVbrev (d a : BitVec 7) (s : State) : Host.Outcome State Fault Refusal :=
  vec1 0x054 (.vbrev d a) tyIntOk d a (fun _ ty a => (brev (tyWidth ty) a, 0)) s

/-- `vbfx` (R130) -/
def execVbfx (b : Src) (d a : BitVec 7) (s : State) : Host.Outcome State Fault Refusal :=
  vec 0x055 (.vbfx b d a) tyBf b d a (fun _ ty a b _ => (bfx ty a b, 0)) s

/-- `vbfi` (R130) -/
def execVbfi (b : Src) (d a : BitVec 7) (s : State) : Host.Outcome State Fault Refusal :=
  vec 0x056 (.vbfi b d a) tyBf b d a (fun _ ty a b d => (bfi ty a b d, 0)) s

/-- `vand` (R132) -/
def execVand (b : Src) (d a : BitVec 7) (s : State) : Host.Outcome State Fault Refusal :=
  vecRaw 0x04B (.vand b d a) b d a (fun _ a b _ => a &&& b) s

/-- `vor` (R132) -/
def execVor (b : Src) (d a : BitVec 7) (s : State) : Host.Outcome State Fault Refusal :=
  vecRaw 0x04C (.vor b d a) b d a (fun _ a b _ => a ||| b) s

/-- `vxor` (R132) -/
def execVxor (b : Src) (d a : BitVec 7) (s : State) : Host.Outcome State Fault Refusal :=
  vecRaw 0x04D (.vxor b d a) b d a (fun _ a b _ => a ^^^ b) s

/-- `vsel` (R132) -/
def execVsel (b : Src) (d a : BitVec 7) (s : State) : Host.Outcome State Fault Refusal :=
  vecRaw 0x057 (.vsel b d a) b d a (fun _ a b d => if d ≠ 0 then a else b) s

/-- `vnot` (R132) -/
def execVnot (d a : BitVec 7) (s : State) : Host.Outcome State Fault Refusal :=
  vecRaw 0x04E (.vnot d a) (.v a) d a (fun ty a _ _ => 2 ^ opBits ty - 1 - a) s

/-- `vmov` (R132) -/
def execVmov (b : Src) (d : BitVec 7) (s : State) : Host.Outcome State Fault Refusal :=
  vecRaw 0x059 (.vmov b d) b d d (fun _ _ b _ => b) s

/-- `vmovi` (R132) -/
def execVmovi (d : BitVec 7) (i : BitVec 16) (s : State) : Host.Outcome State Fault Refusal :=
  issueG { op := 0x05A, legal := wellFormed (.vmovi d i), vs := [d.toNat] } (fun c =>
    .ok (c.lanes.foldl (fun g l => g.writeV l d.toNat (i.signExtend 32)) c.grp)) s

/-- `vmovh` (R132) -/
def execVmovh (d : BitVec 7) (i : BitVec 16) (s : State) : Host.Outcome State Fault Refusal :=
  issueG { op := 0x05B, legal := wellFormed (.vmovh d i), vs := [d.toNat] } (fun c =>
    .ok (c.lanes.foldl (fun g l => g.writeV l d.toNat (i ++ (c.grp.readV l d.toNat).setWidth 16)) c.grp)) s

/-- `vcmp` (R131) -/
def execVcmp (b : Src) (cc : Cc) (pd : BitVec 3) (a : BitVec 7) (s : State) : Host.Outcome State Fault Refusal :=
  vecCmp 0x058 (.vcmp b cc pd a) tyIntOk b cc pd a (fun _ _ => 0) s

/-- `vfcmp` (R137) -/
def execVfcmp (b : Src) (cc : Cc) (pd : BitVec 3) (a : BitVec 7) (s : State) : Host.Outcome State Fault Refusal :=
  vecCmp 0x066 (.vfcmp b cc pd a) tyFloat b cc pd a (cmpFlags cc) s

/-- `vfadd` (R134) -/
def execVfadd (b : Src) (d a : BitVec 7) (s : State) : Host.Outcome State Fault Refusal :=
  vec 0x060 (.vfadd b d a) tyFloat b d a (floatOp fun rm a b _ => a.add rm b) s

/-- `vfsub` (R134) -/
def execVfsub (b : Src) (d a : BitVec 7) (s : State) : Host.Outcome State Fault Refusal :=
  vec 0x061 (.vfsub b d a) tyFloat b d a (floatOp fun rm a b _ => a.sub rm b) s

/-- `vfmul` (R134) -/
def execVfmul (b : Src) (d a : BitVec 7) (s : State) : Host.Outcome State Fault Refusal :=
  vec 0x062 (.vfmul b d a) tyFloat b d a (floatOp fun _ a b _ => a.mul b) s

/-- `vfma` (R134) -/
def execVfma (b : Src) (d a : BitVec 7) (s : State) : Host.Outcome State Fault Refusal :=
  vec 0x063 (.vfma b d a) tyFloat b d a (floatOp fun rm a b d => a.fma rm b d) s

/-- `vfmin` (R134) -/
def execVfmin (b : Src) (d a : BitVec 7) (s : State) : Host.Outcome State Fault Refusal :=
  vec 0x064 (.vfmin b d a) tyFloat b d a (floatOp fun _ a b _ => a.minMax false b) s

/-- `vfmax` (R134) -/
def execVfmax (b : Src) (d a : BitVec 7) (s : State) : Host.Outcome State Fault Refusal :=
  vec 0x065 (.vfmax b d a) tyFloat b d a (floatOp fun _ a b _ => a.minMax true b) s

/-- `vfdiv` (R134) -/
def execVfdiv (b : Src) (d a : BitVec 7) (s : State) : Host.Outcome State Fault Refusal :=
  vec 0x072 (.vfdiv b d a) tyFloat b d a (floatOp fun _ a b _ => a.div b) s

/-- `vfrnd` (R134) -/
def execVfrnd (d a : BitVec 7) (s : State) : Host.Outcome State Fault Refusal :=
  vec1 0x068 (.vfrnd d a) tyFloat d a (fun v ty a => floatOp (fun rm a _ _ => a.rint rm) v ty a a a) s

/-- `vsqrt` (R134) -/
def execVsqrt (d a : BitVec 7) (s : State) : Host.Outcome State Fault Refusal :=
  vec1 0x06B (.vsqrt d a) tyFloat d a (fun v ty a => floatOp (fun _ a _ _ => a.sqrt) v ty a a a) s

/-- `vfclass` (R135) -/
def execVfclass (d a : BitVec 7) (s : State) : Host.Outcome State Fault Refusal :=
  vec1 0x067 (.vfclass d a) tyFloat d a (fun v ty a => (classOfElem v ty a, 0)) s

/-- `vrcp` (R136) -/
def execVrcp (d a : BitVec 7) (s : State) : Host.Outcome State Fault Refusal :=
  vecSpecial 0x069 (.vrcp d a) d a s

/-- `vrsq` (R136) -/
def execVrsq (d a : BitVec 7) (s : State) : Host.Outcome State Fault Refusal :=
  vecSpecial 0x06A (.vrsq d a) d a s

/-- `vexp2` (R136) -/
def execVexp2 (d a : BitVec 7) (s : State) : Host.Outcome State Fault Refusal :=
  vecSpecial 0x06C (.vexp2 d a) d a s

/-- `vlog2` (R136) -/
def execVlog2 (d a : BitVec 7) (s : State) : Host.Outcome State Fault Refusal :=
  vecSpecial 0x06D (.vlog2 d a) d a s

/-- `vsin` (R136) -/
def execVsin (d a : BitVec 7) (s : State) : Host.Outcome State Fault Refusal :=
  vecSpecial 0x06E (.vsin d a) d a s

/-- `vcos` (R136) -/
def execVcos (d a : BitVec 7) (s : State) : Host.Outcome State Fault Refusal :=
  vecSpecial 0x06F (.vcos d a) d a s

/-- `vtanh` (R136) -/
def execVtanh (d a : BitVec 7) (s : State) : Host.Outcome State Fault Refusal :=
  vecSpecial 0x070 (.vtanh d a) d a s

/-- `vsigm` (R136) -/
def execVsigm (d a : BitVec 7) (s : State) : Host.Outcome State Fault Refusal :=
  vecSpecial 0x071 (.vsigm d a) d a s

/-- `vcvt` (R124) -/
def execVcvt (d a : BitVec 7) (e f : BitVec 3) (s : State) : Host.Outcome State Fault Refusal :=
  vecCvt 0x080 (.vcvt d a e f) d a e f (fun c => modeCTY c.mode) s

/-- `vcbq` (R125) -/
def execVcbq (d a : BitVec 7) (e f : BitVec 3) (s : State) : Host.Outcome State Fault Refusal :=
  vecCvt 0x085 (.vcbq d a e f) d a e f (fun _ => 0x10) s

/-- `vpack` (R126) -/
def execVpack (d a b : BitVec 7) (s : State) : Host.Outcome State Fault Refusal :=
  vecPack 0x081 (.vpack d a b) d a b (fun h a b =>
    (List.range h).map (fun i => a.getD (2 * i) 0) ++ (List.range h).map (fun i => b.getD (2 * i) 0)) s

/-- `vunpack` (R126) -/
def execVunpack (d a b : BitVec 7) (s : State) : Host.Outcome State Fault Refusal :=
  vecPack 0x082 (.vunpack d a b) d a b (fun h a b =>
    (List.range (2 * h)).map fun i => if i % 2 = 0 then a.getD (i / 2) 0 else b.getD (i / 2) 0) s

/-- `cbld` (R127) -/
def execCbld (a : BitVec 6) (s : State) : Host.Outcome State Fault Refusal :=
  issueG { op := 0x083, legal := wellFormed (.cbld a), ss := sRange a.toNat 4 } (fun c =>
    .ok ((List.range 4).foldl (fun g i => g.setCbWord i (c.grp.readS (a.toNat + i))) c.grp)) s

/-- `cbst` (R127) -/
def execCbst (d : BitVec 6) (s : State) : Host.Outcome State Fault Refusal :=
  issueG { op := 0x084, legal := wellFormed (.cbst d), ss := sRange d.toNat 4 } (fun c =>
    .ok ((List.range 4).foldl (fun g i => g.writeS (d.toNat + i) (c.grp.cbWord i)) c.grp)) s

/-- `vshf` (R138) -/
def execVshf (b : Src) (d a : BitVec 7) (s : State) : Host.Outcome State Fault Refusal :=
  vecMove 0x090 (.vshf b d a) d a b (fun c l => c.laneIdx b l) s

/-- `vrot` (R138) -/
def execVrot (b : Src) (d a : BitVec 7) (s : State) : Host.Outcome State Fault Refusal :=
  vecMove 0x091 (.vrot b d a) d a b (fun c l => (l + c.laneIdx b l) % 32) s

/-- `vbcst` (R138) -/
def execVbcst (d a : BitVec 7) (s : State) : Host.Outcome State Fault Refusal :=
  vecMove 0x092 (.vbcst d a) d a (.v a) (fun c _ => lowLane c.active) s

/-- `vrd` (R138) -/
def execVrd (b : Src) (d a : BitVec 7) (s : State) : Host.Outcome State Fault Refusal :=
  vecMove 0x093 (.vrd b d a) d a b (fun c l => l ^^^ c.laneIdx b l) s

/-- `vred` (R139) -/
def execVred (d a : BitVec 7) (o : BitVec 3) (s : State) : Host.Outcome State Fault Refusal :=
  vecReduce 0x094 (.vred d a o) d a o (fun _ _ => true) s

/-- `vscan` (R139) -/
def execVscan (d a : BitVec 7) (o : BitVec 3) (s : State) : Host.Outcome State Fault Refusal :=
  vecReduce 0x095 (.vscan d a o) d a o (fun l m => m ≤ l) s

/-- `vball` (R140) -/
def execVball (d : BitVec 7) (b : BitVec 3) (s : State) : Host.Outcome State Fault Refusal :=
  issueG { op := 0x096, legal := wellFormed (.vball d b), vs := [d.toNat] } (fun c =>
    .ok (c.lanes.foldl (fun g l => g.writeV l d.toNat (c.grp.pmask b.toNat &&& c.active)) c.grp)) s

/-- `vmatch` (R140) -/
def execVmatch (d a : BitVec 7) (s : State) : Host.Outcome State Fault Refusal :=
  issueG
    { op := 0x097, legal := wellFormed (.vmatch d a), vs := [d.toNat, a.toNat], pairs := fun c => pairsOf c.ty [a.toNat] }
    (fun c =>
      let x := fun l => c.grp.readOp c.ty l a.toNat
      .ok (c.lanes.foldl (fun g l => g.writeV l d.toNat (maskOf (c.lanes.filter fun m => x m = x l))) c.grp)) s

/-- `vrnd` (R142) -/
def execVrnd (d : BitVec 7) (s : State) : Host.Outcome State Fault Refusal :=
  issueG { op := 0x0A0, legal := wellFormed (.vrnd d), vs := [d.toNat] } (fun c =>
    .ok (c.lanes.foldl (fun g l =>
      let x := rngStep (c.grp.rngOf l)
      (g.setRng l x).writeV l d.toNat (x.extractLsb' 96 32)) c.grp)) s

/-- The B operand of `vseed`: an immediate is sign-extended to 32 bits (R142). -/
def Ctx.seedB (c : Ctx) (b : Src) (l : Nat) : W32 :=
  match b with
  | .v n => c.grp.readV l n.toNat
  | .s n => (c.grp.readS n.toNat).setWidth 32
  | .imm n => BitVec.ofInt 32 (immOf n)
  | .p _ => 0

/-- `vseed` (R142) -/
def execVseed (b : Src) (a : BitVec 7) (s : State) : Host.Outcome State Fault Refusal :=
  issueG { op := 0x0A1, legal := wellFormed (.vseed b a), vs := a.toNat :: b.vs, ss := b.ss } (fun c =>
    .ok (c.lanes.foldl (fun g l => g.setRng l (rngSeed (c.grp.readV l a.toNat) (c.seedB b l) l)) c.grp)) s

end Sys2Proof.Machine
end

