-- ==== Sys2Proof/Machine/Dist.lean ====
section
/-!
DEFINITION. Launch records (R312, R313), grids and their readiness (R314), the journal (R318), grid completion (R317),
save slots (R322) and the reorder unit's bins (R321).
-/
namespace Sys2Proof.Machine

/-! ## Launch records -/

/-- A launch record's fields (R312). -/
def lrecOf (x : Nat) : LRec :=
  { entry := bitsOf x 0 57, onf := bitOf x 57, gx := bitsOf x 64 31, gy := bitsOf x 96 16, gz := bitsOf x 112 16
    np := bitsOf x 128 6, nc := bitsOf x 134 6, bp := bitsOf x 140 4, bc := bitsOf x 144 4, spb := bitsOf x 148 5
    nbar := bitsOf x 153 5, nstr := bitsOf x 158 4, nacc := bitsOf x 162 7, arg := bitsOf x 192 57
    rtab := bitsOf x 256 57, dseq := bitsOf x 320 48, dq := bitsOf x 368 6, dv := bitOf x 374, crec := bitsOf x 384 57
    naddr := bitsOf x 448 57, nkind := bitsOf x 505 2, nbr := bitsOf x 507 4
    rsv := bitsOf x 58 6 ≠ 0 || bitOf x 95 || bitsOf x 169 23 ≠ 0 || bitsOf x 249 7 ≠ 0 || bitsOf x 313 7 ≠ 0
      || bitsOf x 375 9 ≠ 0 || bitsOf x 441 7 ≠ 0 || bitOf x 511 }

/-- Rows of a group of a role (R15). -/
def rowsOf (b : Nat) : Nat := b + 1

/-- Are a record's own fields permitted (R313)? -/
def LRec.fieldsOk (r : LRec) : Bool :=
  !r.rsv && r.entry % 4 = 0 && within 1 32 (r.np + r.nc) && (r.np = 0 || 1 ≤ r.bp) && (r.nc = 0 || 1 ≤ r.bc)
    && r.np * rowsOf r.bp + r.nc * rowsOf r.bc ≤ 512 && r.spb ≤ 28 && r.nbar ≤ 16 && r.nstr ≤ 8 && r.nacc ≤ 64
    && 1 ≤ r.gx && 1 ≤ r.gy && 1 ≤ r.gz

/-- Are the notify fields permitted (R313)? `bars` is the barrier count of the team that enqueued the record. -/
def LRec.notifyOk (r : LRec) (bars : Option Nat) : Bool :=
  match r.nkind with
  | 0 => true
  | 1 => r.naddr % 4 = 0
  | 2 => bars.any fun n => r.nbr < n
  | _ => false

/-- Is the dependence permitted, with the NSEQ that its queue held (R313)? -/
def LRec.dependOk (r : LRec) (x : Part) (nseq : Nat → Nat) : Bool := !r.dv || ((x.queue r.dq).en && r.dseq < nseq r.dq)

/-- The cause that rejects a record, 0 for none (R313). -/
def LRec.reject (r : LRec) (x : Part) (bars : Option Nat) (nseq : Nat → Nat) : Nat :=
  if !(r.fieldsOk && r.notifyOk bars) then 0xA4 else if !r.dependOk x nseq then 0xA5 else 0

/-! ## Queues and grids -/

/-- Slots held (R310). -/
def LQueue.held (l : LQueue) : Nat := (l.tail + 2 ^ 16 - l.head) % 2 ^ 16

/-- A grid. -/
def Part.grid (x : Part) (id : Nat) : Option Grid := x.grids.find? fun g => g.id = id

/-- Teams of a grid (R16). -/
def LRec.teams (r : LRec) : Nat := r.gx * r.gy * r.gz

/-- Has a grid started all the teams that it will start? -/
def Grid.started (g : Grid) : Bool := g.done || g.stop || (!g.copying && g.rec_.teams ≤ g.next)

/-- Is a grid ready to start (R314)? -/
def Part.ready (x : Part) (g : Grid) : Bool :=
  let l := x.queue g.queue
  !g.copying && !g.done && !g.rejected
    && (!g.rec_.dv || x.grids.all fun h => h.queue ≠ g.rec_.dq || g.rec_.dseq < h.seq || h.done)
    && x.grids.all (fun h => h.queue ≠ g.queue || g.seq ≤ h.seq || (if l.ser then h.done else h.started))
    && !x.hold.contains l.fen

/-! ## The journal -/

/-- A journal record without PHASE (R318). -/
def journalNat (g : Grid) (fen st : Nat) (crecf notf : Bool) (time : Nat) : Nat :=
  g.seq % 2 ^ 48 + g.queue * 2 ^ 48 + g.origin * 2 ^ 54 + fen * 2 ^ 56 + st * 2 ^ 64 + b2n crecf * 2 ^ 68 + b2n notf * 2 ^ 69
    + (if st = 3 ∨ st = 4 then g.cause else 0) * 2 ^ 72 + time % 2 ^ 64 * 2 ^ 128 + g.lrec * 2 ^ 192

/-- A change of state written to the journal, or only counted when no ring exists (R308, R318). -/
def State.journal (s : State) (p : Nat) (g : Grid) (st : Nat) (crecf notf : Bool) : State :=
  let x := s.part p
  let r := journalNat g (x.queue g.queue).fen st crecf notf s.now + x.jwr / 2 ^ x.jsize % 2 * 2 ^ 67
  let at_ := bitsOf x.jbase 12 40 * 4096 + 32 * (x.jwr % 2 ^ x.jsize)
  let s := if bitOf x.jbase 0 then s.ownWrite 0 at_ (bytesLE 32 r) else s
  s.modPart p fun x => { x with jwr := (x.jwr + 1) % 2 ^ 64 }

/-! ## Completion -/

/-- Where the part may write for a fen (R317): a writable page of region 0x0 or 0x1 and a line without a finding. -/
def State.writeFen (s : State) (fen va : Nat) : Option Nat :=
  match s.walkXlate fen va with
  | .error _ => none
  | .ok x => if x.w && isMemRegion x.pa && (s.lineErr fen (x.pa / 64)).isNone then some x.pa else none

/-- STATUS of a completed grid (R317). -/
def Grid.status (g : Grid) : Nat := if g.rejected then 2 else if g.cause ≠ 0 ∨ g.nend ≠ 0 then 1 else 0

/-- The grid completion record (R317). -/
def Grid.recordNat (g : Grid) (fen time : Nat) : Nat :=
  g.seq % 2 ^ 48 + g.queue * 2 ^ 48 + g.status * 2 ^ 54 + g.cause * 2 ^ 56 + fen * 2 ^ 64 + b2n g.defer * 2 ^ 72
    + min g.nend (2 ^ 32 - 1) * 2 ^ 96 + g.pc * 2 ^ 128 + time % 2 ^ 64 * 2 ^ 192

/-- The notify action (R317): an increment of a word as a release, or an arrival that acts as an interrupt's. -/
def State.notify (s : State) (g : Grid) (fen : Nat) (word : Option Nat) : State :=
  match g.rec_.nkind with
  | 1 => match word with
    | some pa =>
      let n := (s.readNat fen pa 4 + 1) % 2 ^ 32
      (s.writeBytes fen pa (bytesLE 4 n)).touch pa 4
    | none => s
  | 2 => match g.enqTeam with
    | some ti => match s.teams.find ti with
      | some _ => match s.arriveBar ti g.rec_.nbr with
        | some s => s.raiseFloors ti
        | none => s
      | none => s
    | none => s
  | _ => s

/-- HEAD of a queue passes every completed grid (R310). -/
def Part.passHead (q : Nat) (x : Part) : Option Part :=
  let l := x.queue q
  if l.held = 0 then none
  else match x.grids.find? fun g => g.queue = q ∧ g.done ∧ g.slot = l.head with
    | some g => some { x.setQueue q { l with head := (l.head + 1) % 2 ^ 16 } with grids := x.grids.filter fun h => h.id ≠ g.id }
    | none => none

/-- A grid completes (R317): its completion record, the journal, its notify, and the queue's head. -/
def State.finishGrid (s : State) (p : Nat) (g : Grid) : State :=
  let fen := ((s.part p).queue g.queue).fen
  let bars := g.enqTeam.bind fun ti => (s.teams.find ti).map (·.nbar)
  let s := if g.rec_.crec = 0 ∨ g.rec_.crec % 32 ≠ 0 then s else s.fenProbe fen (extend57 g.rec_.crec) 32
  let crec := if g.rec_.crec = 0 ∨ g.rec_.crec % 32 ≠ 0 then none else s.writeFen fen g.rec_.crec
  let s := match crec with
    | some pa => (s.writeBytes fen pa (bytesLE 32 (g.recordNat fen s.now))).touch pa 32
    | none => s
  let asked := !g.rejected || g.rec_.notifyOk bars
  let s := if asked ∧ g.rec_.nkind = 1 then s.fenProbe fen (extend57 g.rec_.naddr) 4 else s
  let word := if asked ∧ g.rec_.nkind = 1 then s.writeFen fen g.rec_.naddr else none
  let st := if g.rejected then 4 else if g.status = 1 then 3 else 2
  let s := s.journal p g st (g.rec_.crec ≠ 0 && crec.isNone) (!asked || (g.rec_.nkind = 1 && word.isNone))
  let s := if asked then s.notify g fen word else s
  s.modPart p fun x =>
    iterOpt (Part.passHead g.queue) 65536 (x.modGrid g.id fun g => { g with done := true })

/-- Has every team of a grid exited or been ended, and retired, and does the reorder unit hold nothing of it (R317)? -/
def Part.gridOver (x : Part) (g : Grid) : Bool :=
  !g.done && !g.copying && g.started && g.live = 0 && x.bins.all fun b => b.grid ≠ g.id

/-- A grid stops: deposits and continuation teams that were never placed are dropped (R31, R321). -/
def State.dropConts (s : State) (p id : Nat) : State :=
  let gone := (s.teams.filter fun t => t.2.pid = p && !t.2.system && t.2.grid = id && t.2.status = .waiting).map (·.1)
  let s := { s with teams := s.teams.filter fun t => !gone.contains t.1 }
  s.modPart p fun x => ({ x with bins := x.bins.filter fun b => b.grid ≠ id }).modGrid id fun g =>
    { g with live := g.live - gone.length }

/-- A grid completes if it can. -/
def State.tryFinish (s : State) (p id : Nat) : State :=
  match (s.part p).grid id with
  | some g =>
    let s := if g.stop then s.dropConts p id else s
    match (s.part p).grid id with
    | some g => if (s.part p).gridOver g then s.finishGrid p g else s
    | none => s
  | none => s

/-! ## Acceptance -/

/-- A record takes a slot and a sequence number (R319, R320). -/
def State.takeSlot (s : State) (p q origin : Nat) (rec_ : LRec) (enqTeam : Option Nat) (copying : Bool) : Grid × State :=
  let (id, s) := s.fresh
  let l := (s.part p).queue q
  let g : Grid := {
    id := id, queue := q, seq := l.nseq, slot := l.tail, lrec := l.base + 64 * (l.tail % 2 ^ l.log2), origin := origin
    rec_ := rec_, enqTeam := enqTeam, copying := copying, next := 0, since := s.now, conts := 0, live := 0, nend := 0
    stop := false, begun := false, done := false, rejected := false, cause := 0, defer := false, pc := 0 }
  (g, s.modPart p fun x =>
    { x.setQueue q { l with tail := (l.tail + 1) % 2 ^ 16, nseq := (l.nseq + 1) % 2 ^ 48 } with grids := x.grids ++ [g] })

/-- A record that has its slot is accepted, or rejected with a cause: a rejected one completes at once (R313). -/
def State.judge (s : State) (p id cause : Nat) : State :=
  let s := s.modPart p fun x => x.modGrid id fun g =>
    { g with copying := false, rejected := cause ≠ 0, cause := cause, since := s.now }
  match (s.part p).grid id with
  | some g => if cause = 0 then s.journal p g 0 false false else s.finishGrid p g
  | none => s

/-- One record of a queue accepted by `launch` (R319): the slot is read as memory of fen 0x00. -/
def State.launchOne (p q : Nat) (s : State) : State :=
  let x := s.part p
  let l := x.queue q
  let at_ := l.base + 64 * (l.tail % 2 ^ l.log2)
  let (cause, r, s) := match s.lineErr 0 (at_ / 64) with
    | some e => (e.code, lrecOf 0, if isMc e.code then s.logMem e.code at_ false else s)
    | none =>
      let r := lrecOf (s.readNat 0 at_ 64)
      (r.reject x none (fun k => (x.queue k).nseq), r, s)
  let (g, s) := s.takeSlot p q 0 r none false
  s.judge p g.id cause

/-! ## Save slots -/

/-- The slots of a partition's pool that teams hold, as first unit and size. -/
def State.slotsHeld (s : State) (p : Nat) : List (Nat × Nat) :=
  s.teams.filterMap fun t => if t.2.pid = p ∧ !t.2.system then t.2.slot else none

/-- Units at the end of a pool that are kept for continuation teams (R321). -/
def keptUnits (n : Nat) : Nat := if n ≤ 64 then n else 64

/-- The first place of `n` units within `[lo, hi)` that no slot of the pool overlaps. -/
def firstFit (held : List (Nat × Nat)) (n lo hi : Nat) : Option Nat :=
  let free (b : Nat) : Bool := lo ≤ b && b + n ≤ hi && held.all fun h => h.1 + h.2 ≤ b || b + n ≤ h.1
  (sortBy (fun a b : Nat => a ≤ b) (lo :: held.map fun h => h.1 + h.2)).find? free

/-- A save slot of `n` units of a pool, if one can be reserved (R321, R322). -/
def State.findSlot (s : State) (p n : Nat) (cont : Bool) : Option Nat :=
  let size := (s.part p).svunits
  let own := size - keptUnits size
  if cont then (firstFit (s.slotsHeld p) n own size).orElse fun _ => firstFit (s.slotsHeld p) n 0 size
  else firstFit (s.slotsHeld p) n 0 own

/-! ## New teams -/

/-- A group at launch (R51, R66, R67, R142): `mask` holds the lanes that start. -/
def Group.launched (entry : Nat) (linear gi : Nat) (mask : W32) (floor : Nat) : Group :=
  { Group.blank with
    entries := [(0, newSplinter (pcOf entry) noFrame mode0 mask)], exited := ~~~mask, floor := floor
    idle := (List.range 7).map fun i => (i + 1, newSplinter (pcOf entry) noFrame mode0 0)
    rng := lanes32.map fun l => (l, rngSeed (BitVec.ofNat 32 linear) (BitVec.ofNat 32 gi) l) }

/-- A team from a launch record (R14, R312). -/
def teamOf (r : LRec) (p q fen : Nat) (g : Grid) (linear : Nat) (coord : Nat × Nat × Nat) (slot : Nat × Nat) : Team :=
  { Team.blank with
    pid := p, queue := q, seq := g.seq, grid := g.id, linear := linear, fen := fen, np := r.np, nc := r.nc
    bp := r.bp * 8 + 8, bc := r.bc * 8 + 8, nspad := r.spb, nbar := r.nbar, nstr := r.nstr, nacc := r.nacc, onf := r.onf
    arg := BitVec.ofNat 57 r.arg, rtab := BitVec.ofNat 57 r.rtab, coord := coord, dims := (g.rec_.gx, g.rec_.gy, g.rec_.gz)
    slot := some slot }

/-- The units that a record's team needs (R322). -/
def LRec.units (r : LRec) : Nat :=
  { Team.blank with np := r.np, nc := r.nc, bp := r.bp * 8 + 8, bc := r.bc * 8 + 8, nspad := r.spb, nacc := r.nacc }.slotUnits

/-! ## The reorder unit -/

/-- Deposits that a partition's unit holds (R321). -/
def Part.deposits (x : Part) : Nat := (x.bins.map fun b => b.items.length).foldl (· + ·) 0

/-- One deposit (R321): a bin of the same grid, template and key that is not full, or a new one. -/
def depositIn (grid tmpl key now : Nat) (x : W64) : List Bin → List Bin
  | [] => [{ grid := grid, tmpl := tmpl, key := key, since := now, items := [x] }]
  | b :: bs =>
    if b.grid = grid ∧ b.tmpl = tmpl ∧ b.key = key ∧ b.items.length < 32 then { b with items := b.items ++ [x] } :: bs
    else b :: depositIn grid tmpl key now x bs

/-- May a bin be launched now (R321)? -/
def State.binDue (s : State) (p : Nat) (b : Bin) : Bool :=
  let x := s.part p
  b.items.length = 32 || b.since + x.ruwait * 64 ≤ s.now
    || (x.grid b.grid).any fun g => g.started && s.teams.all fun t =>
      t.2.grid ≠ b.grid || t.2.system || t.2.pid ≠ p || g.rec_.teams ≤ t.2.linear

/-- A continuation template as a record of one consumer group (R321): the fields that are not used do not count. -/
def contRec (x : Nat) : LRec :=
  let r := lrecOf x
  { r with np := 0, nc := 1, gx := 1, gy := 1, gz := 1, dv := false, crec := 0, nkind := 0 }

/-- The lanes of a continuation's group (R321): payload and key. -/
def Group.withBin (g : Group) (b : Bin) : Group :=
  b.items.zipIdx.foldl (fun g x => (g.writeV2 x.2 0 x.1).writeV x.2 2 (BitVec.ofNat 32 b.key)) g

/-- A bin launched as a continuation team, which waits in its save slot (R321); without a slot it stays. -/
def State.launchBin (s : State) (p idx : Nat) (b : Bin) : State :=
  match (s.part p).grid b.grid with
  | none => s.modPart p fun x => { x with bins := dropAt x.bins idx }
  | some g =>
    let fen := ((s.part p).queue g.queue).fen
    let out (s : State) : State := s.modPart p fun x => { x with bins := dropAt x.bins idx }
    let bad (s : State) : State :=
      let s := (out s).modPart p fun x => x.modGrid g.id fun g =>
        { g with stop := true, cause := if g.cause = 0 then 0xA1 else g.cause }
      s.tryFinish p g.id
    if g.stop then out s
    else
    let s := s.fenProbe fen b.tmpl 64
    match s.readRange fen b.tmpl 64 with
    | none => bad s
    | some bs =>
      let r := contRec (natLE bs)
      if !r.fieldsOk then bad s
      else match s.findSlot p r.units true with
      | none => s
      | some u =>
        let s := out s
        let mask := maskOf (List.range b.items.length)
        let linear := g.rec_.teams + g.conts
        let ti := max s.nextId (s.teams.keys.foldl max 0) + 1
        let t := teamOf r p g.queue fen g linear (g.conts, 0xFFFF, 0xFFFF) (u, r.units)
        let grp := (Group.launched r.entry linear 0 mask s.nextId).withBin b
        let s := { s with nextId := ti + 1 }
        let s := s.setTeam ti { t with status := .waiting, since := s.now, groups := [(0, grp)] }
        (s.modPart p fun x => x.modGrid g.id fun g => { g with conts := g.conts + 1, live := g.live + 1 }).writeHeader ti

/-- REORDER_FLUSH_TIMEOUT (R321): a bin that is due is launched -/
def execReorderFlushTimeout (pid idx : Nat) (s : State) : Host.Outcome State Fault Refusal :=
  match (s.part pid).bins[idx]? with
  | some b => .next (if s.binDue pid b then s.launchBin pid idx b else s)
  | none => .next s

end Sys2Proof.Machine
end

