-- ==== Sys2Proof/Machine/Place.lean ====
section
/-!
DEFINITION. Which team runs next and where: waiting teams (R314), placement (R315), displacement (R316), re-entry (R100,
R243, R328), and the end of a team (R24, R317).
-/
namespace Sys2Proof.Machine

/-! ## What a core has free -/

/-- The teams that hold a core's rows, slots and tiles: resident, being saved, or ended and not retired (R24, R326). -/
def State.teamsOn (s : State) (c : Nat) : List (Nat × Team) :=
  s.teams.filter fun t => t.2.core = c && (t.2.status = .resident || t.2.status = .saving || t.2.status = .ended)

/-- Does a team hold scratchpad banks of a core: also while copies that the core accepted are incomplete (R274, R326)? -/
def State.holdsBanks (s : State) (c : Nat) (t : Nat × Team) : Bool :=
  (s.teamsOn c).any (fun x => x.1 = t.1) || s.copies.any (fun o => o.team = t.1 && o.core = c)
    || s.cpls.any (fun o => o.team = t.1 && o.core = c)

/-- Register rows of a team (R15). -/
def Team.rows (t : Team) : Nat := t.np * (t.bp / 8) + t.nc * (t.bc / 8)

/-- CNT of a share field (R336). -/
def shareCnt (x : BitVec 16) : Nat := bitsOf x.toNat 6 7

/-- The sum over a list. -/
def sumOf {α : Type} (f : α → Nat) (l : List α) : Nat := (l.map f).foldl (· + ·) 0

/-- Rows of a fen's share that gates hold (R346). -/
def State.gateRows (s : State) (c fen : Nat) : Nat :=
  sumOf (fun t => sumOf (fun g => match g.2.gate with
    | some k => if k.tfen = fen then k.grows else 0
    | none => 0) t.2.groups) (s.teamsOn c)

/-- Free rows of a fen on a core. -/
def State.freeRows (s : State) (c fen : Nat) (k : FenSlot) : Nat :=
  shareCnt k.rf * 8 - (sumOf (fun t => if t.2.fen = fen then t.2.rows else 0) (s.teamsOn c) + s.gateRows c fen)

/-- The partition for which a core is placeable (R18, R330). -/
def State.placedFor (s : State) (c : Nat) : Option Nat := ((s.core c).lent).orElse fun _ => s.partOfCore c

/-- A core's slot that holds a fen. -/
def Core.slotOf (k : Core) (fen : Nat) : Option FenSlot := (k.slots.find? fun x => x.2.fen = fen).map (·.2)

/-- May teams of a fen and a partition be placed on a core (R315)? -/
def State.coreOpen (s : State) (pid fen c : Nat) : Bool :=
  let k := s.core c
  c < 192 && s.placedFor c = some pid && !k.returning && !k.retired && !s.sys.gated.getLsbD pid
    && k.world = s.sealedFen fen && !k.worldPend && k.splitMode = k.splitCur

/-- Fits of R315, but for the save slot. -/
def State.fits (s : State) (t : Team) (c : Nat) : Bool :=
  s.coreOpen t.pid t.fen c &&
  match (s.core c).slotOf t.fen with
  | none => false
  | some k =>
    let mine := (s.teamsOn c).filter fun x => x.2.fen = t.fen
    t.rows ≤ s.freeRows c t.fen k
      && sumOf (fun x => if x.2.fen = t.fen ∧ s.holdsBanks c x then x.2.nspad else 0) s.teams + t.nspad ≤ shareCnt k.sp
      && sumOf (fun x => x.2.nbar) mine + t.nbar ≤ 16 * ((List.range 16).filter fun i => k.bs.getLsbD i).length
      && sumOf (fun x => x.2.nacc) mine + t.nacc ≤ shareCnt k.acc
      && sumOf (fun x => x.2.groups.length) (s.teamsOn c) + t.np + t.nc ≤ 48

/-! ## Waiting teams -/

/-- Is a swapped-out team's saved context final (R314)? Its stores, with those that they follow, commits and Sedge operations have
ended too. -/
def State.contextFinal (s : State) (ti : Nat) : Bool :=
  s.copies.all (fun o => o.team ≠ ti) && s.cpls.all (fun o => o.team ≠ ti) && s.reed.marks.all (fun m => m.team ≠ ti)
    && s.txops.all (fun o => o.team ≠ ti)
    && s.cores.all (fun k => k.2.cso.all (fun e => e.team ≠ ti) && k.2.sedge.all fun o => o.team ≠ ti)
    && (s.team ti).groups.all fun g => g.2.scq.isEmpty && (s.core (s.team ti).core).cso.all fun e => g.2.joined ≤ e.entered

/-- Is a group no longer blocked (R196, R266, R271)? -/
def Team.unblocked (t : Team) (g : Group) : Bool :=
  !g.ended && match g.block with
    | none => true
    | some b => match b.kind with
      | .bwait bar phase => (t.bar bar).phase ≠ phase
      | .qpop q => (t.stream q).canPop
      | _ => false

/-- May a swapped-out team enter again (R314)? -/
def State.mayEnter (s : State) (ti : Nat) (t : Team) : Bool :=
  t.status = .out && s.contextFinal ti && match t.cause with
    | .fault => t.resumed
    | .blocked => t.groups.any fun g => t.unblocked g.2
    | _ => true

/-- What can be placed: a team that exists, or the next team of a grid. -/
inductive Cand where
  | team (ti : Nat)
  | grid (id : Nat)
  deriving DecidableEq, Repr

/-- A candidate for placement: its demands, since when it waits, and whether it was reclaimed. -/
structure Waiting where
  cand : Cand
  team : Team
  since : Nat
  reclaimed : Bool
  deriving DecidableEq, Repr

/-- The next team of a grid, as its demands. -/
def State.nextOf (s : State) (p : Nat) (g : Grid) : Team :=
  teamOf g.rec_ p g.queue ((s.part p).queue g.queue).fen g g.next
    (g.next % g.rec_.gx, g.next / g.rec_.gx % g.rec_.gy, g.next / (g.rec_.gx * g.rec_.gy)) (0, 0)

/-- The lowest by grid and linear number. -/
def firstTeam (ts : List (Nat × Team)) : Option (Nat × Team) :=
  ts.foldl (fun m t => match m with
    | none => some t
    | some u => if t.2.seq < u.2.seq ∨ (t.2.seq = u.2.seq ∧ t.2.linear < u.2.linear) then some t else some u) none

/-- The first waiting team of a queue (R314, R315): reclaimed, other swapped, then not started. -/
def State.firstWaiting (s : State) (p q : Nat) : Option Waiting :=
  let x := s.part p
  let held (f : Nat) : Bool := x.hold.contains f
  let ts := s.teams.filter fun t => !t.2.system && t.2.pid = p && t.2.queue = q && !held t.2.fen
  let some_ (r : Bool) (t : Nat × Team) : Waiting := { cand := .team t.1, team := t.2, since := t.2.since, reclaimed := r }
  let back := firstTeam (ts.filter fun t => t.2.cause = .reclaim && s.mayEnter t.1 t.2)
  let swapped := firstTeam (ts.filter fun t => t.2.cause ≠ .reclaim && s.mayEnter t.1 t.2)
  let cont := firstTeam (ts.filter fun t => t.2.status = .waiting && (x.grid t.2.grid).any fun g => !g.stop)
  let fresh := x.grids.find? fun g => g.queue = q && x.ready g && !g.started
  match back with
  | some t => some (some_ true t)
  | none => match swapped with
    | some t => some (some_ false t)
    | none => match cont, fresh with
      | some t, some g =>
        if t.2.seq < g.seq then some (some_ false t)
        else some { cand := .grid g.id, team := s.nextOf p g, since := g.since, reclaimed := false }
      | some t, none => some (some_ false t)
      | none, some g => some { cand := .grid g.id, team := s.nextOf p g, since := g.since, reclaimed := false }
      | none, none => none

/-- The time slice in nanoseconds (R309). -/
def Part.slice (x : Part) : Nat := 1000 * max 50 (min 10000 x.tsl)

/-- The save slot of a candidate: the one that it holds, or one that can be reserved (R315, R322). -/
def State.slotFor (s : State) (p : Nat) (w : Waiting) : Option (Nat × Nat) :=
  match w.cand with
  | .team ti => (s.team ti).slot
  | .grid _ => (s.findSlot p w.team.slotUnits false).map fun u => (u, w.team.slotUnits)

/-- The cores that a candidate fits, in the order in which they are chosen (R315). -/
def State.coresFor (s : State) (p : Nat) (w : Waiting) : List Nat :=
  if (s.slotFor p w).isNone then []
  else ((List.range 192).map fun i => ((s.part p).lastCore + 1 + i) % 192).filter fun c => s.fits w.team c

/-- The enabled queues of a priority, after the one chosen last there; those with reclaimed teams come first (R315,
R330). -/
def State.queuesAt (s : State) (p prio : Nat) : List Nat :=
  let x := s.part p
  let last := x.lastQueue.get 63 prio
  let qs := ((List.range 64).map fun i => (last + 1 + i) % 64).filter fun q => (x.queue q).en && (x.queue q).prio = prio
  let r (q : Nat) : Bool := (s.firstWaiting p q).any (·.reclaimed)
  qs.filter r ++ qs.filter fun q => !r q

/-- The first queue of a list whose first waiting team fits some core, with those cores. -/
def State.scanQueues (s : State) (p : Nat) : List Nat → Option (Waiting × List Nat)
  | [] => none
  | q :: qs =>
    match s.firstWaiting p q with
    | none => s.scanQueues p qs
    | some w => if s.coresFor p w ≠ [] then some (w, s.coresFor p w) else s.scanQueues p qs

/-- Does a team hold back the other queues of its priority and below: one that fits no core and has waited unplaced for a time
slice (R315), or a reclaimed one (R330)? -/
def State.holdsBack (s : State) (p : Nat) (w : Waiting) : Bool :=
  w.reclaimed || (w.since + (s.part p).slice ≤ s.now && s.coresFor p w = [])

/-- Is the team for which the placing has stopped still waiting, in a queue that is enabled (R314, R315, log entry 102)? -/
def State.stillWaits (s : State) (p : Nat) (h : Holder) : Bool :=
  let x := s.part p
  (x.queue h.queue).en && ((s.teams.any fun t => !t.2.system && t.2.pid = p && t.2.grid = h.grid && t.2.linear = h.linear && !x.hold.contains t.2.fen
    && (t.2.status = .waiting || s.mayEnter t.1 t.2))
  || (x.grid h.grid).any fun g => x.ready g && !g.started && g.next ≤ h.linear && h.linear < g.rec_.teams)

/-- The team that holds back the others, of some queues in order: of several, one of the highest priority, and there the one for
which the placing has stopped already, then a reclaimed one, then the one that has waited longest (R315, log entry 102). -/
def State.holderOf (s : State) (p : Nat) (qs : List Nat) : Option Holder :=
  let prio (h : Holder) : Nat := ((s.part p).queue h.queue).prio
  let long : List (Holder × Nat) := qs.filterMap fun q => (s.firstWaiting p q).bind fun w =>
    if s.holdsBack p w then
      some ({ queue := q, grid := w.team.grid, linear := w.team.linear }, if w.reclaimed then 0 else w.since + 1)
    else none
  let kept := ((s.part p).holder.filter (s.stillWaits p)).toList.map fun h => (h, 0)
  ((kept ++ long).foldl (fun m x => match m with
    | none => some x
    | some y => if prio y.1 < prio x.1 ∨ (prio y.1 = prio x.1 ∧ x.2 < y.2) then some x else some y) none).map (·.1)

/-- The queue whose team holds back the others. -/
def State.holder (s : State) (p : Nat) (qs : List Nat) : Option Nat := (s.holderOf p qs).map (·.queue)

/-- The queues that may place a team, of some queues in order (R315): with a holder, those of higher priority and its own. -/
def State.openQueues (s : State) (p : Nat) (qs : List Nat) : List Nat :=
  match s.holder p qs with
  | none => qs
  | some h => (qs.filter fun q => ((s.part p).queue h).prio < ((s.part p).queue q).prio) ++ [h]

/-- The queues of a partition, priority 7 first. -/
def State.queueOrder (s : State) (p : Nat) : List Nat := (List.range 8).flatMap fun i => s.queuesAt p (7 - i)

/-- The placing from other queues stops until the team that holds them back is placed (R315). -/
def State.keepHolder (s : State) (p : Nat) : State :=
  if (s.part p).en then s.modPart p fun x => { x with holder := s.holderOf p (s.queueOrder p) } else s

/-- NextTeam of R315, with the cores that it fits. -/
def State.nextTeam (s : State) (p : Nat) : Option (Waiting × List Nat) := s.scanQueues p (s.openQueues p (s.queueOrder p))

/-! ## Placement -/

/-- Groups bound to each port of a core. -/
def State.portCounts (s : State) (c : Nat) : List Nat :=
  (List.range 4).map fun p => sumOf (fun t => (t.2.groups.filter fun g => g.2.port = p).length) (s.teamsOn c)

/-- The port with the fewest groups, the lowest on a tie (R69). -/
def leastPort (counts : List Nat) : Nat :=
  (List.range 4).foldl (fun m p => if counts.getD p 0 < counts.getD m 0 then p else m) 0

/-- Groups bound to ports, ascending (R69). -/
def bindPorts : List Nat → SMap Group → SMap Group
  | _, [] => []
  | counts, (gi, g) :: gs =>
    let p := leastPort counts
    (gi, { g with port := p }) :: bindPorts (counts.set p (counts.getD p 0 + 1)) gs

/-- A flag number that names no flag. -/
def noFlag : Nat := 15

/-- Does a register write go to a register that a recipe keeps (R312)? -/
def RegW.keptBy (kv ks : Nat) : RegW → Bool
  | .v _ n _ => bitOf kv n
  | .s n _ => bitOf ks n
  | .p _ _ _ => false

/-- An operation in flight when its group flashes back goes on, counted on no flag, and writes the kept registers only (R326, R327,
log entry 70). -/
def Pending.flashed (kv ks : Nat) (p : Pending) : Pending :=
  { p with flag := noFlag, writes := p.writes.filter (RegW.keptBy kv ks) }

/-- A group that was flashed back restarts at its recipe's entry (R100, R327): registers that are not kept hold free
values. DESIGN CHOICE (log entry 70): deferred causes that wait for a header or a fence still do (R33). -/
def Group.flashBack (g : Group) (base kv ks entry regs : Nat) : Group :=
  let mode := (g.fb.map (·.2)).getD g.fbRec.2
  let v := lanes32.foldl (fun m l => (List.range regs).foldl (fun m r =>
    if r = 127 ∨ bitOf kv r then m
    else SMap.put 0 m (vkey l r) ((Config.freeValue (base + vkey l r)).setWidth 32)) m) g.v
  let sr := (List.range 63).foldl (fun m r =>
    if bitOf ks r then m else SMap.put 0 m r (Config.freeValue (base + 4096 + r))) g.s
  let p := (List.range 7).foldl (fun m r => SMap.put 0 m r ((Config.freeValue (base + 4160 + r)).setWidth 32)) g.p
  { g with
    entries := [(0, newSplinter (pcOf entry) noFrame mode (~~~g.exited))], frames := [], cf := [], pend := g.pend.map (Pending.flashed kv ks)
    block := none, v := v, s := sr, p := p }

/-- Every group that was flashed back restarts; what it had started counts on no flag (R327). -/
def State.flashAll (s : State) (ti : Nat) : State :=
  let t := s.team ti
  t.flashed.foldl (fun s f =>
    let s := s.modGroup ti f.1 fun g => g.flashBack s.nfree f.2.1 f.2.2.1 f.2.2.2 (roleBudget t f.1)
    let s := s.modTeam ti fun t => { t with sedge := t.sedge.map fun o => if o.group = f.1 then { o with flag := noFlag } else o }
    { s with
      nfree := s.nfree + 4168
      enqs := s.enqs.map fun e => if e.team = ti ∧ e.group = f.1 then { e with flag := noFlag } else e }) s

/-- What the part finds when it reads a team's slot back: the header as memory of fen 0x00, the rest so for an open fen only
(R322). -/
def State.slotErr (s : State) (t : Team) : Option (LineErr × Nat) :=
  let fen := if s.sealedFen t.fen then t.fen else 0
  (s.slotPa t).bind fun a =>
    (s.rangeErr 0 a 256).orElse fun _ => t.image.findSome? fun w => s.rangeErr fen (a + 8 * w.1) 8

/-- A swapped-out team becomes resident again (R69, R162, R243, R328). -/
def State.enterCore (s : State) (ti c : Nat) : State :=
  let s := s.flashAll ti
  let t := s.team ti
  let counts := s.portCounts c
  let groups := bindPorts counts (t.groups.map fun g => (g.1, { g.2 with
    floor := s.nextId, joined := 0, block := g.2.block.map fun b => { b with since := s.now } }))
  let stamp := (t.groups.map fun g => g.2.lastsc.c).foldl max 0
  let ops := acceptRecords 0 0 t.sedge
  let s := s.modCore c fun k => { k with
    sedge := k.sedge ++ ops, locks := k.locks ++ t.locks, clock := max k.clock stamp }
  let s := s.setTeam ti { t with
    status := .resident, core := c, since := s.now, cause := .none, fqidx := none, resumed := false, flashed := []
    image := [], sedge := [], locks := [], groups := groups }
  (ops.map (·.op)).eraseDups.foldl (fun s op => s.sedgeFinish c op) (s.writeHeader ti)

/-- A swapped-out team is read back from its slot: with a corrupt saved context it is ended with what was found (R37, log entry
117), else it becomes resident. -/
def State.reenter (s : State) (ti c : Nat) : State :=
  let t := s.team ti
  match s.slotErr t with
  | some (e, pa) => ((if isMc e.code then s.logMem e.code pa true else s).endTeam ti e.code 0 false)
  | none => s.enterCore ti c

/-- The next team of a grid starts on a core (R16, R142, R315). -/
def State.start (s : State) (p : Nat) (g : Grid) (t : Team) (slot : Nat × Nat) (c : Nat) : State :=
  let ti := max s.nextId (s.teams.keys.foldl max 0) + 1
  let groups : SMap Group := (List.range (t.np + t.nc)).map fun gi =>
    (gi, Group.launched g.rec_.entry t.linear gi (BitVec.allOnes 32) s.nextId)
  let groups := bindPorts (s.portCounts c) groups
  let s := { s with nextId := ti + 1 }
  let s := s.setTeam ti { t with status := .resident, core := c, since := s.now, slot := some slot, groups := groups }
  let s := s.modPart p fun x => x.modGrid g.id fun g => { g with next := g.next + 1, live := g.live + 1 }
  s.writeHeader ti

/-- A grid whose first team is placed has started (R318). -/
def State.begin1 (s : State) (p id : Nat) : State :=
  match (s.part p).grid id with
  | some g =>
    if g.begun then s
    else (s.modPart p fun x => x.modGrid id fun g => { g with begun := true }).journal p g 1 false false
  | none => s

/-- Place of R315: a core on which a team of the fen is resident, else the next one. -/
def State.place (s : State) (p : Nat) (w : Waiting) (cs : List Nat) : State :=
  let near := cs.find? fun c => (s.teamsOn c).any fun t => t.2.fen = w.team.fen && t.2.status = .resident
  match near.orElse (fun _ => cs.head?), s.slotFor p w with
  | some c, some slot =>
    let prio := ((s.part p).queue w.team.queue).prio
    let s := s.modPart p fun x => { x with lastCore := c, lastQueue := SMap.put 63 x.lastQueue prio w.team.queue }
    match w.cand with
    | .team ti => (s.reenter ti c).begin1 p w.team.grid
    | .grid id => match (s.part p).grid id with
      | some g => (s.start p g w.team slot c).begin1 p id
      | none => s
  | _, _ => s

/-- TEAM_PLACE (R315, R328) -/
def execTeamPlace (pid : Nat) (s : State) : Host.Outcome State Fault Refusal :=
  if !(s.part pid).en then .next s
  else match s.nextTeam pid with
  | some (w, cs) => .next (s.place pid w cs)
  | none => .next s

/-! ## Displacement -/

/-- A state in which some teams have left their core. -/
def State.without (s : State) (tis : List Nat) : State :=
  { s with teams := s.teams.map fun t => (t.1, if tis.contains t.1 then { t.2 with status := .out } else t.2) }

/-- Is a resident team's every non-exited group blocked for the park threshold (R316)? -/
def State.parkedLong (s : State) (t : Team) : Bool :=
  let pth := 1000 * (s.part t.pid).pth
  pth ≠ 0 && t.groups.any (fun g => !g.2.ended) && t.groups.all fun g =>
    g.2.ended || match g.2.block with
      | some b => (match b.kind with
        | .park => true
        | .qpop _ => true
        | .bwait _ _ => true
        | _ => false) && b.since + pth ≤ s.now
      | none => false

/-- Does a waiting team fit a core once some of its teams have left it? -/
def State.fitsWithout (s : State) (w : Waiting) (c : Nat) (out : List Nat) : Bool :=
  (s.without out).fits w.team c && ((s.without out).slotFor w.team.pid w).isSome

/-- Can a waiting team use what a blocked team holds, with other teams that are blocked as long on its core swapped out beside
it (R316)? The first of them with which it fits are taken, and it must not fit without the team's own (log entry 68). -/
def State.canUse (s : State) (w : Waiting) (c ti : Nat) : List Nat → List Nat → Bool
  | [], more => s.fitsWithout w c (ti :: more) && !s.fitsWithout w c more
  | x :: xs, more => if s.fitsWithout w c (ti :: more) then !s.fitsWithout w c more else s.canUse w c ti xs (more ++ [x])

/-- The other teams of a team's core that may be swapped out for being blocked. -/
def State.alsoParked (s : State) (ti : Nat) : List Nat :=
  (s.teams.filter fun x => x.1 ≠ ti && x.2.core = (s.team ti).core && x.2.status = .resident && !x.2.system
    && s.parkedLong x.2).map (·.1)

/-- PARK_THRESHOLD_SWAP (R316): when a waiting team can use what the blocked team holds -/
def execParkThresholdSwap (team : Nat) (s : State) : Host.Outcome State Fault Refusal :=
  let t := s.team team
  let wanted := (s.queueOrder t.pid).any fun q =>
    (s.firstWaiting t.pid q).any fun w => s.canUse w t.core team (s.alsoParked team) []
  if t.status = .resident ∧ !t.system ∧ s.parkedLong t ∧ wanted then .next (s.haltTeam team .blocked) else .next s

/-- May a waiting team displace a resident one (R316)? -/
def State.mayDisplace (s : State) (p prio : Nat) (t : Team) : Bool :=
  let x := s.part p
  t.status = .resident && t.pid = p
    && ((x.queue t.queue).prio < prio || ((x.queue t.queue).prio = prio && t.since + x.slice ≤ s.now))

/-- Teams of one fen on one core, displaced together (R326). -/
structure Victim where
  core : Nat
  teams : List Nat
  /-- the lowest priority among them, and the longest residency -/
  prio : Nat
  since : Nat
  deriving DecidableEq, Repr

/-- Who may be displaced on a core (R316, R326): the teams of a fen when each of them may be. -/
def State.victimsOn (s : State) (p prio c : Nat) : List Victim :=
  let ts := s.teams.filter fun t => t.2.core = c && t.2.status = .resident
  let fens := (ts.map fun t => t.2.fen).eraseDups.filter fun f =>
    ts.all fun t => t.2.fen ≠ f || s.mayDisplace p prio t.2
  fens.map fun f =>
    let mine := ts.filter fun t => t.2.fen = f
    { core := c, teams := mine.map (·.1), prio := (mine.map fun t => ((s.part p).queue t.2.queue).prio).foldl min 7
      since := (mine.map fun t => t.2.since).foldl min s.now }

/-- All who may be displaced for a waiting team: the lowest priority first, then the longest residency (R316). -/
def State.victims (s : State) (p prio : Nat) : List Victim :=
  sortBy (fun a b => a.prio < b.prio || (a.prio = b.prio && a.since ≤ b.since)) ((List.range 192).flatMap (s.victimsOn p prio))

/-- The teams to displace so that a waiting team fits (R316): victims in order, until with those taken on one core it fits
there; the others stay (log entry 68). -/
def State.evict (s : State) (w : Team) : List Victim → List Victim → Option (List Nat)
  | [], _ => none
  | v :: vs, seen =>
    let out := ((seen ++ [v]).filter fun x => x.core = v.core).flatMap (·.teams)
    if (s.without out).fits w v.core then some out else s.evict w vs (seen ++ [v])

/-- The teams that one waiting team displaces, if it fits no core and can (R316). -/
def State.displaced (s : State) (p q : Nat) : Option (List Nat) :=
  (s.firstWaiting p q).bind fun w =>
    if (s.slotFor p w).isSome ∧ s.coresFor p w = [] then s.evict w.team (s.victims p ((s.part p).queue q).prio) [] else none

/-- TIME_SLICE_EXPIRY (R316): a waiting team that fits no core displaces teams -/
def execTimeSliceExpiry (pid : Nat) (s : State) : Host.Outcome State Fault Refusal :=
  if !(s.part pid).en then .next s
  else match (s.queueOrder pid).findSome? (s.displaced pid) with
  | some out => .next (out.foldl (fun s ti => s.haltTeam ti .preempt) s)
  | none => .next s

/-! ## Saved contexts -/

/-- The groups of a team that flash back (R327): those whose record is valid, after a pre-emption or a reclaim. -/
def State.flashSet (s : State) (t : Team) : SMap (Nat × Nat × Nat) :=
  if t.cause = .preempt ∨ t.cause = .reclaim then
    t.groups.filterMap fun g => match g.2.fb with
      | some (n, _) => if g.2.ended then none
          else (s.recipe t n.toNat).map fun r => (g.1, r.keepV, r.keepS, r.entry)
      | none => none
  else []

/-- The machine checks that the reads of the recipes meet are logged (R37, R385). -/
def State.recipeProbe (s : State) (t : Team) : State :=
  if t.rtab ≠ 0 ∧ (t.cause = .preempt ∨ t.cause = .reclaim) then
    t.groups.foldl (fun s g => match g.2.fb with
      | some (n, _) => s.fenProbe t.fen (t.recipeAt n.toNat) 32
      | none => s) s
  else s

/-- Time that a group spent blocked in `qpop` while its team was resident (R268). -/
def Team.addStalls (t : Team) : Team :=
  t.groups.foldl (fun t g => match g.2.block with
    | some { kind := .qpop q, .. } =>
      t.setStream q { t.stream q with stall := (t.stream q).stall + g.2.stalledOn t.since (t.stream q).start q }
    | _ => t) t

/-- CONTEXT_SAVE_COMPLETE (R326 steps 6 and 7, R327) -/
def execContextSaveComplete (team : Nat) (s : State) : Host.Outcome State Fault Refusal :=
  match s.teams.find team with
  | none => .next s
  | some t =>
    if t.status ≠ .saving then .next s
    else
      let t := { t.addStalls with status := .out, flashed := s.flashSet t }
      .next (((s.recipeProbe t).setTeam team t).saveImage team)

/-! ## Retirement -/

/-- Has everything that an ended team issued completed (R24, R275)? -/
def State.mayRetire (s : State) (ti : Nat) : Bool :=
  s.contextFinal ti && s.enqs.all (fun o => o.team ≠ ti)
    && s.reed.cfg.all (fun r => r.team ≠ ti)
    && (s.team ti).groups.all fun g => g.2.sq.isEmpty && g.2.pend.isEmpty

/-- TEAM_RETIRE (R24, R301, R317): a team's remap entries stop delivering to it, and its grid may complete -/
def execTeamRetire (team : Nat) (s : State) : Host.Outcome State Fault Refusal :=
  match s.teams.find team with
  | none => .next s
  | some t =>
    if t.status ≠ .ended ∨ !s.mayRetire team then .next s
    else
      let s := s.modCore t.core fun k => { k with l1Floor := max k.l1Floor (t.groups.foldl (fun n g => max n g.2.floor) 0) }
      let s := { s with
        teams := s.teams.del team
        reed := { s.reed with remap := s.reed.remap.map fun e =>
          (e.1, if e.2.uid = some team then { e.2 with mode := 2, uid := none } else e.2) } }
      if t.system then .next s
      else
        let s := s.modPart t.pid fun x => x.modGrid t.grid fun g => { g with live := g.live - 1 }
        .next (s.tryFinish t.pid t.grid)

end Sys2Proof.Machine
end

