-- ==== Sys2Proof/Machine/DistWords.lean ====
section
/-!
DEFINITION. The distributor's words: `enq` (R320), `rsub` (R321), `launch` (R319), `preempt` (R329), `resume` (R325),
`lend` and `reclaim` (R330); the copy of an enqueued record, and writes of the distributor's registers.
-/
namespace Sys2Proof.Machine

/-- A word of system software that names uniform registers: its own checks at stage 2 (R30, R58). -/
def sysW (op : Nat) (i : Instr) (ss : List Nat) (pre : Ctx → State → Except Flt Unit := fun _ _ => .ok ()) : Word :=
  { op := op, legal := wellFormed i, ss := ss, pre := pre }

/-- A uniform register as a number. -/
def Ctx.sv (c : Ctx) (n : Nat) : Nat := (c.grp.readS n).toNat

/-- The result of a word of system software in a uniform register. -/
def Ctx.result (c : Ctx) (d x : Nat) (s : State) : State :=
  s.modGroup c.ti c.gi fun g => g.writeS d (BitVec.ofNat 64 x)

/-! ## `enq` -/

/-- The queue that an `enq` names: an immediate above 63 names none. -/
def Ctx.enqQueue (c : Ctx) (b : Src) : Nat :=
  match b with
  | .imm n => n.toNat
  | _ => (c.uniB b).toNat

/-- The stage 2 check of `enq` (R320). DESIGN CHOICE (log entry 124): DST_PCTL.EN is not looked at, only the queue's own enable,
as R320 has it, where R309 says that a partition accepts work with EN = 1. -/
def Ctx.enqCheck (c : Ctx) (b : Src) (s : State) : Except Flt Unit :=
  let q := c.enqQueue b
  if c.team.system || 64 ≤ q || !s.isPart c.team.pid || !((s.part c.team.pid).queue q).en then .error { cause := 0xA0 }
  else .ok ()

/-- The acceptance of an `enq` (R320). -/
def Ctx.acceptEnq (c : Ctx) (q ra pa : Nat) (s : State) : State :=
  let p := c.team.pid
  let nseqs := (List.range 64).map fun k => ((s.part p).queue k).nseq
  let (g, s) := s.takeSlot p q 1 (lrecOf 0) (some c.ti) true
  let (id, s) := s.fresh
  let s := s.modCore c.team.core fun k => { k with locks := k.locks ++ [{
    id := id, fen := c.fen, team := c.ti, src := some { spad := false, lo := ra % 2 ^ 57, len := 64 }, dst := none }] }
  let s := s.modGroup c.ti c.gi fun g => g.flagUp (c.flagNo 0x1B0)
  { s with enqs := s.enqs ++ [{
    id := id, team := c.ti, group := c.gi, core := c.team.core, pid := p, grid := g.id, va := ra, pa := pa, fen := c.fen
    flag := c.flagNo 0x1B0, nseqs := nseqs }] }

/-- `enq` (R311, R320) -/
def execEnq (b : Src) (p : BitVec 3) (a : BitVec 7) (s : State) : Host.Outcome State Fault Refusal :=
  issue
    { op := 0x1B0, legal := wellFormed (.enq b p a), vs := [a.toNat], ss := b.ss, pairs := fun _ => [a.toNat]
      pre := fun c s => c.enqCheck b s
      engineOk := fun c s => if ((s.part c.team.pid).queue (c.enqQueue b)).fen = c.fen then .ok () else .error { cause := 0xB4 } }
    (fun c s =>
      let q := c.enqQueue b
      let l := (s.part c.team.pid).queue q
      let ra := (c.grp.readV2 (lowLane c.active) a.toNat).toNat
      match s.chk c { op := 0x1B0, bytes := 64, r := true, w := false, kind := 1 } false ra with
      | .bad cause addr mc => .raise { c.leaderFlt cause addr 1 with mcpa := mc } s
      | .unsup => .stall
      | .ok x =>
        let ok := l.held < 2 ^ l.log2
        if ok && !(s.core c.team.core).lockRoom 1 then .stall
        else
          let s := s.setGroup c.ti c.gi (c.grp.writePs p.toNat c.active (if ok then BitVec.allOnes 32 else 0))
          .ok (if ok then c.acceptEnq q ra x.pa s else s)) s

/-- ENQ_RECORD_COPY (R164, R320): the record goes from the program's memory into its slot, and is judged there -/
def execEnqRecordCopy (idx : Nat) (s : State) : Host.Outcome State Fault Refusal :=
  match s.enqs[idx]? with
  | none => .next s
  | some o =>
    if !s.storesBefore o.team o.group o.id then .next s
    else
      let s := { s with enqs := dropAt s.enqs idx }
      let bars := (s.teams.find o.team).map (·.nbar)
      let err := s.lineErr o.fen (o.pa / 64)
      let (s, cause) := match err, (s.part o.pid).grid o.grid with
        | none, some g =>
          let bs := s.readBytes o.fen o.pa 64
          let r := lrecOf (natLE bs)
          let s := s.ownWrite 0 g.lrec bs
          let s := s.modPart o.pid fun x => x.modGrid o.grid fun g => { g with rec_ := r }
          (s, r.reject (s.part o.pid) bars fun k => o.nseqs.getD k 0)
        | some e, _ => (s, e.code)
        | none, none => (s, 0)
      let s := (s.modGroup? o.team o.group fun g => g.flagDown o.flag).unlock o.core o.id
      let s := match err with
        | some e =>
          s.failLate o.team o.group
            (asyncFault o.flag e.code o.va (if isMc e.code then some o.pa else none) (BitVec.allOnes 32))
        | none => s
      .next (s.judge o.pid o.grid cause)

/-! ## `rsub` -/

/-- `rsub` (R321): its flag counts it in and out at once -/
def execRsub (d a : BitVec 7) (b : BitVec 6) (s : State) : Host.Outcome State Fault Refusal :=
  issue
    { op := 0x1B1, legal := wellFormed (.rsub d a b), vs := [d.toNat, a.toNat], ss := [b.toNat]
      pairs := fun _ => [a.toNat]
      ready := fun c s => (s.part c.team.pid).deposits + c.lanes.length ≤ 4096 }
    (fun c s =>
      if c.team.system || ((s.part c.team.pid).grid c.team.grid).all (·.stop) then .ok s
      else
        let tmpl := c.sv b.toNat
        let key (l : Nat) : Nat := (c.grp.readV l d.toNat).toNat % 2 ^ 16
        let put (bs : List Bin) (l : Nat) : List Bin :=
          depositIn c.team.grid tmpl (key l) s.now (c.grp.readV2 l a.toNat) bs
        .ok (s.modPart c.team.pid fun x => { x with bins := c.lanes.foldl put x.bins })) s

/-! ## `launch` -/

/-- The target check of `launch` (R319): PID and queue, and no other bit. -/
def launchTarget (v : Nat) : Except Flt Unit := if bitsOf v 12 52 ≠ 0 then .error { cause := 0xA2 } else .ok ()

/-- `launch` (R311, R319, R392) -/
def execLaunch (d a : BitVec 6) (n : BitVec 7) (s : State) : Host.Outcome State Fault Refusal :=
  issue
    { sysW 0x1B8 (.launch d a n) [d.toNat, a.toNat] (fun c _ => launchTarget (c.sv a.toNat)) with
      ready := fun c s => s.storesAt c.ti c.gi 3 }
    (fun c s =>
      let p := bitsOf (c.sv a.toNat) 0 6
      let q := bitsOf (c.sv a.toNat) 6 6
      let l := (s.part p).queue q
      if !s.isPart p || s.sys.gated.getLsbD p || !(s.part p).en || !l.en then .ok (c.result d.toNat (2 * 2 ^ 56) s)
      else if 2 ^ l.log2 < l.held + n.toNat + 8 then .ok (c.result d.toNat (2 ^ 56) s)
      else
        let s := (List.range n.toNat).foldl (fun s _ => s.launchOne p q) s
        .ok (c.result d.toNat (l.nseq + n.toNat * 2 ^ 48) s)) s

/-! ## `preempt` -/

/-- `preempt` (R329): it retires when the teams are halted -/
def execPreempt (d a : BitVec 6) (s : State) : Host.Outcome State Fault Refusal :=
  issue
    (sysW 0x1B9 (.preempt d a) [d.toNat, a.toNat] fun c _ =>
      let v := c.sv a.toNat
      if 191 < bitsOf v 0 8 ∨ bitsOf v 17 47 ≠ 0 then .error { cause := 0xA2 } else .ok ())
    (fun c s =>
      let v := c.sv a.toNat
      let fen := bitsOf v 8 8
      let tis := (s.teams.filter fun t => t.2.status = .resident && t.2.core = bitsOf v 0 8 && (fen = 0xFF || t.2.fen = fen)).map (·.1)
      let s := tis.foldl (fun s ti => s.haltTeam ti .preempt) s
      let s := if bitOf v 16 ∧ fen ≠ 0xFF ∧ fen ≠ 0 ∧ (s.fen fen).v then
          s.modPart (s.fen fen).pid fun x => { x with hold := if x.hold.contains fen then x.hold else sortBy (fun a b : Nat => a ≤ b) (fen :: x.hold) }
        else s
      .ok (c.result d.toNat tis.length s)) s

/-! ## `resume` -/

/-- The swapped team of a partition that holds a fault-queue index and has not been resumed (R324, R325). -/
def State.faulted (s : State) (p idx : Nat) : Option (Nat × Team) :=
  s.teams.find? fun t => !t.2.system && t.2.pid = p && (t.2.status = .out || t.2.status = .saving)
    && t.2.cause = .fault && t.2.fqidx = some idx && !t.2.resumed

/-- The checks of `resume` (R325): `pr` is the register of the PID. -/
def Ctx.resumeCheck (c : Ctx) (a pr : Nat) (s : State) : Except Flt Unit :=
  let v := c.sv pr
  if bitsOf v 6 58 ≠ 0 ∨ !s.isPart (v % 64) then .error { cause := 0xA2 }
  else if (s.faulted (v % 64) (c.sv a)).isNone then .error { cause := 0xA3 }
  else .ok ()

/-- The faulting splinter of a team goes past its word, unless the fault was deferred (R325). -/
def Team.skipWord (t : Team) : Team :=
  if t.faultDefer then t
  else
    let g := t.group t.faultAt.1
    match g.entries.find t.faultAt.2 with
    | some e => t.setGroup t.faultAt.1 (g.advance t.faultAt.2 e)
    | none => t

/-- A `resume` word: `f` disposes of the team (R325). -/
def resumeWord (i : Instr) (d a pr regs : Nat) (f : Ctx → Nat → Team → State → State) :
    State → Host.Outcome State Fault Refusal :=
  issue
    (sysW 0x1BA i ([d, a, pr] ++ sRange a regs) fun c s => c.resumeCheck a pr s)
    (fun c s =>
      match s.faulted (c.sv pr % 64) (c.sv a) with
      | some (ti, t) => .ok (c.result d 0 (f c ti t s))
      | none => .ok s)

/-- `resume` op 0 (R325): the faulting group restarts at its saved PC -/
def execResumeRestart (d a : BitVec 6) (s : State) : Host.Outcome State Fault Refusal :=
  resumeWord (.resumeRestart d a) d.toNat a.toNat (a.toNat + 1) 0 (fun _ ti t s => s.setTeam ti { t with resumed := true }) s

/-- `resume` op 1 (R325): the faulting word is skipped -/
def execResumeSkip (d a : BitVec 6) (s : State) : Host.Outcome State Fault Refusal :=
  resumeWord (.resumeSkip d a) d.toNat a.toNat (a.toNat + 1) 0
    (fun _ ti t s => s.setTeam ti { t.skipWord with resumed := true }) s

/-- `resume` op 2 (R325): as op 1, and `s0` to `s7` are written -/
def execResumeSkipArgs (d a : BitVec 6) (s : State) : Host.Outcome State Fault Refusal :=
  resumeWord (.resumeSkipArgs d a) d.toNat a.toNat (a.toNat + 9) 9
    (fun c ti t s =>
      let t := t.skipWord
      let g := (List.range 8).foldl (fun g k => g.writeS k (c.grp.readS (a.toNat + 1 + k))) (t.group t.faultAt.1)
      s.setTeam ti { t.setGroup t.faultAt.1 g with resumed := true }) s

/-- The core number of a team that is on no core. -/
def noCore : Nat := 255

/-- `resume` op 3 (R31, R325): the team is ended with the recorded cause -/
def execResumeEnd (d a : BitVec 6) (s : State) : Host.Outcome State Fault Refusal :=
  resumeWord (.resumeEnd d a) d.toNat a.toNat (a.toNat + 1) 0
    (fun _ ti t s =>
      let pc := ((t.group t.faultAt.1).entries.find t.faultAt.2).elim 0 fun e => e.pc.toNat
      let s := s.endTeam ti t.faultCause pc t.faultDefer
      s.modTeam ti fun t => { t with core := noCore }) s

/-! ## Lending -/

/-- The target check of `lend` and `reclaim` (R330). -/
def Ctx.lendCheck (v bits : Nat) (pid : Bool) (s : State) : Except Flt Unit :=
  if 191 < bitsOf v 0 8 ∨ v / 2 ^ bits ≠ 0 ∨ (pid && !s.isPart (bitsOf v 8 6)) then .error { cause := 0xA2 } else .ok ()

/-- `lend` (R330) -/
def execLend (d a : BitVec 6) (s : State) : Host.Outcome State Fault Refusal :=
  issue (sysW 0x1BB (.lend d a) [d.toNat, a.toNat] fun c s => Ctx.lendCheck (c.sv a.toNat) 14 true s) (fun c s =>
    let core := bitsOf (c.sv a.toNat) 0 8
    if (s.core core).lent.isSome ∨ s.teamsOn core ≠ [] then .ok (c.result d.toNat 1 s)
    else
      let s := s.modCore core fun k => { k with lent := some (bitsOf (c.sv a.toNat) 8 6) }
      .ok (c.result d.toNat 0 s)) s

/-- Reclaimed cores whose teams are saved return to their owners (R326 step 7, R330). -/
def State.returnCores (s : State) : State :=
  let due := (s.cores.filter fun k => k.2.returning && !s.teams.any fun t => s.holdsBanks k.1 t).map (·.1)
  due.foldl (fun s c => s.modCore c fun k => { k with lent := none, returning := false }) s

/-- `reclaim` (R330): it retires when the core's teams are halted -/
def execReclaim (d a : BitVec 6) (s : State) : Host.Outcome State Fault Refusal :=
  issue (sysW 0x1BC (.reclaim d a) [d.toNat, a.toNat] fun c s => Ctx.lendCheck (c.sv a.toNat) 8 false s) (fun c s =>
    let core := bitsOf (c.sv a.toNat) 0 8
    if (s.core core).lent.isNone then .ok (c.result d.toNat 1 s)
    else
      let tis := (s.teams.filter fun t => t.2.status = .resident && t.2.core = core).map (·.1)
      let s := tis.foldl (fun s ti => s.haltTeam ti .reclaim) s
      let s := s.modCore core fun k => { k with returning := true }
      .ok (c.result d.toNat 0 s.returnCores)) s

/-! ## Register writes -/

/-- DST_QUEUE_WRITE (R310) -/
def execDstQueueWrite (pid queue word value : Nat) (s : State) : Host.Outcome State Fault Refusal :=
  .next (if queue < 64 ∧ word < 4 then s.dstWrite pid (0x1000 + 32 * queue + 8 * word) (BitVec.ofNat 64 value) (BitVec.allOnes 64) else s)

/-- DST_JBASE_WRITE (R308) -/
def execDstJbaseWrite (pid value : Nat) (s : State) : Host.Outcome State Fault Refusal :=
  .next (s.dstWrite pid 0x08 (BitVec.ofNat 64 value) (BitVec.allOnes 64))

/-- DST_FQBASE_WRITE (R308, R309) -/
def execDstFqbaseWrite (pid value : Nat) (s : State) : Host.Outcome State Fault Refusal :=
  .next (s.dstWrite pid 0x20 (BitVec.ofNat 64 value) (BitVec.allOnes 64))

/-- DST_FQRD_WRITE (R308, R309) -/
def execDstFqrdWrite (pid value : Nat) (s : State) : Host.Outcome State Fault Refusal :=
  .next (s.dstWrite pid 0x38 (BitVec.ofNat 64 value) (BitVec.allOnes 64))

/-- DST_HOLD_CLEAR (R308, R329) -/
def execDstHoldClear (pid word value : Nat) (s : State) : Host.Outcome State Fault Refusal :=
  .next (if word < 4 then s.dstWrite pid (0x60 + 8 * word) (BitVec.ofNat 64 value) (BitVec.allOnes 64) else s)

end Sys2Proof.Machine
end

