-- ==== Sys2Proof/Machine/FenWords.lean ====
section
/-!
DEFINITION. Fens, worlds and scrubs: `kslot` (R351), `kzero` (R352), `wlatch` (R344), `fset` (R338), `scrub` (R360), the
scrub engines (R357 to R361), and what writes of the fen guard's registers do as events (R341, R342).
-/
namespace Sys2Proof.Machine

/-- A word of the fen guard (R371): it waits for the group's earlier stores. -/
def guardW (op : Nat) (i : Instr) (ss : List Nat) (pre : Ctx → State → Except Flt Unit) : Word :=
  { sysW op i ss pre with ready := fun c s => s.storesAt c.ti c.gi 3 }

/-- A check at stage 2. -/
def need (ok : Bool) (cause : Nat) : Except Flt Unit := if ok then .ok () else .error { cause := cause }

/-- Are all bits of a value outside some fields zero? -/
def onlyBits (v : Nat) (fields : List (Nat × Nat)) : Bool :=
  v = (fields.map fun f => bitsOf v f.1 f.2 * 2 ^ f.1).foldl (· + ·) 0

/-- A fen's entry replaced. -/
def State.setFen (s : State) (f : Nat) (x : Fen) : State :=
  { s with guard := { s.guard with fens := SMap.put Fen.cold s.guard.fens f x } }

/-- A fen that has lost its last core slot is idle from now on (R366). -/
def State.idleFen (s : State) (f : Nat) : State :=
  if s.slotsOf f = 0 then s.setFen f { s.fen f with idle := some s.now } else s

/-! ## The scrub list -/

/-- Is an entry's index in the list (R358)? -/
def Scrubber.live (x : Scrubber) : List ScrubEnt :=
  (List.range x.length).filterMap fun i => x.entries.find ((x.head + i) % 64)

/-- Every entry of every list. -/
def State.scrubEnts (s : State) : List ScrubEnt := (List.range 4).flatMap fun d => (s.scrubber d).live

/-- Is a list full (R358)? -/
def Scrubber.full (x : Scrubber) : Bool := 64 ≤ x.length

/-- An entry queued (R357, R358). -/
def State.queueScrub (s : State) (d : Nat) (e : ScrubEnt) : State :=
  let x := s.scrubber d
  s.setScrubber d { x with entries := x.entries.ins (x.tail % 64) e, tail := (x.tail + 1) % 128 }

/-- The reuse latches and rendezvous entries of the teams on a core that bear one of some fens zeroed (R359). -/
def State.dropLatches (s : State) (core : Nat) (fen : Nat → Bool) : State :=
  (s.teams.filter fun t => t.2.core = core && t.2.status = .resident && fen t.2.fen).foldl (fun s t =>
    s.modTeam t.1 fun t => { t with
      rdvs := [], groups := t.groups.map fun g => (g.1, { g.2 with latch := Group.blank.latch, arrivedGang := none }) }) s

/-- One unit of an entry (R359); a unit of memory in a retired channel is not reached, and its machine check is logged (R385). -/
def State.scrubOne (s : State) (e : ScrubEnt) (unit : Nat) : State :=
  if e.kind = 1 then
    let pa := bitsOf e.spec.toNat 12 40 * 4096 + 4096 * unit
    if s.channelRetired pa then s.logMem LineErr.channel.code pa false
    else
    let s := (s.scrubRange pa 4096).touch pa 4096
    s.cores.keys.foldl (fun s c => s.modCore c fun k => { k with l1 := k.l1.filter fun x => !touches x.sector pa 4096 }) s
  else if unit ≠ 0 then s
  else (s.dropLatches e.core fun f => e.kind = 3 || f = e.fen).modCore e.core fun k =>
    if e.kind = 2 then { k with l1 := k.l1.filter (fun x => x.fen ≠ e.fen), sedge := k.sedge.filter fun o => o.fen ≠ e.fen }
    else { k with l1 := [], sedge := [], locks := [] }

/-- An entry has completed: the scrubbed spare takes the core's user number, which is DONE unless a command after that GO was
refused (R384), or a whole-core scrub latches the core's new world (R344, R359). -/
def State.scrubEnd (s : State) (e : ScrubEnt) : State :=
  let d := dieOfCore e.core
  let x := s.die d
  if e.kind ≠ 3 then s
  else if x.sparePend = some e.core then
    let s := s.modDie d fun x => { x with sparePend := none, spareUsed := true, spareDone := !x.spareErr }
    s.modCore e.core fun k => { k with retired := false, l1 := [], tlbs := [] }
  else s.modCore e.core fun k => if k.worldPend then { k with world := k.worldTarget, worldPend := false } else k

/-- A unit of a die's head entry (R357, R359). -/
def State.scrubStep (s : State) (d : Nat) : State :=
  let x := s.scrubber d
  match x.live.head? with
  | none => s
  | some e =>
    let s := s.scrubOne e x.done
    let x := { x with done := x.done + 1, total := x.total + 1 }
    if x.done < e.units then s.setScrubber d x
    else (s.setScrubber d { x with entries := x.entries.del (x.head % 64), head := (x.head + 1) % 128, done := 0 }).scrubEnd e

/-- SCRUB_UNIT (R359) -/
def execScrubUnit (die : Nat) (s : State) : Host.Outcome State Fault Refusal :=
  .next (if die < 4 ∧ !(s.scrubber die).paused then s.scrubStep die else s)

/-- SCRUB_RESUME (R361): after a warm reset the head entry restarts at unit DONE -/
def execScrubResume (die : Nat) (s : State) : Host.Outcome State Fault Refusal :=
  let x := s.scrubber die
  if x.paused then .next ((s.setScrubber die { x with paused := false, resumed := true }).scrubStep die) else .next s

/-! ## Fens -/

/-- `kslot` (R351) -/
def execKslot (d a : BitVec 6) (s : State) : Host.Outcome State Fault Refusal :=
  issue
    (guardW 0x1C8 (.kslot d a) [d.toNat, a.toNat] fun c s => do
      let v := c.sv a.toNat
      need (onlyBits v [(0, 9), (16, 6)] && within 1 0xFE (bitsOf v 0 8)) 0xB9
      need (s.scrubEnts.all fun e => e.fen ≠ bitsOf v 0 8) 0xB6)
    (fun c s =>
      let v := c.sv a.toNat
      let f := bitsOf v 0 8
      if (s.fen f).v then .ok (c.result d.toNat 1 s)
      else if !s.isPart (bitsOf v 16 6) then .ok (c.result d.toNat 4 s)
      else
        let s := s.setFen f { Fen.cold with
          v := true, world := bitOf v 8, pid := bitsOf v 16 6, key := Config.drbg s.nfree, idle := some s.now }
        .ok (c.result d.toNat 0 { s with nfree := s.nfree + 1 })) s

/-- Does something still name a fen, so that `kzero` refuses (R352)? -/
def State.fenBusy (s : State) (f : Nat) : Bool :=
  !(s.fen f).v || 0 < s.slotsOf f || s.parts.any (fun x => x.2.queues.any fun q => q.2.en && q.2.fen = f)
    || s.reed.handles.any (fun h => h.2.loaded && h.2.fen = f)
    || s.reed.ntbw.any (fun w => (windowOf w.2.toNat).v && (windowOf w.2.toNat).fen = f)
    || s.reed.remap.any fun e => e.2.v && e.2.fen = f

/-- A fen destroyed (R352). DESIGN CHOICE (log entry 125): its world becomes open with its other fields, so R356 lets other fens
read and take the lines that still carry its number, as the bytes that their own keys give. -/
def State.killFen (s : State) (f : Nat) : State :=
  let s := s.cores.keys.foldl (fun s c => s.modCore c fun k => { k with l1 := k.l1.filter fun x => x.fen ≠ f }) s
  let s := s.guard.funcs.keys.foldl (fun s i =>
    let x := s.func i
    if x.fen = f then s.setFunc i { x with fen := 0xFF } else s) s
  s.setFen f Fen.cold

/-- `kzero` (R352) -/
def execKzero (d a : BitVec 6) (s : State) : Host.Outcome State Fault Refusal :=
  issue
    (guardW 0x1C9 (.kzero d a) [d.toNat, a.toNat] fun c _ => need (within 1 0xFE (c.sv a.toNat)) 0xB9)
    (fun c s =>
      let f := c.sv a.toNat
      if s.fenBusy f then .ok (c.result d.toNat 1 s) else .ok (c.result d.toNat 0 (s.killFen f))) s

/-- Is a memory run permitted (R360)? -/
def runInside (pa n : Nat) : Bool :=
  let last := pa + 4096 * n - 1
  n ≠ 0 && match regionOf pa with
    | 0 => regionOf last = 0 && sliceOf pa = sliceOf last && paNames pa && paNames last
    | 1 => pa / 2 ^ 40 = last / 2 ^ 40
    | _ => false

/-- `scrub` (R360) -/
def execScrub (d a : BitVec 6) (s : State) : Host.Outcome State Fault Refusal :=
  issue
    (guardW 0x1CA (.scrub d a) (d.toNat :: sRange a.toNat 2) fun c _ =>
      let x := c.sv a.toNat
      let y := c.sv (a.toNat + 1)
      need (onlyBits x [(0, 2), (8, 8), (16, 24)] && bitsOf x 0 2 = 1 && onlyBits y [(12, 40)]
        && runInside y (bitsOf x 16 24)) 0xB9)
    (fun c s =>
      let x := c.sv a.toNat
      let pa := c.sv (a.toNat + 1)
      let die := if regionOf pa = 0 then dieOfPa pa else bitsOf pa 40 8 % 4
      let k := s.scrubber die
      if k.full then .ok (c.result d.toNat 2 s)
      else
        let s := s.queueScrub die { kind := 1, slot := 0, core := 0, fen := bitsOf x 8 8, units := bitsOf x 16 24
                                    spec := BitVec.ofNat 64 pa, acc := 0 }
        .ok (c.result d.toNat (k.tail * 2 ^ 8) s)) s

/-! ## Worlds and slots -/

/-- `wlatch` (R344) -/
def execWlatch (d a : BitVec 6) (s : State) : Host.Outcome State Fault Refusal :=
  issue
    (guardW 0x1CB (.wlatch d a) [d.toNat, a.toNat] fun c _ =>
      need (onlyBits (c.sv a.toNat) [(0, 9)] && bitsOf (c.sv a.toNat) 0 8 ≤ 191) 0xB9)
    (fun c s =>
      let core := bitsOf (c.sv a.toNat) 0 8
      let world := bitOf (c.sv a.toNat) 8
      let k := s.core core
      let die := dieOfCore core
      if world = k.world ∧ !k.worldPend then .ok (c.result d.toNat 0 s)
      else if k.slotUsed ∨ s.teamsOn core ≠ [] then .ok (c.result d.toNat 1 s)
      else if (s.scrubber die).full then .ok (c.result d.toNat 2 s)
      else
        let s := s.queueScrub die { kind := 3, slot := 0, core := core, fen := 0xFF, units := 321, spec := 0, acc := 0 }
        .ok (c.result d.toNat 0 (s.modCore core fun k => { k with worldPend := true, worldTarget := world }))) s

/-- BASE of a share field (R336). -/
def shareBase (x : BitVec 16) : Nat := bitsOf x.toNat 0 6

/-- Do two share fields overlap (R336)? -/
def shareMeets (x y : BitVec 16) : Bool :=
  shareCnt x ≠ 0 && shareCnt y ≠ 0 && shareBase x < shareBase y + shareCnt y && shareBase y < shareBase x + shareCnt x

/-- Do two slots' shares overlap in any of the five (R336)? -/
def FenSlot.meets (x y : FenSlot) : Bool :=
  shareMeets x.rf y.rf || shareMeets x.sp y.sp || shareMeets x.acc y.acc || x.l1 &&& y.l1 ≠ 0 || x.bs &&& y.bs ≠ 0

/-- Scratchpad banks of a split mode (R154). -/
def splitBanks (m : BitVec 2) : Nat :=
  match m.toNat with
  | 0 => 28
  | 1 => 24
  | 2 => 16
  | _ => 8

/-- Does a share field keep to a number of units (R336)? -/
def shareFits (x : BitVec 16) (n : Nat) : Bool := bitsOf x.toNat 13 3 = 0 && shareBase x + shareCnt x ≤ n

/-- May a slot of a core take shares beside the other slots (R336)? -/
def Core.shareOk (k : Core) (slot : Nat) (x : FenSlot) : Bool :=
  shareFits x.rf 64 && shareFits x.acc 64 && shareFits x.sp (splitBanks k.splitCur)
    && k.slots.all fun y => y.1 = slot || !x.meets y.2

/-- The shares of a kind 2 entry (R357). -/
def ScrubEnt.shares (e : ScrubEnt) : FenSlot :=
  { fen := e.fen, rf := e.spec.extractLsb' 0 16, sp := e.spec.extractLsb' 16 16, l1 := e.spec.extractLsb' 32 16
    bs := e.spec.extractLsb' 48 16, acc := e.acc }

/-- Does an entry keep a core's resources from being given out (R338, R362)? -/
def ScrubEnt.blocks (e : ScrubEnt) (core : Nat) (x : FenSlot) : Bool :=
  e.core = core && (e.kind = 3 || (e.kind = 2 && x.meets e.shares))

/-- What `fset` names (R338). -/
structure FsetArgs where
  core : Nat
  slot : Nat
  share : FenSlot

/-- The operands of `fset` (R338). -/
def Ctx.fsetArgs (c : Ctx) (a : Nat) : FsetArgs :=
  let x := c.sv a
  let y := c.sv (a + 1)
  { core := bitsOf x 0 8, slot := bitsOf x 8 2
    share := { fen := bitsOf x 16 8, rf := BitVec.ofNat 16 y, sp := BitVec.ofNat 16 (y / 2 ^ 16)
               l1 := BitVec.ofNat 16 (y / 2 ^ 32), bs := BitVec.ofNat 16 (y / 2 ^ 48), acc := BitVec.ofNat 16 (c.sv (a + 2)) } }

/-- The checks of `fset` at stage 2 (R338). -/
def Ctx.fsetCheck (c : Ctx) (a : Nat) (s : State) : Except Flt Unit := do
  let x := c.sv a
  let z := c.sv (a + 2)
  let r := c.fsetArgs a
  let f := r.share.fen
  need (onlyBits x [(0, 10), (16, 8)] && r.core ≤ 191 && f ≠ 0 && onlyBits z [(0, 16)]
    && (f ≠ 0xFF || (c.sv (a + 1) = 0 && z = 0))) 0xB9
  if f ≠ 0xFF then
    need ((s.fen f).v && (s.core r.core).shareOk r.slot r.share) 0xB9
    need (s.scrubEnts.all fun e => !e.blocks r.core r.share) 0xB6

/-- A slot assigned (R338): the status and the state. -/
def State.slotAssign (s : State) (r : FsetArgs) : Nat × State :=
  let k := s.core r.core
  let f := r.share.fen
  if (k.slots.find r.slot).isSome ∨ (k.slotOf f).isSome then (1, s)
  else if s.sealedFen f ≠ k.world ∨ k.worldPend then (3, s)
  else if s.partOfCore r.core ≠ some (s.fen f).pid ∧ k.lent ≠ some (s.fen f).pid then (4, s)
  else
    (0, (s.modCore r.core fun k => { k with slots := k.slots.ins r.slot r.share }).setFen f { s.fen f with idle := none })

/-- A slot released (R338): the status and the state. -/
def State.slotRelease (s : State) (r : FsetArgs) : Nat × State :=
  let k := s.core r.core
  let die := dieOfCore r.core
  match k.slots.find r.slot with
  | none => (0, s)
  | some x =>
    if (s.teamsOn r.core).any fun t => t.2.fen = x.fen then (1, s)
    else if (s.scrubber die).full then (2, s)
    else
      let s := s.queueScrub die {
        kind := 2, slot := r.slot, core := r.core, fen := x.fen, units := 2 * shareCnt x.rf + 4 * shareCnt x.sp + shareCnt x.acc + 1
        spec := x.bs ++ x.l1 ++ x.sp ++ x.rf, acc := x.acc }
      (0, (s.modCore r.core fun k => { k with slots := k.slots.del r.slot }).idleFen x.fen)

/-- `fset` (R338) -/
def execFset (d a : BitVec 6) (s : State) : Host.Outcome State Fault Refusal :=
  issue
    (guardW 0x1CC (.fset d a) (d.toNat :: sRange a.toNat 3) fun c s => c.fsetCheck a.toNat s)
    (fun c s =>
      let r := c.fsetArgs a.toNat
      let (st, s) := if r.share.fen = 0xFF then s.slotRelease r else s.slotAssign r
      .ok (c.result d.toNat st s)) s

/-! ## Register writes -/

/-- PARTITION_MAKE (R341) -/
def execPartitionMake (first size : Nat) (s : State) : Host.Outcome State Fault Refusal :=
  .next (s.makePart (first % 64) (size % 64))

/-- PARTITION_UNMAKE (R341) -/
def execPartitionUnmake (first size : Nat) (s : State) : Host.Outcome State Fault Refusal :=
  .next (s.unmakePart (first % 64) (size % 64))

/-- COPY_ENGINE_ASSIGN (R342) -/
def execCopyEngineAssign (engine value : Nat) (s : State) : Host.Outcome State Fault Refusal :=
  .next (if engine < 64 then s.engineWrite engine (BitVec.ofNat 64 value) (BitVec.allOnes 64) else s)

/-- COPY_ENGINE_ASSIGN_EFFECT (R342) -/
def execCopyEngineAssignEffect (engine : Nat) (s : State) : Host.Outcome State Fault Refusal :=
  .next (s.engineEffect engine)

end Sys2Proof.Machine
end

