-- ==== Sys2Proof/Machine/Attest.lean ====
section
/-!
DEFINITION. Measurement, evidence and release (R363 to R368), and the migration of functions (R369, R370, R383).
-/
namespace Sys2Proof.Machine

/-! ## Measurement -/

/-- `meas` (R363) -/
def execMeas (d a : BitVec 6) (s : State) : Host.Outcome State Fault Refusal :=
  issue
    (guardW 0x1CE (.meas d a) (d.toNat :: sRange a.toNat 7) fun c _ => need (onlyBits (c.sv a.toNat) [(0, 8)]) 0xB9)
    (fun c s =>
      let f := c.sv a.toNat
      let x := s.fen f
      let digest := (List.range 6).flatMap fun i => bytesLE 8 (c.sv (a.toNat + 1 + i))
      if !x.v then .ok (c.result d.toNat 1 s)
      else .ok (c.result d.toNat 0 (s.setFen f { x with meas := Crypto.sha384 (x.meas ++ digest), mseq := x.mseq + 1 }))) s

/-- Bytes that the fen guard writes into its own area (R366): no owner tag and no area bars it; another finding stops it as it
stops the part's other writes. -/
def State.guardWrite (s : State) (pa : Nat) (bs : List Byte) : State :=
  match s.rangeErr 0 pa bs.length with
  | some (.refused, _) => (s.writeBytes 0 pa bs).touch pa bs.length
  | _ => s.ownWrite 0 pa bs

/-- A fen's record of measurements saved in its 4 KiB of the area (R366): 64 bytes under a key that no fen holds, which are
free values here (log entry 78). -/
def State.saveMeasurement (s : State) (fen : Nat) : State :=
  let (xs, s) := s.frees 64 8
  s.guardWrite (s.guard.msbase + 4096 * fen) (xs.flatMap (bytesLE 8))

/-- FEN_MEASUREMENT_SAVE (R366): a fen without a slot for 1 ms, or a gated one, has its record saved -/
def execFenMeasurementSave (fen : Nat) (s : State) : Host.Outcome State Fault Refusal :=
  let x := s.fen fen
  if x.v ∧ s.slotsOf fen = 0 ∧ (s.fenState fen = 2 ∨ x.idle.any fun t => t + 1000000 ≤ s.now) then
    .next ((s.saveMeasurement fen).setFen fen { x with saved := true })
  else .next s

/-! ## Evidence -/

/-- The addresses of `n` bytes that an `attest` word reads or writes for a fen; none after an address failure, which a machine check
counts as (R367, log entry 128). -/
def State.spanOf (s : State) (fen : Nat) (write : Bool) (va n : Nat) : Option (List Nat) :=
  (List.range n).mapM fun i =>
    let a := (va + i) % 2 ^ 64
    if !canonical a then none
    else match s.walkXlate fen (a % 2 ^ 57) with
    | .error _ => none
    | .ok x =>
      if (if write then x.w else x.r) && isMemRegion x.pa && !(s.lineErr fen (x.pa / 64)).any (fun e => isMc e.code) then some x.pa
      else none

/-- Bytes at addresses as loads of a fen give them: those of a line with a finding are zero, or ones after an abort (R171, R356). -/
def State.spanRead (s : State) (fen : Nat) (pas : List Nat) : List Byte :=
  pas.map fun pa => match s.lineErr fen (pa / 64) with
    | some e => BitVec.ofNat 8 (s.errValue e).1
    | none => s.readByte fen pa

/-- The first finding on the lines of some bytes is deferred (R171, R356), to where a store's would be delivered, as `attest` counts
on no flag (log entry 128). -/
def State.spanDefer (s : State) (c : Ctx) (fen kind va : Nat) (pas : List Nat) : State :=
  match pas.zipIdx.findSome? fun x => (s.lineErr fen (x.1 / 64)).map fun e => (x.2, e.code) with
  | some (o, code) => s.defer c.ti c.gi {
      at_ := .store, cause := code, kind := kind, lanes := BitVec.allOnes 32, addr := (va + o) % 2 ^ 57, pa := 0, op := 0 }
  | none => s

/-- Bytes written at addresses as stores of a word's group (R156, R160, R367). -/
def State.storeSpan (s : State) (c : Ctx) (fen : Nat) (pas : List Nat) (bs : List Byte) : State :=
  (pas.zip bs).foldl (fun s x =>
    ((s.applyWrite fen x.1 [(x.2, 0xFF)]).dropL1 c.team.core x.1 1).markThrough c.ti (some c.gi) (s.nextId - 1) x.1) s

/-- The same, but for bytes of a line with a finding, which are dropped, and the finding deferred (R171, R356). -/
def State.spanStore (s : State) (c : Ctx) (fen va : Nat) (pas : List Nat) (bs : List Byte) : State :=
  let ok := (pas.zip bs).filter fun x => (s.lineErr fen (x.1 / 64)).isNone
  (s.storeSpan c fen (ok.map (·.1)) (ok.map (·.2))).spanDefer c fen 2 va pas

/-- PART_GEN of a fen's partition; fen 0x00 belongs to none. -/
def State.genOf (s : State) (f : Nat) : Nat := if f = 0 then 0 else (s.part (s.fen f).pid).gen

/-- The evidence record without its signature: bits [2303:0] (R365). -/
def State.evidence (s : State) (fen fn : Nat) (nonce : List Byte) (eph : Option Nat) : List Byte :=
  let x := s.fen fen
  let q := eph.map Crypto.ecPub
  let point (f : Nat × Nat → Nat) : List Byte := match q with
    | some q => bytesBE 48 (f q)
    | none => List.replicate 48 0
  bytesLE 8 (1 + fen * 2 ^ 16 + fn * 2 ^ 24 + s.fenState fen * 2 ^ 32 + b2n x.world * 2 ^ 34 + b2n eph.isSome * 2 ^ 35)
    ++ bytesLE 8 (s.genOf fen) ++ bytesLE 8 s.now ++ bytesLE 8 x.mseq ++ nonce ++ s.guard.fwmeas ++ x.meas
    ++ point (·.1) ++ point (·.2) ++ List.replicate 32 0

/-- The record with its signature (R365). -/
def State.signed (s : State) (m : List Byte) : List Byte :=
  let sg := Crypto.ecSign s.guard.idKey m
  m ++ bytesBE 48 sg.1 ++ bytesBE 48 sg.2

/-- Does FUNC name no function, or one bound to the fen (R367)? -/
def State.funcOk (s : State) (fn fen : Nat) : Bool := fn = 0x7F || (fn ≤ 96 && (s.func fn).fen = fen)

/-- `attest` ops 0 and 1 (R367): the status and the state; `fresh` draws a new ephemeral key. A machine check met on the way is
an address failure too, and is logged (R37, log entry 128). -/
def State.attest (s : State) (c : Ctx) (req out : Nat) (fresh : Bool) : Nat × State :=
  match s.spanOf 0 false req 64, (if out % 64 = 0 then s.spanOf 0 true out 384 else none) with
  | some rd, some pas =>
    let bs := s.spanRead 0 rd
    let s := s.spanDefer c 0 1 req rd
    let fen := natLE (bs.take 1)
    let fn := natLE ((bs.drop 1).take 1)
    let nonce := (bs.drop 32).take 32
    if !(s.fen fen).v ∨ !s.funcOk fn fen then (4, s)
    else
      let d := (Config.drbg s.nfree).toNat % (Crypto.ecN - 1) + 1
      let s := if fresh then
          { s.setFen fen { s.fen fen with eph := some (d, nonce) } with nfree := s.nfree + 1 }
        else s
      (0, s.spanStore c 0 out pas (s.signed (s.evidence fen fn nonce (if fresh then some d else none))))
  | none, _ => (5, s.fenProbe 0 req 64)
  | some rd, none =>
    let s := s.spanDefer c 0 1 req rd
    (5, if out % 64 = 0 then s.fenProbe 0 out 384 else s)

/-- The fields of a release blob (R368). -/
structure Blob where
  fen : Nat
  len : Nat
  gen : Nat
  nonce : List (BitVec 8)
  tpk : Nat × Nat
  iv : List (BitVec 8)
  tag : List (BitVec 8)
  ad : List (BitVec 8)
  info : List (BitVec 8)

/-- A release blob's first 176 bytes (R368). -/
def blobOf (b : List Byte) : Blob :=
  let at_ (o n : Nat) : List Byte := (b.drop o).take n
  { fen := natLE (at_ 0 1), len := natLE (at_ 2 2) % 2 ^ 13, gen := natLE (at_ 8 8), nonce := at_ 16 32
    tpk := (natBE (at_ 48 48), natBE (at_ 96 48)), iv := at_ 144 12, tag := at_ 160 16, ad := at_ 0 160, info := at_ 0 16 }

/-- The secret that a blob wraps for an ephemeral key; nothing when its authentication fails (R368). -/
def Blob.unwrap (b : Blob) (d : Nat) (ct : List Byte) : Option (List Byte) :=
  if b.len = 0 ∨ 4096 < b.len ∨ Crypto.ecOn b.tpk = false then none
  else match Crypto.ecMul d (some b.tpk) with
  | none => none
  | some q => Crypto.gcmOpen (Crypto.hkdf b.nonce (bytesBE 48 q.1) b.info 32) b.iv b.ad ct b.tag

/-- `attest` op 2 (R367, R368): the status and the state; the ephemeral key is discarded. Machine checks as in the other ops
(log entry 128). -/
def State.releaseSecret (s : State) (c : Ctx) (blob out : Nat) : Nat × State :=
  match s.spanOf 0 false blob 176 with
  | none => (5, s.fenProbe 0 blob 176)
  | some hd =>
    let b := blobOf (s.spanRead 0 hd)
    match s.spanOf 0 false (blob + 176) b.len with
    | none => (5, (s.spanDefer c 0 1 blob hd).fenProbe 0 (blob + 176) b.len)
    | some rd =>
      let ct := s.spanRead 0 rd
      let s := s.spanDefer c 0 1 blob (hd ++ rd)
      let x := s.fen b.fen
      let s' := s.setFen b.fen { x with eph := none }
      if !x.v then (4, s)
      else match x.eph with
      | none => (3, s)
      | some (d, nonce) =>
        if nonce ≠ b.nonce then (3, s')
        else if b.gen ≠ s.genOf b.fen then (1, s')
        else match b.unwrap d ct with
        | none => (2, s')
        | some p => match s.spanOf b.fen true out p.length with
          | some pas => (0, s'.spanStore c b.fen out pas p)
          | none => (5, s'.fenProbe b.fen out p.length)

/-- An `attest` word (R367). -/
def attestWord (i : Instr) (d a : BitVec 6) (f : State → Ctx → Nat → Nat → Nat × State) :
    State → Host.Outcome State Fault Refusal :=
  issue (guardW 0x1CD i (d.toNat :: sRange a.toNat 2) fun _ _ => .ok ()) fun c s =>
    let (st, s) := f s c (c.sv a.toNat) (c.sv (a.toNat + 1))
    .ok (c.result d.toNat st s)

/-- `attest` op 0 (R367) -/
def execAttestEvidence (d a : BitVec 6) (s : State) : Host.Outcome State Fault Refusal :=
  attestWord (.attestEvidence d a) d a (fun s c x y => s.attest c x y false) s

/-- `attest` op 1 (R367) -/
def execAttestEphemeral (d a : BitVec 6) (s : State) : Host.Outcome State Fault Refusal :=
  attestWord (.attestEphemeral d a) d a (fun s c x y => s.attest c x y true) s

/-- `attest` op 2 (R367, R368) -/
def execAttestRelease (d a : BitVec 6) (s : State) : Host.Outcome State Fault Refusal :=
  attestWord (.attestRelease d a) d a (fun s c x y => s.releaseSecret c x y) s

/-! ## Migration -/

/-- The launch queues of a fen. -/
def State.queuesOf (s : State) (f : Nat) : List Nat :=
  let x := s.part (s.fen f).pid
  if s.isPart (s.fen f).pid then (List.range 64).filter fun q => (x.queue q).fen = f else []

/-- Numbers as 8-byte words, their count first. -/
def packed (xs : List Nat) : List Byte := bytesLE 8 xs.length ++ xs.flatMap (bytesLE 8)

/-- Where the journal records lie that a partition's ring still holds (R318). -/
def Part.journalAt (x : Part) : List Nat :=
  let n := min x.jwr (2 ^ x.jsize)
  if bitOf x.jbase 0 then
    (List.range n).map fun i => bitsOf x.jbase 12 40 * 4096 + 32 * ((x.jwr - n + i) % 2 ^ x.jsize)
  else []

/-- The journal records of a partition that a ring still holds and that name a fen (R318); a record that fen 0x00 cannot read is
none (R356, R385). -/
def State.journalOf (s : State) (f : Nat) : List Nat :=
  (((s.part (s.fen f).pid).journalAt.filter fun pa => (s.rangeErr 0 pa 32).isNone).map fun pa => s.readNat 0 pa 32).filter
    fun r => bitsOf r 56 8 = f

/-- The machine checks that reading the journal records meets are logged (R37, R385). -/
def State.journalProbe (s : State) (f : Nat) : State :=
  (s.part (s.fen f).pid).journalAt.foldl (fun s pa => match s.rangeErr 0 pa 32 with
    | some (e, at_) => s.logFound e.code (some at_)
    | none => s) s

/-- The words of a loaded handle (R295, R296). -/
def Handle.words (x : Handle) : List Nat :=
  [x.fen, b2n x.cqv, x.sqm1, x.cqm1, x.port, x.rmap, x.sqbase, x.sqdb, x.cqdb, x.tail, x.cqhead, x.ndb]

/-- A list cut into pieces of `n`. -/
def cutBy {α : Type} (n : Nat) (xs : List α) : List (List α) :=
  (List.range ((xs.length + n - 1) / n)).map fun i => (xs.drop (n * i)).take n

/-- One part of a function image in the model's own layout (log entry 77): configuration-space state, queues, handles, remap
entries and journal records, as 8-byte words. -/
structure ImagePart where
  config : List Nat := []
  queues : List Nat := []
  handles : List Nat := []
  remaps : List Nat := []
  journal : List Nat := []

/-- The bytes of a part. -/
def ImagePart.bytes (x : ImagePart) : List Byte :=
  packed x.config ++ packed x.queues ++ packed x.handles ++ packed x.remaps ++ packed x.journal

/-- A function image (R383), in parts that each fit a record (R370). -/
def State.functionImage (s : State) (i : Nat) : List (List Byte) :=
  let f := (s.func i).fen
  let x := s.part (s.fen f).pid
  let config := (s.func i).config
  let hs := s.reed.handles.filter fun h => h.2.loaded && h.2.fen = f
  let rs := s.reed.remap.filter fun e => e.2.fen = f
  let parts : List ImagePart :=
    { config := config.length :: (cutBy 8 config).map natLE
      queues := (s.queuesOf f).flatMap fun q => q :: (List.range 4).map fun w => ((x.queue q).word w).toNat }
    :: (cutBy 256 hs).map (fun c => { handles := c.flatMap fun h => h.1 :: h.2.words })
    ++ (cutBy 1024 rs).map (fun c => { remaps := c.flatMap fun e => [e.1, e.2.lo.toNat, e.2.hi.toNat] })
    ++ (cutBy 1024 (s.journalOf f)).map fun c => { journal := c.flatMap fun r => (List.range 4).map fun i => wordAt r i }
  parts.map ImagePart.bytes

/-- The words of a packed list, and the bytes after it. -/
def unpack (bs : List Byte) : List Nat × List Byte :=
  let n := natLE (bs.take 8)
  ((List.range n).map fun i => natLE ((bs.drop (8 + 8 * i)).take 8), bs.drop (8 + 8 * n))

/-- A list cut into rows. -/
def rowsBy (n : Nat) (xs : List Nat) : List (List Nat) :=
  (List.range (xs.length / n)).map fun i => (xs.drop (n * i)).take n

/-- A queue of an image taken over by a fen, disabled (R310). -/
def State.putQueue (f : Nat) (s : State) (r : List Nat) : State :=
  s.modPart (s.fen f).pid fun x => x.setQueue (r.getD 0 0 % 64) {
    en := false, ser := bitOf (r.getD 1 0) 1, prio := bitsOf (r.getD 1 0) 2 3, fen := f, log2 := bitsOf (r.getD 1 0) 16 5
    base := bitsOf (r.getD 2 0) 12 40 * 4096, head := bitsOf (r.getD 3 0) 0 16, tail := bitsOf (r.getD 3 0) 0 16
    nseq := bitsOf (r.getD 4 0) 0 48 }

/-- A handle of an image (R295). -/
def State.putHandle (f : Nat) (s : State) (r : List Nat) : State :=
  let (id, s) := s.fresh
  let w (i : Nat) : Nat := r.getD (i + 1) 0
  s.setHandle (r.getD 0 0 % 1024) {
    loaded := true, err := false, load := id, fen := f, cqv := w 1 = 1, sqm1 := w 2, cqm1 := w 3, port := w 4, rmap := w 5
    sqbase := w 6, sqdb := w 7, cqdb := w 8, tail := w 9, cqhead := w 10, ndb := w 11, rdySq := [], rdyCq := [] }

/-- A remap entry of an image (R301): it delivers to no team of this part. -/
def State.putRemap (f : Nat) (s : State) (r : List Nat) : State :=
  let x := r.getD 1 0
  s.setRemap (r.getD 0 0 % 4096) { Remap.cold with
    v := bitOf x 0, mode := if bitsOf x 1 2 = 0 then 0 else 2, fen := f, port := bitsOf x 16 6 }

/-- A journal record of an image added to the journal (R318). -/
def State.putJournal (f : Nat) (s : State) (r : List Nat) : State :=
  let p := (s.fen f).pid
  let x := s.part p
  let n := fromWords (fun i => r.getD i 0) 0 4
  let n := n - bitsOf n 56 8 * 2 ^ 56 + f * 2 ^ 56 - bitsOf n 67 1 * 2 ^ 67 + x.jwr / 2 ^ x.jsize % 2 * 2 ^ 67
  let at_ := bitsOf x.jbase 12 40 * 4096 + 32 * (x.jwr % 2 ^ x.jsize)
  let s := if bitOf x.jbase 0 then s.ownWrite 0 at_ (bytesLE 32 n) else s
  s.modPart p fun x => { x with jwr := (x.jwr + 1) % 2 ^ 64 }

/-- The configuration-space state of an image given to a function. -/
def State.putConfig (i : Nat) (s : State) (r : List Nat) : State :=
  match r with
  | [] => s
  | n :: ws => s.setFunc i { s.func i with config := (ws.flatMap (bytesLE 8)).take n }

/-- A part of a function image applied to a function and its fen (R370, R383). -/
def State.applyImage (s : State) (i : Nat) (bs : List Byte) : State :=
  let f := (s.func i).fen
  let (cs, bs) := unpack bs
  let s := s.putConfig i cs
  let (qs, bs) := unpack bs
  let (hs, bs) := unpack bs
  let (rs, bs) := unpack bs
  let s := (rowsBy 5 qs).foldl (State.putQueue f) s
  let s := (rowsBy 13 hs).foldl (State.putHandle f) s
  let s := (rowsBy 3 rs).foldl (State.putRemap f) s
  (rowsBy 4 (unpack bs).1).foldl (State.putJournal f) s

/-- A record: KIND, LEN and SEQ, then its bytes (R370). -/
def recordBytes (kind seq : Nat) (bs : List Byte) : List Byte :=
  bytesLE 8 (kind + bs.length * 2 ^ 16 + seq % 2 ^ 32 * 2 ^ 32) ++ bs

/-- The records of a function's stream, in order: before STOPPED only the end record (R370). -/
def State.stream (s : State) (i : Nat) : List (List Byte) :=
  let x := s.func i
  let y := s.fen x.fen
  if x.mst = 3 then
    let xs := (s.functionImage i).map (1, ·) ++ [(2, bytesLE 64 y.key.toNat), (3, y.meas ++ bytesLE 8 y.mseq), (0xFFFF, [])]
    xs.zipIdx.map fun r => recordBytes r.1.1 r.2 r.1.2
  else [recordBytes 0xFFFF 0 []]

/-- The whole records that a window of `n` bytes holds. -/
def takeWhole : Nat → List (List Byte) → List (List Byte)
  | _, [] => []
  | n, r :: rs => if r.length ≤ n then r :: takeWhole (n - r.length) rs else []

/-- A page of a window as a group of fen 0x00 reaches it: its physical address, else the fault of an access to it, in the order
of R184. R370 names no fault of a window (log entry 77). -/
def State.windowPage (s : State) (kind va : Nat) : Except Flt Nat :=
  let stop (cause : Nat) (mc : Option Nat) : Except Flt Nat := .error { cause := cause, addr := va, kind := kind, mcpa := mc }
  if !canonical va then stop 0x44 none
  else if va % 4096 ≠ 0 then stop 0x42 none
  else match s.walkXlate 0 (va % 2 ^ 57) with
  | .error e => stop e.code e.mcpa
  | .ok x =>
    if !(if kind = 2 then x.w else x.r) then stop 0x41 none
    else if !isMemRegion x.pa then stop 0x49 none
    else match (List.range 64).findSome? fun i => (s.lineErr 0 (x.pa / 64 + i)).bind fun e =>
        if isMc e.code then some (e.code, x.pa + 64 * i) else none with
    | some (code, pa) => stop code (some pa)
    | none => .ok x.pa

/-- The pages of a window's first `n` bytes, one at the least. -/
def State.migrWindow (s : State) (kind va n : Nat) : Except Flt (List Nat) :=
  (List.range (max 1 ((n + 4095) / 4096))).mapM fun i => s.windowPage kind ((va + 4096 * i) % 2 ^ 64)

/-- Where byte `j` of a window lies. -/
def windowByte (pages : List Nat) (j : Nat) : Nat := pages.getD (j / 4096) 0 + j % 4096

/-- What the line of byte `j` of a window meets: a seal finding, a refusal or an expander abort. -/
def State.windowErr (s : State) (pages : List Nat) (j : Nat) : Option LineErr := s.lineErr 0 (windowByte pages j / 64)

/-- The first finding on the lines of a window's first `n` bytes is deferred (R171): to where a store's would be delivered, as
`migr` counts on no flag (log entry 77). -/
def State.windowDefer (s : State) (c : Ctx) (kind va : Nat) (pages : List Nat) (n : Nat) : State :=
  match (List.range ((n + 63) / 64)).findSome? fun i => (s.windowErr pages (64 * i)).map fun e => (64 * i, e.code) with
  | some (o, code) => s.defer c.ti c.gi {
      at_ := .store, cause := code, kind := kind, lanes := BitVec.allOnes 32, addr := (va + o) % 2 ^ 57, pa := 0, op := 0 }
  | none => s

/-- The first `n` bytes of a window as they are loaded: those of a line with a finding are zero, or ones after an abort
(R171). -/
def State.windowRead (s : State) (pages : List Nat) (n : Nat) : List Byte :=
  (List.range n).map fun j => match s.windowErr pages j with
    | some e => BitVec.ofNat 8 (s.errValue e).1
    | none => s.readByte 0 (windowByte pages j)

/-- Bytes stored from the start of a window on, but not to a line with a finding (R171). -/
def State.windowWrite (s : State) (c : Ctx) (pages : List Nat) (bs : List Byte) : State :=
  let ok := bs.zipIdx.filter fun x => (s.windowErr pages x.2).isNone
  s.storeSpan c 0 (ok.map fun x => windowByte pages x.2) (ok.map (·.1))

/-- The records that `migr` op 1 writes, and the state that has written them (R370). -/
def State.migrSave (s : State) (c : Ctx) (i va : Nat) (pages : List Nat) : Nat × State :=
  let x := s.func i
  let rs := takeWhole 65536 ((s.stream i).drop x.saveSeq)
  let s := if x.mst = 3 then s.journalProbe x.fen else s
  let s := s.setFunc i { x with saveSeq := x.saveSeq + rs.length, savedEnd := x.saveSeq + rs.length = (s.stream i).length }
  (rs.flatten.length, (s.windowWrite c pages rs.flatten).windowDefer c 2 va pages rs.flatten.length)

/-- One record applied (R370): nothing when it is not whole or out of order. -/
def State.applyRecord (s : State) (i : Nat) (bs : List Byte) : Option (State × List Byte) :=
  let x := s.func i
  let h := natLE (bs.take 8)
  let len := bitsOf h 16 16
  let body := (bs.drop 8).take len
  let rest := bs.drop (8 + len)
  let y := s.fen x.fen
  let done (s : State) : Option (State × List Byte) := some (s.setFunc i { s.func i with loadSeq := x.loadSeq + 1 }, rest)
  if bs.length < 8 + len ∨ bitsOf h 32 32 ≠ x.loadSeq ∨ x.loadedEnd then none
  else match bitsOf h 0 16 with
  | 1 => done (s.applyImage i body)
  | 2 => if len = 64 then done (s.setFen x.fen { y with key := BitVec.ofNat 512 (natLE body) }) else none
  | 3 => if len = 56 then done (s.setFen x.fen { y with meas := body.take 48, mseq := natLE (body.drop 48) }) else none
  | 0xFFFF => some (s.setFunc i { x with loadSeq := x.loadSeq + 1, loadedEnd := true }, rest)
  | _ => none

/-- `migr` op 2 (R370): 0, or 1 at the first record that cannot be applied. -/
def State.migrLoad (i : Nat) : Nat → State → List Byte → Nat × State
  | 0, s, _ => (0, s)
  | n + 1, s, bs =>
    if bs = [] then (0, s)
    else match s.applyRecord i bs with
    | some (s, rest) => State.migrLoad i n s rest
    | none => (1, s)

/-- The state changes that `migr` permits (R370). -/
def State.migrOk (s : State) (i new : Nat) : Bool :=
  let x := s.func i
  match x.mst, new with
  | 0, 1 => true
  | 1, 2 => true
  | 2, 3 => s.slotsOf x.fen = 0 && (s.queuesOf x.fen).all fun q => !((s.part (s.fen x.fen).pid).queue q).en
  | 1, 0 => true
  | 3, 0 => true
  | 0, 4 => (s.fen x.fen).mseq = 0
  | 4, 0 => x.loadedEnd
  | _, _ => false

/-- `migr` op 0 (R370, R383): a stream begins with each state; STOPPING holds the fen, RUNNING releases it. -/
def State.migrSet (s : State) (i new : Nat) : State :=
  let x := s.func i
  let s := s.setFunc i { x with mst := new, saveSeq := 0, loadSeq := 0, savedEnd := false, loadedEnd := false }
  let hold (f : List Nat → List Nat) : State := s.modPart (s.fen x.fen).pid fun p => { p with hold := f p.hold }
  if new = 2 then hold fun h => if h.contains x.fen then h else sortBy (fun a b : Nat => a ≤ b) (x.fen :: h)
  else if new = 0 then hold fun h => h.filter (· ≠ x.fen)
  else s

/-- Does a function exist and is it bound (R369)? DESIGN CHOICE (log entry 152): bits [10:8] of `s`(a) are ignored for ops 1 and 2,
for which R370 names no use of them. -/
def State.migrTarget (s : State) (v : Nat) : Option Nat :=
  let i := bitsOf v 0 7
  if onlyBits v [(0, 7), (8, 3)] ∧ i ≤ 96 ∧ (s.fen (s.func i).fen).v then some i else none

/-- A `migr` word whose target has passed (R370): status 1 when not permitted, 2 in the sealed world. -/
def migrWord (i : Instr) (d a : BitVec 6) (regs : Nat) (f : Ctx → Nat → State → Res) :
    State → Host.Outcome State Fault Refusal :=
  issue (guardW 0x1CF i (d.toNat :: sRange a.toNat regs) fun _ _ => .ok ()) fun c s =>
    match s.migrTarget (c.sv a.toNat) with
    | none => .ok (c.result d.toNat 1 s)
    | some i => if s.sealedFen (s.func i).fen then .ok (c.result d.toNat 2 s) else f c i s

/-- `migr` op 0 (R370) -/
def execMigrSet (d a : BitVec 6) (s : State) : Host.Outcome State Fault Refusal :=
  migrWord (.migrSet d a) d a 3 (fun c i s =>
    let new := bitsOf (c.sv a.toNat) 8 3
    if s.migrOk i new then .ok (c.result d.toNat 0 (s.migrSet i new)) else .ok (c.result d.toNat 1 s)) s

/-- `migr` op 1 (R370) -/
def execMigrSave (d a : BitVec 6) (s : State) : Host.Outcome State Fault Refusal :=
  migrWord (.migrSave d a) d a 3 (fun c i s =>
    let va := c.sv (a.toNat + 1)
    if (s.func i).mst ≠ 1 ∧ (s.func i).mst ≠ 3 then .ok (c.result d.toNat 1 s)
    else if (s.func i).savedEnd then .ok (c.result d.toNat 0 s)
    else match s.migrWindow 2 va 65536 with
    | .error f => .raise f s
    | .ok pages =>
      let (n, s) := s.migrSave c i va pages
      .ok (c.result d.toNat n s)) s

/-- `migr` op 2 (R370) -/
def execMigrLoad (d a : BitVec 6) (s : State) : Host.Outcome State Fault Refusal :=
  migrWord (.migrLoad d a) d a 3 (fun c i s =>
    let va := c.sv (a.toNat + 1)
    let len := c.sv (a.toNat + 2)
    if (s.func i).mst ≠ 4 ∨ 65536 < len then .ok (c.result d.toNat 1 s)
    else match s.migrWindow 1 va len with
    | .error f => .raise f s
    | .ok pages =>
      let (st, s) := State.migrLoad i (len + 1) (s.windowDefer c 1 va pages len) (s.windowRead pages len)
      .ok (c.result d.toNat st s)) s

end Sys2Proof.Machine
end

