-- ==== Sys2Proof/Machine/Gate.lean ====
section
/-!
DEFINITION. Call gates: descriptors (R345), `gcall` (R346) and `gret` (R348).
-/
namespace Sys2Proof.Machine

/-- A gate descriptor (R345). -/
structure GateDesc where
  entry : Nat
  v : Bool
  tfen : Nat
  pv : Nat
  ps : Nat
  grows : Nat
  callers : Nat
  deriving DecidableEq, Repr

/-- The fields of a descriptor (R345). -/
def gateOf (x : Nat) : GateDesc :=
  { entry := bitsOf x 0 57, v := bitOf x 57, tfen := bitsOf x 64 8, pv := bitsOf x 72 5, ps := bitsOf x 77 4
    grows := bitsOf x 81 2, callers := bitsOf x 256 256 }

/-- Descriptor `n`: the cached one, or the one in memory (R345); an error is the cause of a machine check, or none. -/
def State.gateDesc (s : State) (n : Nat) : Except (Option Flt) GateDesc :=
  match s.guard.gcache.find n with
  | some x => .ok (gateOf x.toNat)
  | none =>
    let pa := s.guard.gtbase + 64 * n
    match s.lineErr 0 (pa / 64) with
    | some e => .error (if isMc e.code then some { cause := e.code, mcpa := some pa } else none)
    | none => .ok (gateOf (s.readNat 0 pa 64))

/-- Does a descriptor keep R345? Its reserved bits are ignored (R7). -/
def GateDesc.ok (g : GateDesc) : Bool := g.v && within 1 0xFE g.tfen && g.pv ≤ 16 && g.ps ≤ 8 && g.grows ≤ 2

/-- The checks of `gcall` at stage 2 (R346). -/
def Ctx.gateCheck (c : Ctx) (n : Nat) (s : State) : Except Flt Unit :=
  if s.guard.gtsize ≤ n then .error { cause := 0xB7 }
  else match s.gateDesc n with
  | .error (some f) => .error f
  | .error none => .error { cause := 0xB7 }
  | .ok g =>
    if !g.ok || !bitOf g.callers c.fen || c.grp.gate.isSome || s.sealedFen g.tfen ≠ s.sealedFen c.fen || !c.grp.unsplit
        || ((s.core c.team.core).slotOf g.tfen).isNone then .error { cause := 0xB7 }
    else .ok ()

/-- Are the flags zero and gate rows free (R346)? -/
def Ctx.gateReady (c : Ctx) (n : Nat) (s : State) : Bool :=
  c.grp.flagsZero 0xFFF && match s.gateDesc n with
    | .ok g => ((s.core c.team.core).slotOf g.tfen).any fun k => g.grows ≤ s.freeRows c.team.core g.tfen k
    | .error _ => false

/-- The group inside a gate (R346). -/
def Ctx.gateEnter (c : Ctx) (pd : Nat) (d : GateDesc) : Group :=
  let g := (((c.grp.zeroV d.pv 15).zeroS d.ps 7).zeroS 62 62)
  { g with
    lc := [], entries := [(c.ei, newSplinter (pcOf d.entry) noFrame mode0 c.ent.mask)]
    gate := some {
      tfen := d.tfen, pv := d.pv, ps := d.ps, grows := d.grows, ret := c.ent.afterClause, mode := c.ent.mode
      lcs := (List.range 3).map c.grp.readLC, pd := pd, rows := [] } }

/-- `gcall` (R346): with no active lane it waits for flags and rows all the same; a descriptor that it uses stays cached
until FEN_GTINV is written -/
def gcallWord (i : Instr) (pd : Nat) (ss : List Nat) (n : Ctx → Nat) : State → Host.Outcome State Fault Refusal :=
  issue
    { op := 0x1C0, legal := wellFormed i, ss := ss, pre := fun c s => c.gateCheck (n c) s
      ready := fun c s => c.gateReady (n c) s, always := fun _ => true }
    (fun c s =>
      if c.active = 0 then .ok s else
      match s.gateDesc (n c) with
      | .error _ => .stall
      | .ok d =>
        let x := BitVec.ofNat 512 (s.readNat 0 (s.guard.gtbase + 64 * n c) 64)
        let cache := if (s.guard.gcache.find (n c)).isSome then s.guard.gcache else s.guard.gcache.ins (n c) x
        .moved (({ s with guard := { s.guard with gcache := cache } }.setGroup c.ti c.gi (c.gateEnter pd d)).crossGate c.ti c.gi))

/-- `gcall` with an immediate (R346) -/
def execGcallImm (p : BitVec 3) (n : BitVec 7) (s : State) : Host.Outcome State Fault Refusal :=
  gcallWord (.gcallImm p n) p.toNat [] (fun _ => n.toNat) s

/-- `gcall` with a register (R346) -/
def execGcallReg (p : BitVec 3) (b : BitVec 6) (s : State) : Host.Outcome State Fault Refusal :=
  gcallWord (.gcallReg p b) p.toNat [b.toNat] (fun c => (c.grp.readS b.toNat).toNat) s

/-- `gret` (R348) -/
def execGret (s : State) : Host.Outcome State Fault Refusal :=
  issue
    { op := 0x1C1, legal := wellFormed .gret
      pre := fun c _ => if c.grp.gate.isNone || !c.grp.unsplit then .error { cause := 0xB7 } else .ok ()
      ready := fun c _ => c.grp.flagsZero 0xFFF }
    (fun c s =>
      match c.grp.gate with
      | some k => .moved ((s.setGroup c.ti c.gi (c.grp.gateLeave k true)).crossGate c.ti c.gi)
      | none => .stall) s

/-- GATE_TABLE_INVALIDATE (R345) -/
def execGateTableInvalidate (s : State) : Host.Outcome State Fault Refusal :=
  .next { s with guard := { s.guard with gcache := [] } }

end Sys2Proof.Machine
end

