-- ==== Sys2Proof/Machine/Home.lean ====
section
/-!
DEFINITION. The home-bank words: control (R188), atomics (R189 to R192), `park` (R193 to R197) and transactions (R200 to
R209), with the commits that follow a `txe` (R208 to R214).
-/
namespace Sys2Proof.Machine

/-! ## Control -/

/-- ORD of HBC (R187). -/
def Group.ord (g : Group) : Nat := (g.hbc.extractLsb' 32 2).toNat

/-- TMO of HBC (R187). -/
def Group.tmo (g : Group) : Nat := (g.hbc.extractLsb' 0 32).toNat

/-- `parkt` (R188) -/
def execParkt (b : BitVec 6) (s : State) : Host.Outcome State Fault Refusal :=
  issueG
    { op := 0x14B, legal := wellFormed (.parkt b), ss := [b.toNat]
      pre := fun c _ =>
        let x := c.grp.readS b.toNat
        if x.extractLsb' 32 2 = 3 ∨ x.extractLsb' 34 30 ≠ 0 then .error { cause := 0x61 } else .ok () }
    (fun c => .ok { c.grp with hbc := (c.grp.readS b.toNat).setWidth 34 }) s

/-! ## Atomics -/

/-- The 32- and 64-bit types of home-bank words (R185). -/
def hbType (ty : Nat) : Bool := ty = 2 || ty = 6 || ty = 0x0A || ty = 3 || ty = 7 || ty = 0x0B

/-- The integer ones. -/
def hbInt (ty : Nat) : Bool := ty = 2 || ty = 6 || ty = 3 || ty = 7

/-- The floating ones. -/
def hbFloat (ty : Nat) : Bool := ty = 0x0A || ty = 0x0B

/-- The field rules of a home-bank word (R185). -/
def hbW (op : Nat) (i : Instr) (ok : Nat → Bool) (ds : List Nat) (b : Src) (a : BitVec 7) : Word :=
  { op := op, legal := wellFormed i, vs := a.toNat :: ds ++ b.vs, ss := b.ss
    pairs := fun c => a.toNat :: pairsOf c.ty (ds ++ b.vs)
    pre := fun c _ => if ok c.ty then .ok () else .error { cause := 0x60 } }

/-- The addresses of a home-bank word's lanes (R185). -/
def Ctx.pointers (c : Ctx) (a : BitVec 7) : List (Nat × Nat) := c.lanes.map fun l => (l, (c.grp.readV2 l a.toNat).toNat)

/-- The checks of a home-bank word (R186). -/
def hbRule (c : Ctx) (op : Nat) : Rule := { op := op, bytes := tyWidth c.ty / 8, r := true, w := true, kind := 3 }

/-- An atomic (R190, R192): queued like a store, or sent as SC accesses. -/
def atomWord (opc : Nat) (i : Instr) (ok : Nat → Bool) (op : AtomOp) (b : Src) (d a : BitVec 7) :
    State → Host.Outcome State Fault Refusal :=
  issue (hbW opc i ok [d.toNat] b a) fun c s0 =>
    match s0.checkLanes c (hbRule c opc) (c.pointers a) with
    | .error (f, s) => .raise f s
    | .ok (s, ls) =>
      let c := c.refresh s
      if s.storeMustWait c then .stall
      else
        let (id, s) := s.fresh
        let s := s.begin c.ti c.gi { Pending.new id (c.flagNo opc) with waiting := ls.length }
        let kind (l : Nat) : StKind :=
          .atomic op c.ty (BitVec.ofNat 64 (c.laneB c.ty b l)) (BitVec.ofNat 64 (c.grp.readOp c.ty l d.toNat)) id l d.toNat
            (decide (c.grp.ord = 1))
        let ent (y : Nat × Nat × Xlate) : StoreEnt :=
          c.storeEnt id y.1 y.2.1 y.2.2.pa (whole (bytesLE (tyWidth c.ty / 8) 0)) (kind y.1)
        let req (y : Nat × Nat × Xlate) : ScReq :=
          { c.scReq y.1 y.2.1 y.2.2.pa (tyWidth c.ty / 8) none id d.toNat with atom := some (kind y.1) }
        if c.grp.ord = 2 then
          .ok ((s.modGroup c.ti c.gi fun g => { g with scq := g.scq ++ ls.map req }).pumpSc c.ti c.gi)
        else
          .ok (s.modGroup c.ti c.gi fun g => { g with sq := g.sq ++ ls.map ent })

/-- `aadd` (R189) -/
def execAadd (b : Src) (d a : BitVec 7) (s : State) : Host.Outcome State Fault Refusal :=
  atomWord 0x140 (.aadd b d a) hbInt .add b d a s

/-- `aand` (R189) -/
def execAand (b : Src) (d a : BitVec 7) (s : State) : Host.Outcome State Fault Refusal :=
  atomWord 0x141 (.aand b d a) hbType .and b d a s

/-- `aor` (R189) -/
def execAor (b : Src) (d a : BitVec 7) (s : State) : Host.Outcome State Fault Refusal :=
  atomWord 0x142 (.aor b d a) hbType .or b d a s

/-- `axor` (R189) -/
def execAxor (b : Src) (d a : BitVec 7) (s : State) : Host.Outcome State Fault Refusal :=
  atomWord 0x143 (.axor b d a) hbType .xor b d a s

/-- `amin` (R189) -/
def execAmin (b : Src) (d a : BitVec 7) (s : State) : Host.Outcome State Fault Refusal :=
  atomWord 0x144 (.amin b d a) hbInt .min b d a s

/-- `amax` (R189) -/
def execAmax (b : Src) (d a : BitVec 7) (s : State) : Host.Outcome State Fault Refusal :=
  atomWord 0x145 (.amax b d a) hbInt .max b d a s

/-- `axchg` (R189) -/
def execAxchg (b : Src) (d a : BitVec 7) (s : State) : Host.Outcome State Fault Refusal :=
  atomWord 0x146 (.axchg b d a) hbType .xchg b d a s

/-- `ainc` (R189) -/
def execAinc (b : Src) (d a : BitVec 7) (s : State) : Host.Outcome State Fault Refusal :=
  atomWord 0x147 (.ainc b d a) hbInt .inc b d a s

/-- `afadd` (R189, R191) -/
def execAfadd (b : Src) (d a : BitVec 7) (s : State) : Host.Outcome State Fault Refusal :=
  atomWord 0x148 (.afadd b d a) hbFloat .fadd b d a s

/-- `acas` (R189) -/
def execAcas (b : Src) (d a : BitVec 7) (s : State) : Host.Outcome State Fault Refusal :=
  atomWord 0x149 (.acas b d a) hbType .cas b d a s

/-! ## Park -/

/-- One lane of a `park` at its home bank: results so far, failures, and the state with its monitor (R193, R194). DESIGN CHOICE
(log entry 141): the bank's read does not wait for the group's own stores to the word that have not been applied. -/
def Ctx.parkLane (c : Ctx) (id pd : Nat) (cc : Cc) (b : Src)
    (a : State × List (Nat × Bool) × List (Nat × Nat × Nat × Nat)) (y : Nat × Nat × Xlate) :
    State × List (Nat × Bool) × List (Nat × Nat × Nat × Nat) :=
  let (s, rs, bads) := a
  let (l, va, x) := y
  let m : Monitor := {
    bank := homeBank x.pa, team := c.ti, group := c.gi, fen := c.fen, pa := x.pa, ty := c.ty, cc := cc
    b := BitVec.ofNat 64 (c.laneB c.ty b l), pend := id, pd := pd, lanes := 1#32 <<< l
    expiry := if c.grp.tmo = 0 then none else some (s.now + 64 * c.grp.tmo) }
  match s.lineErr c.fen (x.pa / 64) with
  | some e => (s, rs ++ [(l, false)], bads ++ [(l, e.code, va, x.pa)])
  | none =>
    if s.monitorTrue m then (s, rs ++ [(l, true)], bads)
    else if s.mem.monitors.any fun n => n.pend = id ∧ n.pa = m.pa ∧ n.b = m.b then
      ({ s with mem := { s.mem with monitors := s.mem.monitors.map fun n =>
          if n.pend = id ∧ n.pa = m.pa ∧ n.b = m.b then { n with lanes := n.lanes ||| m.lanes } else n } }, rs, bads)
    else if (s.mem.monitors.filter fun n => n.bank = m.bank).length < 64 then
      ({ s with mem := { s.mem with monitors := s.mem.monitors ++ [m] } }, rs, bads)
    else (s, rs ++ [(l, false)], bads)

/-- `park` (R193): the group is blocked until every lane has a result -/
def execPark (b : Src) (cc : Cc) (pd : BitVec 3) (a : BitVec 7) (s : State) : Host.Outcome State Fault Refusal :=
  issue (hbW 0x14A (.park b cc pd a) hbType [] b a) (fun c s0 =>
    match s0.checkLanes c (hbRule c 0x14A) (c.pointers a) with
    | .error (f, s) => .raise f s
    | .ok (s, ls) =>
      let c := c.refresh s
      if s.acquirePending c then .stall
      else
        let (id, s) := s.fresh
        let (s, rs, bads) := ls.foldl (c.parkLane id pd.toNat cc b) (s, [], [])
        let s := s.logLanes bads
        let p : Pending := { Pending.new id (c.flagNo 0x14A) with
          isPark := true, waiting := ls.length - rs.length, bad := deferOf (.flag (c.flagNo 0x14A)) 3 bads
          writes := rs.map fun r => .p r.1 pd.toNat r.2 }
        let s := s.begin c.ti c.gi p
        let s := if rs.any (·.2) then s.raiseFloor c.ti c.gi else s
        if p.waiting = 0 then
          .ok ((s.modGroup c.ti c.gi fun g => p.writes.foldl Group.deliver g).finish c.ti c.gi { p with writes := [] })
        else .ok (s.modGroup c.ti c.gi fun g =>
          { g with block := some { kind := .park, entry := c.ei, since := s.now } })) s

/-! ## Transactions -/

/-- Does a `txe` of the group still have lanes to commit? -/
def State.committing (s : State) (ti gi : Nat) : Bool := s.txops.any fun t => t.team = ti && t.group = gi

/-- Log buffers of a core in use: a group holds its own until the commits of its `txe` have ended (R199). -/
def State.buffersUsed (s : State) (core : Nat) : Nat :=
  (s.teams.map fun t =>
    if t.2.core = core ∧ t.2.status = .resident then (t.2.groups.filter fun g => g.2.txBuf || s.committing t.1 g.1).length
    else 0).foldl (· + ·) 0

/-- The group's buffer is released when no lane has STATE 01 or 10 (R199). -/
def Group.txRelease (g : Group) : Group :=
  if g.tx.any fun x => x.2.state ≠ .none then g else { g with txBuf := false }

/-- Is an escalated transaction of the fen live (R212)? -/
def State.escalated (s : State) (fen : Nat) : Bool :=
  (s.teams.any fun t => t.2.groups.any fun g =>
    fenBorne t.2 g.2 = fen && g.2.tx.any fun x => x.2.esc && x.2.state = .opened)
  || s.txops.any fun o => o.fen = fen && o.lanes.any fun l => l.2.esc

/-- `txb` for one lane (R200): the state with the core's clock, which an escalation stamp advances. -/
def State.txbLane (c : Ctx) (s : State) (l : Nat) : State :=
  let g := s.group c.ti c.gi
  let x := g.txLane l
  if x.state = .opened then s.modGroup c.ti c.gi fun g => g.abortLane 7 0 l
  else
    let x := { x with state := .opened, tried := x.esc, reads := [], writes := [] }
    if 8 ≤ x.conf ∧ !x.esc then
      let core := c.team.core
      let clock := max (s.core core).clock g.lastsc.c + 1
      let s := s.modCore core fun k => { k with clock := clock }
      s.modGroup c.ti c.gi fun g => g.setTx l { x with esc := true, tried := true, stc := clock, stcore := core }
    else s.modGroup c.ti c.gi fun g => g.setTx l x

/-- A transaction word (R200 to R206). -/
def txW (op : Nat) (i : Instr) (ds : List Nat) : Word := { op := op, legal := wellFormed i, vs := ds }

/-- `txb` (R200) -/
def execTxb (s : State) : Host.Outcome State Fault Refusal :=
  issue (txW 0x150 .txb []) (fun c s =>
    let closed := c.lanes.filter fun l => (c.grp.txLane l).state = .none
    if s.committing c.ti c.gi then .hold s
    else if closed ≠ [] ∧ !c.grp.txBuf ∧ 4 ≤ s.buffersUsed c.team.core then
      .ok (s.modGroup c.ti c.gi fun g => closed.foldl (fun g l => g.abortLane 9 0 l) g)
    else
      let s := if closed ≠ [] then s.modGroup c.ti c.gi fun g => { g with txBuf := true } else s
      .ok (c.lanes.foldl (State.txbLane c) s)) s

/-- The cause word of R208; its ESC says whether the attempt, if there was one, was escalated. -/
def causeWord (cause : Nat) (x : TxLane) : Nat :=
  cause + (if cause = 4 ∨ cause = 5 then x.detail else 0) * 2 ^ 8 + x.conf * 2 ^ 16 + b2n (cause ≠ 10 && x.tried) * 2 ^ 20

/-- The register writes of a lane's `txe` (R208). -/
def txeWrites (l pd dst cause : Nat) (x : TxLane) : List RegW :=
  .p l pd (cause = 0) :: laneWrites l dst 1 (causeWord cause x)

/-- The lanes of a `txe` or `txq` (R203). -/
def Ctx.txActive (c : Ctx) : List Nat := lanesOf (c.acting 0x151)

/-- Is an escalated stamp older than another (R162, R212)? -/
def TxLane.older (x y : TxLane) : Bool := x.stc < y.stc || (x.stc = y.stc && x.stcore < y.stcore)

/-- Would a commit write a sector that another lane has read? -/
def TxLane.harms (x y : TxLane) : Bool := x.writes.any fun e => (logFind y.reads e.sector).isSome

/-- Does every logged read sector still hold what was read (R205, R208, R211)? -/
def State.txValid (s : State) (fen : Nat) (x : TxLane) : Bool := x.reads.all fun e => s.readSector fen e.sector = e.bytes

/-- May a lane's commit fail another lane that only older ones may fail (R213)? Both are escalated, the other is the older one, and
the commit writes what it has read; neither has failed already. -/
def State.txFails (s : State) (fx fy : Nat) (x y : TxLane) : Bool :=
  x.esc && y.esc && y.older x && x.harms y && s.txValid fx x && s.txValid fy y

/-- What is reached from some places in at most `n` steps. -/
def reached (next : Nat → List Nat) : Nat → List Nat → List Nat
  | 0, xs => xs
  | n + 1, xs => reached next n (xs ++ xs.flatMap next).eraseDups

/-- The open lanes of a `txe` at an entry: those of its TxActive (R203). -/
def Group.txeLanes (g : Group) (e : Splinter) : List Nat :=
  (lanesOf (g.guarded e.mode e.mask)).filter fun l => (g.txLane l).state = .opened

/-- The open lanes of a group, outside a `txe` at one of its entries, that this `txe` may fail and should not (R213). -/
def State.elders (s : State) (fen : Nat) (g : Group) (e : Splinter) : List Nat :=
  let word := g.txeLanes e
  lanes32.filter fun l => (g.txLane l).state = .opened && !word.contains l
    && word.any fun k => s.txFails fen fen (g.txLane k) (g.txLane l)

/-- The entries with which a lane goes on: that of its splinter, or those that the frame at which it waits awaits (R77, R85); a
deferred lane is released by any that becomes free (R82). -/
def Group.carriers (g : Group) (l : Nat) : List Nat :=
  if g.frames.any fun f => f.2.kind = .defer && f.2.mask.getLsbD l then g.entries.keys
  else (g.entries.filter fun x => x.2.mask.getLsbD l || (g.chain x.2).any fun f => (f.2.arrived ||| f.2.broke).getLsbD l).map (·.1)

/-- Does an entry of the group stand at a `txe`? -/
def Ctx.atTxe (c : Ctx) (s : State) (e : Splinter) : Bool :=
  e.mid && match s.fetchWord c.team.core c.grp.port c.fen e.pc.toNat with
    | .ok w => w / 2 ^ 23 = 0x151
    | .error _ => false

/-- The entries on which the `txe` at an entry waits: those of the lanes that it should not fail. -/
def Ctx.txeAwaits (c : Ctx) (s : State) (ei : Nat) : List Nat :=
  match c.grp.entries.find ei with
  | some e => if c.atTxe s e then (s.elders c.fen c.grp e).flatMap c.grp.carriers else []
  | none => []

/-- Must a `txe` wait, before it issues, for the attempt of an older escalated lane of its group that it would fail (R213)? Not for a
lane that itself cannot go on before this `txe`: the lane's entry is the same, or stands at a `txe` that waits so for this one,
through others perhaps, so that no two wait for each other (R212, log entry 110). -/
def Ctx.txeWaits (c : Ctx) (s : State) : Bool :=
  let behind (ei : Nat) : Bool := (reached (c.txeAwaits s) 8 [ei]).contains c.ei
  (s.elders c.fen c.grp c.ent).any fun l => !(c.grp.carriers l).any behind

/-- `txe` (R208): lanes without an open transaction end at once, the others commit in lane order (R209); the group's log
buffer is held until the last of them has ended (R199) -/
def execTxe (p : BitVec 3) (d : BitVec 7) (s : State) : Host.Outcome State Fault Refusal :=
  issue (txW 0x151 (.txe p d) [d.toNat]) (fun c s =>
    let opened := c.txActive.filter fun l => (c.grp.txLane l).state = .opened
    if s.committing c.ti c.gi || c.txeWaits s then .hold s
    else
      let ended := c.txActive.filter fun l => (c.grp.txLane l).state ≠ .opened
      let ws := ended.flatMap fun l =>
        let x := c.grp.txLane l
        txeWrites l p.toNat d.toNat (if x.state = .none then 10 else x.cause) x
      let (id, s) := s.fresh
      let s := s.begin c.ti c.gi { Pending.new id (c.flagNo 0x151) with waiting := opened.length, writes := ws }
      let s := s.modGroup c.ti c.gi fun g =>
        let g := c.txActive.foldl (fun g l => g.setTx l (g.txLane l).ended) g
        { (if opened = [] then g.txRelease else g) with txeFlags := g.txeFlags ||| (1#12 <<< c.flagNo 0x151) }
      let s := s.raiseFloor c.ti c.gi
      if opened = [] then .ok s
      else .ok { s with txops := s.txops ++ [{
        team := c.ti, group := c.gi, fen := c.fen, pend := id, pd := p.toNat, dst := d.toNat
        lanes := opened.map fun l => (l, c.grp.txLane l) }] }) s

/-- `txa` (R204) -/
def execTxa (i : BitVec 8) (s : State) : Host.Outcome State Fault Refusal :=
  issueG (txW 0x152 (.txa i) []) (fun c => .ok (c.grp.abortLanes c.active 4 i.toNat)) s

/-- What the banks find on the lines of some sectors, in their order, with the address of the first of them in the line (R208). -/
def State.txFindings (s : State) (fen : Nat) (secs : List Nat) : List (LineErr × Nat) :=
  ((secs.map (· / 2)).eraseDups).filterMap fun line =>
    (s.lineErr fen line).map fun e => (e, ((secs.find? fun x => x / 2 = line).getD 0) * 32)

/-- One lane of a `txr` (R205): a finding on a sector that it reads is logged when it is a machine check (R37, R385), and aborts the
lane. DEDUCED (log entry 145): with cause 5 and the finding's code, as at a commit (R207, R208). -/
def State.txrLane (c : Ctx) (d : Nat) (s : State) (l : Nat) : State :=
  let x := c.grp.txLane l
  let put (s : State) (f : Group → Group) (n : W32) : State := s.modGroup c.ti c.gi fun g => (f g).writeV l d n
  if x.state ≠ .opened then put s id 0
  else
    let found := s.txFindings c.fen (x.reads.map (·.sector))
    match found.head? with
    | some (e, _) =>
      put (s.logBeside [] (found.map fun f => (f.1.code, f.2))) (fun g => g.abortLane 5 e.code l) 0
    | none => if s.txValid c.fen x then put s id 1 else put s (fun g => g.abortLane 1 0 l) 0

/-- `txr` (R205) -/
def execTxr (d : BitVec 7) (s : State) : Host.Outcome State Fault Refusal :=
  issue (txW 0x153 (.txr d) [d.toNat]) (fun c s =>
    if s.committing c.ti c.gi then .hold s
    else .ok (c.lanes.foldl (State.txrLane c d.toNat) s)) s

/-- The code of a transaction state (R198). -/
def TxState.code : TxState → Nat
  | .none => 0
  | .opened => 1
  | .aborted => 2

/-- The word that `txq` reads (R206). -/
def txqWord (x : TxLane) (cause : Nat) : Nat :=
  x.state.code + cause * 2 ^ 8 + x.reads.length * 2 ^ 16 + x.writes.length * 2 ^ 20 + b2n x.esc * 2 ^ 23 + x.conf * 2 ^ 24

/-- A lane's `txq` (R206): CAUSE is valid for an aborted lane, and a free value for another (R198, log entry 13). -/
def State.txqLane (c : Ctx) (d : Nat) (s : State) (l : Nat) : State :=
  let x := c.grp.txLane l
  let (cause, s) := if x.state = .aborted then (x.cause, s) else (s.free.1.toNat % 256, s.free.2)
  s.modGroup c.ti c.gi fun g => g.writeV l d (BitVec.ofNat 32 (txqWord x cause))

/-- `txq` (R206) -/
def execTxq (d : BitVec 7) (s : State) : Host.Outcome State Fault Refusal :=
  issue (txW 0x154 (.txq d) [d.toNat]) (fun c s =>
    if s.committing c.ti c.gi then .hold s
    else .ok ((lanesOf (c.acting 0x154)).foldl (State.txqLane c d.toNat) s)) s

/-! ## Commits -/

/-- The sectors of a lane's logs. -/
def TxLane.sectors (x : TxLane) : List Nat := (x.reads ++ x.writes).map (·.sector)

/-- Do two lanes' logs share a sector? -/
def TxLane.shares (x y : TxLane) : Bool := x.sectors.any fun a => y.sectors.contains a

/-- The cause that a commit reports of what is found on the sectors that it holds: a failed seal check before a refusal (R208). -/
def State.txFinding (s : State) (fen : Nat) (x : TxLane) : Option LineErr :=
  let found := (s.txFindings fen x.sectors).map (·.1)
  (found.find? fun e => e ≠ .refused).orElse fun _ => found.head?

/-- The writes of a commit, applied as one event: in each sector the bits under the entry's masks (R173, R208, R214). -/
def State.txApply (s : State) (ti gi core moment fen : Nat) (x : TxLane) : State :=
  let s := x.writes.foldl (fun s e =>
    (e.bytes.zip e.mask).zipIdx.foldl (fun s b =>
      if b.1.2 = 0 then s else s.writeByte fen (e.sector * 32 + b.2) b.1.1 b.1.2) s) s
  x.writes.foldl (fun s e =>
    ((s.markThrough ti (some gi) moment (e.sector * 32)).dropL1 core (e.sector * 32) 32).satisfy (e.sector * 32) 32) s

/-- A lane's commit: its cause and the state (R208); the lane's summary is in `g`. -/
def State.commitLane (s : State) (o : TxCommitOp) (x : TxLane) (held : Bool) : Nat × Nat × State :=
  if x.sectors ≠ [] ∧ !x.esc ∧ (held ∨ s.escalated o.fen) then (1, 0, s)
  else match s.txFinding o.fen x with
  | some e => (5, e.code, s.logBeside [] ((s.txFindings o.fen x.sectors).map fun f => (f.1.code, f.2)))
  | none => if s.txValid o.fen x then (0, 0, s.txApply o.team o.group (s.team o.team).core o.pend o.fen x) else (1, 0, s)

/-- The end of a lane's commit: its summary, its registers, which are then delivered on their own (R50), and the `txe` when it was
the last, with which the group's buffer is released (R199, R203, R208). -/
def State.commitEnd (s : State) (o : TxCommitOp) (l : Nat) (last : Bool) (cause detail : Nat) : State :=
  match s.teams.find o.team with
  | none => s
  | some _ =>
    let s := s.modGroup o.team o.group fun g =>
      if cause = 0 then g.setTx l { g.txLane l with conf := 0, esc := false } else g.abortLane cause detail l
    let y := { (s.group o.team o.group).txLane l with tried := o.lanes.any fun y => y.1 = l && y.2.tried }
    let s := s.modGroup o.team o.group fun g =>
      let g := g.setTx l y.ended
      let g := if last then g.txRelease else g
      g.modPend o.pend fun p => { p with waiting := p.waiting - 1, writes := p.writes ++ txeWrites l o.pd o.dst cause y }
    s.finishIf o.team o.group o.pend

/-- May a `txe` commit: is every access that happens before it performed at scope `k` (R161, R214)? -/
def State.commitReady (s : State) (ti gi before : Nat) : Bool :=
  let g := s.group ti gi
  !((g.sq ++ (s.core (s.team ti).core).cso).any (g.follows ti gi before))
    && !(g.scq.any fun r => r.pend < before) && g.pend.all fun p => p.devs = [] || before ≤ p.id

/-- Does a lane of a `txe` wait for a lower one of its word whose sectors overlap (R209)? -/
def TxCommitOp.inTurn (o : TxCommitOp) (y : Nat × TxLane) : Bool := !o.lanes.any fun z => z.1 < y.1 && z.2.shares y.2

/-- Can the program of a group go on by itself: its team is on its core, and no word blocks it (R70)? -/
def State.goesOn (s : State) (ti gi : Nat) : Bool :=
  (s.team ti).status = .resident && !(s.core (s.team ti).core).stopped && (s.group ti gi).block.isNone

/-- A lane of a `txe` that is committing, as a number, and back. -/
def txNode (pend l : Nat) : Nat := 32 * pend + l

/-- The lanes that a group's `txe` has still to commit. -/
def State.inFlight (s : State) (ti gi : Nat) : List Nat :=
  (s.txops.filter fun p => p.team = ti && p.group = gi).flatMap fun p => p.lanes.map fun y => txNode p.pend y.1

/-- The committing lanes that a commit may fail and should not (R213). -/
def State.eldersIn (s : State) (fen : Nat) (x : TxLane) : List Nat :=
  s.txops.flatMap fun p => (p.lanes.filter fun y => s.txFails fen p.fen x y.2).map fun y => txNode p.pend y.1

/-- The groups with an open lane that a commit may fail and should not, where they can go on (R213). -/
def State.eldersOf (s : State) (fen : Nat) (x : TxLane) : List (Nat × Nat) :=
  s.teams.flatMap fun t => (t.2.groups.filter fun g => s.goesOn t.1 g.1
    && g.2.tx.any fun y => y.2.state = .opened && s.txFails fen (fenBorne t.2 g.2) x y.2).map fun g => (t.1, g.1)

/-- The committing lanes for which a committing lane may have to wait: lower ones of its word (R209), those that it should not fail
and those with which a group must first be done that has such a lane open (R213). What stands in a core store order waits for no
commit, since no store of a group issues while its `txe` commits (R214). -/
def State.txAwaits (s : State) (n : Nat) : List Nat :=
  match s.txops.find? fun p => p.pend = n / 32 with
  | none => []
  | some o => match o.lanes.find? fun y => y.1 = n % 32 with
    | none => []
    | some y =>
      ((o.lanes.filter fun z => z.1 < y.1 && z.2.shares y.2).map fun z => txNode o.pend z.1) ++ s.eldersIn o.fen y.2
        ++ (s.eldersOf o.fen y.2).flatMap fun g => s.inFlight g.1 g.2

/-- Would this commit fail an older escalated lane that can still go on without it? Only older transactions may fail that lane, so
that the commit waits until its attempt has ended (R213). Where the lane itself waits for this one, through others perhaps, no
order keeps R213 for both, and the commit goes on, so that none waits for itself (R212, log entry 110). -/
def State.awaitsElders (s : State) (o : TxCommitOp) (y : Nat × TxLane) : Bool :=
  let behind (ns : List Nat) : Bool :=
    (reached s.txAwaits ((s.txops.map fun p => p.lanes.length).foldl (· + ·) 0) ns).contains (txNode o.pend y.1)
  (s.eldersIn o.fen y.2).any (fun n => !behind [n]) || (s.eldersOf o.fen y.2).any fun g => !behind (s.inFlight g.1 g.2)

/-- Does an older escalated commit of another word that could be granted now wait for a sector of this one, so that the banks grant it
first (R208, R212)? -/
def State.olderWaits (s : State) (o : TxCommitOp) (x : TxLane) : Bool :=
  s.txops.any fun p => p.pend ≠ o.pend && s.commitReady p.team p.group p.pend
    && p.lanes.any fun y => y.2.esc && y.2.older x && y.2.shares x && p.inTurn y && !s.awaitsElders p y

/-- May a lane of a `txe` commit next (R208, R209, R212, R213)? `held` says that another group's commit holds one of its sectors. -/
def State.mayCommit (s : State) (o : TxCommitOp) (held : Bool) (y : Nat × TxLane) : Bool :=
  o.inTurn y && !(y.2.esc && (held || s.olderWaits o y.2 || s.awaitsElders o y))

/-- Can another group's commit hold a sector of a lane's (R208)? -/
def State.sharedWith (s : State) (o : TxCommitOp) (x : TxLane) : Bool :=
  s.txops.any fun p => (p.team ≠ o.team || p.group ≠ o.group) && p.lanes.any fun y => y.2.shares x

/-- A lane of a `txe` commits: the lowest that may (R208, R209). `held` says that another commit holds its sectors. -/
def State.txCommit (s : State) (idx : Nat) (held : Bool) : State :=
  match s.txops[idx]? with
  | none => s
  | some o =>
    if o.lanes = [] then { s with txops := dropAt s.txops idx }
    else if !s.commitReady o.team o.group o.pend then s
    else match o.lanes.find? fun y => s.mayCommit o (held && s.sharedWith o y.2) y with
    | none => s
    | some (l, x) =>
      let rest := o.lanes.filter fun y => y.1 ≠ l
      let (cause, detail, s) := s.commitLane o x (held && s.sharedWith o x)
      let s := { s with txops := if rest = [] then dropAt s.txops idx else setAt s.txops idx { o with lanes := rest } }
      (s.commitEnd o l rest.isEmpty cause detail).pumpSc o.team o.group

end Sys2Proof.Machine
end

