-- ==== Sys2Proof/Machine/HomeEvents.lean ====
section
/-!
DEFINITION. The events of the load-store and home-bank engines: walks (R150, R170), loads that deliver (R50, R168, R171),
stores and atomics that move and are applied (R159, R160, R190), parks that expire (R195), stamps (R162, R163), commits
(R208) and writes to expanders (R160, R180).
-/
namespace Sys2Proof.Machine

/-- PAGE_WALK_COMPLETE (R147, R150, R170): a translation enters a core's TLBs and its slice's; one that ends with V = 0 does
not -/
def execPageWalkComplete (core fen va : Nat) (s : State) : Host.Outcome State Fault Refusal :=
  if 196 ≤ core then .next s
  else match s.walk fen (va % 2 ^ 57) with
  | .ok e => .next (s.fillTlb core e)
  | .error _ => .next s

/-- The read of a device at a place of an operation ends, with what the device answers or as a device abort (R171). -/
def State.deviceEnd (s : State) (ti gi : Nat) (p : Pending) (i : Nat) (aborts : Bool) : State :=
  s.modGroup ti gi fun g => g.modPend p.id fun p =>
    if aborts then p.abort fun d => p.devs[i]? = some d else { p with devs := dropAt p.devs i }

/-- Does a register write wait for a device: one of its own lane, or, of a uniform register, any? -/
def Pending.awaits (p : Pending) (w : RegW) : Bool := p.devs.any fun d => w.inLanes (laneMask d.1)

/-- One register write of an operation is delivered, unless it waits for a device; an aborted gate discards it (R50, R168, R349). -/
def State.regArrive (s : State) (ti gi : Nat) (p : Pending) (i : Nat) : State :=
  match p.writes[i]? with
  | none => s.finishIf ti gi p.id
  | some w =>
    if p.awaits w then s
    else
      (s.modGroup ti gi fun g =>
        (if p.dead then g else g.deliver w).modPend p.id fun p => { p with writes := dropAt p.writes i }).finishIf ti gi p.id

/-- One step of an operation in flight (R50, R168, R171). Half of `sel` counts through the reads of devices that it waits for, which
an odd `sel` ends as device aborts, and then through its register writes. -/
def State.arrive (s : State) (ti gi : Nat) (p : Pending) (sel : Nat) : State :=
  if p.isPark then s
  else if sel / 2 < p.devs.length then s.deviceEnd ti gi p (sel / 2) (sel % 2 = 1)
  else s.regArrive ti gi p (sel / 2 - p.devs.length)

/-- An operation in flight, by its number. -/
def State.pending (s : State) (ti gi op : Nat) : Option Pending :=
  (s.teams.find ti).bind fun t => (t.group gi).pend.find? fun p => p.id = op

/-- LOAD_DATA_ARRIVE (R168): `sel` names the device's answer or the register write that arrives -/
def execLoadDataArrive (team group op sel : Nat) (s : State) : Host.Outcome State Fault Refusal :=
  match s.pending team group op with
  | some p => .next ((s.arrive team group p sel).pumpSc team group)
  | none => .next s

/-- DEVICE_READ_COMPLETION_TIMEOUT (R171): the first of the reads of devices that an operation waits for; another that ends so
before it does by an odd `sel` of LOAD_DATA_ARRIVE -/
def execDeviceReadCompletionTimeout (team group op : Nat) (s : State) : Host.Outcome State Fault Refusal :=
  match s.pending team group op with
  | some p => if p.devs = [] then .next s else .next ((s.deviceEnd team group p 0 true).pumpSc team group)
  | none => .next s

/-- STORE_QUEUE_DRAIN (R156, R159): the head of a group's queue enters the core store order -/
def execStoreQueueDrain (team group : Nat) (s : State) : Host.Outcome State Fault Refusal :=
  match s.teams.find team with
  | none => .next s
  | some t =>
    match (t.group group).sq with
    | [] => .next s
    | e :: rest =>
      let s := s.modGroup team group fun g => { g with sq := rest }
      .next (s.enterOrder t.core e)

/-- The home banks to which an entry's bytes go (R145). -/
def StoreEnt.banks (e : StoreEnt) : List Nat :=
  e.pieces.flatMap fun x => [homeBank x.1, homeBank (x.1 + x.2.length - 1)]

/-- An entry that may leave the core store order (R157, R160, R172, R175, R192): no earlier one goes to a home bank
of its own, or to the same group's device accesses, and a release waits for what happens before it. -/
def State.mayLeave (s : State) (core idx : Nat) : Option StoreEnt :=
  let cso := (s.core core).cso
  match cso[idx]? with
  | none => none
  | some e =>
    let earlier := cso.take idx
    let mem := isMemRegion e.pa
    let clash (x : StoreEnt) :=
      if mem then isMemRegion x.pa && x.banks.any e.banks.contains
      else !isMemRegion x.pa && x.team = e.team && x.group = e.group
    let rel := match e.kind with
      | .plain => false
      | .release => true
      | .atomic _ _ _ _ _ _ _ a => a
    if earlier.any clash || (rel && !s.releaseReady e.team e.group e.word earlier) then none else some e

/-- An entry leaves the core store order; its core's sectors are dropped again, since they may have been filled from the
home bank meanwhile (R156, R159). -/
def State.leave (s : State) (core idx : Nat) (e : StoreEnt) : State :=
  (s.modCore core fun k => { k with cso := dropAt k.cso idx }).dropEntry core e

/-- STORE_APPLY (R160) -/
def execStoreApply (core idx : Nat) (s : State) : Host.Outcome State Fault Refusal :=
  match s.mayLeave core idx with
  | none => .next s
  | some e => if e.isAtomic then .next s else .next (((s.leave core idx e).applyStore e).pumpCore core)

/-- ATOMIC_APPLY (R190) -/
def execAtomicApply (core idx : Nat) (s : State) : Host.Outcome State Fault Refusal :=
  match s.mayLeave core idx with
  | none => .next s
  | some e =>
    match e.kind with
    | .atomic op ty b d id lane dst acq =>
      .next (((s.leave core idx e).applyAtomic e.team e.group e.fen lane e.va e.pa op ty b d id dst acq).pumpCore core)
    | _ => .next s

/-- PARK_TIMEOUT (R195): result 0 for the lanes of an entry that has expired -/
def execParkTimeout (idx : Nat) (s : State) : Host.Outcome State Fault Refusal :=
  match s.mem.monitors[idx]? with
  | none => .next s
  | some m =>
    if m.expiry.any fun t => t ≤ s.now then
      .next ({ s with mem := { s.mem with monitors := dropAt s.mem.monitors idx } }.parkResult m.team m.group m.pend m.pd
        m.lanes false)
    else .next s

/-- SC_RESERVATION_GRANT (R162) -/
def execScReservationGrant (line : Nat) (s : State) : Host.Outcome State Fault Refusal := .next (s.scGrant line)

/-- SC_STAMP_ROLLOVER (R163): once every refused access has been accepted; then the accesses that have waited are sent -/
def execScStampRollover (s : State) : Host.Outcome State Fault Refusal :=
  if s.scFull ∧ s.mem.resv = [] then
    let zero : Stamp := { c := 0, core := 0 }
    let s := s.cores.keys.foldl (fun s c => s.modCore c fun k => { k with clock := 0 }) s
    let clear (t : Nat × Team) : Nat × Team :=
      (t.1, { t.2 with groups := t.2.groups.map fun g => (g.1, { g.2 with lastsc := zero }) })
    let s := { s with mem := { s.mem with ls := [], fs := [] }, scepoch := s.scepoch + 1, teams := s.teams.map clear }
    .next (s.teams.foldl (fun s t => t.2.groups.keys.foldl (fun s gi => s.pumpSc t.1 gi) s) s)
  else .next s

/-- TX_COMMIT (R208): the next lane of a `txe`; `held` is 1 when another commit holds one of its sectors -/
def execTxCommit (idx held : Nat) (s : State) : Host.Outcome State Fault Refusal := .next (s.txCommit idx (held = 1))

/-- EXPANDER_WRITE_COMPLETE (R160, R180) -/
def execExpanderWriteComplete (idx : Nat) (s : State) : Host.Outcome State Fault Refusal :=
  match s.mem.through[idx]? with
  | some x => if x.started then .next { s with mem := { s.mem with through := dropAt s.mem.through idx } } else .next s
  | none => .next s

end Sys2Proof.Machine
end

