-- ==== Sys2Proof/Machine/ReedWords.lean ====
section
/-!
DEFINITION. Reed's words: `iodb` (R297), `iobind` and `iounb` (R303), the page-request queue (R293, R294), configuration
requests (R288) and windows (R304, R305).
-/
namespace Sys2Proof.Machine

/-! ## Queue handles -/

/-- The checks of a handle register at stage 2 (R297, R303). -/
def Ctx.handleCheck (c : Ctx) (s : State) (a : Nat) (cq : Bool) : Except Flt Unit :=
  let h := (c.grp.readS a).toNat
  if 1024 ≤ h ∨ !(s.handle h).loaded ∨ (cq ∧ !(s.handle h).cqv) then .error { cause := 0x90 } else .ok ()

/-- The handle that a register names. -/
def Ctx.handle (c : Ctx) (s : State) (a : Nat) : Handle := s.handle (c.grp.readS a).toNat

/-- The slots of an `iodb`, with their lanes (R297). -/
def Ctx.slots (c : Ctx) (b : Src) : List (Nat × Nat) := c.lanes.map fun l => (c.low32 b l, l)

/-- Stages 3 and 4 of `iodb` (R297). -/
def Ctx.slotCheck (c : Ctx) (s : State) (cq : Bool) (b : Src) (a : Nat) : Except Flt Unit :=
  let x := c.handle s a
  let ss := c.slots b
  let bad (p : Nat × Nat) := (if cq then x.cqm1 else x.sqm1) < p.1 || ss.any fun q => q.1 = p.1 && q.2 ≠ p.2
  if ss.any bad then .error { cause := 0x91, lanes := maskOf ((ss.filter bad).map (·.2)) }
  else if x.fen ≠ c.fen then .error { cause := 0xB4 }
  else .ok ()

/-- The interval of an `iodb` (R297). -/
def slotSpan (base : Nat) (ss : List (Nat × Nat)) : Interval :=
  let lo := ss.foldl (fun m p => min m p.1) ((ss.head?.map (·.1)).getD 0)
  let hi := ss.foldl (fun m p => max m p.1) 0
  { spad := false, lo := base % 2 ^ 57 + 64 * lo, len := 64 * (hi - lo + 1) }

/-- `iodb` and `iodb.cq` (R297) -/
def iodbWord (i : Instr) (cq : Bool) (b : Src) (a : BitVec 6) : State → Host.Outcome State Fault Refusal :=
  issue
    { op := 0x1A0, legal := wellFormed i, vs := b.vs, ss := a.toNat :: b.ss
      pre := fun c s => c.handleCheck s a.toNat cq
      lanesOk := fun c s => c.slotCheck s cq b a.toNat
      ready := fun c s => cq || (s.core c.team.core).lockRoom 1 }
    fun c s =>
      let x := c.handle s a.toNat
      let (id, s) := s.fresh
      let s := if cq then s
        else s.modCore c.team.core fun k => { k with
          locks := k.locks ++ [{ id := id, fen := c.fen, team := c.ti, src := some (slotSpan x.sqbase (c.slots b)), dst := none }] }
      let s := s.modGroup c.ti c.gi fun g => g.flagUp (c.flagNo 0x1A0)
      .ok { s with reed := { s.reed with
        marks := s.reed.marks ++ [{
          id := id, team := c.ti, group := c.gi, handle := (c.grp.readS a.toNat).toNat, load := x.load, cq := cq
          slots := c.slots b, flag := c.flagNo 0x1A0, core := c.team.core
          joined := c.grp.joined, due := none }] } }

/-- `iodb` (R297) -/
def execIodb (b : Src) (a : BitVec 6) (s : State) : Host.Outcome State Fault Refusal := iodbWord (.iodb b a) false b a s

/-- `iodb.cq` (R297) -/
def execIodbCq (b : Src) (a : BitVec 6) (s : State) : Host.Outcome State Fault Refusal := iodbWord (.iodbCq b a) true b a s

/-! ## Interrupt bindings -/

/-- The checks of `iobind` and `iounb` at stage 2 (R303). -/
def Ctx.bindCheck (c : Ctx) (s : State) (a : Nat) : Except Flt Unit := do
  c.handleCheck s a false
  let x := c.handle s a
  let r := s.remap x.rmap
  if !r.v ∨ r.fen ≠ x.fen then throw { cause := 0x93 }
  if r.mode = 1 ∧ r.uid ≠ some c.ti then throw { cause := 0x92 }

/-- Stage 4 of `iobind` and `iounb` (R303). -/
def Ctx.bindFen (c : Ctx) (s : State) (a : Nat) : Except Flt Unit :=
  if (c.handle s a).fen ≠ c.fen then .error { cause := 0xB4 } else .ok ()

/-- `iobind` (R303) -/
def execIobind (a : BitVec 6) (n : BitVec 4) (s : State) : Host.Outcome State Fault Refusal :=
  issue
    { op := 0x1A1, legal := wellFormed (.iobind a n) && s.issuer fun c => n.toNat < c.team.nbar, ss := [a.toNat]
      pre := fun c s => c.bindCheck s a.toNat
      lanesOk := fun c s => c.bindFen s a.toNat }
    (fun c s =>
      let e := (c.handle s a.toNat).rmap
      .ok (s.setRemap e { s.remap e with
        mode := 1, bar := n.toNat, seq := c.team.seq, team := c.team.linear, uid := some c.ti })) s

/-- `iounb` (R303) -/
def execIounb (a : BitVec 6) (s : State) : Host.Outcome State Fault Refusal :=
  issue
    { op := 0x1A2, legal := wellFormed (.iounb a), ss := [a.toNat]
      pre := fun c s => c.bindCheck s a.toNat
      lanesOk := fun c s => c.bindFen s a.toNat }
    (fun c s =>
      let e := (c.handle s a.toNat).rmap
      let r := s.remap e
      .ok (if r.mode = 1 then s.setRemap e { r with mode := 0, uid := none } else s)) s

/-! ## Page requests -/

/-- A page-request entry as `prqpop` delivers it (R293). -/
def PageReq.image (e : PageReq) : List Nat :=
  [1 + e.src * 2 + e.acc * 2 ^ 4 + b2n e.last * 2 ^ 6 + e.prgi * 2 ^ 7 + e.fen * 2 ^ 16 + e.tag * 2 ^ 32, e.va,
   e.rid + e.port * 2 ^ 16 + e.pasid * 2 ^ 22, e.time]

/-- Four uniform registers from `d` on written. -/
def Group.writeS4 (g : Group) (d : Nat) (xs : List Nat) : Group :=
  (List.range 4).foldl (fun g i => g.writeS (d + i) (BitVec.ofNat 64 (xs.getD i 0))) g

/-- An entry popped. -/
def State.popPage (s : State) (tag : Nat) : State :=
  let prq := s.reed.prq.map fun x : PageReq => if x.tag = tag then { x with popped := true } else x
  { s with reed := { s.reed with prq := prq } }

/-- `prqpop` (R294) -/
def execPrqpop (d : BitVec 6) (s : State) : Host.Outcome State Fault Refusal :=
  issue { op := 0x1A8, legal := wellFormed (.prqpop d), ss := sRange d.toNat 4 } (fun c s =>
    match s.reed.prq.find? fun e => !e.popped with
    | none => .ok (s.setGroup c.ti c.gi (c.grp.writeS4 d.toNat []))
    | some e =>
      .ok ((s.popPage e.tag).setGroup c.ti c.gi (c.grp.writeS4 d.toNat e.image))) s

/-- What Reed answers on a port. -/
def State.respond (s : State) (r : Reply) : State := { s with reed := { s.reed with responses := r :: s.reed.responses } }

/-- The entry that `prqack` answers: popped and not yet answered (R294). -/
def Ctx.ackEntry (c : Ctx) (s : State) (a : Nat) : Option PageReq :=
  s.reed.prq.find? fun e => e.popped && e.tag = (c.grp.readS a).toNat % 4096

/-- A page request answered (R294). -/
def State.ackPage (s : State) (e : PageReq) (code : Nat) : State :=
  let s := { s with reed := { s.reed with prq := s.reed.prq.filter fun x => x.tag ≠ e.tag } }
  match e.src with
  | 0 => if e.last then s.respond { port := e.port, rid := e.rid, kind := 2, code := code, data := e.prgi } else s
  | 1 => { s with copies := s.copies.map fun o =>
      if o.waits = some e.tag then
        { o with waits := none, failed := if code = 0 then o.failed else o.failed ++ [e.va / 4096] }
      else o }
  | _ => s

/-- `prqack` (R294) -/
def execPrqack (a : BitVec 6) (code : BitVec 2) (s : State) : Host.Outcome State Fault Refusal :=
  issue
    { op := 0x1A9, legal := wellFormed (.prqack a code), ss := [a.toNat]
      pre := fun c s => if (c.ackEntry s a.toNat).isNone then .error { cause := 0x96 } else .ok ()
      ready := fun c s => s.storesAt c.ti c.gi 3 }
    (fun c s =>
      match c.ackEntry s a.toNat with
      | some e => .ok (s.ackPage e code.toNat)
      | none => .ok s) s

/-! ## Configuration requests -/

/-- The stage 2 check of a configuration address (R288). -/
def State.cfgTarget (s : State) (x : Nat) : Bool :=
  x / 2 ^ 34 = 0 && x % 4 = 0 && s.portExists (bitsOf x 28 6) && (s.port (bitsOf x 28 6)).bridges

/-- The check of the address register. -/
def Ctx.cfgCheck (c : Ctx) (s : State) (a : Nat) : Except Flt Unit :=
  if s.cfgTarget (c.grp.readS a).toNat then .ok () else .error { cause := 0x94 }

/-- A configuration request sent (R288). -/
def State.cfgSend (s : State) (r : CfgReq) : State := { s with reed := { s.reed with cfg := s.reed.cfg ++ [r] } }

/-- `cfgrd` (R288) -/
def execCfgrd (d a : BitVec 6) (s : State) : Host.Outcome State Fault Refusal :=
  issue
    { op := 0x1AA, legal := wellFormed (.cfgrd d a), ss := [d.toNat, a.toNat]
      pre := fun c s => c.cfgCheck s a.toNat }
    (fun c s =>
      let (id, s) := s.fresh
      let s := s.begin c.ti c.gi { Pending.new id (c.flagNo 0x1AA) with waiting := 1 }
      .ok (s.cfgSend { team := c.ti, group := c.gi, pend := some id, addr := (c.grp.readS a.toNat).toNat, write := false
                       data := 0, dst := d.toNat, since := s.now })) s

/-- `cfgwr` (R288): the group issues no further word until the completion arrives -/
def execCfgwr (d a b : BitVec 6) (s : State) : Host.Outcome State Fault Refusal :=
  issue
    { op := 0x1AB, legal := wellFormed (.cfgwr d a b), ss := [d.toNat, a.toNat, b.toNat]
      pre := fun c s => c.cfgCheck s a.toNat }
    (fun c s =>
      let s := s.modGroup c.ti c.gi fun g => { g with block := some { kind := .cfg, entry := c.ei, since := s.now } }
      .ok (s.cfgSend { team := c.ti, group := c.gi, pend := none, addr := (c.grp.readS a.toNat).toNat, write := true
                       data := (c.grp.readS b.toNat).toNat % 2 ^ 32, dst := d.toNat, since := s.now })) s

/-! ## Windows -/

/-- The descriptor that `ntbmap` names, in four uniform registers (R305). -/
def Ctx.descriptor (c : Ctx) (a : Nat) : Nat :=
  ((List.range 4).map fun i => (c.grp.readS (a + i)).toNat * 2 ^ (64 * i)).foldl (· + ·) 0

/-- Do two windows overlap (R305)? -/
def Window.overlaps (x y : Window) : Bool :=
  if x.incoming ≠ y.incoming then false
  else if x.incoming then x.port = y.port && x.rem < y.rem + 2 ^ y.log2 && y.rem < x.rem + 2 ^ x.log2
  else x.loc < y.loc + 2 ^ y.log2 && y.loc < x.loc + 2 ^ x.log2

/-- Is a descriptor permitted (R304)? One that unmaps needs its zero fields only. -/
def State.windowOk (s : State) (x : Nat) : Bool :=
  let w := windowOf x
  let size := 2 ^ w.log2
  bitsOf x 22 10 = 0 && bitsOf x 40 24 = 0 && bitsOf x 121 7 = 0 && bitsOf x 192 64 = 0
    && (!w.v || (s.portExists w.port && (s.port w.port).inForce = 3 && 1 ≤ w.fen && w.fen ≤ 0xFE
      && 20 ≤ w.log2 && w.log2 ≤ 40 && w.loc % size = 0 && w.rem % size = 0 && (w.incoming || w.loc / 2 ^ 48 = 3)
      && s.reed.ntbw.keys.all fun k => k = w.win || !(s.window k).v || !w.overlaps (s.window k)))

/-- Is an access through a window in flight (R305)? -/
def State.windowBusy (s : State) (w : Window) : Bool :=
  let hit (e : StoreEnt) := e.fen = w.fen && w.loc ≤ e.pa && e.pa < w.loc + 2 ^ w.log2
  w.v && !w.incoming &&
    (s.cores.any (fun k => k.2.cso.any hit) || s.teams.any fun t => t.2.groups.any fun g =>
      g.2.sq.any hit || (fenBorne t.2 g.2 = w.fen && g.2.pend.any fun p => p.devs.any fun d => d.2.1 = w.port))

/-- `ntbmap` (R305) -/
def execNtbmap (a : BitVec 6) (s : State) : Host.Outcome State Fault Refusal :=
  issue
    { op := 0x1AC, legal := wellFormed (.ntbmap a), ss := sRange a.toNat 4
      pre := fun c s => if s.windowOk (c.descriptor a.toNat) then .ok () else .error { cause := 0x95 }
      ready := fun c s =>
        let w := windowOf (c.descriptor a.toNat)
        w.v || !s.windowBusy (s.window w.win) }
    (fun c s =>
      let x := c.descriptor a.toNat
      let w := windowOf x
      .ok { s with reed := { s.reed with
        ntbw := SMap.put 0 s.reed.ntbw w.win (if w.v then BitVec.ofNat 256 x else 0) } }) s

end Sys2Proof.Machine
end

