-- ==== Sys2Proof/Machine/ReedEvents.lean ====
section
/-!
DEFINITION. Reed's events: marks and doorbells (R296, R298, R299), ports (R280 to R282, R386), requests from devices
and peers (R289 to R291, R306), page requests (R292), interrupts (R283, R301, R302) and configuration completions
(R288).
-/
namespace Sys2Proof.Machine

/-! ## Marks and doorbells -/

/-- Are the accesses of the group that precede an `iodb` performed, but for writes to expanders, and the writes that happen before
it performed at scope `k` (R298)? Of other groups' stores those happen before it that its core's store order held at the group's
last acquire before the `iodb` (log entry 131). -/
def State.markReady (s : State) (m : Mark) : Bool :=
  let g := s.group m.team m.group
  let before (e : StoreEnt) : Bool :=
    if e.team = m.team ∧ e.group = m.group then e.word < m.id else e.entered < m.joined
  !((g.sq ++ (s.core (s.team m.team).core).cso).any before) && !(g.scq.any fun r => r.pend < m.id)
    && !s.txeBefore m.team m.group m.id && g.pend.all fun p => m.id ≤ p.id || (p.devs = [] && p.waiting = 0)

/-- Is a line one that an access of the group before an `iodb` wrote (R160, R298)? -/
def Mark.awaits (m : Mark) (x : Through) : Bool := x.team = m.team && x.group = some m.group && x.at_ < m.id

/-- Have the region 0x1 lines that the group wrote before an `iodb` reached their expanders (R160, R298)? -/
def State.markReached (s : State) (m : Mark) : Bool := !s.mem.through.any m.awaits

/-- The writes to expanders that an `iodb` waits for are started (R160, R298). -/
def State.startMark (s : State) (m : Mark) : State :=
  { s with mem := { s.mem with
    through := s.mem.through.map fun x => if m.awaits x then { x with started := true } else x } }

/-- Marks whose conditions have come to hold take their place in the order of R298; several that do so at once take it in
the order in which they were accepted (log entry 107). -/
def State.dueMarks (s : State) : State :=
  s.reed.marks.foldl (fun s m =>
    if m.due = none ∧ s.markReady m ∧ s.markReached m then
      { s with
        nextId := s.nextId + 1
        reed := { s.reed with marks := s.reed.marks.map fun x => if x.id = m.id then { x with due := some s.nextId } else x } }
    else s) s

/-- IODB_MARK (R298): a mark whose condition does not hold, or before which another of its handle is due, waits; what it waits
for at expanders is started -/
def execIodbMark (idx : Nat) (s : State) : Host.Outcome State Fault Refusal :=
  let s := s.dueMarks
  match s.reed.marks[idx]? with
  | none => .next s
  | some m =>
    if s.markTurn m then .next (s.mark m)
    else if s.markReady m ∧ !s.markReached m then .next (s.startMark m)
    else .next s

/-- DOORBELL_WRITE (R299) -/
def execDoorbellWrite (idx : Nat) (s : State) : Host.Outcome State Fault Refusal :=
  match s.reed.doorbells[idx]? with
  | none => .next s
  | some d => .next ({ s with reed := { s.reed with doorbells := dropAt s.reed.doorbells idx } }.ring d.1 d.2)

/-- QH_LOAD (R296) -/
def execQhLoad (handle : Nat) (s : State) : Host.Outcome State Fault Refusal :=
  .next (if handle < 1024 then s.loadHandle handle else s)

/-- QH_RETIRE (R296) -/
def execQhRetire (handle : Nat) (s : State) : Host.Outcome State Fault Refusal :=
  .next (if handle < 1024 then s.retireHandle handle else s)

/-! ## Ports -/

/-- PORT_TRAIN (R280, R282): a write of IOX_PORTp with TRAIN -/
def execPortTrain (port value : Nat) (s : State) : Host.Outcome State Fault Refusal :=
  .next (s.portWrite port (BitVec.ofNat 64 value ||| 0x10000) (BitVec.allOnes 64))

/-- GROUP_BIFURCATE (R281) -/
def execGroupBifurcate (grp value : Nat) (s : State) : Host.Outcome State Fault Refusal :=
  .next (s.bifWrite grp (value % 4))

/-- LINK_PARTNER_DETECT (R282 to R284): the rate and width that the partner allows are limited by the port's -/
def execLinkPartnerDetect (port rate width flit : Nat) (s : State) : Host.Outcome State Fault Refusal :=
  let x := s.port port
  if x.inForce = 0 ∨ x.up ∨ width = 0 ∨ !s.portExists port then .next s
  else
    let top := min (min rate (min x.maxrate 6)) (if x.inForce = 2 then 5 else 6)
    .next (s.modPort port fun x => { x with
      rate := top, width := min width (s.portLanes port), flit := 5 ≤ top || flit = 1, up := true, removed := false })

/-- LANE_FAILURE (R386): the link retrains narrower, and the event is counted -/
def execLaneFailure (port width : Nat) (s : State) : Host.Outcome State Fault Refusal :=
  let x := s.port port
  if !x.up ∨ width = 0 ∨ x.width ≤ width then .next s
  else
    let s := s.modPort port fun x => { x with width := width }
    .next (s.modDie (dieOfPort port) fun d => { d with degrades := min (d.degrades + 1) (2 ^ 16 - 1) })

/-- Every read of a device below some ports ends as a device abort (R171, R386). -/
def State.abortReads (s : State) (ports : Nat → Bool) : State :=
  { s with teams := s.teams.map fun t => (t.1, { t.2 with
      groups := t.2.groups.map fun g => (g.1, { g.2 with pend := g.2.pend.map fun p => p.abort fun d => ports d.2.1 }) }) }

/-- DEVICE_REMOVAL (R386) -/
def execDeviceRemoval (port : Nat) (s : State) : Host.Outcome State Fault Refusal :=
  if s.portExists port ∧ (s.port port).bridges then
    .next ((s.modPort port fun x => { x.linkDown with removed := true }).abortReads fun p => p = port)
  else .next s

/-- REMAP_WRITE (R301) -/
def execRemapWrite (entry word value : Nat) (s : State) : Host.Outcome State Fault Refusal :=
  .next (s.remapWrite entry word (BitVec.ofNat 64 value) (BitVec.allOnes 64))

/-! ## Requests from devices -/

/-- The requester's entry (R289). DESIGN CHOICE (log entry 148): of several valid entries with one RID and PORT the lowest-numbered
decides. -/
def State.requester (s : State) (port rid : Nat) : Option Nat :=
  (s.reed.ridt.find? fun e =>
    let x := e.2.toNat
    bitOf x 22 && bitsOf x 0 16 = rid && bitsOf x 16 6 = port).map fun e => e.2.toNat

/-- F0 to F3 of an entry. -/
def fensOf (x : Nat) : List Nat := [bitsOf x 24 8, bitsOf x 32 8, bitsOf x 40 8, bitsOf x 48 8]

/-- The fen of a request (R289): `pasid` is 0 for none, else one more than the PASID. -/
def State.requestFen (s : State) (port rid pasid : Nat) : Option Nat :=
  let f := match s.requester port rid with
    | some x =>
      if pasid = 0 then bitsOf x 24 8
      else if pasid ≤ 256 ∧ (fensOf x).contains (pasid - 1) then pasid - 1 else 0xFF
    | none => if pasid = 0 then (s.port port).deffen else 0xFF
  if f = 0xFF then none else some f

/-- Does a port carry requests that IOX_RIDT decides (R289)? -/
def State.carries (s : State) (port : Nat) : Bool :=
  let x := s.port port
  x.up && (x.inForce = 1 || x.inForce = 2 || x.inForce = 4)

/-- Unsupported Request: counted for system software (R289), and completed unless the request was posted. -/
def State.unsupported (s : State) (port rid : Nat) (posted : Bool) : State :=
  let s := { s with reed := { s.reed with unsupported := s.reed.unsupported + 1 } }
  if posted then s else s.respond { port := port, rid := rid, kind := 0, code := 1, data := 0 }

/-- Completer Abort: the failure is counted for system software (R291). -/
def State.completerAbort (s : State) (port rid : Nat) (posted : Bool) : State :=
  let s := { s with reed := { s.reed with aborted := s.reed.aborted + 1 } }
  if posted then s else s.respond { port := port, rid := rid, kind := 0, code := 2, data := 0 }

/-- The physical address at which a request of a fen arrives (R290), or `none`. A translated request, which names a
physical address, is accepted where the fen's present translation of the page agrees. -/
def State.requestPa (s : State) (fen va len : Nat) (write : Bool) (translated : Option Nat) : Option Nat :=
  if !canonical va ∨ 4096 < va % 4096 + len then none
  else match s.walkXlate fen (va % 2 ^ 57) with
  | .error _ => none
  | .ok x =>
    if (if write then x.w else x.r) ∧ isMemRegion x.pa ∧ (translated.all fun pa => pa = x.pa) then some x.pa else none

/-- A request that reaches no page: the machine check that its walk met is logged (R37, R385). -/
def State.requestProbe (s : State) (fen va len : Nat) : State :=
  if 4096 < va % 4096 + len then s else s.walkProbe fen va

/-- A request of a fen performed at its home bank (R291); the machine checks of all its lines are logged (R37, R385), and `failed`
answers the first finding. -/
def State.requestAccess (s : State) (failed : LineErr → State → State) (port rid fen pa len data : Nat) (write : Bool) : State :=
  match s.rangeErr fen pa len with
  | some (e, _) => failed e (s.logBeside [] (s.rangeErrs fen pa len))
  | none =>
    if write then s.applyWrite fen pa (whole (bytesLE len data))
    else s.respond { port := port, rid := rid, kind := 0, code := 0, data := s.readNat fen pa len }

/-- A request of a device (R291, R355, R356). DESIGN CHOICE (log entry 118): a line that an expander returns as poison (R284) is
answered like an unmapped set, as Unsupported Request. -/
def State.deviceAccess (s : State) (port rid fen pa len data : Nat) (write : Bool) : State :=
  s.requestAccess (fun e s => if e = .refused ∨ e = .abort then s.unsupported port rid write else s.completerAbort port rid write)
    port rid fen pa len data write

/-- A request of a peer: every failure is answered as Unsupported Request (R306). -/
def State.peerAccess (s : State) (port fen pa len data : Nat) (write : Bool) : State :=
  s.requestAccess (fun _ s => s.unsupported port 0 write) port 0 fen pa len data write

/-- An MSI-X message (R301, R302). -/
def State.message (s : State) (port data : Nat) : State :=
  let r := s.remap (data % 4096)
  let drop := { s with reed := { s.reed with dropped := s.reed.dropped + 1 } }
  let count := s.setRemap (data % 4096) { r with drop := min (r.drop + 1) (2 ^ 16 - 1) }
  if 4096 ≤ data ∨ !r.v ∨ r.port ≠ port then drop
  else match r.mode with
  | 0 => s.setEvent (dieOfPort port) evIrq
  | 1 =>
    match r.uid.bind fun ti => (s.arriveBar ti r.bar).map fun s => (s, ti) with
    | some (s, ti) => (s.setRemap (data % 4096) { r with count := (r.count + 1) % 2 ^ 16 }).raiseFloors ti
    | none => count
  | _ => count

/-- The bus address of MSI-X messages (R301). -/
def msixAddr : Nat := 0xFEF00000

/-- DEVICE_MEMORY_REQUEST (R289 to R291): bit 0 of `flags` is a write, bit 1 a translated request, whose virtual address
stands above them; `pasid` is one more than the PASID, or 0 -/
def execDeviceMemoryRequest (port rid pasid addr len data flags : Nat) (s : State) : Host.Outcome State Fault Refusal :=
  let write := bitOf flags 0
  let translated := bitOf flags 1
  if !s.carries port ∨ len = 0 ∨ 4096 < len then .next s
  else if write ∧ !translated ∧ addr = msixAddr ∧ len = 4 then .next (s.message port (data % 2 ^ 32))
  else match s.requestFen port rid pasid with
  | none => .next (s.unsupported port rid write)
  | some fen =>
    match s.requestPa fen (if translated then flags / 4 else addr) len write (if translated then some addr else none) with
    | none => .next ((s.requestProbe fen (if translated then flags / 4 else addr) len).unsupported port rid write)
    | some pa => .next (s.deviceAccess port rid fen pa len data write)

/-- ATS_TRANSLATION_REQUEST (R290): the machine check that its walk meets is logged (R37) -/
def execAtsTranslationRequest (port rid pasid addr : Nat) (s : State) : Host.Outcome State Fault Refusal :=
  let refuseAt (s : State) := ({ s with reed := { s.reed with unsupported := s.reed.unsupported + 1 } }).respond
    { port := port, rid := rid, kind := 1, code := 1, data := 0 }
  let refuse := refuseAt s
  if !s.carries port then .next s
  else match s.requestFen port rid pasid with
  | none => .next refuse
  | some fen =>
    if !canonical addr then .next refuse
    else match s.walkXlate fen (addr % 2 ^ 57) with
    | .error _ => .next (refuseAt (s.walkProbe fen addr))
    | .ok x =>
      if x.da then
        let s := if s.reed.ats.contains (fen, port, rid) then s
          else { s with reed := { s.reed with ats := (fen, port, rid) :: s.reed.ats } }
        .next (s.respond { port := port, rid := rid, kind := 1, code := 0
                           data := x.pa / 4096 * 4096 + b2n x.r + 2 * b2n x.w })
      else .next (s.respond { port := port, rid := rid, kind := 1, code := 0, data := 0 })

/-- ATS_INVALIDATE_COMPLETION (R290) -/
def execAtsInvalidateCompletion (_fen : Nat) (s : State) : Host.Outcome State Fault Refusal :=
  .next { s with reed := { s.reed with atspend := s.reed.atspend - 1 } }

/-- PAGE_REQUEST_MESSAGE (R292): a refused request is answered with Response Failure -/
def execPageRequestMessage (port rid pasid addr acc prgi last : Nat) (s : State) : Host.Outcome State Fault Refusal :=
  if !s.carries port ∨ acc % 4 = 0 then .next s
  else match s.requestFen port rid pasid with
  | none => .next { s with reed := { s.reed with unsupported := s.reed.unsupported + 1 } }
  | some fen =>
    match s.prqTake { tag := 0, popped := false, src := 0, acc := acc % 4, last := last = 1, prgi := prgi % 512, fen := fen
                      va := addr % 2 ^ 57, rid := rid % 2 ^ 16, port := port, pasid := pasid - 1, time := 0 } with
    | some (s, _) => .next s
    | none => .next ((s.prqRefuse fen).respond { port := port, rid := rid, kind := 2, code := 2, data := prgi % 512 })

/-- MSIX_MESSAGE (R301, R302): a message to another address is no MSI-X message, and is dropped and counted (R283) -/
def execMsixMessage (port data addr : Nat) (s : State) : Host.Outcome State Fault Refusal :=
  if !s.carries port then .next s
  else if addr ≠ msixAddr then .next { s with reed := { s.reed with dropped := s.reed.dropped + 1 } }
  else .next (s.message port (data % 2 ^ 32))

/-- LEGACY_INTERRUPT_MESSAGE (R283) -/
def execLegacyInterruptMessage (port : Nat) (s : State) : Host.Outcome State Fault Refusal :=
  if s.carries port then .next { s with reed := { s.reed with dropped := s.reed.dropped + 1 } } else .next s

/-- The incoming window that takes a bus address of a port (R304, R306). -/
def State.inWindow (s : State) (port addr : Nat) : Option Window :=
  (s.reed.ntbw.keys.map s.window).find? fun w =>
    w.v && w.incoming && w.port = port && w.rem ≤ addr && addr < w.rem + 2 ^ w.log2

/-- NTB_INCOMING_REQUEST (R306): bit 0 of `flags` is a write -/
def execNtbIncomingRequest (port addr len data flags : Nat) (s : State) : Host.Outcome State Fault Refusal :=
  let write := bitOf flags 0
  let x := s.port port
  if !(x.up ∧ x.inForce = 3) ∨ len = 0 ∨ 4096 < len then .next s
  else match s.inWindow port addr with
  | none => .next (s.unsupported port 0 write)
  | some w =>
    match s.requestPa w.fen (extend57 (w.loc + (addr - w.rem))) len write none with
    | none =>
      .next ((s.requestProbe w.fen (extend57 (w.loc + (addr - w.rem))) len).unsupported port 0 write)
    | some pa => .next (s.peerAccess port w.fen pa len data write)

/-! ## Configuration completions -/

/-- A configuration request answered (R288). -/
def State.cfgAnswer (s : State) (idx status data : Nat) : State :=
  match s.reed.cfg[idx]? with
  | none => s
  | some r =>
    let s := { s with reed := { s.reed with cfg := dropAt s.reed.cfg idx } }
    let word := status * 2 ^ 32 + if r.write then 0 else if status = 0 then data % 2 ^ 32 else 2 ^ 32 - 1
    match r.pend with
    | some id =>
      let s := s.modGroup? r.team r.group fun g =>
        (g.writeS r.dst (BitVec.ofNat 64 word)).modPend id fun p => { p with waiting := 0 }
      s.finishIf r.team r.group id
    | none => s.modGroup? r.team r.group fun g => { g.writeS r.dst (BitVec.ofNat 64 word) with block := none }

/-- The port of a configuration request, when its link is down. -/
def State.cfgDown (s : State) (idx : Nat) : Bool := s.reed.cfg[idx]?.any fun r => !(s.port (bitsOf r.addr 28 6)).up

/-- CFG_COMPLETION (R288): status 5 with the link down; what a device answers is given with the event -/
def execCfgCompletion (idx status data : Nat) (s : State) : Host.Outcome State Fault Refusal :=
  if s.cfgDown idx then .next (s.cfgAnswer idx 5 0)
  else .next (s.cfgAnswer idx (status % 4) data)

/-- CFG_COMPLETION_TIMEOUT (R288): after 64 ms -/
def execCfgCompletionTimeout (idx : Nat) (s : State) : Host.Outcome State Fault Refusal :=
  if s.cfgDown idx then .next (s.cfgAnswer idx 5 0)
  else if s.reed.cfg[idx]?.any fun r => r.since + 64000000 ≤ s.now then .next (s.cfgAnswer idx 4 0)
  else .next s

end Sys2Proof.Machine
end

