-- ==== Sys2Proof/Machine/SysRegs.lean ====
section
/-!
DEFINITION. The system registers: `srd` and `swr` (R102 to R106, R154, R183, R335 to R337, R375) and what their writes do
(R374, R376, R384, R385, R387, R388, R392).
-/
namespace Sys2Proof.Machine

/-! ## Actions of system registers -/

/-- A stopped system core restarts (R374): every group but group 0 ends, with its transactions and its log buffer (R78, R215),
and group 0 goes on at SYS_TVEC. A park that it waited in completes as an operation in flight does, and unblocks nothing (R193). -/
def State.restartTeam (s : State) (ti : Nat) : State :=
  let t := s.team ti
  let tvec := (s.core t.core).tvec
  let s := s.modTeam ti fun t => { t with rdvs := [] }
  let s := (t.groups.keys.filter (· ≠ 0)).foldl (fun s gi =>
    let s := s.drainGroup ti gi
    s.modGroup ti gi fun g => { g with
      entries := [], frames := [], exited := BitVec.allOnes 32, tx := [], txBuf := false, gate := none, block := none
      arrivedGang := none, deferred := [] }) s
  s.modGroup ti 0 fun g =>
    let g := g.abortLanes (BitVec.allOnes 32) 6 0
    { g with
      entries := if g.ended then [] else [(0, newSplinter tvec noFrame mode0 (~~~g.exited))], frames := [], fb := none
      pend := g.pend.map fun p => { p with isPark := false }
      block := none, arrivedGang := none, trap := { g.trap with ecause := g.trap.ecause &&& ~~~(1#64 <<< 25) } }

/-- SYS_SCRST (R374, R375): GO for a running core does nothing. -/
def State.restartCore (s : State) (d : Nat) : State :=
  let c := sysCore d
  if (s.core c).stopped then
    let tis := (s.teams.filter fun t => t.2.system && t.2.core = c).map (·.1)
    let s := tis.foldl State.restartTeam s
    s.modCore c fun k => { k with stopped := false }
  else s

/-- SYS_SPLIT of the selected core as it reads (R154). -/
def Core.splitWord (k : Core) : Nat := k.splitMode.toNat + k.splitCur.toNat * 4 + b2n (k.splitMode ≠ k.splitCur) * 16

/-- A requested split takes effect once the core holds no team and every slot is free (R154, R336). -/
def State.splitEffect (s : State) (c : Nat) : State :=
  let k := s.core c
  if c < 192 ∧ k.splitMode ≠ k.splitCur ∧ s.teamsOn c = [] ∧ !k.slotUsed then
    s.setCore c { k with splitCur := k.splitMode, l1 := [] }
  else s

/-- The two words of a machine-check record (R376). -/
def McRec.word0 (r : McRec) : Nat :=
  r.cause + r.kind * 2 ^ 8 + r.unit % 256 * 2 ^ 11 + b2n r.team * 2 ^ 19 + r.time % 2 ^ 44 * 2 ^ 20
def McRec.word1 (r : McRec) : Nat := if r.kind = 0 then r.pa % 2 ^ 52 else 0

/-- A read of SYS_MCLOG0 pops the oldest record and latches its second word (R376). -/
def State.mcPop (s : State) (d : Nat) : Nat × State :=
  match (s.die d).mclog with
  | [] => (0, s)
  | r :: rest =>
    let s := s.modDie d fun x => { x with mclog := rest }
    (r.word0, s.modCore (sysCore d) fun k => { k with mclog1 := BitVec.ofNat 64 r.word1 })

/-- May the spare take a core's place, or may the core be retired (R384)? -/
def State.coreFree (s : State) (d c : Nat) : Bool :=
  let k := s.core c
  c < 192 && dieOfCore c = d && s.teamsOn c = [] && !k.slotUsed && k.lent.isNone
    && s.scrubEnts.all fun e => e.kind = 1 || e.core ≠ c

/-- SYS_SPARE GO (R384): the spare is scrubbed first, then takes CORE's number. DESIGN CHOICE (log entry 20): a GO while the scrub
of an earlier one is pending is refused. -/
def State.spareGo (s : State) (d c : Nat) : State :=
  let x := s.die d
  if s.coreFree d c && !x.spareUsed && x.sparePend.isNone && !(s.scrubber d).full then
    let s := s.modDie d fun x => { x with sparePend := some c, spareDone := false, spareErr := false }
    s.queueScrub d { kind := 3, slot := 0, core := c, fen := 0xFF, units := 321, spec := 0, acc := 0 }
  else s.modDie d fun x => { x with spareDone := false, spareErr := true }

/-- SYS_SPARE RETIRE (R384). -/
def State.spareRetire (s : State) (d c : Nat) : State :=
  if s.coreFree d c then
    (s.modCore c fun k => { k with retired := true }).modDie d fun x => { x with spareDone := true, spareErr := false }
  else s.modDie d fun x => { x with spareDone := false, spareErr := true }

/-- A write of SYS_SPARE (R384). -/
def State.spareWrite (s : State) (d v : Nat) : State :=
  let c := v % 256
  let s := s.modDie d fun x => { x with spare := BitVec.ofNat 8 c }
  let s := if bitOf v 8 then s.spareGo d c else s
  if bitOf v 12 then s.spareRetire d c else s

/-- SYS_SPARE as it reads (R384). -/
def Die.spareWord (x : Die) : Nat :=
  x.spare.toNat + b2n x.spareDone * 2 ^ 9 + b2n x.spareUsed * 2 ^ 10 + b2n x.spareErr * 2 ^ 11

/-- A write of SYS_CHRET (R385): a slice of another die is not retired. -/
def State.chretWrite (s : State) (d v : Nat) : State :=
  let slice := bitsOf v 0 6
  let ch := bitsOf v 6 4
  let s := s.modDie d fun x => { x with chSlice := slice, chCh := ch }
  if !bitOf v 10 then s
  else if slice < 48 ∧ dieOfSlice slice = d then
    let m := s.mem.retiredCh.get 0 slice ||| (1#16 <<< ch)
    let s := { s with mem := { s.mem with retiredCh := SMap.put 0 s.mem.retiredCh slice m } }
    s.modDie d fun x => { x with chDone := true }
  else s.modDie d fun x => { x with chDone := false }

/-- SYS_CHRET as it reads (R385). -/
def State.chretWord (s : State) (d : Nat) : Nat :=
  let x := s.die d
  x.chSlice + x.chCh * 2 ^ 6 + b2n x.chDone * 2 ^ 11 + (s.mem.retiredCh.get 0 x.chSlice).toNat * 2 ^ 12

/-- A write of SYS_PWR (R388): the reserved mode leaves its field as it was. -/
def State.pwrWrite (s : State) (v : Nat) : State :=
  { s with sys := { s.sys with
      mode := if v % 4 = 3 then s.sys.mode else v % 4
      modeb := if v / 4 % 4 = 3 then s.sys.modeb else v / 4 % 4
      split := bitOf v 4 } }

/-- The modes asked for come into force, and their limit with them (R389, R391). -/
def State.pwrEffect (s : State) : State :=
  { s with sys := { s.sys with
      cur := if s.sys.forced then 0 else s.sys.mode
      curb := if s.sys.forced then 0 else if s.sys.split then s.sys.modeb else s.sys.mode }.measure s.now }

/-- SYS_PWR as it reads (R388). -/
def Sys.pwrWord (y : Sys) : Nat :=
  y.mode + y.modeb * 4 + b2n y.split * 16 + y.cur * 2 ^ 8 + y.curb * 2 ^ 10 + b2n y.cap * 2 ^ 12

/-- The bits of SYS_GATED that a partition's slices hold (R392). -/
def State.gateMask (s : State) (p : Nat) : BitVec 48 :=
  (slicesOf p (s.part p).size).foldl (fun m x => m ||| (1#48 <<< x)) 0

/-- A core without what its power held (R392). -/
def Core.unpowered (k : Core) : Core :=
  { Core.cold with retired := k.retired, clock := k.clock, wfCount := k.wfCount, wfTime := k.wfTime }

/-- The cores of a partition as they are without power (R392). -/
def State.unpower (s : State) (p : Nat) : State :=
  (coresOf p (s.part p).size).foldl (fun s c => s.modCore c Core.unpowered) s

/-- SYS_GATE OFF (R392): the cores lose what they hold; memory and tables of the fen guard stay. -/
def State.gateOff (s : State) (p : Nat) : State :=
  if s.isPart p ∧ s.partIdle p true then
    let s := s.unpower p
    { s with sys := { s.sys with gated := s.sys.gated ||| s.gateMask p, gateDone := true, gateErr := false } }
  else { s with sys := { s.sys with gateDone := false, gateErr := true } }

/-- SYS_GATE ON (R392): nothing written to the cores of a gated partition is kept, so that they hold no slot, and their
splits and worlds are as at cold reset. -/
def State.gateOn (s : State) (p : Nat) : State :=
  if s.isPart p then
    let s := if s.sys.gated &&& s.gateMask p = 0 then s else s.unpower p
    { s with sys := { s.sys with gated := s.sys.gated &&& ~~~s.gateMask p, gateDone := true, gateErr := false } }
  else { s with sys := { s.sys with gateDone := false, gateErr := true } }

/-- A write of SYS_GATE (R392): OFF with ON, both are ignored. -/
def State.gateWrite (s : State) (v : Nat) : State :=
  let s := { s with sys := { s.sys with gatePid := v % 64 } }
  match bitOf v 6, bitOf v 7 with
  | true, false => s.gateOff (v % 64)
  | false, true => s.gateOn (v % 64)
  | _, _ => s

/-- SYS_HANDOVER GO on a die's system core: the handover is in progress (R375, R387). -/
def State.handoverGo (s : State) (d : Nat) : State := s.modDie d fun x => { x with hoState := 1, hoErr := 0 }

/-- SYS_TIMECMP written: while the old value held TIMER set, the bit stays set until software clears it (R103, R106). -/
def Core.setTimecmp (k : Core) (now : Nat) (x : W64) : Core := { k with event := k.events now, timecmp := x }

/-! ## The registers -/

/-- The numbers that name a register (R103, R183, R335, R375). -/
def sysRegExists (n : Nat) : Bool :=
  n ≤ 0x00C || within 0x040 0x044 n || within 0x100 0x106 n || within 0x180 0x192 n

/-- The registers without a field that `swr` can write (R7, R102). -/
def sysRegReadOnly (n : Nat) : Bool :=
  n = 0x003 || n = 0x044 || within 0x100 0x106 n || n = 0x180 || n = 0x182 || n = 0x183 || n = 0x187 || n = 0x188
    || within 0x18D 0x18F n || n = 0x192

/-- Four 16-bit fields, slot 0 lowest (R335). -/
def slotFields (k : Core) (free : Nat) (f : FenSlot → Nat) : Nat :=
  ((List.range 4).map fun i => ((k.slots.find i).map f).getD free * 2 ^ (16 * i)).foldl (· + ·) 0

/-- The slot registers of a core (R335, R337). -/
def Core.slotWord (k : Core) (n : Nat) : Nat :=
  match n with
  | 0x100 => slotFields k 0xFF (·.fen)
  | 0x101 => slotFields k 0 (·.rf.toNat)
  | 0x102 => slotFields k 0 (·.sp.toNat)
  | 0x103 => slotFields k 0 (·.l1.toNat)
  | 0x104 => slotFields k 0 (·.bs.toNat)
  | 0x105 => slotFields k 0 (·.acc.toNat)
  | _ => b2n k.world + b2n k.worldPend * 2 + b2n k.worldTarget * 4

/-- The die of the issuing system core. -/
def Ctx.die (c : Ctx) : Nat := c.team.core - 192

/-- A register of a group's trap state (R103, R104). -/
def TrapRegs.read (t : TrapRegs) (n : Nat) : Nat :=
  match n with
  | 0x001 => t.epc.toNat
  | 0x002 => t.ecause.toNat
  | 0x003 => t.eaddr.toNat
  | 0x004 => t.emode.toNat
  | 0x00C => t.ecls.toNat
  | _ => (t.scr.get 0 (n - 0x005)).toNat

/-- A write of a register of a group's trap state (R103, R104): of SYS_ECAUSE only EXL. -/
def TrapRegs.write (t : TrapRegs) (n : Nat) (x : W64) : TrapRegs :=
  match n with
  | 0x001 => { t with epc := x.setWidth 57 }
  | 0x002 => { t with ecause := (t.ecause &&& ~~~(1#64 <<< 25)) ||| (x &&& (1#64 <<< 25)) }
  | 0x004 => { t with emode := (x.setWidth 21).setWidth 23 }
  | 0x00C => { t with ecls := x.setWidth 13 }
  | _ => { t with scr := SMap.put 0 t.scr (n - 0x005) x }

/-- Is the number one of a group's trap registers (R103)? -/
def trapReg (n : Nat) : Bool := within 0x001 0x008 n || n = 0x00C

/-- The registers of chapter 12 but for SYS_MCLOG0 (R375). -/
def State.sysWord (s : State) (d n : Nat) : Nat :=
  let y := s.sys
  let x := s.die d
  match n with
  | 0x180 => ((List.range 4).map fun e => b2n (s.core (sysCore e)).stopped * 2 ^ e).foldl (· + ·) 0 + d * 2 ^ 4
  | 0x182 => y.stage + y.bootErr * 2 ^ 4
  | 0x183 => y.fwver % 2 ^ 32 + y.fwsec % 2 ^ 16 * 2 ^ 32
  | 0x184 => x.hoState * 2 + x.hoErr * 2 ^ 3
  | 0x185 => y.foff.toNat % 2 ^ 64
  | 0x186 => y.foff.toNat / 2 ^ 64
  | 0x187 => y.facc.toNat % 2 ^ 64
  | 0x188 => y.facc.toNat / 2 ^ 64
  | 0x189 => y.hdb.toNat % 2 ^ 64
  | 0x18A => y.hdb.toNat / 2 ^ 64
  | 0x18B => x.spareWord
  | 0x18C => s.chretWord d
  | 0x18D => x.corrMem + x.corrArray * 2 ^ 32 + min x.degrades (2 ^ 16 - 1) * 2 ^ 48
  | 0x18F => (s.core (sysCore d)).mclog1.toNat
  | 0x190 => y.pwrWord
  | 0x191 => y.gatePid + b2n y.gateDone * 2 ^ 8 + b2n y.gateErr * 2 ^ 9
  | 0x192 => y.gated.toNat
  | _ => 0

/-- A system register as `srd` reads it (R102); the slot registers of a core that is no user core are not stated (log
entry 7). -/
def State.sysRead (s : State) (c : Ctx) (n : Nat) : Nat × State :=
  let k := s.core c.team.core
  let sel := k.coresel.toNat
  if trapReg n then (c.grp.trap.read n, s)
  else if within 0x100 0x106 n then
    if sel < 192 then ((s.core sel).slotWord n, s) else let (x, s) := s.free; (x.toNat, s)
  else match n with
  | 0x000 => (k.tvec.toNat, s)
  | 0x009 => ((k.events (s.timeOn c.team.core)).toNat, s)
  | 0x00A => (k.evmask.toNat, s)
  | 0x00B => (k.timecmp.toNat, s)
  | 0x040 => (s.ptbase.toNat, s)
  | 0x041 => (k.xfen.toNat, s)
  | 0x042 => (sel, s)
  | 0x043 => (if sel < 192 then (s.core sel).splitWord else 0, s)
  | 0x044 => (s.scepoch.toNat, s)
  | 0x18E => s.mcPop c.die
  | _ => (s.sysWord c.die n, s)

/-- A field of a feature or doorbell register replaced: the low or the high 64 bits. -/
def setHalf (old : Nat) (hi : Bool) (x : W64) : Nat :=
  if hi then old % 2 ^ 64 + x.toNat * 2 ^ 64 else old / 2 ^ 64 * 2 ^ 64 + x.toNat

/-- Features that can be offered: bits 0 to 5 (R380). -/
def featMask : BitVec 128 := 0x3F

/-- A write of the registers of chapter 12 (R375). -/
def State.sysPut (s : State) (d n : Nat) (x : W64) : State :=
  let y := s.sys
  let v := x.toNat
  match n with
  | 0x181 => if bitOf v 2 then s.restartCore (v % 4) else s
  | 0x184 => if bitOf v 0 then s.handoverGo d else s
  | 0x185 => { s with sys := { y with foff := BitVec.ofNat 128 (setHalf y.foff.toNat false x) &&& featMask } }
  | 0x186 => { s with sys := { y with foff := BitVec.ofNat 128 (setHalf y.foff.toNat true x) &&& featMask } }
  | 0x189 => { s with sys := { y with hdb := y.hdb &&& ~~~(x.setWidth 97) } }
  | 0x18A => { s with sys := { y with hdb := y.hdb &&& ~~~(x.setWidth 97 <<< 64) } }
  | 0x18B => s.spareWrite d v
  | 0x18C => s.chretWrite d v
  | 0x190 => s.pwrWrite v
  | 0x191 => s.gateWrite v
  | _ => s

/-- BASE, the one field of SYS_PTBASE (R146). -/
def ptbaseField : W64 := 0x000FFFFFFFFFF000

/-- A system register written by `swr` (R102). -/
def State.sysWrite (s : State) (c : Ctx) (n : Nat) (x : W64) : State :=
  let me := c.team.core
  let sel := (s.core me).coresel.toNat
  if trapReg n then s.modGroup c.ti c.gi fun g => { g with trap := g.trap.write n x }
  else match n with
  | 0x000 => s.modCore me fun k => { k with tvec := x.setWidth 57 }
  | 0x009 => s.modCore me fun k => { k with event := k.event &&& ~~~(x.setWidth 5) }
  | 0x00A => s.modCore me fun k => { k with evmask := x }
  | 0x00B => s.modCore me fun k => k.setTimecmp (s.timeOn me) x
  | 0x040 => { s with ptbase := x &&& ptbaseField }
  | 0x041 => s.modCore me fun k => { k with xfen := x.setWidth 8 }
  | 0x042 => s.modCore me fun k => { k with coresel := x.setWidth 8 }
  | 0x043 => if sel < 192 then s.modCore sel fun k => { k with splitMode := x.setWidth 2 } else s
  | _ => s.sysPut c.die n x

/-- `srd` (R102) -/
def execSrd (d : BitVec 6) (r : BitVec 9) (s : State) : Host.Outcome State Fault Refusal :=
  issue (sysW 0x015 (.srd d r) [d.toNat] fun _ _ => need (sysRegExists r.toNat) 0x0F)
    (fun c s =>
      let (x, s) := s.sysRead c r.toNat
      .ok (c.result d.toNat x s)) s

/-- `swr` (R102) -/
def execSwr (a : BitVec 6) (r : BitVec 9) (s : State) : Host.Outcome State Fault Refusal :=
  issue (sysW 0x016 (.swr a r) [a.toNat] fun _ _ => need (sysRegExists r.toNat && !sysRegReadOnly r.toNat) 0x0F)
    (fun c s => .ok (s.sysWrite c r.toNat (c.grp.readS a.toNat))) s

end Sys2Proof.Machine
end

