-- ==== Sys2Proof/Machine/System.lean ====
section
/-!
DEFINITION. The events of chapter 12: service writes (R374, R376, R380, R381, R384, R385, R387, R388, R392), time and
splits (R106, R154), power and temperature (R389 to R391), machine checks of cores and links (R37, R376), and reset with
its measured boot (R373, R377, R379).
-/
namespace Sys2Proof.Machine

open Crypto

/-! ## Measured boot -/

/-- FWMEAS after the loader and the firmware body (R377). -/
def Image.fwmeas (x : Image) : List Byte :=
  let extend (m part : List Byte) := sha384 (m ++ sha384 part)
  extend (extend (List.replicate 48 0) x.loader) x.body

/-- The ASCII string `BV48 identity` (R364). -/
def identityInfo : List Byte := [0x42, 0x56, 0x34, 0x38, 0x20, 0x69, 0x64, 0x65, 0x6E, 0x74, 0x69, 0x74, 0x79]

/-- The identity key of a firmware measurement (R364). -/
def identityKey (fwmeas : List Byte) : Nat :=
  natBE (hkdf fwmeas (bytesBE 48 Config.fusedSecret.toNat) identityInfo 56) % (ecN - 1) + 1

/-- The check of an image: signature, then security version; its error otherwise (R377). -/
def imageError : Option Image → Option Nat
  | none => some 0x03
  | some x =>
    if sha384 (bytesBE 48 x.pub.1 ++ bytesBE 48 x.pub.2) ≠ bytesBE 48 Config.fusedKeyDigest.toNat
        ∨ !ecVerify x.pub x.header x.sig then some 0x01
    else if x.security < Config.fusedMinVersion then some 0x02
    else none

/-- The measurement, identity and version of an image come into force (R363, R364, R377, R387). -/
def State.measured (s : State) (x : Image) : State :=
  let m := x.fwmeas
  let d := identityKey m
  { s with
    guard := { s.guard with fwmeas := m, idKey := d, idpub := ecPub d }
    sys := { s.sys with fwver := x.version, fwsec := x.security } }

/-- The team of a system core, from the kernel descriptor of an image (R65, R373). -/
def firmwareTeam (x : Image) (die : Nat) (floor : Nat) : Team :=
  let groups : SMap Group := (List.range (x.np + x.nc)).map fun gi =>
    (gi, Group.launched x.entry.toNat 0 gi (BitVec.allOnes 32) floor)
  { Team.blank with
    system := true, np := x.np, nc := x.nc, bp := x.bp, bc := x.bc, nspad := x.nspad, nbar := x.nbar, nstr := x.nstr
    nacc := x.nacc, rtab := x.rtab, dims := (1, 1, 1), core := sysCore die, status := .resident
    groups := bindPorts [0, 0, 0, 0] groups }

/-- The bytes of an image placed in memory as fen 0x00's: none in a line with a finding, another sealed fen's or the area of saved
measurements among them; a line's machine check is logged once (R37, R343, R356, R366, R385, log entry 109). -/
def State.placeImage (s : State) (cells : List Host.Cell) : State :=
  let s := ((cells.map fun c => c.1 / 64).eraseDups).foldl (fun s l => match s.lineErr 0 l with
    | some e => s.logFound e.code (some (l * 64))
    | none => s) s
  cells.foldl (fun s c => if (s.lineErr 0 (c.1 / 64)).isNone then (s.writeBytes 0 c.1 [c.2]).touch c.1 1 else s) s

/-- The firmware placed in memory by its loader, and the teams of the four system cores started at its entry (R373,
R377, R387). -/
def State.startFirmware (s : State) (x : Image) : State :=
  let s := s.placeImage x.cells
  (List.range 4).foldl (fun s d =>
    let ti := max s.nextId (s.teams.keys.foldl max 0) + 1
    let s := { s with nextId := ti + 1 }
    let s := s.modCore (sysCore d) fun k => { k with stopped := false, tvec := x.entry }
    s.setTeam ti (firmwareTeam x d s.nextId)) s

/-- A boot that fails (R377). -/
def State.bootFails (s : State) (e : Nat) : State := { s with sys := { s.sys with stage := 15, bootErr := e } }

/-- Boot (R377): the checks, the training of memory and links, whose outcome is free as is the outcome of the core
tests (log entry 7), then the firmware. -/
def State.boot (s : State) : State :=
  match imageError s.sys.flash, s.sys.flash with
  | some e, _ => s.bootFails e
  | none, none => s
  | none, some x =>
    let (v, s) := s.free
    let s := s.measured x
    if v.toNat % 3 = 1 then s.bootFails 0x04
    else if v.toNat % 3 = 2 then s.bootFails 0x05
    else
      let s := (List.range 4).foldl (fun s d => if v.getLsbD (8 + d) then s.modDie d fun y => { y with spareUsed := true } else s) s
      let s := { s with ptbase := x.ptbase &&& ptbaseField, sys := { s.sys with stage := 3 } }
      s.startFirmware x

/-! ## Resets -/

/-- Cold reset: every item at its reset value but for the flash, what devices have seen, and the model's own. -/
def State.coldState (s : State) : State :=
  { State.reset with
    agenda := s.agenda, nfree := s.nfree, nextId := s.nextId
    reed := { Reed.cold with devices := s.reed.devices, responses := s.reed.responses }
    sys := { Sys.cold with flash := s.sys.flash, draw := s.sys.draw }.measure 0 }

/-- The memory key of fen 0x00 drawn, as a cold boot does (R350, R379). -/
def State.drawKey (s : State) : State :=
  { s with
    nfree := s.nfree + 1
    guard := { s.guard with fens := s.guard.fens.ins 0 { s.guard.fens.get Fen.cold 0 with key := Config.drbg s.nfree } } }

/-- COLD_RESET (R361, R377) -/
def execColdReset (s : State) : Host.Outcome State Fault Refusal := .next s.coldState.drawKey.boot

/-- A core across warm reset: its slots and world latch are kept (R361, R379), and a retirement (R384). -/
def Core.warm (k : Core) : Core :=
  { Core.cold with
    slots := k.slots, world := k.world, worldPend := k.worldPend, worldTarget := k.worldTarget, retired := k.retired
    wfCount := k.wfCount, wfTime := k.wfTime }

/-- A scrub engine across warm reset: the unit in progress is abandoned, and DONE is kept (R361). -/
def Scrubber.warm (x : Scrubber) : Scrubber := { x with paused := x.length ≠ 0 }

/-- A die's registers across warm reset: the log and the counters since cold reset are kept (R375, R376), and a
substitution whose scrub is still listed. -/
def Die.warm (x : Die) : Die :=
  { Die.cold with
    sparePend := x.sparePend, corrMem := x.corrMem
    corrArray := x.corrArray, degrades := x.degrades, mclog := x.mclog, hot := x.hot }

/-- Warm reset: the always-on domain, time, memory and its keys are kept; every team ends (R361, R379). The cap and a forced
E last while the temperature or the draw asks for them (R390, R391). -/
def State.warmState (s : State) : State :=
  let warmPart (x : Nat × Part) : Nat × Part := (x.1, { Part.cold with gen := x.2.gen, size := x.2.size })
  let warmFen (x : Nat × Fen) : Nat × Fen := (x.1, { x.2 with eph := none, saved := false })
  let warmCore (x : Nat × Core) : Nat × Core := (x.1, x.2.warm)
  let warmScrub (x : Nat × Scrubber) : Nat × Scrubber := (x.1, x.2.warm)
  let warmDie (x : Nat × Die) : Nat × Die := (x.1, x.2.warm)
  { State.reset with
    agenda := s.agenda, nfree := s.nfree, nextId := s.nextId, now := s.now, scepoch := s.scepoch
    cores := s.cores.map warmCore
    mem := { Memory.cold with
      bytes := s.mem.bytes, tags := s.mem.tags, bad := s.mem.bad, tierAt := s.mem.tierAt, tierHas := s.mem.tierHas }
    reed := { Reed.cold with refused := s.reed.refused, devices := s.reed.devices, responses := s.reed.responses }
    parts := s.parts.map warmPart
    guard := { Guard.cold with
      lgen := s.guard.lgen, aoscr := s.guard.aoscr
      fens := s.guard.fens.map warmFen
      scrubs := s.guard.scrubs.map warmScrub }
    sys := { Sys.cold with
      flash := s.sys.flash, dies := s.sys.dies.map warmDie, cap := s.sys.cap, forced := s.sys.forced
      draw := s.sys.draw, drawOver := s.sys.drawOver, drawUnder := s.sys.drawUnder } }.pwrEffect

/-- WARM_RESET (R379) -/
def execWarmReset (s : State) : Host.Outcome State Fault Refusal := .next s.warmState.boot

/-! ## Firmware and service -/

/-- The team of a system core ends for the new firmware (R387): what it issued goes on. -/
def State.retireFirmware (s : State) : State :=
  let tis := (s.teams.filter fun t => t.2.system).map (·.1)
  tis.foldl (fun s ti =>
    let s := s.endTeam ti 0 0 false
    { s with teams := s.teams.del ti }) s

/-- The dies whose SYS_HANDOVER says that a handover is in progress (R375, R387). -/
def State.handingOver (s : State) : List Nat := (List.range 4).filter fun d => (s.die d).hoState = 1

/-- The result of a handover, in the SYS_HANDOVER of every system core that began it (R375, R387). -/
def State.handoverEnd (s : State) (st e : Nat) : State :=
  s.handingOver.foldl (fun s d => s.modDie d fun x => { x with hoState := st, hoErr := e }) s

/-- The handover (R387): refused with the old firmware unchanged, or done. -/
def State.handover (s : State) : State :=
  let refuse (e : Nat) := s.handoverEnd 3 e
  match imageError s.sys.flash, s.sys.flash with
  | some e, _ => refuse e
  | none, none => s
  | none, some x =>
    if s.sys.facc &&& ~~~x.foff ≠ 0 then refuse 0x06
    else
      let s := s.retireFirmware.measured x
      let s := { s with guard := { s.guard with fens := s.guard.fens.map fun (f : Nat × Fen) => (f.1, { f.2 with eph := none }) } }
      (s.handoverEnd 2 0).startFirmware x

/-- FIRMWARE_HANDOVER (R387): the end of a handover that a GO has begun -/
def execFirmwareHandover (s : State) : Host.Outcome State Fault Refusal :=
  .next (if s.handingOver ≠ [] then s.handover else s)

/-- Does a system core of another die run, which alone can restart this one (R374)? -/
def State.restarter (s : State) (die : Nat) : Bool := (List.range 4).any fun d => d ≠ die && !(s.core (sysCore d)).stopped

/-- SYSTEM_CORE_RESTART (R374): by a system core of another die -/
def execSystemCoreRestart (die : Nat) (s : State) : Host.Outcome State Fault Refusal :=
  .next (if die < 4 ∧ s.restarter die then s.restartCore die else s)

/-- SPARE_SUBSTITUTE (R384) -/
def execSpareSubstitute (die core : Nat) (s : State) : Host.Outcome State Fault Refusal :=
  .next (if die < 4 then s.spareWrite die (core % 256 + 2 ^ 8) else s)

/-- CORE_RETIRE (R384) -/
def execCoreRetire (die core : Nat) (s : State) : Host.Outcome State Fault Refusal :=
  .next (if die < 4 then s.spareWrite die (core % 256 + 2 ^ 12) else s)

/-- CHANNEL_RETIRE (R385) -/
def execChannelRetire (die slice ch : Nat) (s : State) : Host.Outcome State Fault Refusal :=
  .next (if die < 4 then s.chretWrite die (slice % 64 + ch % 16 * 2 ^ 6 + 2 ^ 10) else s)

/-- Is a function's shadow ring served: with the features latched, and for a virtual function with it enabled (R380)? -/
def Sys.ringServed (y : Sys) (fn : Nat) : Bool := y.latched && y.facc.getLsbD 1 && (fn = 0 || (fn ≤ 96 && y.facc.getLsbD 0))

/-- HOST_DOORBELL_WRITE (R380, R381): the written value is discarded -/
def execHostDoorbellWrite (fn : Nat) (s : State) : Host.Outcome State Fault Refusal :=
  .next (if s.sys.ringServed fn then { s with sys := { s.sys with hdb := s.sys.hdb ||| (1#97 <<< fn) } }.setEvent 0 evIrq else s)

/-- FEAT_OK (R380): the accepted set is latched once, when it lies within the offer -/
def execFeatOk (lo hi : Nat) (s : State) : Host.Outcome State Fault Refusal :=
  let acc := BitVec.ofNat 128 (lo % 2 ^ 64 + hi % 2 ^ 64 * 2 ^ 64)
  .next
    (if s.sys.latched then s
    else if acc &&& ~~~s.sys.foff ≠ 0 then { s with sys := { s.sys with featErr := true } }
    else { s with sys := { s.sys with facc := acc, latched := true, featErr := false } })

/-- FUNCTION_LEVEL_RESET (R380): of the physical function, function 0 -/
def execFunctionLevelReset (fn : Nat) (s : State) : Host.Outcome State Fault Refusal :=
  .next (if fn = 0 then { s with sys := { s.sys with facc := 0, latched := false, featErr := false } } else s)

/-- MCLOG_POP (R376) -/
def execMclogPop (die : Nat) (s : State) : Host.Outcome State Fault Refusal :=
  .next (if die < 4 then (s.mcPop die).2 else s)

/-- REGISTER_WRITE (R7, R286, R308, R340): a register of region 0xF is written -/
def execRegisterWrite (pa value : Nat) (s : State) : Host.Outcome State Fault Refusal :=
  .next (if regionOf pa = 15 then s.regWrite (pa / 8 * 8) 8 (value % 2 ^ 64) else s)

/-! ## Time, splits, power and temperature -/

/-- TIMECMP_EVENT (R106) -/
def execTimecmpEvent (die : Nat) (s : State) : Host.Outcome State Fault Refusal :=
  .next (if die < 4 then s.modCore (sysCore die) fun k => { k with event := k.events (s.timeOn (sysCore die)) } else s)

/-- SPLIT_EFFECT (R154) -/
def execSplitEffect (core : Nat) (s : State) : Host.Outcome State Fault Refusal := .next (s.splitEffect core)

/-- POWER_MODE_WRITE (R388) -/
def execPowerModeWrite (value : Nat) (s : State) : Host.Outcome State Fault Refusal := .next (s.pwrWrite value)

/-- POWER_MODE_EFFECT (R389) -/
def execPowerModeEffect (s : State) : Host.Outcome State Fault Refusal := .next s.pwrEffect

/-- PARTITION_GATE (R392) -/
def execPartitionGate (pid : Nat) (s : State) : Host.Outcome State Fault Refusal := .next (s.gateWrite (pid % 64 + 2 ^ 6))

/-- PARTITION_UNGATE (R392) -/
def execPartitionUngate (pid : Nat) (s : State) : Host.Outcome State Fault Refusal := .next (s.gateWrite (pid % 64 + 2 ^ 7))

/-- Has a condition held for a time? -/
def heldFor (since : Option Nat) (now ns : Nat) : Bool :=
  match since with
  | some t => t + ns ≤ now
  | none => false

/-- POWER_CAP_ENGAGE (R390): the draw has exceeded the limit for longer than 1 ms -/
def execPowerCapEngage (s : State) : Host.Outcome State Fault Refusal :=
  .next (if heldFor s.sys.drawOver s.now 1000001 then { s with sys := { s.sys with cap := true } } else s)

/-- POWER_CAP_RELEASE (R390): 5 % below the limit for 10 ms, and no die above 95 °C -/
def execPowerCapRelease (s : State) : Host.Outcome State Fault Refusal :=
  .next
    (if heldFor s.sys.drawUnder s.now 10000000 && s.sys.dies.all (fun d => !d.2.hot) then
      { s with sys := { s.sys with cap := false } }
    else s)

/-- THERMAL_CAP (R391) -/
def execThermalCap (die : Nat) (s : State) : Host.Outcome State Fault Refusal :=
  .next
    (if die < 4 then { s.modDie die (fun x => { x with hot := true }) with
      sys := { (s.modDie die fun x => { x with hot := true }).sys with cap := true } }
    else s)

/-- THERMAL_TRIP (R391): the trip is logged, and E is in force on every die -/
def execThermalTrip (die : Nat) (s : State) : Host.Outcome State Fault Refusal :=
  .next
    (if die < 4 then
      let s := s.logMc die { cause := 0xF5, kind := 3, unit := die, team := false, time := s.now, pa := 0 }
      let s := s.modDie die fun x => { x with hot := true }
      { s with sys := { s.sys with forced := true, cap := true } }.pwrEffect
    else s)

/-- THERMAL_RECOVERY (R391): below 90 °C the modes asked for are in force again -/
def execThermalRecovery (s : State) : Host.Outcome State Fault Refusal :=
  .next
    (if s.sys.forced then
      let cool (d : Nat × Die) : Nat × Die := (d.1, { d.2 with hot := false })
      { s with sys := { s.sys with forced := false, dies := (s.sys.dies.map cool).filter fun d => d.2 ≠ Die.cold } }.pwrEffect
    else s)

/-- THERMAL_SHUTDOWN (R391) -/
def execThermalShutdown (die : Nat) (s : State) : Host.Outcome State Fault Refusal :=
  .next (if die < 4 then { s with sys := { s.sys with off := true } } else s)

/-! ## Machine checks of cores and links -/

/-- Does a machine check swap a team out or end it (R37, R376)? -/
def State.mcHits (s : State) (intact : Bool) (ti : Nat) : Bool :=
  match s.teams.find ti with
  | none => false
  | some t => !t.system && (if intact then (t.status = .resident || t.onf) && t.lowest.isSome else t.status ≠ .ended)

/-- A machine check for a team whose saved context is intact (class S), or is not (class E) (R37). DESIGN CHOICE (log entry
116): no record is posted to the partition's fault queue for the class E end. -/
def State.mcTeam (s : State) (cause : Nat) (intact : Bool) (ti : Nat) : State :=
  match s.teams.find ti with
  | none => s
  | some t =>
    if t.system ∨ intact then
      match t.lowest with
      | some (gi, ei) => s.takeFault ti gi ei { cause := cause }
      | none => s
    else if t.status = .ended then s
    else s.endTeam ti cause 0 false

/-- The teams that an error of a core can affect: those that run on it or are being saved from it. -/
def State.teamsAt (s : State) (core : Nat) : List Nat :=
  (s.teams.filter fun t => t.2.core = core && (t.2.status = .resident || t.2.status = .saving)).map (·.1)

/-- The teams that an error of a core affects, and whether the saved context of each is intact (R37): `how` holds two bits for each
team at the core, in ascending order, the lower one set for a team that is affected, the upper for a context that is intact. -/
def State.affected (s : State) (core how : Nat) : List (Nat × Bool) :=
  ((s.teamsAt core).zipIdx.filter fun x => bitOf how (2 * x.2)).map fun x => (x.1, bitOf how (2 * x.2 + 1))

/-- CORE_UNCORRECTABLE_ERROR (R37, R376): each affected team is dealt with as its context is intact or not, and the others go on -/
def execCoreUncorrectableError (core how : Nat) (s : State) : Host.Outcome State Fault Refusal :=
  if 196 ≤ core then .next s
  else
    let tis := s.affected core how
    let s := s.logMc (dieOfCore core) {
      cause := 0xF2, kind := if isSysCore core then 4 else 1, unit := if isSysCore core then dieOfCore core else core
      team := tis.any (fun x => s.mcHits x.2 x.1), time := s.now, pa := 0 }
    .next (tis.foldl (fun s x => s.mcTeam 0xF2 x.2 x.1) s)

/-- The lower die of a link, in die-pair order 01, 02, 03, 12, 13, 23 (R376). -/
def dieOfLink (link : Nat) : Nat := if link < 3 then 0 else if link < 5 then 1 else 2

/-- LINK_DATA_LOSS (R37, R376): `intact` names the affected teams whose saved context is intact, `lost` the others -/
def execLinkDataLoss (link : Nat) (intact lost : List Nat) (s : State) : Host.Outcome State Fault Refusal :=
  if 6 ≤ link then .next s
  else
    let s := s.logMc (dieOfLink link) {
      cause := 0xF4, kind := 2, unit := link, team := intact.any (s.mcHits true) || lost.any (s.mcHits false), time := s.now, pa := 0 }
    .next (lost.foldl (fun s ti => s.mcTeam 0xF4 false ti) (intact.foldl (fun s ti => s.mcTeam 0xF4 true ti) s))

end Sys2Proof.Machine
end

