-- ==== Sys2Proof/Machine/Dispatch.lean ====
section
/-!
DEFINITION. The meaning of every instruction: one arm per constructor.
-/
namespace Sys2Proof.Machine

/-- The meaning of an instruction. -/
def exec (i : Instr) (s : State) : Host.Outcome State Fault Refusal :=
  match i with
  | .clauseHeader w a b n y c => Sys2Proof.Machine.execClauseHeader w a b n y c s
  | .nop im => Sys2Proof.Machine.execNop im s
  | .setm m => Sys2Proof.Machine.execSetm m s
  | .gets d im => Sys2Proof.Machine.execGets d im s
  | .getv d im => Sys2Proof.Machine.execGetv d im s
  | .br h q n o => Sys2Proof.Machine.execBr h q n o s
  | .jmp hx o => Sys2Proof.Machine.execJmp hx o s
  | .jr a => Sys2Proof.Machine.execJr a s
  | .call hx o => Sys2Proof.Machine.execCall hx o s
  | .ret a => Sys2Proof.Machine.execRet a s
  | .recon o => Sys2Proof.Machine.execRecon o s
  | .join => Sys2Proof.Machine.execJoin s
  | .loop l c n e => Sys2Proof.Machine.execLoop l c n e s
  | .lbrk h q n o => Sys2Proof.Machine.execLbrk h q n o s
  | .exit => Sys2Proof.Machine.execExit s
  | .yield => Sys2Proof.Machine.execYield s
  | .wait f => Sys2Proof.Machine.execWait f s
  | .trap n => Sys2Proof.Machine.execTrap n s
  | .sys n => Sys2Proof.Machine.execSys n s
  | .fbpt n => Sys2Proof.Machine.execFbpt n s
  | .eret => Sys2Proof.Machine.execEret s
  | .halt => Sys2Proof.Machine.execHalt s
  | .srd d r => Sys2Proof.Machine.execSrd d r s
  | .swr a r => Sys2Proof.Machine.execSwr a r s
  | .sadd b d a => Sys2Proof.Machine.execSadd b d a s
  | .ssub b d a => Sys2Proof.Machine.execSsub b d a s
  | .smul b d a => Sys2Proof.Machine.execSmul b d a s
  | .smulh b d a => Sys2Proof.Machine.execSmulh b d a s
  | .sand b d a => Sys2Proof.Machine.execSand b d a s
  | .sor b d a => Sys2Proof.Machine.execSor b d a s
  | .sxor b d a => Sys2Proof.Machine.execSxor b d a s
  | .sshl b d a => Sys2Proof.Machine.execSshl b d a s
  | .sshr b d a => Sys2Proof.Machine.execSshr b d a s
  | .ssra b d a => Sys2Proof.Machine.execSsra b d a s
  | .smin b d a => Sys2Proof.Machine.execSmin b d a s
  | .smax b d a => Sys2Proof.Machine.execSmax b d a s
  | .scmp b c p a => Sys2Proof.Machine.execScmp b c p a s
  | .ssel b d a => Sys2Proof.Machine.execSsel b d a s
  | .smov b d => Sys2Proof.Machine.execSmov b d s
  | .smovi d im => Sys2Proof.Machine.execSmovi d im s
  | .smovh d im => Sys2Proof.Machine.execSmovh d im s
  | .smovx d im => Sys2Proof.Machine.execSmovx d im s
  | .smovy d im => Sys2Proof.Machine.execSmovy d im s
  | .sclz d a => Sys2Proof.Machine.execSclz d a s
  | .spop d a => Sys2Proof.Machine.execSpop d a s
  | .sld d sr => Sys2Proof.Machine.execSld d sr s
  | .sst d sr => Sys2Proof.Machine.execSst d sr s
  | .pand d a b => Sys2Proof.Machine.execPand d a b s
  | .por d a b => Sys2Proof.Machine.execPor d a b s
  | .pxor d a b => Sys2Proof.Machine.execPxor d a b s
  | .pnot d a => Sys2Proof.Machine.execPnot d a s
  | .pany d a => Sys2Proof.Machine.execPany d a s
  | .pall d a => Sys2Proof.Machine.execPall d a s
  | .pmov b d => Sys2Proof.Machine.execPmov b d s
  | .vadd b d a => Sys2Proof.Machine.execVadd b d a s
  | .vsub b d a => Sys2Proof.Machine.execVsub b d a s
  | .vmul b d a => Sys2Proof.Machine.execVmul b d a s
  | .vmulh b d a => Sys2Proof.Machine.execVmulh b d a s
  | .vmad b d a => Sys2Proof.Machine.execVmad b d a s
  | .vdiv b d a => Sys2Proof.Machine.execVdiv b d a s
  | .vrem b d a => Sys2Proof.Machine.execVrem b d a s
  | .vabs d a => Sys2Proof.Machine.execVabs d a s
  | .vneg d a => Sys2Proof.Machine.execVneg d a s
  | .vmin b d a => Sys2Proof.Machine.execVmin b d a s
  | .vmax b d a => Sys2Proof.Machine.execVmax b d a s
  | .vand b d a => Sys2Proof.Machine.execVand b d a s
  | .vor b d a => Sys2Proof.Machine.execVor b d a s
  | .vxor b d a => Sys2Proof.Machine.execVxor b d a s
  | .vnot d a => Sys2Proof.Machine.execVnot d a s
  | .vshl b d a => Sys2Proof.Machine.execVshl b d a s
  | .vshr b d a => Sys2Proof.Machine.execVshr b d a s
  | .vsra b d a => Sys2Proof.Machine.execVsra b d a s
  | .vclz d a => Sys2Proof.Machine.execVclz d a s
  | .vpop d a => Sys2Proof.Machine.execVpop d a s
  | .vbrev d a => Sys2Proof.Machine.execVbrev d a s
  | .vbfx b d a => Sys2Proof.Machine.execVbfx b d a s
  | .vbfi b d a => Sys2Proof.Machine.execVbfi b d a s
  | .vsel b d a => Sys2Proof.Machine.execVsel b d a s
  | .vcmp b c p a => Sys2Proof.Machine.execVcmp b c p a s
  | .vmov b d => Sys2Proof.Machine.execVmov b d s
  | .vmovi d im => Sys2Proof.Machine.execVmovi d im s
  | .vmovh d im => Sys2Proof.Machine.execVmovh d im s
  | .vfadd b d a => Sys2Proof.Machine.execVfadd b d a s
  | .vfsub b d a => Sys2Proof.Machine.execVfsub b d a s
  | .vfmul b d a => Sys2Proof.Machine.execVfmul b d a s
  | .vfma b d a => Sys2Proof.Machine.execVfma b d a s
  | .vfmin b d a => Sys2Proof.Machine.execVfmin b d a s
  | .vfmax b d a => Sys2Proof.Machine.execVfmax b d a s
  | .vfcmp b c p a => Sys2Proof.Machine.execVfcmp b c p a s
  | .vfclass d a => Sys2Proof.Machine.execVfclass d a s
  | .vfrnd d a => Sys2Proof.Machine.execVfrnd d a s
  | .vrcp d a => Sys2Proof.Machine.execVrcp d a s
  | .vrsq d a => Sys2Proof.Machine.execVrsq d a s
  | .vsqrt d a => Sys2Proof.Machine.execVsqrt d a s
  | .vexp2 d a => Sys2Proof.Machine.execVexp2 d a s
  | .vlog2 d a => Sys2Proof.Machine.execVlog2 d a s
  | .vsin d a => Sys2Proof.Machine.execVsin d a s
  | .vcos d a => Sys2Proof.Machine.execVcos d a s
  | .vtanh d a => Sys2Proof.Machine.execVtanh d a s
  | .vsigm d a => Sys2Proof.Machine.execVsigm d a s
  | .vfdiv b d a => Sys2Proof.Machine.execVfdiv b d a s
  | .vcvt d a e f => Sys2Proof.Machine.execVcvt d a e f s
  | .vpack d a b => Sys2Proof.Machine.execVpack d a b s
  | .vunpack d a b => Sys2Proof.Machine.execVunpack d a b s
  | .cbld a => Sys2Proof.Machine.execCbld a s
  | .cbst d => Sys2Proof.Machine.execCbst d s
  | .vcbq d a e f => Sys2Proof.Machine.execVcbq d a e f s
  | .vshf b d a => Sys2Proof.Machine.execVshf b d a s
  | .vrot b d a => Sys2Proof.Machine.execVrot b d a s
  | .vbcst d a => Sys2Proof.Machine.execVbcst d a s
  | .vrd b d a => Sys2Proof.Machine.execVrd b d a s
  | .vred d a o => Sys2Proof.Machine.execVred d a o s
  | .vscan d a o => Sys2Proof.Machine.execVscan d a o s
  | .vball d b => Sys2Proof.Machine.execVball d b s
  | .vmatch d a => Sys2Proof.Machine.execVmatch d a s
  | .vrnd d => Sys2Proof.Machine.execVrnd d s
  | .vseed b a => Sys2Proof.Machine.execVseed b a s
  | .ldb d m => Sys2Proof.Machine.execLdb d m s
  | .ldh d m => Sys2Proof.Machine.execLdh d m s
  | .ldw d m => Sys2Proof.Machine.execLdw d m s
  | .ldd d m => Sys2Proof.Machine.execLdd d m s
  | .ldq d m => Sys2Proof.Machine.execLdq d m s
  | .stb d m => Sys2Proof.Machine.execStb d m s
  | .sth d m => Sys2Proof.Machine.execSth d m s
  | .stw d m => Sys2Proof.Machine.execStw d m s
  | .std d m => Sys2Proof.Machine.execStd d m s
  | .stq d m => Sys2Proof.Machine.execStq d m s
  | .ldf d m => Sys2Proof.Machine.execLdf d m s
  | .stf d m => Sys2Proof.Machine.execStf d m s
  | .ldsw d m => Sys2Proof.Machine.execLdsw d m s
  | .ldsd d m => Sys2Proof.Machine.execLdsd d m s
  | .ldsq d m => Sys2Proof.Machine.execLdsq d m s
  | .stsw d m => Sys2Proof.Machine.execStsw d m s
  | .stsd d m => Sys2Proof.Machine.execStsd d m s
  | .stsq d m => Sys2Proof.Machine.execStsq d m s
  | .lda d m => Sys2Proof.Machine.execLda d m s
  | .stl d m => Sys2Proof.Machine.execStl d m s
  | .ldsc d m => Sys2Proof.Machine.execLdsc d m s
  | .stsc d m => Sys2Proof.Machine.execStsc d m s
  | .ldnx d m => Sys2Proof.Machine.execLdnx d m s
  | .stnx d m => Sys2Proof.Machine.execStnx d m s
  | .pref h m => Sys2Proof.Machine.execPref h m s
  | .fence k sr => Sys2Proof.Machine.execFence k sr s
  | .flush m => Sys2Proof.Machine.execFlush m s
  | .inv m => Sys2Proof.Machine.execInv m s
  | .xlat d m => Sys2Proof.Machine.execXlat d m s
  | .tlbiPage sr => Sys2Proof.Machine.execTlbiPage sr s
  | .tlbiFen sr => Sys2Proof.Machine.execTlbiFen sr s
  | .tlbiAll sr => Sys2Proof.Machine.execTlbiAll sr s
  | .aadd b d a => Sys2Proof.Machine.execAadd b d a s
  | .aand b d a => Sys2Proof.Machine.execAand b d a s
  | .aor b d a => Sys2Proof.Machine.execAor b d a s
  | .axor b d a => Sys2Proof.Machine.execAxor b d a s
  | .amin b d a => Sys2Proof.Machine.execAmin b d a s
  | .amax b d a => Sys2Proof.Machine.execAmax b d a s
  | .axchg b d a => Sys2Proof.Machine.execAxchg b d a s
  | .ainc b d a => Sys2Proof.Machine.execAinc b d a s
  | .afadd b d a => Sys2Proof.Machine.execAfadd b d a s
  | .acas b d a => Sys2Proof.Machine.execAcas b d a s
  | .park b c p a => Sys2Proof.Machine.execPark b c p a s
  | .parkt b => Sys2Proof.Machine.execParkt b s
  | .txb => Sys2Proof.Machine.execTxb s
  | .txe p c => Sys2Proof.Machine.execTxe p c s
  | .txa im => Sys2Proof.Machine.execTxa im s
  | .txr d => Sys2Proof.Machine.execTxr d s
  | .txq d => Sys2Proof.Machine.execTxq d s
  | .mcfg im => Sys2Proof.Machine.execMcfg im s
  | .mgang b => Sys2Proof.Machine.execMgang b s
  | .mma r c a sr z => Sys2Proof.Machine.execMma r c a sr z s
  | .mmas r c a sr t z => Sys2Proof.Machine.execMmas r c a sr t z s
  | .mmaw r c a sr z => Sys2Proof.Machine.execMmaw r c a sr z s
  | .mcomp d a n t => Sys2Proof.Machine.execMcomp d a n t s
  | .ldga d m => Sys2Proof.Machine.execLdga d m s
  | .accld c a p => Sys2Proof.Machine.execAccld c a p s
  | .accz c => Sys2Proof.Machine.execAccz c s
  | .mstat d sr => Sys2Proof.Machine.execMstat d sr s
  | .cpt t l c b r => Sys2Proof.Machine.execCpt t l c b r s
  | .cpx t l c m => Sys2Proof.Machine.execCpx t l c m s
  | .cpl b d a => Sys2Proof.Machine.execCpl b d a s
  | .cpg d sr => Sys2Proof.Machine.execCpg d sr s
  | .cpf => Sys2Proof.Machine.execCpf s
  | .qcfg n b => Sys2Proof.Machine.execQcfg n b s
  | .qpushRes d n => Sys2Proof.Machine.execQpushRes d n s
  | .qpushPub n => Sys2Proof.Machine.execQpushPub n s
  | .qfree n => Sys2Proof.Machine.execQfree n s
  | .qpop d n => Sys2Proof.Machine.execQpop d n s
  | .binit b n => Sys2Proof.Machine.execBinit b n s
  | .barv d n => Sys2Proof.Machine.execBarv d n s
  | .bexp b n => Sys2Proof.Machine.execBexp b n s
  | .bwait b n => Sys2Proof.Machine.execBwait b n s
  | .btest b p n => Sys2Proof.Machine.execBtest b p n s
  | .iodb b a => Sys2Proof.Machine.execIodb b a s
  | .iodbCq b a => Sys2Proof.Machine.execIodbCq b a s
  | .iobind a n => Sys2Proof.Machine.execIobind a n s
  | .iounb a => Sys2Proof.Machine.execIounb a s
  | .prqpop d => Sys2Proof.Machine.execPrqpop d s
  | .prqack a c => Sys2Proof.Machine.execPrqack a c s
  | .cfgrd d a => Sys2Proof.Machine.execCfgrd d a s
  | .cfgwr d a b => Sys2Proof.Machine.execCfgwr d a b s
  | .ntbmap a => Sys2Proof.Machine.execNtbmap a s
  | .enq b p a => Sys2Proof.Machine.execEnq b p a s
  | .rsub d a b => Sys2Proof.Machine.execRsub d a b s
  | .launch d a n => Sys2Proof.Machine.execLaunch d a n s
  | .preempt d a => Sys2Proof.Machine.execPreempt d a s
  | .resumeRestart d a => Sys2Proof.Machine.execResumeRestart d a s
  | .resumeSkip d a => Sys2Proof.Machine.execResumeSkip d a s
  | .resumeSkipArgs d a => Sys2Proof.Machine.execResumeSkipArgs d a s
  | .resumeEnd d a => Sys2Proof.Machine.execResumeEnd d a s
  | .lend d a => Sys2Proof.Machine.execLend d a s
  | .reclaim d a => Sys2Proof.Machine.execReclaim d a s
  | .gcallImm p n => Sys2Proof.Machine.execGcallImm p n s
  | .gcallReg p b => Sys2Proof.Machine.execGcallReg p b s
  | .gret => Sys2Proof.Machine.execGret s
  | .kslot d a => Sys2Proof.Machine.execKslot d a s
  | .kzero d a => Sys2Proof.Machine.execKzero d a s
  | .scrub d a => Sys2Proof.Machine.execScrub d a s
  | .wlatch d a => Sys2Proof.Machine.execWlatch d a s
  | .fset d a => Sys2Proof.Machine.execFset d a s
  | .attestEvidence d a => Sys2Proof.Machine.execAttestEvidence d a s
  | .attestEphemeral d a => Sys2Proof.Machine.execAttestEphemeral d a s
  | .attestRelease d a => Sys2Proof.Machine.execAttestRelease d a s
  | .meas d a => Sys2Proof.Machine.execMeas d a s
  | .migrSet d a => Sys2Proof.Machine.execMigrSet d a s
  | .migrSave d a => Sys2Proof.Machine.execMigrSave d a s
  | .migrLoad d a => Sys2Proof.Machine.execMigrLoad d a s
  | .pageWalkComplete core fen va => Sys2Proof.Machine.execPageWalkComplete core fen va s
  | .loadDataArrive team group op sel => Sys2Proof.Machine.execLoadDataArrive team group op sel s
  | .storeQueueDrain team group => Sys2Proof.Machine.execStoreQueueDrain team group s
  | .storeApply core idx => Sys2Proof.Machine.execStoreApply core idx s
  | .atomicApply core idx => Sys2Proof.Machine.execAtomicApply core idx s
  | .parkTimeout idx => Sys2Proof.Machine.execParkTimeout idx s
  | .scReservationGrant line => Sys2Proof.Machine.execScReservationGrant line s
  | .scStampRollover => Sys2Proof.Machine.execScStampRollover s
  | .txCommit idx held => Sys2Proof.Machine.execTxCommit idx held s
  | .rendezvousClose team idx => Sys2Proof.Machine.execRendezvousClose team idx s
  | .wavefrontComplete core op => Sys2Proof.Machine.execWavefrontComplete core op s
  | .acczApply core op => Sys2Proof.Machine.execAcczApply core op s
  | .copyComplete op => Sys2Proof.Machine.execCopyComplete op s
  | .cplComplete op => Sys2Proof.Machine.execCplComplete op s
  | .iodbMark idx => Sys2Proof.Machine.execIodbMark idx s
  | .doorbellWrite idx => Sys2Proof.Machine.execDoorbellWrite idx s
  | .enqRecordCopy idx => Sys2Proof.Machine.execEnqRecordCopy idx s
  | .reorderFlushTimeout pid idx => Sys2Proof.Machine.execReorderFlushTimeout pid idx s
  | .teamPlace pid => Sys2Proof.Machine.execTeamPlace pid s
  | .teamRetire team => Sys2Proof.Machine.execTeamRetire team s
  | .parkThresholdSwap team => Sys2Proof.Machine.execParkThresholdSwap team s
  | .timeSliceExpiry pid => Sys2Proof.Machine.execTimeSliceExpiry pid s
  | .portTrain port value => Sys2Proof.Machine.execPortTrain port value s
  | .groupBifurcate grp value => Sys2Proof.Machine.execGroupBifurcate grp value s
  | .linkPartnerDetect port rate width flit => Sys2Proof.Machine.execLinkPartnerDetect port rate width flit s
  | .laneFailure port width => Sys2Proof.Machine.execLaneFailure port width s
  | .deviceRemoval port => Sys2Proof.Machine.execDeviceRemoval port s
  | .deviceMemoryRequest port rid pasid addr len data flags => Sys2Proof.Machine.execDeviceMemoryRequest port rid pasid addr len data flags s
  | .atsTranslationRequest port rid pasid addr => Sys2Proof.Machine.execAtsTranslationRequest port rid pasid addr s
  | .atsInvalidateCompletion fen => Sys2Proof.Machine.execAtsInvalidateCompletion fen s
  | .pageRequestMessage port rid pasid addr acc prgi last => Sys2Proof.Machine.execPageRequestMessage port rid pasid addr acc prgi last s
  | .msixMessage port data addr => Sys2Proof.Machine.execMsixMessage port data addr s
  | .legacyInterruptMessage port => Sys2Proof.Machine.execLegacyInterruptMessage port s
  | .ntbIncomingRequest port addr len data flags => Sys2Proof.Machine.execNtbIncomingRequest port addr len data flags s
  | .cfgCompletion idx status data => Sys2Proof.Machine.execCfgCompletion idx status data s
  | .cfgCompletionTimeout idx => Sys2Proof.Machine.execCfgCompletionTimeout idx s
  | .qhLoad handle => Sys2Proof.Machine.execQhLoad handle s
  | .qhRetire handle => Sys2Proof.Machine.execQhRetire handle s
  | .remapWrite entry word value => Sys2Proof.Machine.execRemapWrite entry word value s
  | .hostDoorbellWrite fn => Sys2Proof.Machine.execHostDoorbellWrite fn s
  | .featOk lo hi => Sys2Proof.Machine.execFeatOk lo hi s
  | .functionLevelReset fn => Sys2Proof.Machine.execFunctionLevelReset fn s
  | .dstQueueWrite pid queue word value => Sys2Proof.Machine.execDstQueueWrite pid queue word value s
  | .dstJbaseWrite pid value => Sys2Proof.Machine.execDstJbaseWrite pid value s
  | .dstFqbaseWrite pid value => Sys2Proof.Machine.execDstFqbaseWrite pid value s
  | .dstFqrdWrite pid value => Sys2Proof.Machine.execDstFqrdWrite pid value s
  | .dstHoldClear pid word value => Sys2Proof.Machine.execDstHoldClear pid word value s
  | .partitionMake first size => Sys2Proof.Machine.execPartitionMake first size s
  | .partitionUnmake first size => Sys2Proof.Machine.execPartitionUnmake first size s
  | .gateTableInvalidate => Sys2Proof.Machine.execGateTableInvalidate s
  | .copyEngineAssign engine value => Sys2Proof.Machine.execCopyEngineAssign engine value s
  | .copyEngineAssignEffect engine => Sys2Proof.Machine.execCopyEngineAssignEffect engine s
  | .scrubUnit die => Sys2Proof.Machine.execScrubUnit die s
  | .scrubResume die => Sys2Proof.Machine.execScrubResume die s
  | .fenMeasurementSave fen => Sys2Proof.Machine.execFenMeasurementSave fen s
  | .systemCoreRestart die => Sys2Proof.Machine.execSystemCoreRestart die s
  | .spareSubstitute die core => Sys2Proof.Machine.execSpareSubstitute die core s
  | .coreRetire die core => Sys2Proof.Machine.execCoreRetire die core s
  | .channelRetire die slice ch => Sys2Proof.Machine.execChannelRetire die slice ch s
  | .firmwareHandover => Sys2Proof.Machine.execFirmwareHandover s
  | .powerModeWrite value => Sys2Proof.Machine.execPowerModeWrite value s
  | .powerModeEffect => Sys2Proof.Machine.execPowerModeEffect s
  | .partitionGate pid => Sys2Proof.Machine.execPartitionGate pid s
  | .partitionUngate pid => Sys2Proof.Machine.execPartitionUngate pid s
  | .mclogPop die => Sys2Proof.Machine.execMclogPop die s
  | .splitEffect core => Sys2Proof.Machine.execSplitEffect core s
  | .timecmpEvent die => Sys2Proof.Machine.execTimecmpEvent die s
  | .powerCapEngage => Sys2Proof.Machine.execPowerCapEngage s
  | .powerCapRelease => Sys2Proof.Machine.execPowerCapRelease s
  | .thermalCap die => Sys2Proof.Machine.execThermalCap die s
  | .thermalTrip die => Sys2Proof.Machine.execThermalTrip die s
  | .thermalRecovery => Sys2Proof.Machine.execThermalRecovery s
  | .thermalShutdown die => Sys2Proof.Machine.execThermalShutdown die s
  | .coreUncorrectableError core intact => Sys2Proof.Machine.execCoreUncorrectableError core intact s
  | .linkDataLoss link intact lost => Sys2Proof.Machine.execLinkDataLoss link intact lost s
  | .coldReset => Sys2Proof.Machine.execColdReset s
  | .warmReset => Sys2Proof.Machine.execWarmReset s
  | .registerWrite pa value => Sys2Proof.Machine.execRegisterWrite pa value s
  | .deviceReadCompletionTimeout team group op => Sys2Proof.Machine.execDeviceReadCompletionTimeout team group op s
  | .expanderWriteComplete idx => Sys2Proof.Machine.execExpanderWriteComplete idx s
  | .contextSaveComplete team => Sys2Proof.Machine.execContextSaveComplete team s

end Sys2Proof.Machine
end

