-- ==== Sys2Proof/Decode.lean ====
section
/-!
DEFINITION. Decoding a word into an instruction, and the encoder. Both follow the encoding tables of the spec row by
row: R39 gives the formats, R46 the header, R57 the opcodes, and each instruction's rule its fields and fixed bits.
-/
namespace Sys2Proof

/-- Why bytes decode to no instruction. -/
inductive DecodeError where
  /-- fewer than four bytes -/
  | truncated
  /-- no row of the opcode map has these fixed bits: FLT_ILLEGAL_OP at stage 1 (R57) -/
  | illegalOp
  deriving DecidableEq, Repr

/-- The `len` bits of `w` from bit `lo`. -/
def fld (w lo len : Nat) : BitVec len := BitVec.ofNat len (w / 2 ^ lo)

/-- Do the `len` bits of `w` from bit `lo` hold `v`? -/
def isB (w lo len v : Nat) : Bool := w / 2 ^ lo % 2 ^ len == v

/-- bs and b of the A3 and C formats (R41). -/
def srcOf (w : Nat) : Src :=
  let n := fld w 0 7
  let bs := w / 2 ^ 21 % 4
  if bs = 0 then .v n else if bs = 1 then .s n else if bs = 2 then .imm n else .p n

/-- The bits of bs and b. -/
def Src.bits : Src → Nat
  | .v n => n.toNat
  | .s n => 2 ^ 21 + n.toNat
  | .imm n => 2 * 2 ^ 21 + n.toNat
  | .p n => 3 * 2 ^ 21 + n.toNat

/-- The condition numbered `n` (R45). -/
def ccOf (n : Nat) : Cc :=
  match n with
  | 0 => .eq | 1 => .ne | 2 => .lt | 3 => .le | 4 => .gt | 5 => .ge | 6 => .ltu | 7 => .leu
  | 8 => .gtu | 9 => .geu | 10 => .un | 11 => .ord | 12 => .t | 13 => .f | 14 => .bset | _ => .bclr

/-- The number of a condition (R45). -/
def Cc.num : Cc → Nat
  | .eq => 0 | .ne => 1 | .lt => 2 | .le => 3 | .gt => 4 | .ge => 5 | .ltu => 6 | .leu => 7
  | .gtu => 8 | .geu => 9 | .un => 10 | .ord => 11 | .t => 12 | .f => 13 | .bset => 14 | .bclr => 15

/-- a, s and sc of the M format (R39). -/
def memOf (w : Nat) : Mem := { a := fld w 9 7, s := fld w 3 6, sc := fld w 0 3 }

/-- The bits of a memory operand. -/
def Mem.bits (m : Mem) : Nat := m.a.toNat * 2 ^ 9 + m.s.toNat * 2 ^ 3 + m.sc.toNat

/-- The rows with opcodes 0x000 to 0x01F. -/
def decodeBlock0 (op w : Nat) : Option Instr :=
  match op with
  | 0x000 => some (Instr.nop (fld w 0 23))
  | 0x001 => some (Instr.setm (fld w 0 23))
  | 0x002 => if isB w 9 7 0 && isB w 22 1 0 then some (Instr.gets (fld w 16 6) (fld w 0 9))
      else none
  | 0x003 => if isB w 9 7 0 then some (Instr.getv (fld w 16 7) (fld w 0 9))
      else none
  | 0x004 => some (Instr.br (fld w 21 2) (fld w 18 3) (fld w 17 1) (fld w 0 17))
  | 0x005 => some (Instr.jmp (fld w 17 6) (fld w 0 17))
  | 0x006 => if isB w 0 7 0 && isB w 13 10 0 then some (Instr.jr (fld w 7 6))
      else none
  | 0x007 => some (Instr.call (fld w 17 6) (fld w 0 17))
  | 0x008 => if isB w 0 7 0 && isB w 13 10 0 then some (Instr.ret (fld w 7 6))
      else none
  | 0x009 => if isB w 17 6 0 then some (Instr.recon (fld w 0 17))
      else none
  | 0x00A => if isB w 0 23 0 then some (Instr.join)
      else none
  | 0x00B => some (Instr.loop (fld w 21 2) (fld w 20 1) (fld w 10 10) (fld w 0 10))
  | 0x00C => some (Instr.lbrk (fld w 21 2) (fld w 18 3) (fld w 17 1) (fld w 0 17))
  | 0x00D => if isB w 0 23 0 then some (Instr.exit)
      else none
  | 0x00E => if isB w 0 23 0 then some (Instr.yield)
      else none
  | 0x00F => if isB w 12 11 0 then some (Instr.wait (fld w 0 12))
      else none
  | 0x010 => if isB w 16 7 0 then some (Instr.trap (fld w 0 16))
      else none
  | 0x011 => if isB w 16 7 0 then some (Instr.sys (fld w 0 16))
      else none
  | 0x012 => if isB w 6 17 0 then some (Instr.fbpt (fld w 0 6))
      else none
  | 0x013 => if isB w 0 23 0 then some (Instr.eret)
      else none
  | 0x014 => if isB w 0 23 0 then some (Instr.halt)
      else none
  | 0x015 => if isB w 9 7 0 && isB w 22 1 0 then some (Instr.srd (fld w 16 6) (fld w 0 9))
      else none
  | 0x016 => if isB w 15 8 0 then some (Instr.swr (fld w 9 6) (fld w 0 9))
      else none
  | _ => none

/-- The rows with opcodes 0x020 to 0x03F. -/
def decodeBlock1 (op w : Nat) : Option Instr :=
  match op with
  | 0x020 => if isB w 13 1 0 && isB w 20 1 0 then some (Instr.sadd (srcOf w) (fld w 14 6) (fld w 7 6))
      else none
  | 0x021 => if isB w 13 1 0 && isB w 20 1 0 then some (Instr.ssub (srcOf w) (fld w 14 6) (fld w 7 6))
      else none
  | 0x022 => if isB w 13 1 0 && isB w 20 1 0 then some (Instr.smul (srcOf w) (fld w 14 6) (fld w 7 6))
      else none
  | 0x023 => if isB w 13 1 0 && isB w 20 1 0 then some (Instr.smulh (srcOf w) (fld w 14 6) (fld w 7 6))
      else none
  | 0x024 => if isB w 13 1 0 && isB w 20 1 0 then some (Instr.sand (srcOf w) (fld w 14 6) (fld w 7 6))
      else none
  | 0x025 => if isB w 13 1 0 && isB w 20 1 0 then some (Instr.sor (srcOf w) (fld w 14 6) (fld w 7 6))
      else none
  | 0x026 => if isB w 13 1 0 && isB w 20 1 0 then some (Instr.sxor (srcOf w) (fld w 14 6) (fld w 7 6))
      else none
  | 0x027 => if isB w 13 1 0 && isB w 20 1 0 then some (Instr.sshl (srcOf w) (fld w 14 6) (fld w 7 6))
      else none
  | 0x028 => if isB w 13 1 0 && isB w 20 1 0 then some (Instr.sshr (srcOf w) (fld w 14 6) (fld w 7 6))
      else none
  | 0x029 => if isB w 13 1 0 && isB w 20 1 0 then some (Instr.ssra (srcOf w) (fld w 14 6) (fld w 7 6))
      else none
  | 0x02A => if isB w 13 1 0 && isB w 20 1 0 then some (Instr.smin (srcOf w) (fld w 14 6) (fld w 7 6))
      else none
  | 0x02B => if isB w 13 1 0 && isB w 20 1 0 then some (Instr.smax (srcOf w) (fld w 14 6) (fld w 7 6))
      else none
  | 0x02C => if isB w 13 1 0 then some (Instr.scmp (srcOf w) (ccOf (w / 2 ^ 17 % 16)) (fld w 14 3) (fld w 7 6))
      else none
  | 0x02D => if isB w 13 1 0 && isB w 20 1 0 then some (Instr.ssel (srcOf w) (fld w 14 6) (fld w 7 6))
      else none
  | 0x02E => if isB w 7 7 0 && isB w 20 1 0 then some (Instr.smov (srcOf w) (fld w 14 6))
      else none
  | 0x02F => if isB w 22 1 0 then some (Instr.smovi (fld w 16 6) (fld w 0 16))
      else none
  | 0x030 => if isB w 22 1 0 then some (Instr.smovh (fld w 16 6) (fld w 0 16))
      else none
  | 0x031 => if isB w 22 1 0 then some (Instr.smovx (fld w 16 6) (fld w 0 16))
      else none
  | 0x032 => if isB w 22 1 0 then some (Instr.smovy (fld w 16 6) (fld w 0 16))
      else none
  | 0x033 => if isB w 0 7 0 && isB w 13 1 0 && isB w 20 3 0 then some (Instr.sclz (fld w 14 6) (fld w 7 6))
      else none
  | 0x034 => if isB w 0 7 0 && isB w 13 1 0 && isB w 20 3 0 then some (Instr.spop (fld w 14 6) (fld w 7 6))
      else none
  | 0x035 => if isB w 0 3 0 && isB w 9 7 127 && isB w 22 1 0 then some (Instr.sld (fld w 16 6) (fld w 3 6))
      else none
  | 0x036 => if isB w 0 3 0 && isB w 9 7 127 && isB w 22 1 0 then some (Instr.sst (fld w 16 6) (fld w 3 6))
      else none
  | 0x038 => if isB w 3 4 0 && isB w 10 4 0 && isB w 17 6 48 then some (Instr.pand (fld w 14 3) (fld w 7 3) (fld w 0 3))
      else none
  | 0x039 => if isB w 3 4 0 && isB w 10 4 0 && isB w 17 6 48 then some (Instr.por (fld w 14 3) (fld w 7 3) (fld w 0 3))
      else none
  | 0x03A => if isB w 3 4 0 && isB w 10 4 0 && isB w 17 6 48 then some (Instr.pxor (fld w 14 3) (fld w 7 3) (fld w 0 3))
      else none
  | 0x03B => if isB w 0 7 0 && isB w 10 4 0 && isB w 17 6 0 then some (Instr.pnot (fld w 14 3) (fld w 7 3))
      else none
  | 0x03C => if isB w 0 7 0 && isB w 10 4 0 && isB w 20 3 0 then some (Instr.pany (fld w 14 6) (fld w 7 3))
      else none
  | 0x03D => if isB w 0 7 0 && isB w 10 4 0 && isB w 20 3 0 then some (Instr.pall (fld w 14 6) (fld w 7 3))
      else none
  | 0x03E => if isB w 7 7 0 && isB w 17 4 0 then some (Instr.pmov (srcOf w) (fld w 14 3))
      else none
  | _ => none

/-- The rows with opcodes 0x040 to 0x05F. -/
def decodeBlock2 (op w : Nat) : Option Instr :=
  match op with
  | 0x040 => some (Instr.vadd (srcOf w) (fld w 14 7) (fld w 7 7))
  | 0x041 => some (Instr.vsub (srcOf w) (fld w 14 7) (fld w 7 7))
  | 0x042 => some (Instr.vmul (srcOf w) (fld w 14 7) (fld w 7 7))
  | 0x043 => some (Instr.vmulh (srcOf w) (fld w 14 7) (fld w 7 7))
  | 0x044 => some (Instr.vmad (srcOf w) (fld w 14 7) (fld w 7 7))
  | 0x045 => some (Instr.vdiv (srcOf w) (fld w 14 7) (fld w 7 7))
  | 0x046 => some (Instr.vrem (srcOf w) (fld w 14 7) (fld w 7 7))
  | 0x047 => if isB w 0 7 0 && isB w 21 2 0 then some (Instr.vabs (fld w 14 7) (fld w 7 7))
      else none
  | 0x048 => if isB w 0 7 0 && isB w 21 2 0 then some (Instr.vneg (fld w 14 7) (fld w 7 7))
      else none
  | 0x049 => some (Instr.vmin (srcOf w) (fld w 14 7) (fld w 7 7))
  | 0x04A => some (Instr.vmax (srcOf w) (fld w 14 7) (fld w 7 7))
  | 0x04B => some (Instr.vand (srcOf w) (fld w 14 7) (fld w 7 7))
  | 0x04C => some (Instr.vor (srcOf w) (fld w 14 7) (fld w 7 7))
  | 0x04D => some (Instr.vxor (srcOf w) (fld w 14 7) (fld w 7 7))
  | 0x04E => if isB w 0 7 0 && isB w 21 2 0 then some (Instr.vnot (fld w 14 7) (fld w 7 7))
      else none
  | 0x04F => some (Instr.vshl (srcOf w) (fld w 14 7) (fld w 7 7))
  | 0x050 => some (Instr.vshr (srcOf w) (fld w 14 7) (fld w 7 7))
  | 0x051 => some (Instr.vsra (srcOf w) (fld w 14 7) (fld w 7 7))
  | 0x052 => if isB w 0 7 0 && isB w 21 2 0 then some (Instr.vclz (fld w 14 7) (fld w 7 7))
      else none
  | 0x053 => if isB w 0 7 0 && isB w 21 2 0 then some (Instr.vpop (fld w 14 7) (fld w 7 7))
      else none
  | 0x054 => if isB w 0 7 0 && isB w 21 2 0 then some (Instr.vbrev (fld w 14 7) (fld w 7 7))
      else none
  | 0x055 => some (Instr.vbfx (srcOf w) (fld w 14 7) (fld w 7 7))
  | 0x056 => some (Instr.vbfi (srcOf w) (fld w 14 7) (fld w 7 7))
  | 0x057 => some (Instr.vsel (srcOf w) (fld w 14 7) (fld w 7 7))
  | 0x058 => some (Instr.vcmp (srcOf w) (ccOf (w / 2 ^ 17 % 16)) (fld w 14 3) (fld w 7 7))
  | 0x059 => if isB w 7 7 0 then some (Instr.vmov (srcOf w) (fld w 14 7))
      else none
  | 0x05A => some (Instr.vmovi (fld w 16 7) (fld w 0 16))
  | 0x05B => some (Instr.vmovh (fld w 16 7) (fld w 0 16))
  | _ => none

/-- The rows with opcodes 0x060 to 0x07F. -/
def decodeBlock3 (op w : Nat) : Option Instr :=
  match op with
  | 0x060 => some (Instr.vfadd (srcOf w) (fld w 14 7) (fld w 7 7))
  | 0x061 => some (Instr.vfsub (srcOf w) (fld w 14 7) (fld w 7 7))
  | 0x062 => some (Instr.vfmul (srcOf w) (fld w 14 7) (fld w 7 7))
  | 0x063 => some (Instr.vfma (srcOf w) (fld w 14 7) (fld w 7 7))
  | 0x064 => some (Instr.vfmin (srcOf w) (fld w 14 7) (fld w 7 7))
  | 0x065 => some (Instr.vfmax (srcOf w) (fld w 14 7) (fld w 7 7))
  | 0x066 => some (Instr.vfcmp (srcOf w) (ccOf (w / 2 ^ 17 % 16)) (fld w 14 3) (fld w 7 7))
  | 0x067 => if isB w 0 7 0 && isB w 21 2 0 then some (Instr.vfclass (fld w 14 7) (fld w 7 7))
      else none
  | 0x068 => if isB w 0 7 0 && isB w 21 2 0 then some (Instr.vfrnd (fld w 14 7) (fld w 7 7))
      else none
  | 0x069 => if isB w 0 7 0 && isB w 21 2 0 then some (Instr.vrcp (fld w 14 7) (fld w 7 7))
      else none
  | 0x06A => if isB w 0 7 0 && isB w 21 2 0 then some (Instr.vrsq (fld w 14 7) (fld w 7 7))
      else none
  | 0x06B => if isB w 0 7 0 && isB w 21 2 0 then some (Instr.vsqrt (fld w 14 7) (fld w 7 7))
      else none
  | 0x06C => if isB w 0 7 0 && isB w 21 2 0 then some (Instr.vexp2 (fld w 14 7) (fld w 7 7))
      else none
  | 0x06D => if isB w 0 7 0 && isB w 21 2 0 then some (Instr.vlog2 (fld w 14 7) (fld w 7 7))
      else none
  | 0x06E => if isB w 0 7 0 && isB w 21 2 0 then some (Instr.vsin (fld w 14 7) (fld w 7 7))
      else none
  | 0x06F => if isB w 0 7 0 && isB w 21 2 0 then some (Instr.vcos (fld w 14 7) (fld w 7 7))
      else none
  | 0x070 => if isB w 0 7 0 && isB w 21 2 0 then some (Instr.vtanh (fld w 14 7) (fld w 7 7))
      else none
  | 0x071 => if isB w 0 7 0 && isB w 21 2 0 then some (Instr.vsigm (fld w 14 7) (fld w 7 7))
      else none
  | 0x072 => some (Instr.vfdiv (srcOf w) (fld w 14 7) (fld w 7 7))
  | _ => none

/-- The rows with opcodes 0x080 to 0x09F. -/
def decodeBlock4 (op w : Nat) : Option Instr :=
  match op with
  | 0x080 => if isB w 6 1 0 && isB w 21 2 2 then some (Instr.vcvt (fld w 14 7) (fld w 7 7) (fld w 3 3) (fld w 0 3))
      else none
  | 0x081 => if isB w 21 2 0 then some (Instr.vpack (fld w 14 7) (fld w 7 7) (fld w 0 7))
      else none
  | 0x082 => if isB w 21 2 0 then some (Instr.vunpack (fld w 14 7) (fld w 7 7) (fld w 0 7))
      else none
  | 0x083 => if isB w 0 7 0 && isB w 13 10 0 then some (Instr.cbld (fld w 7 6))
      else none
  | 0x084 => if isB w 0 14 0 && isB w 20 3 0 then some (Instr.cbst (fld w 14 6))
      else none
  | 0x085 => if isB w 6 1 0 && isB w 21 2 2 then some (Instr.vcbq (fld w 14 7) (fld w 7 7) (fld w 3 3) (fld w 0 3))
      else none
  | 0x090 => some (Instr.vshf (srcOf w) (fld w 14 7) (fld w 7 7))
  | 0x091 => some (Instr.vrot (srcOf w) (fld w 14 7) (fld w 7 7))
  | 0x092 => if isB w 0 7 0 && isB w 21 2 0 then some (Instr.vbcst (fld w 14 7) (fld w 7 7))
      else none
  | 0x093 => some (Instr.vrd (srcOf w) (fld w 14 7) (fld w 7 7))
  | 0x094 => if isB w 3 4 0 && isB w 21 2 2 then some (Instr.vred (fld w 14 7) (fld w 7 7) (fld w 0 3))
      else none
  | 0x095 => if isB w 3 4 0 && isB w 21 2 2 then some (Instr.vscan (fld w 14 7) (fld w 7 7) (fld w 0 3))
      else none
  | 0x096 => if isB w 3 11 0 && isB w 21 2 3 then some (Instr.vball (fld w 14 7) (fld w 0 3))
      else none
  | 0x097 => if isB w 0 7 0 && isB w 21 2 0 then some (Instr.vmatch (fld w 14 7) (fld w 7 7))
      else none
  | _ => none

/-- The rows with opcodes 0x0A0 to 0x0BF. -/
def decodeBlock5 (op w : Nat) : Option Instr :=
  match op with
  | 0x0A0 => if isB w 0 14 0 && isB w 21 2 0 then some (Instr.vrnd (fld w 14 7))
      else none
  | 0x0A1 => if isB w 14 7 0 then some (Instr.vseed (srcOf w) (fld w 7 7))
      else none
  | _ => none

/-- The rows with opcodes 0x100 to 0x11F. -/
def decodeBlock8 (op w : Nat) : Option Instr :=
  match op with
  | 0x100 => some (Instr.ldb (fld w 16 7) (memOf w))
  | 0x101 => some (Instr.ldh (fld w 16 7) (memOf w))
  | 0x102 => some (Instr.ldw (fld w 16 7) (memOf w))
  | 0x103 => some (Instr.ldd (fld w 16 7) (memOf w))
  | 0x104 => some (Instr.ldq (fld w 16 7) (memOf w))
  | 0x108 => some (Instr.stb (fld w 16 7) (memOf w))
  | 0x109 => some (Instr.sth (fld w 16 7) (memOf w))
  | 0x10A => some (Instr.stw (fld w 16 7) (memOf w))
  | 0x10B => some (Instr.std (fld w 16 7) (memOf w))
  | 0x10C => some (Instr.stq (fld w 16 7) (memOf w))
  | 0x110 => some (Instr.ldf (fld w 16 7) (memOf w))
  | 0x111 => some (Instr.stf (fld w 16 7) (memOf w))
  | 0x114 => some (Instr.ldsw (fld w 16 7) (memOf w))
  | 0x115 => some (Instr.ldsd (fld w 16 7) (memOf w))
  | 0x116 => some (Instr.ldsq (fld w 16 7) (memOf w))
  | 0x118 => some (Instr.stsw (fld w 16 7) (memOf w))
  | 0x119 => some (Instr.stsd (fld w 16 7) (memOf w))
  | 0x11A => some (Instr.stsq (fld w 16 7) (memOf w))
  | _ => none

/-- The rows with opcodes 0x120 to 0x13F. -/
def decodeBlock9 (op w : Nat) : Option Instr :=
  match op with
  | 0x120 => some (Instr.lda (fld w 16 7) (memOf w))
  | 0x121 => some (Instr.stl (fld w 16 7) (memOf w))
  | 0x122 => some (Instr.ldsc (fld w 16 7) (memOf w))
  | 0x123 => some (Instr.stsc (fld w 16 7) (memOf w))
  | 0x124 => some (Instr.ldnx (fld w 16 7) (memOf w))
  | 0x125 => some (Instr.stnx (fld w 16 7) (memOf w))
  | 0x128 => if isB w 18 5 0 then some (Instr.pref (fld w 16 2) (memOf w))
      else none
  | 0x129 => if isB w 5 18 0 then some (Instr.fence (fld w 3 2) (fld w 0 3))
      else none
  | 0x12A => if isB w 16 7 0 then some (Instr.flush (memOf w))
      else none
  | 0x12B => if isB w 16 7 0 then some (Instr.inv (memOf w))
      else none
  | 0x130 => some (Instr.xlat (fld w 16 7) (memOf w))
  | 0x131 => if isB w 0 3 0 && isB w 9 14 127 then some (Instr.tlbiPage (fld w 3 6))
      else if isB w 0 3 0 && isB w 9 14 255 then some (Instr.tlbiFen (fld w 3 6))
      else if isB w 0 3 0 && isB w 9 14 383 then some (Instr.tlbiAll (fld w 3 6))
      else none
  | _ => none

/-- The rows with opcodes 0x140 to 0x15F. -/
def decodeBlock10 (op w : Nat) : Option Instr :=
  match op with
  | 0x140 => some (Instr.aadd (srcOf w) (fld w 14 7) (fld w 7 7))
  | 0x141 => some (Instr.aand (srcOf w) (fld w 14 7) (fld w 7 7))
  | 0x142 => some (Instr.aor (srcOf w) (fld w 14 7) (fld w 7 7))
  | 0x143 => some (Instr.axor (srcOf w) (fld w 14 7) (fld w 7 7))
  | 0x144 => some (Instr.amin (srcOf w) (fld w 14 7) (fld w 7 7))
  | 0x145 => some (Instr.amax (srcOf w) (fld w 14 7) (fld w 7 7))
  | 0x146 => some (Instr.axchg (srcOf w) (fld w 14 7) (fld w 7 7))
  | 0x147 => some (Instr.ainc (srcOf w) (fld w 14 7) (fld w 7 7))
  | 0x148 => some (Instr.afadd (srcOf w) (fld w 14 7) (fld w 7 7))
  | 0x149 => some (Instr.acas (srcOf w) (fld w 14 7) (fld w 7 7))
  | 0x14A => some (Instr.park (srcOf w) (ccOf (w / 2 ^ 17 % 16)) (fld w 14 3) (fld w 7 7))
  | 0x14B => if isB w 6 17 32768 then some (Instr.parkt (fld w 0 6))
      else none
  | 0x150 => if isB w 0 23 0 then some (Instr.txb)
      else none
  | 0x151 => if isB w 0 7 0 && isB w 17 6 0 then some (Instr.txe (fld w 14 3) (fld w 7 7))
      else none
  | 0x152 => if isB w 8 15 0 then some (Instr.txa (fld w 0 8))
      else none
  | 0x153 => if isB w 0 14 0 && isB w 21 2 0 then some (Instr.txr (fld w 14 7))
      else none
  | 0x154 => if isB w 0 14 0 && isB w 21 2 0 then some (Instr.txq (fld w 14 7))
      else none
  | _ => none

/-- The rows with opcodes 0x160 to 0x17F. -/
def decodeBlock11 (op w : Nat) : Option Instr :=
  match op with
  | 0x160 => if isB w 21 2 0 then some (Instr.mcfg (fld w 0 21))
      else none
  | 0x161 => if isB w 6 17 32768 then some (Instr.mgang (fld w 0 6))
      else none
  | 0x162 => if isB w 1 2 0 then some (Instr.mma (fld w 22 1) (fld w 16 6) (fld w 9 7) (fld w 3 6) (fld w 0 1))
      else none
  | 0x163 => if isB w 2 1 0 then some (Instr.mmas (fld w 22 1) (fld w 16 6) (fld w 9 7) (fld w 3 6) (fld w 1 1) (fld w 0 1))
      else none
  | 0x164 => if isB w 1 2 0 then some (Instr.mmaw (fld w 22 1) (fld w 16 6) (fld w 9 7) (fld w 3 6) (fld w 0 1))
      else none
  | 0x165 => if isB w 4 3 0 && isB w 21 2 2 then some (Instr.mcomp (fld w 14 7) (fld w 7 7) (fld w 1 3) (fld w 0 1))
      else none
  | 0x166 => some (Instr.ldga (fld w 16 7) (memOf w))
  | 0x167 => if isB w 2 7 0 && isB w 22 1 0 then some (Instr.accld (fld w 16 6) (fld w 9 7) (fld w 0 2))
      else none
  | 0x168 => if isB w 0 16 0 && isB w 22 1 0 then some (Instr.accz (fld w 16 6))
      else none
  | 0x169 => if isB w 9 7 0 && isB w 22 1 0 then some (Instr.mstat (fld w 16 6) (fld w 0 9))
      else none
  | _ => none

/-- The rows with opcodes 0x180 to 0x19F. -/
def decodeBlock12 (op w : Nat) : Option Instr :=
  match op with
  | 0x180 => some (Instr.cpt (fld w 17 6) (fld w 11 6) (fld w 5 6) (fld w 1 4) (fld w 0 1))
  | 0x181 => some (Instr.cpx (fld w 17 6) (fld w 11 6) (fld w 5 6) (fld w 0 5))
  | 0x182 => some (Instr.cpl (srcOf w) (fld w 14 7) (fld w 7 7))
  | 0x183 => if isB w 7 7 0 && isB w 20 3 4 then some (Instr.cpg (fld w 14 6) (fld w 0 7))
      else none
  | 0x184 => if isB w 0 23 0 then some (Instr.cpf)
      else none
  | 0x188 => if isB w 6 1 0 && isB w 10 13 2048 then some (Instr.qcfg (fld w 7 3) (fld w 0 6))
      else none
  | 0x189 => if isB w 0 7 0 && isB w 10 4 0 && isB w 20 3 4 then some (Instr.qpushRes (fld w 14 6) (fld w 7 3))
      else if isB w 0 7 1 && isB w 10 13 4096 then some (Instr.qpushPub (fld w 7 3))
      else none
  | 0x18A => if isB w 0 7 0 && isB w 10 13 0 then some (Instr.qfree (fld w 7 3))
      else none
  | 0x18B => if isB w 0 7 0 && isB w 10 4 0 && isB w 20 3 0 then some (Instr.qpop (fld w 14 6) (fld w 7 3))
      else none
  | 0x190 => if isB w 11 10 0 then some (Instr.binit (srcOf w) (fld w 7 4))
      else none
  | 0x191 => if isB w 0 7 0 && isB w 11 3 0 && isB w 20 3 0 then some (Instr.barv (fld w 14 6) (fld w 7 4))
      else none
  | 0x192 => if isB w 11 10 0 then some (Instr.bexp (srcOf w) (fld w 7 4))
      else none
  | 0x193 => if isB w 11 10 0 then some (Instr.bwait (srcOf w) (fld w 7 4))
      else none
  | 0x194 => if isB w 11 3 0 && isB w 17 4 0 then some (Instr.btest (srcOf w) (fld w 14 3) (fld w 7 4))
      else none
  | _ => none

/-- The rows with opcodes 0x1A0 to 0x1BF. -/
def decodeBlock13 (op w : Nat) : Option Instr :=
  match op with
  | 0x1A0 => if isB w 13 8 0 then some (Instr.iodb (srcOf w) (fld w 7 6))
      else if isB w 13 8 2 then some (Instr.iodbCq (srcOf w) (fld w 7 6))
      else none
  | 0x1A1 => if isB w 4 3 0 && isB w 13 10 512 then some (Instr.iobind (fld w 7 6) (fld w 0 4))
      else none
  | 0x1A2 => if isB w 0 7 0 && isB w 13 10 0 then some (Instr.iounb (fld w 7 6))
      else none
  | 0x1A8 => if isB w 0 14 0 && isB w 20 3 0 then some (Instr.prqpop (fld w 14 6))
      else none
  | 0x1A9 => if isB w 2 5 0 && isB w 13 10 512 then some (Instr.prqack (fld w 7 6) (fld w 0 2))
      else none
  | 0x1AA => if isB w 0 7 0 && isB w 13 1 0 && isB w 20 3 0 then some (Instr.cfgrd (fld w 14 6) (fld w 7 6))
      else none
  | 0x1AB => if isB w 6 1 0 && isB w 13 1 0 && isB w 20 3 2 then some (Instr.cfgwr (fld w 14 6) (fld w 7 6) (fld w 0 6))
      else none
  | 0x1AC => if isB w 0 7 0 && isB w 13 10 0 then some (Instr.ntbmap (fld w 7 6))
      else none
  | 0x1B0 => if isB w 17 4 0 then some (Instr.enq (srcOf w) (fld w 14 3) (fld w 7 7))
      else none
  | 0x1B1 => if isB w 6 1 0 && isB w 21 2 1 then some (Instr.rsub (fld w 14 7) (fld w 7 7) (fld w 0 6))
      else none
  | 0x1B8 => if isB w 13 1 0 && isB w 20 3 4 then some (Instr.launch (fld w 14 6) (fld w 7 6) (fld w 0 7))
      else none
  | 0x1B9 => if isB w 0 7 0 && isB w 13 1 0 && isB w 20 3 0 then some (Instr.preempt (fld w 14 6) (fld w 7 6))
      else none
  | 0x1BA => if isB w 0 7 0 && isB w 13 1 0 && isB w 20 3 4 then some (Instr.resumeRestart (fld w 14 6) (fld w 7 6))
      else if isB w 0 7 1 && isB w 13 1 0 && isB w 20 3 4 then some (Instr.resumeSkip (fld w 14 6) (fld w 7 6))
      else if isB w 0 7 2 && isB w 13 1 0 && isB w 20 3 4 then some (Instr.resumeSkipArgs (fld w 14 6) (fld w 7 6))
      else if isB w 0 7 3 && isB w 13 1 0 && isB w 20 3 4 then some (Instr.resumeEnd (fld w 14 6) (fld w 7 6))
      else none
  | 0x1BB => if isB w 0 7 0 && isB w 13 1 0 && isB w 20 3 0 then some (Instr.lend (fld w 14 6) (fld w 7 6))
      else none
  | 0x1BC => if isB w 0 7 0 && isB w 13 1 0 && isB w 20 3 0 then some (Instr.reclaim (fld w 14 6) (fld w 7 6))
      else none
  | _ => none

/-- The rows with opcodes 0x1C0 to 0x1DF. -/
def decodeBlock14 (op w : Nat) : Option Instr :=
  match op with
  | 0x1C0 => if isB w 7 7 0 && isB w 17 6 32 then some (Instr.gcallImm (fld w 14 3) (fld w 0 7))
      else if isB w 6 8 0 && isB w 17 6 16 then some (Instr.gcallReg (fld w 14 3) (fld w 0 6))
      else none
  | 0x1C1 => if isB w 0 23 0 then some (Instr.gret)
      else none
  | 0x1C8 => if isB w 0 7 0 && isB w 13 1 0 && isB w 20 3 0 then some (Instr.kslot (fld w 14 6) (fld w 7 6))
      else none
  | 0x1C9 => if isB w 0 7 0 && isB w 13 1 0 && isB w 20 3 0 then some (Instr.kzero (fld w 14 6) (fld w 7 6))
      else none
  | 0x1CA => if isB w 0 7 0 && isB w 13 1 0 && isB w 20 3 0 then some (Instr.scrub (fld w 14 6) (fld w 7 6))
      else none
  | 0x1CB => if isB w 0 7 0 && isB w 13 1 0 && isB w 20 3 0 then some (Instr.wlatch (fld w 14 6) (fld w 7 6))
      else none
  | 0x1CC => if isB w 0 7 0 && isB w 13 1 0 && isB w 20 3 0 then some (Instr.fset (fld w 14 6) (fld w 7 6))
      else none
  | 0x1CD => if isB w 0 7 0 && isB w 13 1 0 && isB w 20 3 4 then some (Instr.attestEvidence (fld w 14 6) (fld w 7 6))
      else if isB w 0 7 1 && isB w 13 1 0 && isB w 20 3 4 then some (Instr.attestEphemeral (fld w 14 6) (fld w 7 6))
      else if isB w 0 7 2 && isB w 13 1 0 && isB w 20 3 4 then some (Instr.attestRelease (fld w 14 6) (fld w 7 6))
      else none
  | 0x1CE => if isB w 0 7 0 && isB w 13 1 0 && isB w 20 3 0 then some (Instr.meas (fld w 14 6) (fld w 7 6))
      else none
  | 0x1CF => if isB w 0 7 0 && isB w 13 1 0 && isB w 20 3 4 then some (Instr.migrSet (fld w 14 6) (fld w 7 6))
      else if isB w 0 7 1 && isB w 13 1 0 && isB w 20 3 4 then some (Instr.migrSave (fld w 14 6) (fld w 7 6))
      else if isB w 0 7 2 && isB w 13 1 0 && isB w 20 3 4 then some (Instr.migrLoad (fld w 14 6) (fld w 7 6))
      else none
  | _ => none

/-- Opcodes 0x000 to 0x1DF, by block of 32 (R57). -/
def decodeOp (op w : Nat) : Option Instr :=
  match op / 32 with
  | 0 => decodeBlock0 op w
  | 1 => decodeBlock1 op w
  | 2 => decodeBlock2 op w
  | 3 => decodeBlock3 op w
  | 4 => decodeBlock4 op w
  | 5 => decodeBlock5 op w
  | 8 => decodeBlock8 op w
  | 9 => decodeBlock9 op w
  | 10 => decodeBlock10 op w
  | 11 => decodeBlock11 op w
  | 12 => decodeBlock12 op w
  | 13 => decodeBlock13 op w
  | 14 => decodeBlock14 op w
  | _ => none

/-- The instruction of a 32-bit word: a header when bits 31 to 28 are ones (R38, R46), else a body word. -/
def decodeWord (w : Nat) : Option Instr :=
  if w / 2 ^ 28 = 15 then
    if w % 2 ^ 2 = 0 then some (Instr.clauseHeader (fld w 16 12) (fld w 12 4) (fld w 8 4) (fld w 4 4) (fld w 3 1) (fld w 2 1)) else none
  else decodeOp (w / 2 ^ 23) w

/-- `w` with the field `x` added at bit `lo`, where `w` holds zeros. -/
def putF {n : Nat} (w : Nat) (x : BitVec n) (lo : Nat) : Nat := w + x.toNat * 2 ^ lo

/-- `w` with bs and b added. -/
def Src.put (b : Src) (w : Nat) : Nat := w + b.bits

/-- `w` with a, s and sc added. -/
def Mem.put (m : Mem) (w : Nat) : Nat := w + m.bits

/-- `w` with a condition added. -/
def Cc.put (c : Cc) (w : Nat) : Nat := w + c.num * 2 ^ 17

/-- Four bytes, lowest address first, as a word (R5, R38). -/
def wordOfBytes (b0 b1 b2 b3 : Byte) : Nat :=
  b0.toNat + b1.toNat * 2 ^ 8 + b2.toNat * 2 ^ 16 + b3.toNat * 2 ^ 24

/-- The four bytes of a word. -/
def bytesOfWord (w : Nat) : List Byte :=
  [BitVec.ofNat 8 w, BitVec.ofNat 8 (w / 2 ^ 8), BitVec.ofNat 8 (w / 2 ^ 16), BitVec.ofNat 8 (w / 2 ^ 24)]

/-- Decoding of any bytes: the first instruction and the bytes after it. -/
def decode : List Byte → Except DecodeError (Instr × List Byte)
  | b0 :: b1 :: b2 :: b3 :: rest =>
    match decodeWord (wordOfBytes b0 b1 b2 b3) with
    | some i => .ok (i, rest)
    | none => .error .illegalOp
  | _ => .error .truncated

/-- The instruction the decoder reads from a word given as the opcode table numbers its bits. -/
def decodeTableWord (_nbits w : Nat) : Option Instr :=
  match decode (bytesOfWord w) with
  | .ok (i, _) => some i
  | .error _ => none

/-- The word of an instruction; the events have none. -/
def encode : Instr → Option Nat
  | .clauseHeader w a b n y c => some (putF (putF (putF (putF (putF (putF 0xF0000000 w 16) a 12) b 8) n 4) y 3) c 2)
  | .nop i => some (putF 0x00000000 i 0)
  | .setm m => some (putF 0x00800000 m 0)
  | .gets d i => some (putF (putF 0x01000000 d 16) i 0)
  | .getv d i => some (putF (putF 0x01800000 d 16) i 0)
  | .br h q n o => some (putF (putF (putF (putF 0x02000000 h 21) q 18) n 17) o 0)
  | .jmp hx o => some (putF (putF 0x02800000 hx 17) o 0)
  | .jr a => some (putF 0x03000000 a 7)
  | .call hx o => some (putF (putF 0x03800000 hx 17) o 0)
  | .ret a => some (putF 0x04000000 a 7)
  | .recon o => some (putF 0x04800000 o 0)
  | .join => some 0x05000000
  | .loop l c n e => some (putF (putF (putF (putF 0x05800000 l 21) c 20) n 10) e 0)
  | .lbrk h q n o => some (putF (putF (putF (putF 0x06000000 h 21) q 18) n 17) o 0)
  | .exit => some 0x06800000
  | .yield => some 0x07000000
  | .wait f => some (putF 0x07800000 f 0)
  | .trap n => some (putF 0x08000000 n 0)
  | .sys n => some (putF 0x08800000 n 0)
  | .fbpt n => some (putF 0x09000000 n 0)
  | .eret => some 0x09800000
  | .halt => some 0x0A000000
  | .srd d r => some (putF (putF 0x0A800000 d 16) r 0)
  | .swr a r => some (putF (putF 0x0B000000 a 9) r 0)
  | .sadd b d a => some (putF (putF (b.put 0x10000000) d 14) a 7)
  | .ssub b d a => some (putF (putF (b.put 0x10800000) d 14) a 7)
  | .smul b d a => some (putF (putF (b.put 0x11000000) d 14) a 7)
  | .smulh b d a => some (putF (putF (b.put 0x11800000) d 14) a 7)
  | .sand b d a => some (putF (putF (b.put 0x12000000) d 14) a 7)
  | .sor b d a => some (putF (putF (b.put 0x12800000) d 14) a 7)
  | .sxor b d a => some (putF (putF (b.put 0x13000000) d 14) a 7)
  | .sshl b d a => some (putF (putF (b.put 0x13800000) d 14) a 7)
  | .sshr b d a => some (putF (putF (b.put 0x14000000) d 14) a 7)
  | .ssra b d a => some (putF (putF (b.put 0x14800000) d 14) a 7)
  | .smin b d a => some (putF (putF (b.put 0x15000000) d 14) a 7)
  | .smax b d a => some (putF (putF (b.put 0x15800000) d 14) a 7)
  | .scmp b c p a => some (putF (putF (c.put (b.put 0x16000000)) p 14) a 7)
  | .ssel b d a => some (putF (putF (b.put 0x16800000) d 14) a 7)
  | .smov b d => some (putF (b.put 0x17000000) d 14)
  | .smovi d i => some (putF (putF 0x17800000 d 16) i 0)
  | .smovh d i => some (putF (putF 0x18000000 d 16) i 0)
  | .smovx d i => some (putF (putF 0x18800000 d 16) i 0)
  | .smovy d i => some (putF (putF 0x19000000 d 16) i 0)
  | .sclz d a => some (putF (putF 0x19800000 d 14) a 7)
  | .spop d a => some (putF (putF 0x1A000000 d 14) a 7)
  | .sld d s => some (putF (putF 0x1A80FE00 d 16) s 3)
  | .sst d s => some (putF (putF 0x1B00FE00 d 16) s 3)
  | .pand d a b => some (putF (putF (putF 0x1C600000 d 14) a 7) b 0)
  | .por d a b => some (putF (putF (putF 0x1CE00000 d 14) a 7) b 0)
  | .pxor d a b => some (putF (putF (putF 0x1D600000 d 14) a 7) b 0)
  | .pnot d a => some (putF (putF 0x1D800000 d 14) a 7)
  | .pany d a => some (putF (putF 0x1E000000 d 14) a 7)
  | .pall d a => some (putF (putF 0x1E800000 d 14) a 7)
  | .pmov b d => some (putF (b.put 0x1F000000) d 14)
  | .vadd b d a => some (putF (putF (b.put 0x20000000) d 14) a 7)
  | .vsub b d a => some (putF (putF (b.put 0x20800000) d 14) a 7)
  | .vmul b d a => some (putF (putF (b.put 0x21000000) d 14) a 7)
  | .vmulh b d a => some (putF (putF (b.put 0x21800000) d 14) a 7)
  | .vmad b d a => some (putF (putF (b.put 0x22000000) d 14) a 7)
  | .vdiv b d a => some (putF (putF (b.put 0x22800000) d 14) a 7)
  | .vrem b d a => some (putF (putF (b.put 0x23000000) d 14) a 7)
  | .vabs d a => some (putF (putF 0x23800000 d 14) a 7)
  | .vneg d a => some (putF (putF 0x24000000 d 14) a 7)
  | .vmin b d a => some (putF (putF (b.put 0x24800000) d 14) a 7)
  | .vmax b d a => some (putF (putF (b.put 0x25000000) d 14) a 7)
  | .vand b d a => some (putF (putF (b.put 0x25800000) d 14) a 7)
  | .vor b d a => some (putF (putF (b.put 0x26000000) d 14) a 7)
  | .vxor b d a => some (putF (putF (b.put 0x26800000) d 14) a 7)
  | .vnot d a => some (putF (putF 0x27000000 d 14) a 7)
  | .vshl b d a => some (putF (putF (b.put 0x27800000) d 14) a 7)
  | .vshr b d a => some (putF (putF (b.put 0x28000000) d 14) a 7)
  | .vsra b d a => some (putF (putF (b.put 0x28800000) d 14) a 7)
  | .vclz d a => some (putF (putF 0x29000000 d 14) a 7)
  | .vpop d a => some (putF (putF 0x29800000 d 14) a 7)
  | .vbrev d a => some (putF (putF 0x2A000000 d 14) a 7)
  | .vbfx b d a => some (putF (putF (b.put 0x2A800000) d 14) a 7)
  | .vbfi b d a => some (putF (putF (b.put 0x2B000000) d 14) a 7)
  | .vsel b d a => some (putF (putF (b.put 0x2B800000) d 14) a 7)
  | .vcmp b c p a => some (putF (putF (c.put (b.put 0x2C000000)) p 14) a 7)
  | .vmov b d => some (putF (b.put 0x2C800000) d 14)
  | .vmovi d i => some (putF (putF 0x2D000000 d 16) i 0)
  | .vmovh d i => some (putF (putF 0x2D800000 d 16) i 0)
  | .vfadd b d a => some (putF (putF (b.put 0x30000000) d 14) a 7)
  | .vfsub b d a => some (putF (putF (b.put 0x30800000) d 14) a 7)
  | .vfmul b d a => some (putF (putF (b.put 0x31000000) d 14) a 7)
  | .vfma b d a => some (putF (putF (b.put 0x31800000) d 14) a 7)
  | .vfmin b d a => some (putF (putF (b.put 0x32000000) d 14) a 7)
  | .vfmax b d a => some (putF (putF (b.put 0x32800000) d 14) a 7)
  | .vfcmp b c p a => some (putF (putF (c.put (b.put 0x33000000)) p 14) a 7)
  | .vfclass d a => some (putF (putF 0x33800000 d 14) a 7)
  | .vfrnd d a => some (putF (putF 0x34000000 d 14) a 7)
  | .vrcp d a => some (putF (putF 0x34800000 d 14) a 7)
  | .vrsq d a => some (putF (putF 0x35000000 d 14) a 7)
  | .vsqrt d a => some (putF (putF 0x35800000 d 14) a 7)
  | .vexp2 d a => some (putF (putF 0x36000000 d 14) a 7)
  | .vlog2 d a => some (putF (putF 0x36800000 d 14) a 7)
  | .vsin d a => some (putF (putF 0x37000000 d 14) a 7)
  | .vcos d a => some (putF (putF 0x37800000 d 14) a 7)
  | .vtanh d a => some (putF (putF 0x38000000 d 14) a 7)
  | .vsigm d a => some (putF (putF 0x38800000 d 14) a 7)
  | .vfdiv b d a => some (putF (putF (b.put 0x39000000) d 14) a 7)
  | .vcvt d a e f => some (putF (putF (putF (putF 0x40400000 d 14) a 7) e 3) f 0)
  | .vpack d a b => some (putF (putF (putF 0x40800000 d 14) a 7) b 0)
  | .vunpack d a b => some (putF (putF (putF 0x41000000 d 14) a 7) b 0)
  | .cbld a => some (putF 0x41800000 a 7)
  | .cbst d => some (putF 0x42000000 d 14)
  | .vcbq d a e f => some (putF (putF (putF (putF 0x42C00000 d 14) a 7) e 3) f 0)
  | .vshf b d a => some (putF (putF (b.put 0x48000000) d 14) a 7)
  | .vrot b d a => some (putF (putF (b.put 0x48800000) d 14) a 7)
  | .vbcst d a => some (putF (putF 0x49000000 d 14) a 7)
  | .vrd b d a => some (putF (putF (b.put 0x49800000) d 14) a 7)
  | .vred d a o => some (putF (putF (putF 0x4A400000 d 14) a 7) o 0)
  | .vscan d a o => some (putF (putF (putF 0x4AC00000 d 14) a 7) o 0)
  | .vball d b => some (putF (putF 0x4B600000 d 14) b 0)
  | .vmatch d a => some (putF (putF 0x4B800000 d 14) a 7)
  | .vrnd d => some (putF 0x50000000 d 14)
  | .vseed b a => some (putF (b.put 0x50800000) a 7)
  | .ldb d m => some (m.put (putF 0x80000000 d 16))
  | .ldh d m => some (m.put (putF 0x80800000 d 16))
  | .ldw d m => some (m.put (putF 0x81000000 d 16))
  | .ldd d m => some (m.put (putF 0x81800000 d 16))
  | .ldq d m => some (m.put (putF 0x82000000 d 16))
  | .stb d m => some (m.put (putF 0x84000000 d 16))
  | .sth d m => some (m.put (putF 0x84800000 d 16))
  | .stw d m => some (m.put (putF 0x85000000 d 16))
  | .std d m => some (m.put (putF 0x85800000 d 16))
  | .stq d m => some (m.put (putF 0x86000000 d 16))
  | .ldf d m => some (m.put (putF 0x88000000 d 16))
  | .stf d m => some (m.put (putF 0x88800000 d 16))
  | .ldsw d m => some (m.put (putF 0x8A000000 d 16))
  | .ldsd d m => some (m.put (putF 0x8A800000 d 16))
  | .ldsq d m => some (m.put (putF 0x8B000000 d 16))
  | .stsw d m => some (m.put (putF 0x8C000000 d 16))
  | .stsd d m => some (m.put (putF 0x8C800000 d 16))
  | .stsq d m => some (m.put (putF 0x8D000000 d 16))
  | .lda d m => some (m.put (putF 0x90000000 d 16))
  | .stl d m => some (m.put (putF 0x90800000 d 16))
  | .ldsc d m => some (m.put (putF 0x91000000 d 16))
  | .stsc d m => some (m.put (putF 0x91800000 d 16))
  | .ldnx d m => some (m.put (putF 0x92000000 d 16))
  | .stnx d m => some (m.put (putF 0x92800000 d 16))
  | .pref h m => some (m.put (putF 0x94000000 h 16))
  | .fence k s => some (putF (putF 0x94800000 k 3) s 0)
  | .flush m => some (m.put 0x95000000)
  | .inv m => some (m.put 0x95800000)
  | .xlat d m => some (m.put (putF 0x98000000 d 16))
  | .tlbiPage s => some (putF 0x9880FE00 s 3)
  | .tlbiFen s => some (putF 0x9881FE00 s 3)
  | .tlbiAll s => some (putF 0x9882FE00 s 3)
  | .aadd b d a => some (putF (putF (b.put 0xA0000000) d 14) a 7)
  | .aand b d a => some (putF (putF (b.put 0xA0800000) d 14) a 7)
  | .aor b d a => some (putF (putF (b.put 0xA1000000) d 14) a 7)
  | .axor b d a => some (putF (putF (b.put 0xA1800000) d 14) a 7)
  | .amin b d a => some (putF (putF (b.put 0xA2000000) d 14) a 7)
  | .amax b d a => some (putF (putF (b.put 0xA2800000) d 14) a 7)
  | .axchg b d a => some (putF (putF (b.put 0xA3000000) d 14) a 7)
  | .ainc b d a => some (putF (putF (b.put 0xA3800000) d 14) a 7)
  | .afadd b d a => some (putF (putF (b.put 0xA4000000) d 14) a 7)
  | .acas b d a => some (putF (putF (b.put 0xA4800000) d 14) a 7)
  | .park b c p a => some (putF (putF (c.put (b.put 0xA5000000)) p 14) a 7)
  | .parkt b => some (putF 0xA5A00000 b 0)
  | .txb => some 0xA8000000
  | .txe p c => some (putF (putF 0xA8800000 p 14) c 7)
  | .txa i => some (putF 0xA9000000 i 0)
  | .txr d => some (putF 0xA9800000 d 14)
  | .txq d => some (putF 0xAA000000 d 14)
  | .mcfg i => some (putF 0xB0000000 i 0)
  | .mgang b => some (putF 0xB0A00000 b 0)
  | .mma r c a s z => some (putF (putF (putF (putF (putF 0xB1000000 r 22) c 16) a 9) s 3) z 0)
  | .mmas r c a s t z => some (putF (putF (putF (putF (putF (putF 0xB1800000 r 22) c 16) a 9) s 3) t 1) z 0)
  | .mmaw r c a s z => some (putF (putF (putF (putF (putF 0xB2000000 r 22) c 16) a 9) s 3) z 0)
  | .mcomp d a n t => some (putF (putF (putF (putF 0xB2C00000 d 14) a 7) n 1) t 0)
  | .ldga d m => some (m.put (putF 0xB3000000 d 16))
  | .accld c a p => some (putF (putF (putF 0xB3800000 c 16) a 9) p 0)
  | .accz c => some (putF 0xB4000000 c 16)
  | .mstat d s => some (putF (putF 0xB4800000 d 16) s 0)
  | .cpt t l c b r => some (putF (putF (putF (putF (putF 0xC0000000 t 17) l 11) c 5) b 1) r 0)
  | .cpx t l c m => some (putF (putF (putF (putF 0xC0800000 t 17) l 11) c 5) m 0)
  | .cpl b d a => some (putF (putF (b.put 0xC1000000) d 14) a 7)
  | .cpg d s => some (putF (putF 0xC1C00000 d 14) s 0)
  | .cpf => some 0xC2000000
  | .qcfg n b => some (putF (putF 0xC4200000 n 7) b 0)
  | .qpushRes d n => some (putF (putF 0xC4C00000 d 14) n 7)
  | .qpushPub n => some (putF 0xC4C00001 n 7)
  | .qfree n => some (putF 0xC5000000 n 7)
  | .qpop d n => some (putF (putF 0xC5800000 d 14) n 7)
  | .binit b n => some (putF (b.put 0xC8000000) n 7)
  | .barv d n => some (putF (putF 0xC8800000 d 14) n 7)
  | .bexp b n => some (putF (b.put 0xC9000000) n 7)
  | .bwait b n => some (putF (b.put 0xC9800000) n 7)
  | .btest b p n => some (putF (putF (b.put 0xCA000000) p 14) n 7)
  | .iodb b a => some (putF (b.put 0xD0000000) a 7)
  | .iodbCq b a => some (putF (b.put 0xD0004000) a 7)
  | .iobind a n => some (putF (putF 0xD0C00000 a 7) n 0)
  | .iounb a => some (putF 0xD1000000 a 7)
  | .prqpop d => some (putF 0xD4000000 d 14)
  | .prqack a c => some (putF (putF 0xD4C00000 a 7) c 0)
  | .cfgrd d a => some (putF (putF 0xD5000000 d 14) a 7)
  | .cfgwr d a b => some (putF (putF (putF 0xD5A00000 d 14) a 7) b 0)
  | .ntbmap a => some (putF 0xD6000000 a 7)
  | .enq b p a => some (putF (putF (b.put 0xD8000000) p 14) a 7)
  | .rsub d a b => some (putF (putF (putF 0xD8A00000 d 14) a 7) b 0)
  | .launch d a n => some (putF (putF (putF 0xDC400000 d 14) a 7) n 0)
  | .preempt d a => some (putF (putF 0xDC800000 d 14) a 7)
  | .resumeRestart d a => some (putF (putF 0xDD400000 d 14) a 7)
  | .resumeSkip d a => some (putF (putF 0xDD400001 d 14) a 7)
  | .resumeSkipArgs d a => some (putF (putF 0xDD400002 d 14) a 7)
  | .resumeEnd d a => some (putF (putF 0xDD400003 d 14) a 7)
  | .lend d a => some (putF (putF 0xDD800000 d 14) a 7)
  | .reclaim d a => some (putF (putF 0xDE000000 d 14) a 7)
  | .gcallImm p n => some (putF (putF 0xE0400000 p 14) n 0)
  | .gcallReg p b => some (putF (putF 0xE0200000 p 14) b 0)
  | .gret => some 0xE0800000
  | .kslot d a => some (putF (putF 0xE4000000 d 14) a 7)
  | .kzero d a => some (putF (putF 0xE4800000 d 14) a 7)
  | .scrub d a => some (putF (putF 0xE5000000 d 14) a 7)
  | .wlatch d a => some (putF (putF 0xE5800000 d 14) a 7)
  | .fset d a => some (putF (putF 0xE6000000 d 14) a 7)
  | .attestEvidence d a => some (putF (putF 0xE6C00000 d 14) a 7)
  | .attestEphemeral d a => some (putF (putF 0xE6C00001 d 14) a 7)
  | .attestRelease d a => some (putF (putF 0xE6C00002 d 14) a 7)
  | .meas d a => some (putF (putF 0xE7000000 d 14) a 7)
  | .migrSet d a => some (putF (putF 0xE7C00000 d 14) a 7)
  | .migrSave d a => some (putF (putF 0xE7C00001 d 14) a 7)
  | .migrLoad d a => some (putF (putF 0xE7C00002 d 14) a 7)
  | _ => none

end Sys2Proof
end

