-- ==== Sys2Proof/Machine/Fetch.lean ====
section
/-!
DEFINITION. The word at a splinter's PC: its fetch (R394), its decoding (R38, R57), and the fault of a word that decodes
to no instruction (R30, R47, R58).
-/
namespace Sys2Proof.Machine

/-- What stands at the issuing entry's PC. -/
inductive Fetched where
  | instr (i : Instr)
  /-- the step is over: the entry is not eligible, or a fault has been taken -/
  | ended (s : State)
  /-- no entry issues -/
  | nobody
  deriving DecidableEq, Repr

/-- The physical address of a fetch that meets an uncorrectable error (R355). -/
def State.fetchCheckPa (s : State) (core port fen pc : Nat) : Option Nat :=
  match s.xlate core port fen pc with
  | .ok x => some x.pa
  | .error e => e.mcpa

/-- The fault of a failed fetch (R394). -/
def State.fetchFault (s : State) (c : Ctx) (cause : Nat) : Flt :=
  if cause = 0x02 then { cause := 0x02 }
  else
    { cause := cause, lanes := c.mask, addr := c.ent.pc.toNat, kind := 4
      mcpa := if isMc cause then s.fetchCheckPa c.team.core c.grp.port c.fen c.ent.pc.toNat else none }

/-- The fault of a word that decodes to no instruction: position, privilege, then FLT_ILLEGAL_OP (R30, R47, R58); an
`mcfg` with reserved bits is refused at stage 2 instead (R220, R347). -/
def undecoded (c : Ctx) (w : Nat) : Flt :=
  let header := w / 2 ^ 28 = 15
  if c.ent.mid = decide header then { cause := 0x02 }
  else if !header && privileged (w / 2 ^ 23) && !c.team.system then { cause := 0x06 }
  else if w / 2 ^ 23 = 0x160 then { cause := if c.grp.gate.isSome then 0xB8 else 0x79 }
  else { cause := 0x01 }

/-- Does a word that decodes to no instruction stall on a full flag (R48)? Its opcode alone says on which it counts. -/
def Ctx.undecodedFull (c : Ctx) (w : Nat) : Bool := c.flagFull { op := w / 2 ^ 23, legal := false }

/-- The word that the issuing entry fetches. -/
def State.fetched (s : State) : Fetched :=
  match s.ctx with
  | none => .nobody
  | some c =>
    if c.stalled s then .ended s
    else match s.fetchWord c.team.core c.grp.port c.fen c.ent.pc.toNat with
    | .error cause => .ended (s.takeFault c.ti c.gi c.ei (s.fetchFault c cause))
    | .ok w =>
      match decodeWord w with
      | some i => .instr i
      | none => .ended (if c.undecodedFull w then s else s.takeFault c.ti c.gi c.ei (undecoded c w))

end Sys2Proof.Machine
end

