-- ==== Sys2Proof/Machine/Inputs.lean ====
section
/-!
DEFINITION. What the outside world does without an event row of its own (log entry 1): time, stored-bit errors, the
flash, evictions, temperature and draw.
-/
namespace Sys2Proof.Machine

/-- The effect of an input. The host reaches no virtual function without that feature (R380). -/
def State.input (s : State) : Input → State
  | .tick ns => { s with now := s.now + ns }
  | .corrupt line how =>
    if how = .poison ∧ regionOf (line * 64) ≠ 1 then s else { s with mem := { s.mem with bad := s.mem.bad.ins line how } }
  | .corrected d array =>
    if array then s.modDie d fun x => { x with corrArray := min (x.corrArray + 1) (2 ^ 16 - 1) }
    else s.modDie d fun x => { x with corrMem := min (x.corrMem + 1) (2 ^ 32 - 1) }
  | .flash img => { s with sys := { s.sys with flash := img } }
  | .evictL1 c i => s.modCore c fun k => { k with l1 := dropAt k.l1 i }
  | .evictTlb c p i => s.modCore c fun k => { k with tlbs := SMap.put [] k.tlbs p (dropAt (k.tlb p) i) }
  | .evictSliceTlb x i => { s with sliceTlbs := SMap.put [] s.sliceTlbs x (dropAt (s.sliceTlb x) i) }
  | .evictStamp line =>
    let bank := homeBank (line * 128)
    let ls := s.mem.ls.get { c := 0, core := 0 } line
    let fs := s.mem.fs.get { c := 0, core := 0 } bank
    let fs' := if fs.c < ls.c ∨ (fs.c = ls.c ∧ fs.core < ls.core) then ls else fs
    { s with mem := { s.mem with ls := s.mem.ls.del line, fs := SMap.put { c := 0, core := 0 } s.mem.fs bank fs' } }
  | .hot d on => s.modDie d fun x => { x with hot := on }
  | .windows p ws =>
    { s with reed := { s.reed with
        ports := SMap.put Port.cold s.reed.ports p { s.reed.ports.get Port.cold p with windows := ws } } }
  | .config i bytes =>
    if i = 0 ∨ (i ≤ 96 ∧ s.sys.latched ∧ s.sys.facc.getLsbD 0) then
      { s with guard := { s.guard with
          funcs := SMap.put Func.cold s.guard.funcs i { s.guard.funcs.get Func.cold i with config := bytes.take 4096 } } }
    else s
  | .draw watts => { s with sys := { s.sys with draw := watts }.measure s.now }

end Sys2Proof.Machine
end

