-- ==== Sys2Proof/Machine/Sched.lean ====
section
/-!
DEFINITION. Which agent moves when the agenda names none, what the part settles by itself before each step, and the load
that withFetchWord stands for (log entries 1, 2).
-/
namespace Sys2Proof.Machine

/-! ## What the part settles by itself -/

/-- Monitors on bytes that the part itself wrote are looked at (R194). -/
def State.wake (s : State) : State :=
  match s.mem.touched with
  | [] => s
  | ts => ts.foldl (fun s t => s.satisfy t.1 t.2) { s with mem := { s.mem with touched := [] } }

/-- Before a step: satisfied monitors (R194), the order of marks (R298), since when teams wait (R314, R315), save slots and
their teams (R274, R322), reclaimed cores (R330), teams that
hold back others (R315). No faults are being gathered when a step begins (R35, log entry 144). -/
def State.housekeep (s : State) : State :=
  let s := s.wake
  let teams : SMap Team := s.teams.map fun t : Nat × Team =>
    (t.1, if t.2.status = .out && !s.mayEnter t.1 t.2 then { t.2 with since := s.now } else t.2)
  let s := { s with teams := teams }
  let s := s.dueMarks
  let outs := (s.teams.filter fun t => t.2.status = .out).map (·.1)
  let s := (outs.foldl State.syncImage s).returnCores
  { s.parts.keys.foldl State.keepHolder s with gather := none }

/-! ## The policy of an empty agenda -/

/-- What a team can do next: its words, its queued stores, its loads, its rendezvous, its save and its retirement. -/
def teamChoices (ti : Nat) (t : Team) : List Choice :=
  let group (gi : Nat) (g : Group) : List Choice :=
    (if t.status = .resident then g.entries.keys.map fun ei => .word ti gi ei else [])
      ++ (if g.sq = [] then [] else [.event (.storeQueueDrain ti gi)])
      ++ g.pend.map fun p => .event (.loadDataArrive ti gi p.id 0)
  t.groups.flatMap (fun g => group g.1 g.2)
    ++ (List.range t.rdvs.length).map (fun i => .event (.rendezvousClose ti i))
    ++ match t.status with
      | .saving => [.event (.contextSaveComplete ti)]
      | .ended => [.event (.teamRetire ti)]
      | _ => []

/-- What a core can do next: its oldest store and its Sedge operations. -/
def coreChoices (c : Nat) (k : Core) : List Choice :=
  (if k.cso = [] then [] else [.event (.storeApply c 0), .event (.atomicApply c 0)])
    ++ k.sedge.map (fun o => if o.kind = .accz then .event (.acczApply c o.id) else .event (.wavefrontComplete c o.id))

/-- What the other engines can do next. -/
def State.engineChoices (s : State) : List Choice :=
  s.copies.map (fun o => .event (.copyComplete o.id)) ++ s.cpls.map (fun o => .event (.cplComplete o.id))
    ++ (List.range s.enqs.length).map (fun i => .event (.enqRecordCopy i))
    ++ (List.range s.txops.length).map (fun i => .event (.txCommit i 0))
    ++ (List.range s.reed.marks.length).map (fun i => .event (.iodbMark i))
    ++ (List.range s.reed.doorbells.length).map (fun i => .event (.doorbellWrite i))
    ++ (List.range s.mem.through.length).map (fun i => .event (.expanderWriteComplete i))
    ++ s.mem.resv.keys.map (fun l => .event (.scReservationGrant l))
    ++ s.parts.keys.map (fun p => .event (.teamPlace p))
    ++ (s.guard.scrubs.filter fun d => d.2.length ≠ 0).map (fun d => .event (.scrubUnit d.1))
    ++ (if s.handingOver ≠ [] then [.event .firmwareHandover] else [])
    ++ [.event .powerModeEffect]

/-- What the policy takes turns with: words and the events that complete work; the other events come from agendas. -/
def State.choices (s : State) : List Choice :=
  .input (.tick 1) :: (s.teams.flatMap (fun t => teamChoices t.1 t.2) ++ s.cores.flatMap (fun k => coreChoices k.1 k.2)
    ++ s.engineChoices)

/-- The choice that a step runs, and the state that it runs on. With an empty agenda the choices take turns as time
passes, one nanosecond a step (log entry 1). -/
def State.choose (s : State) : Choice × State :=
  match s.agenda with
  | c :: rest => (c, { s.housekeep with agenda := rest })
  | [] =>
    let cs := s.choices
    ((cs[s.now % cs.length]?).getD (.input (.tick 1)), { s.housekeep with now := s.now + 1 })

/-- Can these groups of a team issue in one cycle: each one entry, in ascending order, and at most two of a port (R71)? DESIGN
CHOICE (log entry 144): a cycle names at most one entry of a group, and any word of it. -/
def State.oneCycle (s : State) (ti : Nat) (words : List (Nat × Nat)) : Bool :=
  let groups := words.map (·.1)
  (groups.zip (groups.drop 1)).all (fun x => x.1 < x.2)
    && (List.range 4).all fun p => (groups.filter fun gi => (s.group ti gi).port = p).length ≤ 2

/-- Has the module shut down, with no cold reset next (R391)? -/
def State.halted (s : State) : Bool := s.sys.off && s.agenda.head? ≠ some (.event .coldReset)

/-! ## The load -/

/-- The bytes of page tables that map the first GiB of the address space onto itself for fen 0x00, with all permissions
(R146 to R148). -/
def loadTables (s : State) : State :=
  let e (x : Nat) := bytesLE 8 x
  let s := s.writeBytes 0 0x110000 (e (0x111000 + 1))
  let s := s.writeBytes 0 0x111000 (e (0x112000 + 1))
  let s := s.writeBytes 0 0x112000 (e (0x113000 + 1))
  let s := s.writeBytes 0 0x113000 (e (0x1F + 0x1F * 2 ^ 52))
  { s with ptbase := 0x110000 }

/-- Where the loaded word lies: beyond the first MiB, which is the area of saved measurements while FEN_MSBASE is 0 (R366). -/
def loadPc : Nat := 0x102000

/-- A system team of one group and one splinter at the loaded word: at a header, or at the only body word of a clause
that counts on `cf0` and `cf1`. The random-number state of its lanes is 0, the model's choice (log entry 2). -/
def loadTeam (header : Bool) : Team :=
  { Team.blank with
    system := true, nc := 1, bc := 128, nspad := 24, nbar := 16, nstr := 8, nacc := 64, core := sysCore 0
    status := .resident, dims := (1, 1, 1)
    groups := [(0, { Group.blank with
      entries := [(0, { newSplinter (pcOf loadPc) noFrame mode0 (BitVec.allOnes 32) with
        mid := !header, cseta := if header then 0 else 1, csetb := if header then 0 else 2 })] })] }

/-- The machine with a word loaded where the next step fetches. -/
def State.loadWord (s : State) (w : Nat) : State :=
  let s := (loadTables s).writeBytes 0 loadPc (bytesLE 8 (w % 2 ^ 32))
  let s := s.modCore (sysCore 0) fun k => { k with stopped := false, tlbs := [] }
  { s.setTeam 0 (loadTeam (w % 2 ^ 32 / 2 ^ 28 = 15)) with agenda := [.word 0 0 0], sys := { s.sys with off := false } }

end Sys2Proof.Machine
end

