-- ==== Sys2Proof/Machine/Step.lean ====
section
/-!
DEFINITION. One step of the machine: the agent that the agenda names, or the policy's own choice, moves once.
-/
namespace Sys2Proof.Machine

/-- The word of one entry among several of a cycle; an entry that does not exist issues none. -/
def State.cycleWord (ti : Nat) (s : State) (w : Nat × Nat) : State :=
  let s := { s with cur := (ti, w.1, w.2) }
  match s.fetched with
  | .ended t => t
  | .nobody => s
  | .instr i => match exec i s with
    | .next t => t
    | _ => s

/-- Several groups of a team issue in one cycle: their faults are of one moment (R35, log entry 144). -/
def State.cycle (s : State) (ti : Nat) (words : List (Nat × Nat)) : State :=
  if s.oneCycle ti words then s.together fun s => words.foldl (State.cycleWord ti) s else s

/-- One step. -/
def step (s : State) : Host.Outcome State Fault Refusal :=
  if s.halted then .fault .moduleOff
  else
    match s.choose with
    | (.word ti gi ei, s1) =>
      let s2 := { s1 with cur := (ti, gi, ei) }
      match s2.fetched with
      | .instr i => exec i s2
      | .ended t => .next t
      | .nobody => .refused .noIssuer
    | (.cycle ti words, s1) => .next (s1.cycle ti words)
    | (.event i, s1) => if i.isWord then .next s1 else exec i s1
    | (.input x, s1) => .next (s1.input x)

/-- The machine with an instruction placed where the next step fetches it (log entry 2). -/
def State.withFetchWord (s : State) (_nbits w : Nat) : State := s.loadWord w

end Sys2Proof.Machine
end

