-- ==== Sys2Proof/Safety.lean ====
section
/-!
DEFINITION. The terms in which claims are made: a safe step, a splinter that may issue a word, and the state after a word
whose effect is on its group.
-/
namespace Sys2Proof

/-- A step is safe when the machine goes on. -/
def Machine.State.safe (s : Machine.State) : Prop := ∃ t, Machine.step s = .next t

namespace Machine

/-- The clause flag that a word counts on can count it (R48). -/
def Ctx.flagFree (c : Ctx) (op : Nat) : Prop :=
  (flagA op = true → c.ent.cseta ≠ 0 ∧ c.grp.flag (c.ent.cseta.toNat - 1) ≠ 63) ∧
  (flagB op = true → c.ent.csetb ≠ 0 ∧ c.grp.flag (c.ent.csetb.toNat - 1) ≠ 63)

/-- Outside a gate, or inside one a word and uniform registers that the gate permits (R347). -/
def Ctx.gateFree (c : Ctx) (op : Nat) (ss : List Nat) : Prop :=
  c.grp.gate = none ∨
  (gateOp op = false ∧ spadOp op = false ∧ barOp op = false ∧ op ≠ 0x1A1 ∧ ∀ n ∈ ss, within 8 61 n = false)

/-- The splinter that `cur` names may issue a body word with this opcode, these lane registers, these pairs and these
uniform registers: R15, R30 (stages 1 to 3), R40, R48, R58, R70, R71, R347. -/
structure Ctx.MayIssue (c : Ctx) (s : State) (op : Nat) (vs pairs ss : List Nat) : Prop where
  /-- it is the splinter that `cur` names -/
  issuer : s.ctx = some c
  /-- its team is resident, its core runs, and neither its group nor the splinter is blocked -/
  free : c.stalled s = false
  /-- it stands at a body word -/
  body : c.ent.mid = true
  /-- a privileged word issues on a system core -/
  mode : privileged op = true → c.team.system = true
  /-- the lane registers named lie within the budget -/
  budget : ∀ n ∈ vs, vOk c.budget n = true
  /-- a 64-bit operand names an even register, or `vz` -/
  even : ∀ n ∈ pairs, n = 127 ∨ n % 2 = 0
  /-- no uniform register named waits for an asynchronous result -/
  ready : ∀ n ∈ ss, c.grp.tokens.contains n = false
  /-- its clause flag can count the word -/
  flag : c.flagFree op
  /-- no gate forbids it -/
  gate : c.gateFree op ss
  /-- some lane is active, where the word acts on active lanes -/
  lane : guardedOp op = true → c.acting op ≠ 0
  /-- no active lane has an open transaction that the word would abort -/
  tx : txAborts op = true → c.active &&& c.grp.txOpen = 0

/-- The state after a word whose effect is on its group: the group, with the flashback record cleared where R100 says so
and the splinter moved past the word (R47). -/
def State.after (s : State) (c : Ctx) (op : Nat) (g : Group) : State := s.setGroup c.ti c.gi (g.retire c.ei op)

end Machine
end Sys2Proof
end

