-- ==== Sys2Proof/Certificates/Slice0/Terms.lean ====
section
/-!
DEFINITION. Tables that the statements read: for words of one shape, their operands and the result that their rule gives.
-/
namespace Sys2Proof.Machine

/-! ## Frames -/

/-- What a word leaves as it was beside its own group: memory, the fen guard, every other group, and every team's
scratchpad, tiles, barriers and streams. -/
def State.keeps (t s : State) (ti gi : Nat) : Prop :=
  t.mem = s.mem ∧ t.guard = s.guard ∧ (∀ a b, a ≠ ti ∨ b ≠ gi → t.group a b = s.group a b) ∧
  ∀ a, (t.team a).spad = (s.team a).spad ∧ (t.team a).acc = (s.team a).acc ∧ (t.team a).bars = (s.team a).bars ∧
    (t.team a).streams = (s.team a).streams

/-- Two groups with the same uniform, lane, predicate, loop, special and trap registers. -/
def Group.sameRegs (g h : Group) : Prop :=
  g.s = h.s ∧ g.v = h.v ∧ g.p = h.p ∧ g.lc = h.lc ∧ g.fp = h.fp ∧ g.codebook = h.codebook ∧ g.rng = h.rng ∧ g.hbc = h.hbc ∧
  g.scfg = h.scfg ∧ g.gang = h.gang ∧ g.lph = h.lph ∧ g.trap = h.trap

/-! ## The checks of a word (R30) -/

/-- The opcodes whose own rule adds a check at stage 2 of R30, after the clause flag and the gate's list. -/
def ownCheck (op : Nat) : Bool :=
  op = 0x001 || within 0x005 0x008 op || op = 0x00B || op = 0x012 || op = 0x015 || op = 0x016 || within 0x040 0x095 op
    || op = 0x097 || within 0x140 0x149 op || op = 0x14A || op = 0x14B || within 0x160 0x168 op || op = 0x180 || op = 0x181
    || within 0x188 0x194 op || within 0x1A0 0x1AC op || op = 0x1B0 || within 0x1B8 0x1BC op || op = 0x1C0 || op = 0x1C1
    || within 0x1C8 0x1CF op

/-- The registers that a word names: lane registers and uniform registers (R15, R40, R70), and the lane registers that hold a
64-bit operand. -/
structure Named where
  vs : List Nat := []
  ss : List Nat := []
  pairs : List Nat := []

/-- Lane registers that are all operands of the mode's TY, and the uniform registers beside them (R108). -/
def typed (c : Ctx) (vs ss : List Nat) : Named := { vs := vs, ss := ss, pairs := if tyPair c.ty then vs else [] }

/-- A word with a memory operand that moves `n` bytes of one lane register (R42, R168). -/
def withMem (n : Nat) (d : BitVec 7) (m : Mem) : Named :=
  { vs := d.toNat :: m.vs, ss := m.ss, pairs := (if n = 8 then [d.toNat] else []) ++ m.pairs }

/-- The registers that each word names, as the encodings of its rule have them. -/
def namedRegs (c : Ctx) : Instr → Named
  | .jr a | .ret a => { ss := [a.toNat] }
  | .loop _ ci n _ => { ss := if ci = 1 then [] else [n.toNat % 64] }
  | .gets d _ | .srd d _ | .smovi d _ | .smovh d _ | .smovx d _ | .smovy d _ | .pany d _ | .pall d _ | .mstat d _
  | .cpg d _ => { ss := [d.toNat] }
  | .swr a _ => { ss := [a.toNat] }
  | .sadd b d a | .ssub b d a | .smul b d a | .smulh b d a | .sand b d a | .sor b d a | .sxor b d a | .sshl b d a
  | .sshr b d a | .ssra b d a | .smin b d a | .smax b d a | .ssel b d a => { ss := d.toNat :: a.toNat :: b.ss }
  | .scmp b _ _ a => { ss := a.toNat :: b.ss }
  | .smov b d => { ss := d.toNat :: b.ss }
  | .sclz d a | .spop d a | .sld d a | .sst d a => { ss := [d.toNat, a.toNat] }
  | .pmov b _ => { vs := b.vs, ss := b.ss }
  | .getv d _ | .vmovi d _ | .vmovh d _ | .vball d _ | .vrnd d => { vs := [d.toNat] }
  | .vadd b d a | .vsub b d a | .vmul b d a | .vmulh b d a | .vmad b d a | .vdiv b d a | .vrem b d a | .vmin b d a
  | .vmax b d a | .vand b d a | .vor b d a | .vxor b d a | .vshl b d a | .vshr b d a | .vsra b d a | .vbfx b d a
  | .vbfi b d a | .vsel b d a | .vfadd b d a | .vfsub b d a | .vfmul b d a | .vfma b d a | .vfmin b d a | .vfmax b d a
  | .vfdiv b d a | .vshf b d a | .vrot b d a | .vrd b d a => typed c (d.toNat :: a.toNat :: b.vs) b.ss
  | .vabs d a | .vneg d a | .vclz d a | .vpop d a | .vbrev d a | .vfclass d a | .vfrnd d a | .vrcp d a | .vrsq d a
  | .vsqrt d a | .vexp2 d a | .vlog2 d a | .vsin d a | .vcos d a | .vtanh d a | .vsigm d a | .vred d a _
  | .vscan d a _ => typed c [d.toNat, a.toNat] []
  | .vnot d a | .vbcst d a => typed c [d.toNat, a.toNat, a.toNat] []
  | .vmov b d => typed c (d.toNat :: d.toNat :: b.vs) b.ss
  | .vcmp b _ _ a | .vfcmp b _ _ a => typed c (a.toNat :: b.vs) b.ss
  | .vpack d a b | .vunpack d a b => typed c [d.toNat, a.toNat, b.toNat] []
  | .vcvt d a _ _ => {
      vs := [d.toNat, a.toNat]
      pairs := (if tyPair c.ty then [a.toNat] else []) ++ if tyPair (modeCTY c.ent.mode) then [d.toNat] else [] }
  | .vcbq d a _ _ => {
      vs := [d.toNat, a.toNat]
      pairs := (if tyPair c.ty then [a.toNat] else []) ++ if tyPair 0x10 then [d.toNat] else [] }
  | .vmatch d a => { vs := [d.toNat, a.toNat], pairs := if tyPair c.ty then [a.toNat] else [] }
  | .vseed b a => { vs := a.toNat :: b.vs, ss := b.ss }
  | .cbld a | .cbst a => { ss := sRange a.toNat 4 }
  | .ldb d m | .stb d m => withMem 1 d m
  | .ldh d m | .sth d m => withMem 2 d m
  | .ldw d m | .stw d m | .ldsw d m | .stsw d m => withMem 4 d m
  | .ldd d m | .std d m | .ldsd d m | .stsd d m | .xlat d m => withMem 8 d m
  | .ldq d m | .stq d m | .ldsq d m | .stsq d m | .ldnx d m | .stnx d m => withMem 16 d m
  | .lda d m | .stl d m | .ldsc d m | .stsc d m => withMem (if tyPair c.ty then 8 else 4) d m
  | .ldf d m | .stf d m => { vs := d.toNat :: m.vs, ss := m.ss, pairs := (if tyPair c.ty then [d.toNat] else []) ++ m.pairs }
  | .pref _ m => { vs := m.vs, ss := m.ss }
  | .flush m | .inv m => { vs := m.vs, ss := m.ss, pairs := m.pairs }
  | .tlbiPage a | .tlbiFen a | .tlbiAll a | .parkt a | .mgang a | .iobind a _ | .iounb a | .prqack a _ | .gcallReg _ a
  | .qcfg _ a => { ss := [a.toNat] }
  | .aadd b d a | .aand b d a | .aor b d a | .axor b d a | .amin b d a | .amax b d a | .axchg b d a | .ainc b d a
  | .afadd b d a | .acas b d a => {
      vs := a.toNat :: d.toNat :: b.vs, ss := b.ss
      pairs := a.toNat :: if tyPair c.ty then d.toNat :: b.vs else [] }
  | .park b _ _ a => { vs := a.toNat :: b.vs, ss := b.ss, pairs := a.toNat :: if tyPair c.ty then b.vs else [] }
  | .txe _ d | .txr d | .txq d => { vs := [d.toNat] }
  | .mma _ _ a s _ => { vs := vRange a.toNat (fragRegs 0x162 c.ty false), ss := [s.toNat] }
  | .mmas _ _ a s t _ => { vs := vRange a.toNat (fragRegs 0x163 c.ty (t = 1)), ss := [s.toNat] }
  | .mmaw _ _ a s _ => { vs := vRange a.toNat (fragRegs 0x164 c.ty false), ss := [s.toNat] }
  | .mcomp d a _ t => { vs := vRange a.toNat 16 ++ vRange d.toNat (8 + metaRegs c.ty (t = 1)) }
  | .ldga d m => { vs := vRange d.toNat 8 ++ m.vs, ss := m.ss, pairs := m.pairs }
  | .accld _ a _ => { vs := vRange a.toNat 8 }
  | .cpt t l r _ _ => { ss := [t.toNat, l.toNat] ++ sRange r.toNat 3 }
  | .cpx t l r m => { ss := [t.toNat, l.toNat, m.toNat] ++ sRange r.toNat 3 }
  | .cpl b d a => { vs := d.toNat :: a.toNat :: b.vs, ss := b.ss, pairs := [a.toNat] }
  | .qpushRes d _ | .qpop d _ | .barv d _ => { ss := [d.toNat] }
  | .binit b _ | .bexp b _ | .bwait b _ | .btest b _ _ => { ss := b.ss }
  | .iodb b a | .iodbCq b a => { vs := b.vs, ss := a.toNat :: b.ss }
  | .prqpop a | .ntbmap a => { ss := sRange a.toNat 4 }
  | .cfgwr d a b => { ss := [d.toNat, a.toNat, b.toNat] }
  | .enq b _ a => { vs := [a.toNat], ss := b.ss, pairs := [a.toNat] }
  | .rsub d a b => { vs := [d.toNat, a.toNat], ss := [b.toNat], pairs := [a.toNat] }
  | .cfgrd d a | .launch d a _ | .preempt d a | .lend d a | .reclaim d a | .kslot d a | .kzero d a
  | .wlatch d a => { ss := [d.toNat, a.toNat] }
  | .resumeRestart d a | .resumeSkip d a | .resumeEnd d a => { ss := [d.toNat, a.toNat, a.toNat + 1] }
  | .resumeSkipArgs d a => { ss := [d.toNat, a.toNat, a.toNat + 9] ++ sRange a.toNat 9 }
  | .scrub d a | .attestEvidence d a | .attestEphemeral d a | .attestRelease d a => { ss := d.toNat :: sRange a.toNat 2 }
  | .fset d a | .migrSet d a | .migrSave d a | .migrLoad d a => { ss := d.toNat :: sRange a.toNat 3 }
  | .meas d a => { ss := d.toNat :: sRange a.toNat 7 }
  | _ => {}

/-- The field checks that a word's rule makes on the issuer, beside those on its fields alone: `loop` ends its clause (R83), a
barrier is among the team's (R266). -/
def fieldsFit (c : Ctx) : Instr → Bool
  | .loop _ _ _ _ => c.ent.cleft = 0
  | .binit _ n | .barv _ n | .bexp _ n | .bwait _ n | .btest _ _ n | .iobind _ n => n.toNat < c.team.nbar
  | _ => true

/-- The check of 16-byte words at stage 3: four lane registers from a multiple of 4, or `vz` as a load's destination (R168). -/
def quadCheck (c : Ctx) : Instr → Except Flt Unit
  | .ldq d _ | .ldsq d _ | .ldnx d _ =>
    if d.toNat % 4 ≠ 0 ∧ d.toNat ≠ 127 then .error { cause := 0x27, lanes := c.active } else .ok ()
  | .stq d _ | .stsq d _ | .stnx d _ => if d.toNat % 4 ≠ 0 then .error { cause := 0x27, lanes := c.active } else .ok ()
  | _ => .ok ()

/-- The opcodes whose own rule adds another check of stage 3: the matrix words, `cpl`, `iodb`, `iobind` and `iounb`. -/
def ownLanes (op : Nat) : Bool := within 0x162 0x164 op || op = 0x182 || within 0x1A0 0x1A2 op

/-- The opcodes whose own rule says when their engine takes them: they wait for room, or for what must come before them. -/
def ownReady (op : Nat) : Bool :=
  within 0x162 0x164 op || op = 0x168 || op = 0x182 || op = 0x184 || op = 0x189 || op = 0x191 || op = 0x1A0 || op = 0x1A9
    || op = 0x1AC || op = 0x1B1 || op = 0x1B8 || op = 0x1C0 || op = 0x1C1 || within 0x1C8 0x1CF op

/-- What a word declares to the issue engine: the registers of its encoding and its field checks, and no other check, wait or
exemption than those of the rules that `ownCheck`, `ownLanes` and `ownReady` name, the fen check of `enq` (R320), the gang words
and `gcall`, which act with Active() empty too (R235, R346), and `pref`, which raises no fault (R179). -/
def Word.declares (x : Word) (c : Ctx) (s : State) (i : Instr) : Prop :=
  x.vs = (namedRegs c i).vs ∧ x.ss = (namedRegs c i).ss ∧ x.pairs c = (namedRegs c i).pairs ∧
  x.legal = (wellFormed i && fieldsFit c i) ∧
  (ownCheck x.op = false → x.pre c s = .ok ()) ∧ (ownLanes x.op = false → x.lanesOk c s = quadCheck c i) ∧
  (ownReady x.op = false → x.ready c s = true) ∧ (x.op ≠ 0x1B0 → x.engineOk c s = .ok ()) ∧
  (x.always c = true ↔ x.op = 0x1C0 ∨ (within 0x162 0x164 x.op = true ∧ c.gang ≠ [])) ∧ (x.soft = true ↔ x.op = 0x128)

/-! ## The uniform ALU (R89, R91) -/

/-- The two-operand words of R89: opcode, B, d, a and the result of A and B. -/
def uniTwo : Instr → Option (Nat × Src × BitVec 6 × BitVec 6 × (W64 → W64 → W64))
  | .sadd b d a => some (0x020, b, d, a, fun x y => x + y)
  | .ssub b d a => some (0x021, b, d, a, fun x y => x - y)
  | .smul b d a => some (0x022, b, d, a, fun x y => x * y)
  | .smulh b d a => some (0x023, b, d, a, fun x y => BitVec.ofInt 64 (x.toInt * y.toInt / 2 ^ 64))
  | .sand b d a => some (0x024, b, d, a, fun x y => x &&& y)
  | .sor b d a => some (0x025, b, d, a, fun x y => x ||| y)
  | .sxor b d a => some (0x026, b, d, a, fun x y => x ^^^ y)
  | .sshl b d a => some (0x027, b, d, a, fun x y => x <<< (y.toNat % 64))
  | .sshr b d a => some (0x028, b, d, a, fun x y => x >>> (y.toNat % 64))
  | .ssra b d a => some (0x029, b, d, a, fun x y => x.sshiftRight (y.toNat % 64))
  | .smin b d a => some (0x02A, b, d, a, fun x y => if x.toInt ≤ y.toInt then x else y)
  | .smax b d a => some (0x02B, b, d, a, fun x y => if y.toInt ≤ x.toInt then x else y)
  | _ => none

/-- B of a uniform word: a uniform register, or a sign-extended immediate (R89). -/
def uniOperand (g : Group) : Src → W64
  | .s n => g.readS n.toNat
  | .imm n => n.signExtend 64
  | .v _ => 0
  | .p _ => 0

/-- The words of R89 and R91 that write one uniform register otherwise: opcode, uniform registers named, d, result. -/
def uniOne (g : Group) : Instr → Option (Nat × List Nat × BitVec 6 × W64)
  | .ssel b d a => some (0x02D, d.toNat :: a.toNat :: b.ss, d,
      if g.readS d.toNat ≠ 0 then g.readS a.toNat else uniOperand g b)
  | .smov b d => some (0x02E, d.toNat :: b.ss, d, uniOperand g b)
  | .sclz d a => some (0x033, [d.toNat, a.toNat], d, BitVec.ofNat 64 (clz 64 (g.readS a.toNat).toNat))
  | .spop d a => some (0x034, [d.toNat, a.toNat], d, BitVec.ofNat 64 (pop 64 (g.readS a.toNat).toNat))
  | .smovi d i => some (0x02F, [d.toNat], d, i.signExtend 64)
  | .smovh d i => some (0x030, [d.toNat], d, (g.readS d.toNat).extractLsb' 32 32 ++ i ++ (g.readS d.toNat).extractLsb' 0 16)
  | .smovx d i => some (0x031, [d.toNat], d, (g.readS d.toNat).extractLsb' 48 16 ++ i ++ (g.readS d.toNat).extractLsb' 0 32)
  | .smovy d i => some (0x032, [d.toNat], d, i ++ (g.readS d.toNat).extractLsb' 0 48)
  | _ => none

/-! ## Predicates (R93, R94) -/

/-- The per-lane predicate words of R93: opcode, lane and uniform registers named, d, and the value of a lane. -/
def predResult (g : Group) : Instr → Option (Nat × List Nat × List Nat × BitVec 3 × (Nat → Bool))
  | .pand d a b => some (0x038, [], [], d, fun l => g.readP l a.toNat && g.readP l b.toNat)
  | .por d a b => some (0x039, [], [], d, fun l => g.readP l a.toNat || g.readP l b.toNat)
  | .pxor d a b => some (0x03A, [], [], d, fun l => g.readP l a.toNat != g.readP l b.toNat)
  | .pnot d a => some (0x03B, [], [], d, fun l => !g.readP l a.toNat)
  | .pmov b d => some (0x03E, b.vs, b.ss, d, fun l => match b with
      | .v n => decide (g.readV l n.toNat ≠ 0)
      | .s n => (g.readS n.toNat).getLsbD l
      | .imm n => n.getLsbD 0
      | .p n => g.readP l n.toNat)
  | _ => none

/-! ## Special registers (R95) -/

/-- The registers of R95 that hold no time, as a lane of the issuing splinter reads them. -/
def specialValue (c : Ctx) (l : Nat) : Nat → Option Nat
  | 0x000 => some l
  | 0x001 => some (l / 4)
  | 0x002 => some c.gi
  | 0x003 => some (if c.gi < c.team.np then 0 else 1)
  | 0x004 => some (c.team.np + c.team.nc)
  | 0x005 => some c.team.coord.1
  | 0x006 => some c.team.coord.2.1
  | 0x007 => some c.team.coord.2.2
  | 0x008 => some c.team.dims.1
  | 0x009 => some c.team.dims.2.1
  | 0x00A => some c.team.dims.2.2
  | 0x00B => some c.team.core
  | 0x00C => some (if 192 ≤ c.team.core then c.team.core - 192 else c.team.core / 48)
  | 0x00D => some (if 192 ≤ c.team.core then 0x3F else c.team.core / 4)
  | 0x00E => some c.fen
  | 0x010 => some c.ent.mask.toNat
  | 0x011 => some c.active.toNat
  | 0x012 => some c.grp.fp.toNat
  | 0x013 => some c.grp.fp.toNat
  | 0x014 => some (c.grp.readLC 0).toNat
  | 0x015 => some (c.grp.readLC 1).toNat
  | 0x016 => some (c.grp.readLC 2).toNat
  | 0x017 => some c.team.arg.toNat
  | 0x018 => some (c.team.nspad * 16384)
  | _ => none

/-! ## System registers (R102 to R106, R183) -/

/-- The numbers of no system register (R103, R183, R335, R375). -/
def namesNone (n : Nat) : Bool :=
  within 0x00D 0x03F n || within 0x045 0x0FF n || within 0x107 0x17F n || 0x193 ≤ n

/-- A slot register: the field of slot 0 lowest, and what a free slot shows (R335). -/
def slotsSum (k : Core) (free : Nat) (f : FenSlot → Nat) : Nat :=
  let x := fun i => match k.slots.find i with
    | some y => f y
    | none => free
  x 0 + x 1 * 2 ^ 16 + x 2 * 2 ^ 32 + x 3 * 2 ^ 48

/-- SYS_SCSTAT, STOPPED (R375). -/
def stoppedSum (s : State) : Nat :=
  let x := fun d => if (s.core (192 + d)).stopped then 1 else 0
  x 0 + x 1 * 2 + x 2 * 4 + x 3 * 8

/-- The system registers whose read changes nothing but the destination, and what they hold (R103, R154, R183, R335, R337,
R374 to R392): those of the group, of its core, of the core that SYS_CORESEL selects, of its die and of the package. -/
def issueReg (s : State) (c : Ctx) : Nat → Option Nat
  | 0x000 => some (s.core c.team.core).tvec.toNat
  | 0x001 => some c.grp.trap.epc.toNat
  | 0x002 => some c.grp.trap.ecause.toNat
  | 0x003 => some c.grp.trap.eaddr.toNat
  | 0x004 => some c.grp.trap.emode.toNat
  | 0x005 => some (c.grp.trap.scr.get 0 0).toNat
  | 0x006 => some (c.grp.trap.scr.get 0 1).toNat
  | 0x007 => some (c.grp.trap.scr.get 0 2).toNat
  | 0x008 => some (c.grp.trap.scr.get 0 3).toNat
  | 0x009 => some ((s.core c.team.core).event ||| (if (s.core c.team.core).timecmp.toNat ≤ s.timeOn c.team.core then 1 else 0)).toNat
  | 0x00A => some (s.core c.team.core).evmask.toNat
  | 0x00B => some (s.core c.team.core).timecmp.toNat
  | 0x00C => some c.grp.trap.ecls.toNat
  | 0x040 => some s.ptbase.toNat
  | 0x041 => some (s.core c.team.core).xfen.toNat
  | 0x042 => some (s.core c.team.core).coresel.toNat
  | 0x043 =>
    let k := s.core (s.core c.team.core).coresel.toNat
    some (if (s.core c.team.core).coresel.toNat < 192 then
      k.splitMode.toNat + k.splitCur.toNat * 4 + (if k.splitMode = k.splitCur then 0 else 16) else 0)
  | 0x044 => some s.scepoch.toNat
  | 0x100 => userCore.map fun k => slotsSum k 0xFF (·.fen)
  | 0x101 => userCore.map fun k => slotsSum k 0 (·.rf.toNat)
  | 0x102 => userCore.map fun k => slotsSum k 0 (·.sp.toNat)
  | 0x103 => userCore.map fun k => slotsSum k 0 (·.l1.toNat)
  | 0x104 => userCore.map fun k => slotsSum k 0 (·.bs.toNat)
  | 0x105 => userCore.map fun k => slotsSum k 0 (·.acc.toNat)
  | 0x106 => userCore.map fun k => k.world.toNat + k.worldPend.toNat * 2 + k.worldTarget.toNat * 4
  | 0x180 => some (stoppedSum s + die * 2 ^ 4)
  | 0x181 => some 0
  | 0x182 => some (s.sys.stage + s.sys.bootErr * 2 ^ 4)
  | 0x183 => some (s.sys.fwver % 2 ^ 32 + s.sys.fwsec % 2 ^ 16 * 2 ^ 32)
  | 0x184 => some (x.hoState * 2 + x.hoErr * 2 ^ 3)
  | 0x185 => some (s.sys.foff.toNat % 2 ^ 64)
  | 0x186 => some (s.sys.foff.toNat / 2 ^ 64)
  | 0x187 => some (s.sys.facc.toNat % 2 ^ 64)
  | 0x188 => some (s.sys.facc.toNat / 2 ^ 64)
  | 0x189 => some (s.sys.hdb.toNat % 2 ^ 64)
  | 0x18A => some (s.sys.hdb.toNat / 2 ^ 64)
  | 0x18B => some (x.spare.toNat + x.spareDone.toNat * 2 ^ 9 + x.spareUsed.toNat * 2 ^ 10 + x.spareErr.toNat * 2 ^ 11)
  | 0x18C => some (x.chSlice + x.chCh * 2 ^ 6 + x.chDone.toNat * 2 ^ 11 + (s.mem.retiredCh.get 0 x.chSlice).toNat * 2 ^ 12)
  | 0x18D => some (x.corrMem + x.corrArray * 2 ^ 32 + min x.degrades (2 ^ 16 - 1) * 2 ^ 48)
  | 0x18F => some (s.core (192 + die)).mclog1.toNat
  | 0x190 => some (s.sys.mode + s.sys.modeb * 4 + s.sys.split.toNat * 16 + s.sys.cur * 2 ^ 8 + s.sys.curb * 2 ^ 10
      + s.sys.cap.toNat * 2 ^ 12)
  | 0x191 => some (s.sys.gatePid + s.sys.gateDone.toNat * 2 ^ 8 + s.sys.gateErr.toNat * 2 ^ 9)
  | 0x192 => some s.sys.gated.toNat
  | _ => none
where
  die := c.team.core - 192
  x := s.die die
  userCore := if (s.core c.team.core).coresel.toNat < 192 then some (s.core (s.core c.team.core).coresel.toNat) else none

/-- The trap state of a group after `swr` of one of its registers (R103, R104): of SYS_ECAUSE only EXL is written, and
reserved bits are ignored. -/
def trapWritten (t : TrapRegs) (x : W64) : Nat → Option TrapRegs
  | 0x001 => some { t with epc := x.extractLsb' 0 57 }
  | 0x002 => some { t with ecause := t.ecause.extractLsb' 26 38 ++ x.extractLsb' 25 1 ++ t.ecause.extractLsb' 0 25 }
  | 0x004 => some { t with emode := (0 : BitVec 2) ++ x.extractLsb' 0 21 }
  | 0x005 => some { t with scr := SMap.put 0 t.scr 0 x }
  | 0x006 => some { t with scr := SMap.put 0 t.scr 1 x }
  | 0x007 => some { t with scr := SMap.put 0 t.scr 2 x }
  | 0x008 => some { t with scr := SMap.put 0 t.scr 3 x }
  | 0x00C => some { t with ecls := x.extractLsb' 0 13 }
  | _ => none

/-- The issuing core after `swr` of one of its registers (R103, R106, R183). -/
def coreWritten (k : Core) (now : Nat) (x : W64) : Nat → Option Core
  | 0x000 => some { k with tvec := x.extractLsb' 0 57 }
  | 0x009 => some { k with event := k.event &&& ~~~ x.extractLsb' 0 5 }
  | 0x00A => some { k with evmask := x }
  | 0x00B => some { k with timecmp := x, event := k.event ||| (if k.timecmp.toNat ≤ now then 1 else 0) }
  | 0x041 => some { k with xfen := x.extractLsb' 0 8 }
  | 0x042 => some { k with coresel := x.extractLsb' 0 8 }
  | _ => none

/-- The machine, apart from the issuing group, after `swr` of a register that belongs to no group and no core alone (R146,
R154, R375). -/
def packageWritten (s : State) (c : Ctx) (x : W64) : Nat → Option State
  | 0x040 => some { s with ptbase := x &&& 0x000FFFFFFFFFF000 }
  | 0x043 =>
    let n := (s.core c.team.core).coresel.toNat
    some (if n < 192 then s.setCore n { s.core n with splitMode := x.extractLsb' 0 2 } else s)
  | 0x181 => some (if x.getLsbD 2 then s.restartCore (x.toNat % 4) else s)
  | 0x184 => some (if x.getLsbD 0 then s.modDie (c.team.core - 192) fun d => { d with hoState := 1, hoErr := 0 } else s)
  | 0x185 => some { s with sys := { s.sys with foff := (s.sys.foff.extractLsb' 64 64 ++ x) &&& 0x3F } }
  | 0x186 => some { s with sys := { s.sys with foff := (x ++ s.sys.foff.extractLsb' 0 64) &&& 0x3F } }
  | 0x189 => some { s with sys := { s.sys with hdb := s.sys.hdb &&& ~~~ x.setWidth 97 } }
  | 0x18A => some { s with sys := { s.sys with hdb := s.sys.hdb &&& ~~~ (x.setWidth 97 <<< 64) } }
  | 0x18B => some (s.spareWrite (c.team.core - 192) x.toNat)
  | 0x18C => some (s.chretWrite (c.team.core - 192) x.toNat)
  | 0x190 => some { s with sys := { s.sys with
      mode := if x.toNat % 4 = 3 then s.sys.mode else x.toNat % 4
      modeb := if x.toNat / 4 % 4 = 3 then s.sys.modeb else x.toNat / 4 % 4
      split := x.getLsbD 4 } }
  | 0x191 => some (s.gateWrite x.toNat)
  | _ => none

/-! ## The vector engine (R108 to R142) -/

/-- A result of R128: an exact integer encoded once in the type. -/
def intResult (f : Int → Int → Int → Int) (v : Env) (ty a b d : Nat) : Nat × Flags :=
  encodeInt v.sat ty (f (intVal ty a) (intVal ty b) (intVal ty d))

/-- A result of R133: an exact value encoded once in the type, with the flags of both. -/
def floatResult (f : Nat → Val → Val → Val → Val × Flags) (v : Env) (ty a b d : Nat) : Nat × Flags :=
  let r := f v.rm (decodeElem v ty a) (decodeElem v ty b) (decodeElem v ty d)
  ((encodeFloat v ty r.1).1, r.2 ||| (encodeFloat v ty r.1).2)

/-- The words of R129, R130, R134, R135 and R136 that work element by element: opcode, lane and uniform registers named,
B, d, a, the types that they accept, and the result of an element of A, B and D. -/
def elemWord (mode : BitVec 23) : Instr → Option (Nat × List Nat × List Nat × Src × BitVec 7 × BitVec 7 × (Nat → Bool) ×
    (Env → Nat → Nat → Nat → Nat → Nat × Flags))
  | .vadd b d a => some (0x040, d.toNat :: a.toNat :: b.vs, b.ss, b, d, a, tyInt, intResult fun x y _ => x + y)
  | .vsub b d a => some (0x041, d.toNat :: a.toNat :: b.vs, b.ss, b, d, a, tyInt, intResult fun x y _ => x - y)
  | .vmul b d a => some (0x042, d.toNat :: a.toNat :: b.vs, b.ss, b, d, a, tyInt, intResult fun x y _ => x * y)
  | .vmulh b d a => some (0x043, d.toNat :: a.toNat :: b.vs, b.ss, b, d, a, tyInt, fun v ty x y _ =>
      encodeInt v.sat ty (intVal ty x * intVal ty y / ((2 ^ tyWidth ty : Nat) : Int)))
  | .vmad b d a => some (0x044, d.toNat :: a.toNat :: b.vs, b.ss, b, d, a, tyInt, intResult fun x y z => x * y + z)
  | .vdiv b d a => some (0x045, d.toNat :: a.toNat :: b.vs, b.ss, b, d, a, tyInt, fun v ty x y _ =>
      if intVal ty y = 0 then (2 ^ tyWidth ty - 1, fDZ) else encodeInt v.sat ty ((intVal ty x).tdiv (intVal ty y)))
  | .vrem b d a => some (0x046, d.toNat :: a.toNat :: b.vs, b.ss, b, d, a, tyInt, fun v ty x y _ =>
      if intVal ty y = 0 then (x, fDZ) else encodeInt v.sat ty ((intVal ty x).tmod (intVal ty y)))
  | .vabs d a => some (0x047, [d.toNat, a.toNat], [], .v a, d, a, tyInt, fun v ty x _ _ =>
      encodeInt v.sat ty ((intVal ty x).natAbs : Int))
  | .vneg d a => some (0x048, [d.toNat, a.toNat], [], .v a, d, a, tyInt, fun v ty x _ _ => encodeInt v.sat ty (-intVal ty x))
  | .vmin b d a => some (0x049, d.toNat :: a.toNat :: b.vs, b.ss, b, d, a, tyInt, intResult fun x y _ => min x y)
  | .vmax b d a => some (0x04A, d.toNat :: a.toNat :: b.vs, b.ss, b, d, a, tyInt, intResult fun x y _ => max x y)
  | .vshl b d a => some (0x04F, d.toNat :: a.toNat :: b.vs, b.ss, b, d, a, tyInt, fun _ ty x y _ =>
      (x * 2 ^ (y % tyWidth ty) % 2 ^ tyWidth ty, 0))
  | .vshr b d a => some (0x050, d.toNat :: a.toNat :: b.vs, b.ss, b, d, a, tyInt, fun _ ty x y _ =>
      (x / 2 ^ (y % tyWidth ty), 0))
  | .vsra b d a => some (0x051, d.toNat :: a.toNat :: b.vs, b.ss, b, d, a, tyInt, fun _ ty x y _ =>
      (wrapTo (tyWidth ty) (signedOf (tyWidth ty) x / ((2 ^ (y % tyWidth ty) : Nat) : Int)), 0))
  | .vclz d a => some (0x052, [d.toNat, a.toNat], [], .v a, d, a, tyInt, fun _ ty x _ _ => (clz (tyWidth ty) x, 0))
  | .vpop d a => some (0x053, [d.toNat, a.toNat], [], .v a, d, a, tyInt, fun _ ty x _ _ => (pop (tyWidth ty) x, 0))
  | .vbrev d a => some (0x054, [d.toNat, a.toNat], [], .v a, d, a, tyInt, fun _ ty x _ _ => (brev (tyWidth ty) x, 0))
  | .vbfx b d a => some (0x055, d.toNat :: a.toNat :: b.vs, b.ss, b, d, a,
      fun ty => ty = 0x02 || ty = 0x03 || ty = 0x06 || ty = 0x07, fun _ ty x y _ => (bfx ty x y, 0))
  | .vbfi b d a => some (0x056, d.toNat :: a.toNat :: b.vs, b.ss, b, d, a,
      fun ty => ty = 0x02 || ty = 0x03 || ty = 0x06 || ty = 0x07, fun _ ty x y z => (bfi ty x y z, 0))
  | .vfadd b d a => some (0x060, d.toNat :: a.toNat :: b.vs, b.ss, b, d, a, tyFloat, floatResult fun rm x y _ => x.add rm y)
  | .vfsub b d a => some (0x061, d.toNat :: a.toNat :: b.vs, b.ss, b, d, a, tyFloat, floatResult fun rm x y _ => x.sub rm y)
  | .vfmul b d a => some (0x062, d.toNat :: a.toNat :: b.vs, b.ss, b, d, a, tyFloat, floatResult fun _ x y _ => x.mul y)
  | .vfma b d a => some (0x063, d.toNat :: a.toNat :: b.vs, b.ss, b, d, a, tyFloat, floatResult fun rm x y z => x.fma rm y z)
  | .vfmin b d a => some (0x064, d.toNat :: a.toNat :: b.vs, b.ss, b, d, a, tyFloat,
      floatResult fun _ x y _ => x.minMax false y)
  | .vfmax b d a => some (0x065, d.toNat :: a.toNat :: b.vs, b.ss, b, d, a, tyFloat,
      floatResult fun _ x y _ => x.minMax true y)
  | .vfclass d a => some (0x067, [d.toNat, a.toNat], [], .v a, d, a, tyFloat, fun v ty x _ _ => (classOfElem v ty x, 0))
  | .vfrnd d a => some (0x068, [d.toNat, a.toNat], [], .v a, d, a, tyFloat, fun v ty x _ _ =>
      floatResult (fun rm x _ _ => x.rint rm) v ty x x x)
  | .vsqrt d a => some (0x06B, [d.toNat, a.toNat], [], .v a, d, a, tyFloat, fun v ty x _ _ =>
      floatResult (fun _ x _ _ => x.sqrt) v ty x x x)
  | .vfdiv b d a => some (0x072, d.toNat :: a.toNat :: b.vs, b.ss, b, d, a, tyFloat, floatResult fun _ x y _ => x.div y)
  | .vrcp d a => some (0x069, [d.toNat, a.toNat], [], .v a, d, a, tySpecial, fun v ty x _ _ => specialOp 0x069 mode.toNat v ty x)
  | .vrsq d a => some (0x06A, [d.toNat, a.toNat], [], .v a, d, a, tySpecial, fun v ty x _ _ => specialOp 0x06A mode.toNat v ty x)
  | .vexp2 d a => some (0x06C, [d.toNat, a.toNat], [], .v a, d, a, tySpecial, fun v ty x _ _ => specialOp 0x06C mode.toNat v ty x)
  | .vlog2 d a => some (0x06D, [d.toNat, a.toNat], [], .v a, d, a, tySpecial, fun v ty x _ _ => specialOp 0x06D mode.toNat v ty x)
  | .vsin d a => some (0x06E, [d.toNat, a.toNat], [], .v a, d, a, tySpecial, fun v ty x _ _ => specialOp 0x06E mode.toNat v ty x)
  | .vcos d a => some (0x06F, [d.toNat, a.toNat], [], .v a, d, a, tySpecial, fun v ty x _ _ => specialOp 0x06F mode.toNat v ty x)
  | .vtanh d a => some (0x070, [d.toNat, a.toNat], [], .v a, d, a, tySpecial, fun v ty x _ _ => specialOp 0x070 mode.toNat v ty x)
  | .vsigm d a => some (0x071, [d.toNat, a.toNat], [], .v a, d, a, tySpecial, fun v ty x _ _ => specialOp 0x071 mode.toNat v ty x)
  | _ => none

/-- The lane that a lane-exchange operand names: its bits [4:0] (R138). -/
def laneNamed (c : Ctx) (b : Src) (l : Nat) : Nat :=
  match b with
  | .imm n => n.toNat % 32
  | _ => c.laneB c.ty b l % 32

/-- A lane's operand as another lane reads it: zero outside the splinter (R138). -/
def fromLane (c : Ctx) (a : BitVec 7) (m : Nat) : Nat := if c.ent.mask.getLsbD m then c.grp.readOp c.ty m a.toNat else 0

/-- The words of R126, R132 and R138 that raise no flag: opcode, lane and uniform registers named, the types that they
accept, d, and the value of a lane. -/
def moveWord (c : Ctx) : Instr → Option (Nat × List Nat × List Nat × (Nat → Bool) × BitVec 7 × (Nat → Nat))
  | .vand b d a => some (0x04B, d.toNat :: a.toNat :: b.vs, b.ss, fun _ => true, d, fun l =>
      c.grp.readOp c.ty l a.toNat &&& c.laneB c.ty b l)
  | .vor b d a => some (0x04C, d.toNat :: a.toNat :: b.vs, b.ss, fun _ => true, d, fun l =>
      c.grp.readOp c.ty l a.toNat ||| c.laneB c.ty b l)
  | .vxor b d a => some (0x04D, d.toNat :: a.toNat :: b.vs, b.ss, fun _ => true, d, fun l =>
      c.grp.readOp c.ty l a.toNat ^^^ c.laneB c.ty b l)
  | .vnot d a => some (0x04E, [d.toNat, a.toNat, a.toNat], [], fun _ => true, d, fun l =>
      (if tyPair c.ty then 2 ^ 64 else 2 ^ 32) - 1 - c.grp.readOp c.ty l a.toNat)
  | .vsel b d a => some (0x057, d.toNat :: a.toNat :: b.vs, b.ss, fun _ => true, d, fun l =>
      if c.grp.readOp c.ty l d.toNat ≠ 0 then c.grp.readOp c.ty l a.toNat else c.laneB c.ty b l)
  | .vmov b d => some (0x059, d.toNat :: d.toNat :: b.vs, b.ss, fun _ => true, d, fun l => c.laneB c.ty b l)
  | .vpack d a b => some (0x081, [d.toNat, a.toNat, b.toNat], [], fun ty => ty ≤ 0x12 && tyElems ty % 2 = 0 && 2 ≤ tyElems ty, d,
      fun l =>
      let x := elemsOf c.ty (c.grp.readOp c.ty l a.toNat)
      let y := elemsOf c.ty (c.grp.readOp c.ty l b.toNat)
      let h := tyElems c.ty / 2
      joinElems c.ty ((List.range h).map (fun j => x.getD (2 * j) 0) ++ (List.range h).map fun j => y.getD (2 * j) 0))
  | .vunpack d a b => some (0x082, [d.toNat, a.toNat, b.toNat], [], fun ty => ty ≤ 0x12 && tyElems ty % 2 = 0 && 2 ≤ tyElems ty, d,
      fun l =>
      let x := elemsOf c.ty (c.grp.readOp c.ty l a.toNat)
      let y := elemsOf c.ty (c.grp.readOp c.ty l b.toNat)
      joinElems c.ty ((List.range (2 * (tyElems c.ty / 2))).map fun j =>
        if j % 2 = 0 then x.getD (j / 2) 0 else y.getD (j / 2) 0))
  | .vshf b d a => some (0x090, d.toNat :: a.toNat :: b.vs, b.ss, fun _ => true, d, fun l => fromLane c a (laneNamed c b l))
  | .vrot b d a => some (0x091, d.toNat :: a.toNat :: b.vs, b.ss, fun _ => true, d, fun l =>
      fromLane c a ((l + laneNamed c b l) % 32))
  | .vbcst d a => some (0x092, [d.toNat, a.toNat, a.toNat], [], fun _ => true, d, fun _ => fromLane c a (lowLane c.active))
  | .vrd b d a => some (0x093, d.toNat :: a.toNat :: b.vs, b.ss, fun _ => true, d, fun l =>
      fromLane c a (l ^^^ laneNamed c b l))
  | _ => none

/-- The conversions of R124 and R125: opcode, d, a, the first destination and source element, and the destination type. -/
def convertWord (c : Ctx) : Instr → Option (Nat × BitVec 7 × BitVec 7 × BitVec 3 × BitVec 3 × Nat)
  | .vcvt d a e f => some (0x080, d, a, e, f, (c.ent.mode.extractLsb' 5 5).toNat)
  | .vcbq d a e f => some (0x085, d, a, e, f, 0x10)
  | _ => none

/-- The flag NV where a condition holds (R121). -/
def nvIf (b : Bool) : Flags := if b then 1 else 0

/-- The reduction of one element over lanes (R139): add, min or max of exact values, encoded once. -/
def reducedElem (v : Env) (ty o : Nat) (xs : List Nat) : Nat × Flags :=
  if tyInt ty then
    let ys := xs.map (intVal ty)
    encodeInt v.sat ty (match o, ys with
      | 0, ys => ys.foldl (· + ·) 0
      | _, [] => 0
      | 1, y :: rest => rest.foldl min y
      | _, y :: rest => rest.foldl max y)
  else
    let ys := xs.map (decodeElem v ty)
    let r : Val × Flags :=
      if o ≠ 0 then
        match ys with
        | [] => (.fin false 0 1, 0)
        | y :: rest => (rest.foldl (fun y z => (y.minMax (o = 2) z).1) y, nvIf (ys.any Val.isSnan))
      else if (ys.any fun y => y = .inf true) && (ys.any fun y => y = .inf false) then (.qnan, nvIf true)
      else if ys.any Val.isNan then (.qnan, nvIf (ys.any Val.isSnan))
      else
        match ys with
        | [] => (.fin false 0 1, 0)
        | y :: rest => (rest.foldl (fun y z => (y.add v.rm z).1) y, 0)
    ((encodeFloat v ty r.1).1, r.2 ||| (encodeFloat v ty r.1).2)

/-- The reduction over some lanes (R139): of the patterns of the operand for and, or and xor, else element by element. -/
def reduced (c : Ctx) (o : Nat) (a : BitVec 7) (ls : List Nat) : Nat × List Flags :=
  let xs := ls.map fun l => c.grp.readOp c.ty l a.toNat
  if o = 3 then (xs.foldl (· &&& ·) (if tyPair c.ty then 2 ^ 64 - 1 else 2 ^ 32 - 1), [])
  else if o = 4 then (xs.foldl (· ||| ·) 0, [])
  else if o = 5 then (xs.foldl (· ^^^ ·) 0, [])
  else
    let rs := (List.range (tyElems c.ty)).map fun j =>
      reducedElem c.env c.ty o (xs.map fun x => (elemsOf c.ty x).getD j 0)
    (joinElems c.ty (rs.map (·.1)), rs.map (·.2))

/-- The words of R138 to R142 whose lanes take a mask or random bits: opcode, lane and uniform registers named, pairs, and
the group after. -/
def maskWord (c : Ctx) : Instr → Option (Nat × List Nat × List Nat × List Nat × Group)
  | .vmovi d i => some (0x05A, [d.toNat], [], [], c.lanes.foldl (fun g l => g.writeV l d.toNat (i.signExtend 32)) c.grp)
  | .vmovh d i => some (0x05B, [d.toNat], [], [], c.lanes.foldl (fun g l =>
      g.writeV l d.toNat (i ++ (c.grp.readV l d.toNat).extractLsb' 0 16)) c.grp)
  | .vball d b => some (0x096, [d.toNat], [], [], c.lanes.foldl (fun g l =>
      g.writeV l d.toNat (c.grp.pmask b.toNat &&& c.active)) c.grp)
  | .vmatch d a => some (0x097, [d.toNat, a.toNat], if tyPair c.ty then [a.toNat] else [], [], c.lanes.foldl (fun g l =>
      g.writeV l d.toNat (maskOf (c.lanes.filter fun m => c.grp.readOp c.ty m a.toNat = c.grp.readOp c.ty l a.toNat))) c.grp)
  | .vrnd d => some (0x0A0, [d.toNat], [], [], c.lanes.foldl (fun g l =>
      (g.setRng l (rngStep (c.grp.rngOf l))).writeV l d.toNat ((rngStep (c.grp.rngOf l)).extractLsb' 96 32)) c.grp)
  | .vseed b a => some (0x0A1, a.toNat :: b.vs, [], b.ss, c.lanes.foldl (fun g l =>
      g.setRng l (rngSeed (c.grp.readV l a.toNat) (c.seedB b l) l)) c.grp)
  | _ => none

/-! ## Control flow (R73 to R86) -/

/-- The lanes of a splinter whose condition holds: p[q] XOR n (R73). -/
def condLanes (c : Ctx) (q : BitVec 3) (n : BitVec 1) : W32 :=
  if n = 1 then c.ent.mask &&& ~~~ c.grp.pmask q.toNat else c.ent.mask &&& c.grp.pmask q.toNat

/-- A word offset from the issuing word (R73). -/
def targetFrom (c : Ctx) (o : BitVec 17) : BitVec 57 := c.ent.pc + (o.signExtend 57 <<< 2)

/-- A clause header stands at an address (R47), or its fetch fails, which is then met there and does not stop the transfer (R394). -/
def headerAt (s : State) (c : Ctx) (a : BitVec 57) : Prop :=
  (∃ w, s.fetchWord c.team.core c.grp.port c.fen a.toNat = .ok w ∧ w / 2 ^ 28 = 15) ∨
  ∃ cause, s.fetchWord c.team.core c.grp.port c.fen a.toNat = .error cause ∧ cause ≠ 0x02

/-- Something else than a clause header stands at an address, or the address is misaligned (R47). -/
def noHeaderAt (s : State) (c : Ctx) (a : BitVec 57) : Prop :=
  (∃ w, s.fetchWord c.team.core c.grp.port c.fen a.toNat = .ok w ∧ w / 2 ^ 28 ≠ 15) ∨
  s.fetchWord c.team.core c.grp.port c.fen a.toNat = .error 0x02

/-- The words that move a whole splinter (R74): opcode, registers named, target, is R86 checked, and the link that `call`
writes. -/
def jumpWord (c : Ctx) : Instr → Option (Nat × List Nat × BitVec 57 × Bool × Option (BitVec 57))
  | .jmp _ o => some (0x005, [], targetFrom c o, true, none)
  | .call _ o => some (0x007, [], targetFrom c o, false, some (c.ent.pc + 4 + (c.ent.cleft.setWidth 57 <<< 2)))
  | .jr a => some (0x006, [a.toNat], (c.grp.readS a.toNat).setWidth 57, true, none)
  | .ret a => some (0x008, [a.toNat], (c.grp.readS a.toNat).setWidth 57, true, none)
  | _ => none

/-! ## Loads, stores and scratchpad (R159, R168, R174, R175, R177) -/

/-- The loads of a lane register: opcode, bytes, d, the memory operand, and whether the L1 may serve it. -/
def loadForm (c : Ctx) : Instr → Option (Nat × Nat × BitVec 7 × Mem × Bool)
  | .ldb d m => some (0x100, 1, d, m, true)
  | .ldh d m => some (0x101, 2, d, m, true)
  | .ldw d m => some (0x102, 4, d, m, true)
  | .ldd d m => some (0x103, 8, d, m, true)
  | .ldq d m => some (0x104, 16, d, m, true)
  | .ldnx d m => some (0x124, 16, d, m, true)
  | .lda d m => some (0x120, if tyPair c.ty then 8 else 4, d, m, false)
  | _ => none

/-- The stores of a lane register: opcode, bytes, kind, d and the memory operand. -/
def storeForm (c : Ctx) : Instr → Option (Nat × Nat × StKind × BitVec 7 × Mem)
  | .stb d m => some (0x108, 1, .plain, d, m)
  | .sth d m => some (0x109, 2, .plain, d, m)
  | .stw d m => some (0x10A, 4, .plain, d, m)
  | .std d m => some (0x10B, 8, .plain, d, m)
  | .stq d m => some (0x10C, 16, .plain, d, m)
  | .stnx d m => some (0x125, 16, .plain, d, m)
  | .stl d m => some (0x121, if tyPair c.ty then 8 else 4, .release, d, m)
  | _ => none

/-- The scratchpad words: opcode, bytes, whether it stores, d and the memory operand. -/
def spadForm : Instr → Option (Nat × Nat × Bool × BitVec 7 × Mem)
  | .ldsw d m => some (0x114, 4, false, d, m)
  | .ldsd d m => some (0x115, 8, false, d, m)
  | .ldsq d m => some (0x116, 16, false, d, m)
  | .stsw d m => some (0x118, 4, true, d, m)
  | .stsd d m => some (0x119, 8, true, d, m)
  | .stsq d m => some (0x11A, 16, true, d, m)
  | _ => none

/-- One byte that a load of the group takes: from the youngest earlier store of its own core that wrote it, else from the
L1 where `l1` permits it and no `txe` of the group is under way, else from the home bank; `none` when it must wait or meets
a finding (R156, R159, R214). -/
def State.loadByte (s : State) (c : Ctx) (l1 : Bool) (pa : Nat) : Option Byte :=
  match takeByte c.fen pa (s.storesSeen c) 0xFF 0 with
  | none => none
  | some (rem, b) =>
    if rem = 0 then some b
    else match (if l1 ∧ c.grp.txeFlags = 0 then (s.core c.team.core).l1Hit c.fen (pa / 32) c.grp.floor else none) with
    | some e => some (mergeByte b ((s.l1Bytes e).getD (pa % 32) 0) rem)
    | none => if (s.lineErr c.fen (pa / 64)).isSome then none else some (mergeByte b (s.readByte c.fen pa) rem)

/-- No SC access of a core's groups waits to be sent. -/
def State.NoScWaits (s : State) (core : Nat) : Prop := ∀ t ∈ s.teams, t.2.core = core → ∀ gi, (s.group t.1 gi).scq = []

/-- The entries that a lane's `stf` queues, one for each element; `more` is what an element has in the next page (R153,
R173). -/
def fmtEntries (c : Ctx) (word : Nat) (m : Mem) (l : Nat) (acc : FmtAcc) (es : List Nat) : List StoreEnt :=
  let bits := fmtBits acc.fmt (c.elemBase m l).2 es.length
  let len := (acc.parts.map (·.len)).foldl (· + ·) 0
  (bits.zip es).filterMap fun be =>
    match (splitParts acc.parts (fmtPattern acc.fmt len [be.1] [be.2])).filterMap trimPart with
    | [] => none
    | (va, pa, bs) :: rest => some { c.storeEnt word l va pa bs .plain with more := rest.head?.map (·.2) }

/-! ## Home bank (R189) -/

/-- The atomics: opcode, the types that they accept, the operation, B, d and a. -/
def atomForm : Instr → Option (Nat × List Nat × AtomOp × Src × BitVec 7 × BitVec 7)
  | .aadd b d a => some (0x140, [2, 3, 6, 7], .add, b, d, a)
  | .aand b d a => some (0x141, [2, 3, 6, 7, 0x0A, 0x0B], .and, b, d, a)
  | .aor b d a => some (0x142, [2, 3, 6, 7, 0x0A, 0x0B], .or, b, d, a)
  | .axor b d a => some (0x143, [2, 3, 6, 7, 0x0A, 0x0B], .xor, b, d, a)
  | .amin b d a => some (0x144, [2, 3, 6, 7], .min, b, d, a)
  | .amax b d a => some (0x145, [2, 3, 6, 7], .max, b, d, a)
  | .axchg b d a => some (0x146, [2, 3, 6, 7, 0x0A, 0x0B], .xchg, b, d, a)
  | .ainc b d a => some (0x147, [2, 3, 6, 7], .inc, b, d, a)
  | .afadd b d a => some (0x148, [0x0A, 0x0B], .fadd, b, d, a)
  | .acas b d a => some (0x149, [2, 3, 6, 7, 0x0A, 0x0B], .cas, b, d, a)
  | _ => none

/-! ## Sedge (R228) -/

/-- The matrix words with their fields. -/
def matrixForm : Instr → Option Mx
  | .mma r c a sr z => some { op := 0x162, ru := r = 1, acc := c, a := a.toNat, s := sr.toNat, pat := false, z := z = 1 }
  | .mmas r c a sr t z => some { op := 0x163, ru := r = 1, acc := c, a := a.toNat, s := sr.toNat, pat := t = 1, z := z = 1 }
  | .mmaw r c a sr z => some { op := 0x164, ru := r = 1, acc := c, a := a.toNat, s := sr.toNat, pat := false, z := z = 1 }
  | _ => none

/-- Does position `p` rank above position `q` (R239)? A NaN ranks above every number, then the greater magnitude, and among
equals the lower position. -/
def ranksAbove (x : Nat → Val) (p q : Nat) : Bool :=
  let mag (v : Val) : Val := if v.neg? then v.negate else v
  if (x p).isNan || (x q).isNan then (x p).isNan && (!(x q).isNan || p < q)
  else (mag (x q)).lt (mag (x p)) || (!(mag (x p)).lt (mag (x q)) && p < q)

/-- The positions within group `j` that `mcomp` keeps, ascending: the 2 of 4, or the 4 of 8, that rank highest (R239). -/
def keptPositions (pat : Bool) (x : Nat → Val) (j : Nat) : List Nat :=
  let span := if pat then 8 else 4
  (List.range span).filter fun k =>
    ((List.range span).filter fun i => ranksAbove x (span * j + i) (span * j + k)).length < if pat then 4 else 2

/-! ## Distributor and guard (R325, R346, R367) -/

/-- The `resume` words: the register of the PID, and how many registers are named from `a` on. -/
def resumeForm (d a : BitVec 6) (i : Instr) : Option (Nat × Nat) :=
  if i = .resumeRestart d a ∨ i = .resumeSkip d a ∨ i = .resumeEnd d a then some (a.toNat + 1, 0)
  else if i = .resumeSkipArgs d a then some (a.toNat + 9, 9)
  else none

/-- The forms of `gcall`: predicate, registers named, and the descriptor's number. -/
def gateForm (c : Ctx) : Instr → Option (Nat × List Nat × Nat)
  | .gcallImm p n => some (p.toNat, [], n.toNat)
  | .gcallReg p b => some (p.toNat, [b.toNat], (c.grp.readS b.toNat).toNat)
  | _ => none

/-- The `attest` words that write evidence: does the word draw an ephemeral key (R367)? -/
def attestForm (d a : BitVec 6) (i : Instr) : Option Bool :=
  if i = .attestEvidence d a then some false
  else if i = .attestEphemeral d a then some true
  else none

/-! ## Special functions (R136) -/

/-- The opcodes of R136, in the order of its tables. -/
def specialOps : List Nat := [0x069, 0x06A, 0x06C, 0x06D, 0x06E, 0x06F, 0x070, 0x071]

/-- A row of the table of special inputs, looked up by opcode. -/
def specialRow (op : Nat) (row : List (Val × Flags)) : Option (Val × Flags) := row[specialOps.idxOf op]?

/-- The table of special inputs: NaN is `.nan false`, DZ 2 and NV 1. -/
def specialInput (op : Nat) : Val → Option (Val × Flags)
  | .nan signalling => some (.nan false, if signalling then 1 else 0)
  | .inf false => specialRow op [(.fin false 0 1, 0), (.fin false 0 1, 0), (.inf false, 0), (.inf false, 0), (.nan false, 1),
      (.nan false, 1), (.fin false 1 1, 0), (.fin false 1 1, 0)]
  | .inf true => specialRow op [(.fin true 0 1, 0), (.nan false, 1), (.fin false 0 1, 0), (.nan false, 1), (.nan false, 1),
      (.nan false, 1), (.fin true 1 1, 0), (.fin false 0 1, 0)]
  | .fin neg n _ =>
    if n = 0 then specialRow op [(.inf neg, 2), (.inf neg, 2), (.fin false 1 1, 0), (.inf true, 2), (.fin neg 0 1, 0),
      (.fin false 1 1, 0), (.fin neg 0 1, 0), (.fin false 1 2, 0)]
    else if neg = true ∧ (op = 0x06A ∨ op = 0x06D) then some (.nan false, 1) else none

/-- A signed fraction as a rational number. -/
def signedQ (neg : Bool) (n d : Nat) : ℚ := if neg then -((n : ℚ) / d) else (n : ℚ) / d

/-- Is the bound for an argument of size n/d absolute? -/
def specialAbs (op n d : Nat) : Bool := op = 0x06E || op = 0x06F || (op = 0x06D && d ≤ 2 * n && n ≤ 2 * d)

/-- The bound for an argument of size n/d and a result of size r/q: `vlog2`, `vsin` and `vcos` have absolute ones, `vrcp` and `vrsq`
one unit of the last place of the result's 24 bits, the others two. A result of size zero, which none of these gives but where the
bound is absolute, counts as 2^-23. -/
def specialBound (op n d r q : Nat) : ℚ :=
  let ulp : ℚ := 2 ^ ((if r = 0 then -23 else floorLog2 r q) - 23)
  if specialAbs op n d then (if op = 0x06D ∨ n ≤ 2 ^ 16 * d then 1 / 2 ^ 22 else 1 / 2 ^ 20)
  else if op = 0x069 ∨ op = 0x06A then ulp else 2 * ulp

end Sys2Proof.Machine
end

