-- ==== Sys2Proof/Certificates/Slice0/Obligations.lean ====
section
/-!
DEFINITION. The statements about this model.
-/
open Sys2Proof Sys2Proof.Machine

/-- R15, R30, R40, R47, R48, R56, R58, R70, R100, R201, R347: what any body word meets before its own effect, check by
check. A stalled splinter and a word that counts on a full flag change nothing; at a header's position FLT_HEADER_POSITION; a
privileged word outside system mode FLT_PRIV, even where it does not decode; an ill-formed word, or one that names a lane register
outside the budget, FLT_ILLEGAL_OP; a uniform register that it names and that waits for an asynchronous result holds it back; a
counting word whose clause names no flag raises FLT_CLAUSE_FLAG, and one that a gate forbids FLT_GATE_OP. Once the checks of
stages 1 and 2 pass, with Active() empty the word only takes its slot; a 64-bit operand in an odd register raises FLT_PAIR_ALIGN; a
word that aborts open transactions aborts its active lanes with cause 8, and when they are all of its lanes it does
nothing else. `namedRegs` lists the registers of every word; `Word.declares` says what the checks of stages 2 to 4 take from a word,
and which opcodes' own rules add to them. -/
def Obligations.WordChecks : Prop :=
  (∀ op, privileged op = true ↔ (0x013 ≤ op ∧ op ≤ 0x016) ∨ op = 0x130 ∨ op = 0x131 ∨ (0x1A8 ≤ op ∧ op ≤ 0x1AC) ∨
    (0x1B8 ≤ op ∧ op ≤ 0x1BC) ∨ (0x1C8 ≤ op ∧ op ≤ 0x1CF)) ∧
  (∀ (w : Nat) (c : Ctx), c.ent.mid = true → privileged (w / 2 ^ 23) = true → c.team.system = false →
    undecoded c w = { cause := 0x06 }) ∧
  (∀ (i : Instr) (w : Nat) (c : Ctx) (s : State), encode i = some w → w / 2 ^ 28 ≠ 15 → s.ctx = some c →
    let op := w / 2 ^ 23
    let r := namedRegs c i
    let fault := fun f => (.next (s.takeFault c.ti c.gi c.ei f) : Host.Outcome State Fault Refusal)
    let mode := privileged op = true → c.team.system = true
    let fits := wellFormed i = true ∧ fieldsFit c i = true ∧ ∀ n ∈ r.vs, n < c.budget ∨ n = 127
    let full := ∃ n, c.flagOf op = some (some n) ∧ c.grp.flag n = 63 ∧ c.ent.mid = true ∧
      ¬ (guardedOp op = true ∧ c.acting op = 0)
    (c.stalled s = true → exec i s = .next s) ∧ (c.stalled s = false → full → exec i s = .next s) ∧
    (c.stalled s = false → ¬ full →
      (c.ent.mid = false → exec i s = fault { cause := 0x02 }) ∧
      (c.ent.mid = true → ¬ mode → exec i s = fault { cause := 0x06 }) ∧
      (c.ent.mid = true → mode → ¬ fits → exec i s = fault { cause := 0x01 }) ∧
      (c.ent.mid = true → mode → fits → (∃ n ∈ r.ss, n ∈ c.grp.tokens) → exec i s = .next s) ∧
      (c.ent.mid = true → mode → fits → (∀ n ∈ r.ss, n ∉ c.grp.tokens) →
        (c.flagOf op = some none → exec i s = fault { cause := 0x03 }) ∧
        (c.flagOf op ≠ some none → c.grp.gate.isSome = true → gateOp op = true → exec i s = fault { cause := 0xB8 }) ∧
        ∃ x : Word, x.op = op ∧ x.declares c s i ∧
          (∀ f, c.stage2 x s = .error f → exec i s = fault f) ∧
          (c.stage2 x s = .ok () → guardedOp op = true → c.acting op = 0 → x.always c = false →
            exec i s = .next (s.after c op c.grp)) ∧
          (c.stage2 x s = .ok () → c.idles x = false → op ≠ 0x128 →
            ((∃ n ∈ r.pairs, n ≠ 127 ∧ n % 2 = 1) → exec i s = fault {
              cause := 0x27, lanes := if classOf op = .group then c.ent.mask else c.acting op }) ∧
            (∀ f, c.stage34 x s = .error f → exec i s = fault f) ∧
            (c.stage34 x s = .ok () → (x.ready c s = false → exec i s = .next s) ∧
              (x.ready c s = true → txAborts op = true → guardedOp op = true → x.always c = false →
                c.active ≠ 0 → c.active &&& ~~~c.grp.txOpen = 0 →
                exec i s = .next (s.after c op (c.grp.abortLanes c.active 8 0))))))))

/-- R89: a two-operand uniform word writes d with the result of ReadS(a) and B, and its splinter goes on. R89, R91: the
other words that write one uniform register. R90: `scmp` writes the comparison to every lane of the splinter,
whatever the guard. -/
def Obligations.UniformWordResult : Prop :=
  (∀ (i : Instr) (op : Nat) (b : Src) (d a : BitVec 6) (f : W64 → W64 → W64) (c : Ctx) (s : State),
    uniTwo i = some (op, b, d, a, f) → wellFormed i = true →
    c.MayIssue s op [] [] (d.toNat :: a.toNat :: b.ss) →
    exec i s = .next (s.after c op (c.grp.writeS d.toNat (f (c.grp.readS a.toNat) (uniOperand c.grp b))))) ∧
  (∀ (i : Instr) (op : Nat) (ss : List Nat) (d : BitVec 6) (x : W64) (c : Ctx) (s : State),
    uniOne c.grp i = some (op, ss, d, x) → wellFormed i = true → c.MayIssue s op [] [] ss →
    exec i s = .next (s.after c op (c.grp.writeS d.toNat x))) ∧
  (∀ (b : Src) (cc : Cc) (pd : BitVec 3) (a : BitVec 6) (c : Ctx) (s : State),
    wellFormed (.scmp b cc pd a) = true → c.MayIssue s 0x02C [] [] (a.toNat :: b.ss) →
    exec (.scmp b cc pd a) s = .next (s.after c 0x02C (c.grp.writePs pd.toNat c.ent.mask
      (if compareUni cc (c.grp.readS a.toNat) (uniOperand c.grp b) then BitVec.allOnes 32 else 0))))

/-- R93: each lane of Active() of p[d] takes the result, every other lane and predicate stays; a write to p7 is
discarded. R94: `pany` and `pall` over the active lanes; with none active the uniform register is unchanged. R93, R94: a word of
theirs with another bs, or with a bit that must be zero, raises FLT_ILLEGAL_OP. -/
def Obligations.PredicateWords : Prop :=
  (∀ (i : Instr) (op : Nat) (vs ss : List Nat) (d : BitVec 3) (f : Nat → Bool) (c : Ctx) (s : State),
    predResult c.grp i = some (op, vs, ss, d, f) → wellFormed i = true → c.MayIssue s op vs [] ss →
    ∃ x : W32, exec i s = .next (s.after c op (c.grp.writePs d.toNat c.active x)) ∧
      ∀ l < 32, ∀ r, (c.grp.writePs d.toNat c.active x).readP l r =
        if r = d.toNat ∧ r ≠ 7 ∧ c.active.getLsbD l = true then f l else c.grp.readP l r) ∧
  (∀ (d : BitVec 6) (a : BitVec 3) (c : Ctx) (s : State),
    (c.MayIssue s 0x03C [] [] [d.toNat] → exec (.pany d a) s = .next (s.after c 0x03C
      (c.grp.writeS d.toNat (if ∃ l ∈ c.lanes, c.grp.readP l a.toNat = true then 1 else 0)))) ∧
    (c.MayIssue s 0x03D [] [] [d.toNat] → exec (.pall d a) s = .next (s.after c 0x03D
      (c.grp.writeS d.toNat (if ∀ l ∈ c.lanes, c.grp.readP l a.toNat = true then 1 else 0)))) ∧
    (∀ i op, i = .pany d a ∧ op = 0x03C ∨ i = .pall d a ∧ op = 0x03D → s.ctx = some c → c.stalled s = false →
      c.ent.mid = true → c.grp.tokens.contains d.toNat = false → c.grp.gate = none ∨ within 8 61 d.toNat = false →
      c.active = 0 → exec i s = .next (s.after c op c.grp))) ∧
  (∀ (w : Nat) (c : Ctx), c.ent.mid = true →
    let op := w / 2 ^ 23
    let bs := w / 2 ^ 21 % 4
    let zero := fun lo n => w / 2 ^ lo % 2 ^ n = 0
    (op = 0x038 ∨ op = 0x039 ∨ op = 0x03A) ∧ ¬ (bs = 3 ∧ zero 17 4 ∧ zero 10 4 ∧ zero 3 4) ∨
      op = 0x03B ∧ ¬ (bs = 0 ∧ zero 17 4 ∧ zero 10 4 ∧ zero 0 7) ∨
      (op = 0x03C ∨ op = 0x03D) ∧ ¬ (bs = 0 ∧ zero 20 1 ∧ zero 10 4 ∧ zero 0 7) ∨
      op = 0x03E ∧ ¬ (zero 17 4 ∧ zero 7 7) →
    decodeWord w = none ∧ undecoded c w = { cause := 0x01 })

/-- R95, R96: `gets` and `getv` of every register of R95. `%fpclr` clears the sticky flags; `%time` never falls below the
group's last reading of it. That it otherwise lies 0 to 2 above package time is the model's choice: one constant skew for
each core (log entry 8), where R96 only bounds the difference of two readings. -/
def Obligations.SpecialRegisterRead : Prop :=
  (∀ (d : BitVec 6) (i : BitVec 9) (x : Nat) (c : Ctx) (s : State), i ≠ 0 → i ≠ 1 →
    specialValue c 0 i.toNat = some x → c.MayIssue s 0x002 [] [] [d.toNat] →
    exec (.gets d i) s = .next (s.after c 0x002
      ((if i = 0x013 then { c.grp with fp := 0 } else c.grp).writeS d.toNat (BitVec.ofNat 64 x)))) ∧
  (∀ (d : BitVec 7) (i : BitVec 9) (c : Ctx) (s : State), i ≠ 0x013 →
    (specialValue c 0 i.toNat).isSome = true → c.MayIssue s 0x003 [d.toNat] [] [] →
    exec (.getv d i) s = .next (s.after c 0x003 (c.lanes.foldl (fun g l =>
      g.writeV l d.toNat (BitVec.ofNat 32 ((specialValue c l i.toNat).getD 0))) c.grp))) ∧
  (∀ (d : BitVec 6) (c : Ctx) (s : State), c.MayIssue s 0x002 [] [] [d.toNat] →
    ∃ x, c.grp.lastTime ≤ x ∧ (x = c.grp.lastTime ∨ (s.now ≤ x ∧ x ≤ s.now + 2)) ∧
      exec (.gets d 0x00F) s = .next (s.after c 0x002
        ({ c.grp with lastTime := x }.writeS d.toNat (BitVec.ofNat 64 x)))) ∧
  (∀ (d : BitVec 7) (c : Ctx) (s : State), c.MayIssue s 0x003 [d.toNat] [] [] →
    ∃ x, c.grp.lastTime ≤ x ∧ (x = c.grp.lastTime ∨ (s.now ≤ x ∧ x ≤ s.now + 2)) ∧
      exec (.getv d 0x00F) s = .next (s.after c 0x003 (c.lanes.foldl (fun g l =>
        g.writeV l d.toNat (BitVec.ofNat 32 x)) { c.grp with lastTime := x })))

/-- R53: `setm` replaces the mode of the issuing splinter; a reserved code raises FLT_ILLEGAL_MODE and changes no mode. -/
def Obligations.SetModeResult : Prop :=
  ∀ (m : BitVec 23) (c : Ctx) (s : State), c.MayIssue s 0x001 [] [] [] →
    let illegal := m.toNat / 2 ^ 21 ≠ 0 ∨ m.toNat % 32 > 0x12 ∨ m.toNat / 32 % 32 > 0x12 ∨ m.toNat / 1024 % 8 > 4
    (¬ illegal → exec (.setm m) s = .next (s.after c 0x001 (c.grp.setEntry c.ei { c.ent with mode := m }))) ∧
    (illegal → exec (.setm m) s = .next (s.takeFault c.ti c.gi c.ei { cause := 0x04 }))

/-- R33, R47, R49: entry into a header. A header inside a clause raises FLT_HEADER_POSITION, one with bad fields
FLT_ILLEGAL_OP. The deferred cause that is due there is delivered first, and leaves the group's list. When none is due and every
flag that WAIT names is zero, the splinter stands at the first body word of the clause with the header's SETA, SETB and count;
while a flag is not zero it stays at the header. That the splinters that stand there with the same innermost frame fuse when
one of them enters is the model's choice (DESIGN CHOICE, log entry 89; R79 allows it); a deferred splinter has then taken an
entry that this freed (R82). Where a flag of a `txe` is observed, the group's loads use no older L1 sector (R214), and its later
releases follow what its core's store order holds (DESIGN CHOICE, log entry 131). -/
def Obligations.ClauseHeaderEntry : Prop :=
  ∀ (w : BitVec 12) (a b n : BitVec 4) (y l : BitVec 1) (c : Ctx) (s : State), s.ctx = some c → c.stalled s = false →
    let i := Instr.clauseHeader w a b n y l
    let g := c.grp.fuse c.ei c.ent
    (c.ent.mid = true → exec i s = .next (s.takeFault c.ti c.gi c.ei { cause := 0x02 })) ∧
    (c.ent.mid = false → wellFormed i = false → exec i s = .next (s.takeFault c.ti c.gi c.ei { cause := 0x01 })) ∧
    (c.ent.mid = false → wellFormed i = true →
      (∀ d, g.dueAt w.toNat = some d → exec i s =
        .next ((s.setGroup c.ti c.gi { g with deferred := g.deferred.erase d }).takeFault c.ti c.gi c.ei
          { cause := d.cause, lanes := d.lanes, addr := d.addr, kind := d.kind, defer := true })) ∧
      (∀ e, g.dueAt w.toNat = none → g.entries.find c.ei = some e →
        (g.flagsZero w.toNat = true → exec i s = .next (s.setGroup c.ti c.gi
          ((g.setEntry c.ei { e with pc := e.pc + 4, mid := true, cseta := a, csetb := b, cleft := n }).observe
            w.toNat s.nextId))) ∧
        (g.flagsZero w.toNat = false → exec i s = .next (s.setGroup c.ti c.gi g))))

/-- R88: `nop` and `yield` only take their slot; `wait` goes on when every flag that it names is zero (observing them, R214),
and else stays. R106: `halt` goes on when an unmasked event is pending, TIMER among them while the core's `%time` has reached
SYS_TIMECMP, and else blocks its splinter. R78: `exit` removes the splinter's lanes from the group. -/
def Obligations.WaitingAndExitWords : Prop :=
  ∀ (c : Ctx) (s : State),
    (∀ i, c.MayIssue s 0x000 [] [] [] → exec (.nop i) s = .next (s.after c 0x000 c.grp)) ∧
    (c.MayIssue s 0x00E [] [] [] → exec .yield s = .next (s.after c 0x00E c.grp)) ∧
    (∀ f : BitVec 12, c.MayIssue s 0x00F [] [] [] →
      exec (.wait f) s = .next (if c.grp.flagsZero f.toNat then s.after c 0x00F (c.grp.observe f.toNat s.nextId) else s)) ∧
    (c.MayIssue s 0x014 [] [] [] →
      let k := s.core c.team.core
      let pending := (k.event ||| (if k.timecmp.toNat ≤ s.timeOn c.team.core then 1 else 0)).setWidth 64 &&& k.evmask ≠ 0
      (pending → exec .halt s = .next (s.after c 0x014 { c.grp with block := none })) ∧
      (¬ pending → exec .halt s = .next (s.setGroup c.ti c.gi
        { c.grp with block := some { kind := .halt, entry := c.ei, since := s.now } }))) ∧
    (c.MayIssue s 0x00D [] [] [] →
      let t := s.setGroup c.ti c.gi (c.grp.exitLanes c.ei c.ent)
      exec .exit s = .next (if (c.grp.exitLanes c.ei c.ent).ended then t.groupEnd c.ti c.gi else t) ∧
      (c.grp.exitLanes c.ei c.ent).exited = c.grp.exited ||| c.ent.mask)

/-- R73, R81, R82: `br` with no lane taken goes on in sequence; with all lanes taken the splinter stands at the target;
with some taken it splits into a free entry (the lowest, DESIGN CHOICE, log entry 114). With no free entry the taken lanes go on
at the target and the others wait in a DEFER frame, whose fields that R82 does not assign (ARRIVED, BROKE, LEN, LC, BMODE) are zero,
the model's choice (DESIGN CHOICE, log entry 134); without a free slot for that, FLT_RECON_OVERFLOW. Under hint 11 a mixed condition
raises FLT_HINT_UNIFORM. R86: a target outside the innermost loop's body raises FLT_LOOP_BODY; R47: one that is no
header raises FLT_HEADER_POSITION with the target as PC. -/
def Obligations.BranchResult : Prop :=
  ∀ (h : BitVec 2) (q : BitVec 3) (n : BitVec 1) (o : BitVec 17) (c : Ctx) (s : State),
    c.MayIssue s 0x004 [] [] [] →
    let t := condLanes c q n
    let a := targetFrom c o
    let fault := fun f => (.next (s.takeFault c.ti c.gi c.ei f) : Host.Outcome State Fault Refusal)
    (t = 0 → exec (.br h q n o) s = .next (s.after c 0x004 c.grp)) ∧
    (t ≠ 0 → h ≠ 3 ∨ t = c.ent.mask → c.grp.leavesLoop c.ent a = true → exec (.br h q n o) s = fault { cause := 0x09 }) ∧
    (t ≠ 0 → h ≠ 3 ∨ t = c.ent.mask → c.grp.leavesLoop c.ent a = false → noHeaderAt s c a →
      exec (.br h q n o) s = fault { cause := 0x02, pc := some a }) ∧
    (t ≠ 0 → t ≠ c.ent.mask → h ≠ 3 → c.grp.leavesLoop c.ent a = false → headerAt s c a → c.grp.freeEntry = none →
      (∀ k, c.grp.freeFrame = some k → exec (.br h q n o) s = .next (s.setGroup c.ti c.gi
        (((c.grp.setEntry c.ei { c.ent.jump a with mask := t }).setFrame k
          { rpc := c.ent.pc + 4, kind := .defer, parent := c.ent.frame, mask := c.ent.mask &&& ~~~t, arrived := 0, broke := 0
            amode := c.ent.mode, len := 0, lc := 0, bmode := 0, dmid := c.ent.next.mid, dseta := c.ent.next.cseta
            dsetb := c.ent.next.csetb, dleft := c.ent.next.cleft }).settle))) ∧
      (c.grp.freeFrame = none → exec (.br h q n o) s = fault { cause := 0x0C })) ∧
    (t ≠ 0 → t = c.ent.mask → c.grp.leavesLoop c.ent a = false → headerAt s c a →
      exec (.br h q n o) s = .next (s.setGroup c.ti c.gi (c.grp.jumpTo c.ei c.ent a))) ∧
    (t ≠ 0 → t ≠ c.ent.mask → h ≠ 3 → c.grp.leavesLoop c.ent a = false → headerAt s c a → ∀ k,
      c.grp.freeEntry = some k →
      exec (.br h q n o) s = .next (s.setGroup c.ti c.gi
        (((c.grp.setEntry k { c.ent.jump a with mask := t }).setEntry c.ei
          { c.ent.next with mask := c.ent.mask &&& ~~~t }).settle))) ∧
    (t ≠ 0 → t ≠ c.ent.mask → h = 3 →
      exec (.br h q n o) s = .next (s.takeFault c.ti c.gi c.ei { cause := 0x05 }))

/-- R74, R86: `jmp`, `call`, `jr` and `ret` move the whole splinter to a header; `call` leaves its link in `s62`, zero above its
57 bits (DESIGN CHOICE, log entry 136). But for `call`, a target outside the innermost loop's body raises FLT_LOOP_BODY. R47: a
target that is no header, or misaligned, raises FLT_HEADER_POSITION with the target as PC. Of a target that is both, FLT_LOOP_BODY
comes first, in the order in which R74 lists the checks (DEDUCED, log entry 91). -/
def Obligations.JumpResult : Prop :=
  ∀ (i : Instr) (op : Nat) (ss : List Nat) (a : BitVec 57) (body : Bool) (link : Option (BitVec 57)) (c : Ctx) (s : State),
    jumpWord c i = some (op, ss, a, body, link) → c.MayIssue s op [] [] ss →
    let leaves := body = true ∧ c.grp.leavesLoop c.ent a = true
    (leaves → exec i s = .next (s.takeFault c.ti c.gi c.ei { cause := 0x09 })) ∧
    (¬ leaves → noHeaderAt s c a → exec i s = .next (s.takeFault c.ti c.gi c.ei { cause := 0x02, pc := some a })) ∧
    (¬ leaves → headerAt s c a → exec i s = .next (s.setGroup c.ti c.gi
      ((match link with | some x => c.grp.writeS 62 (x.setWidth 64) | none => c.grp).jumpTo c.ei c.ent a)))

/-- R75, R76: `recon` opens a RECON frame of the splinter's lanes in a free slot (the lowest, DESIGN CHOICE, log entry 114) and
goes on; with none free it raises FLT_RECON_OVERFLOW, at a point outside the innermost loop's body FLT_LOOP_BODY, and at one that
is no header FLT_HEADER_POSITION with the point as PC (R47). `join` moves the splinter to the point of its innermost frame, and
without a frame raises FLT_NO_FRAME. R83: `loop` raises FLT_LOOP_SPLIT in a group that is split or has a DEFER frame,
FLT_LOOP_NEST where its counter is in use or three loops are open, FLT_LOOP_BODY where its body leaves the enclosing one, and
FLT_HEADER_POSITION where its end is no header; with a zero count it goes on at the loop end; otherwise the counter holds the
count and the splinter stands at the body's start inside a new LOOP frame, or FLT_RECON_OVERFLOW when no slot is free. What a rule
does not assign of a frame is zero (DESIGN CHOICE, log entry 134). R84: `lbrk` with no lane goes on; with lanes T, BROKE holds T
as well, and the mode of the splinter where T's lowest lane is below BROKE's; the frames inside the loop lose T, and so does the
splinter, whose entry is free when nothing of it stays. Without a loop, or at another label than its end, FLT_LOOP_BODY. -/
def Obligations.FrameWords : Prop :=
  ((∀ (o : BitVec 17) (c : Ctx) (s : State), c.MayIssue s 0x009 [] [] [] → noHeaderAt s c (targetFrom c o) →
    exec (.recon o) s = .next (s.takeFault c.ti c.gi c.ei { cause := 0x02, pc := some (targetFrom c o) })) ∧
  (∀ (o : BitVec 17) (c : Ctx) (s : State), c.MayIssue s 0x009 [] [] [] → headerAt s c (targetFrom c o) →
    (c.grp.leavesLoop c.ent (targetFrom c o) = true →
      exec (.recon o) s = .next (s.takeFault c.ti c.gi c.ei { cause := 0x09 })) ∧
    (c.grp.leavesLoop c.ent (targetFrom c o) = false → c.grp.freeFrame = none →
      exec (.recon o) s = .next (s.takeFault c.ti c.gi c.ei { cause := 0x0C })) ∧
    (∀ k, c.grp.leavesLoop c.ent (targetFrom c o) = false → c.grp.freeFrame = some k →
      exec (.recon o) s = .next (s.after c 0x009 ((c.grp.setFrame k
        { rpc := targetFrom c o, kind := .recon, parent := c.ent.frame, mask := c.ent.mask, arrived := 0, broke := 0
          amode := 0, len := 0, lc := 0, bmode := 0, dmid := false, dseta := 0, dsetb := 0, dleft := 0 }).setEntry c.ei
        { c.ent with frame := BitVec.ofNat 5 k })))) ∧
  (∀ (c : Ctx) (s : State), c.MayIssue s 0x00A [] [] [] →
    (∀ k f, (c.grp.chain c.ent).head? = some (k, f) →
      exec .join s = .next (s.setGroup c.ti c.gi (c.grp.jumpTo c.ei c.ent f.point))) ∧
    (c.grp.chain c.ent = [] → exec .join s = .next (s.takeFault c.ti c.gi c.ei { cause := 0x10 })))) ∧
  ((∀ (l : BitVec 2) (ci : BitVec 1) (n e : BitVec 10) (c : Ctx) (s : State),
    wellFormed (.loop l ci n e) = true → c.ent.cleft = 0 → c.MayIssue s 0x00B [] [] (loopRegs ci n) →
    let start := c.ent.pc + 4
    let fin := start + 4 * e.setWidth 57
    let count : W32 := if ci = 1 then n.setWidth 32 else (c.grp.readS (n.toNat % 64)).setWidth 32
    let loops := (c.grp.chain c.ent).filter fun x => x.2.kind = .loop
    let split := c.grp.entries.length ≠ 1 ∨ c.grp.hasDefer = true
    let nest := (∃ x ∈ loops, x.2.lc = l) ∨ 3 ≤ loops.length
    let out := c.grp.leavesLoop c.ent start = true ∨ ∃ x, loops.head? = some x ∧ x.2.point.toNat < fin.toNat
    let fault := fun f => (.next (s.takeFault c.ti c.gi c.ei f) : Host.Outcome State Fault Refusal)
    (split → exec (.loop l ci n e) s = fault { cause := 0x0D }) ∧
    (¬ split → nest → exec (.loop l ci n e) s = fault { cause := 0x08 }) ∧
    (¬ split → ¬ nest → out → exec (.loop l ci n e) s = fault { cause := 0x09 }) ∧
    (¬ split → ¬ nest → ¬ out → noHeaderAt s c fin →
      exec (.loop l ci n e) s = fault { cause := 0x02, pc := some fin }) ∧
    (¬ split → ¬ nest → ¬ out → headerAt s c fin →
      (count = 0 → exec (.loop l ci n e) s = .next (s.setGroup c.ti c.gi (c.grp.jumpTo c.ei c.ent fin))) ∧
      (count ≠ 0 → c.grp.freeFrame = none → exec (.loop l ci n e) s = fault { cause := 0x0C }) ∧
      (∀ k, count ≠ 0 → c.grp.freeFrame = some k → exec (.loop l ci n e) s = .next (s.setGroup c.ti c.gi
        (((c.grp.writeLC l.toNat count).setFrame k
          { rpc := start, kind := .loop, parent := c.ent.frame, mask := c.ent.mask, arrived := 0, broke := 0, amode := 0
            len := e.setWidth 9, lc := l, bmode := 0, dmid := false, dseta := 0, dsetb := 0, dleft := 0 }).jumpTo c.ei
          { c.ent with frame := BitVec.ofNat 5 k } start))))) ∧
  (∀ (h : BitVec 2) (q : BitVec 3) (n : BitVec 1) (o : BitVec 17) (c : Ctx) (s : State), c.MayIssue s 0x00C [] [] [] →
    (c.grp.loopOf c.ent = none → exec (.lbrk h q n o) s = .next (s.takeFault c.ti c.gi c.ei { cause := 0x09 })) ∧
    (∀ k f, c.grp.loopOf c.ent = some (k, f) →
      let t := condLanes c q n
      let inner := (c.grp.chain c.ent).takeWhile fun x => x.1 ≠ k
      let left := c.ent.mask &&& ~~~t
      (targetFrom c o ≠ f.point → exec (.lbrk h q n o) s = .next (s.takeFault c.ti c.gi c.ei { cause := 0x09 })) ∧
      (targetFrom c o = f.point → t = 0 → exec (.lbrk h q n o) s = .next (s.after c 0x00C c.grp)) ∧
      (targetFrom c o = f.point → t ≠ 0 → ∃ g : Group, g = { c.grp with frames := g.frames } ∧
        (∀ x ∈ inner, g.frames.find x.1 = some { x.2 with
          mask := x.2.mask &&& ~~~t, arrived := x.2.arrived &&& ~~~t, broke := x.2.broke &&& ~~~t }) ∧
        (∀ j, (∀ x ∈ inner, x.1 ≠ j) → g.frames.find j = c.grp.frames.find j) ∧
        let u := g.setFrame k { f with
          broke := f.broke ||| t, bmode := if lowLane t < lowLane f.broke then c.ent.mode else f.bmode }
        exec (.lbrk h q n o) s = .next (s.setGroup c.ti c.gi
          (if left = 0 then u.freeUp c.ei else u.setEntry c.ei { c.ent.next with mask := left }).settle)))))

/-- R97, R98, R105: `trap` and `sys` on a system core whose group is not in a handler enter the trap vector: SYS_EPC,
SYS_ECAUSE, SYS_EADDR, SYS_EMODE and SYS_ECLS are filled from the splinter, EXL is set, and the splinter stands at a
header position at SYS_TVEC in mode 0x42. That its CSETA, CSETB and CLEFT are zero there is the model's choice (DESIGN CHOICE, log
entry 135). R31: on a user core, under `.onfault end` the team has ended; under `.onfault swap` the team is being swapped out, and the
fault is noted for its resumption. R35: of the faults of two groups of a team in one cycle each makes a record, in ascending group
order, and the first decides what becomes of the team (how words come to issue in one cycle is the model's choice: DESIGN CHOICE, log
entry 144). -/
def Obligations.TrapWords : Prop :=
  (∀ (i : Instr) (op cause : Nat) (n : BitVec 16) (c : Ctx) (s : State),
    (i = .trap n ∧ op = 0x010 ∧ cause = 0x0A ∨ i = .sys n ∧ op = 0x011 ∧ cause = 0x0B) →
    c.MayIssue s op [] [] [] →
    (c.team.system = true → c.grp.exl = false → c.fen < 256 → c.gi < 32 →
      ∃ t, exec i s = .next t ∧
        let g := t.group c.ti c.gi
        g.trap.epc = c.ent.pc ∧ g.trap.eaddr = 0 ∧ g.trap.emode = c.ent.mode ∧
        g.trap.ecls = c.ent.cleft ++ c.ent.csetb ++ c.ent.cseta ++ BitVec.ofBool c.ent.mid ∧
        g.trap.ecause.toNat % 2 ^ 8 = cause ∧ g.trap.ecause.toNat / 2 ^ 8 % 2 ^ 8 = c.fen ∧
        g.trap.ecause.toNat / 2 ^ 16 % 2 ^ 5 = c.gi ∧ g.trap.ecause.getLsbD 25 = true ∧
        g.trap.ecause.extractLsb' 32 32 = c.ent.mask ∧ g.trap.scr = c.grp.trap.scr ∧
        g.entries.find c.ei = some { c.ent with
          pc := (s.core c.team.core).tvec, mode := 0x42, mid := false, cseta := 0, csetb := 0, cleft := 0 } ∧
        t.keeps s c.ti c.gi ∧ g.sameRegs { c.grp with trap := g.trap }) ∧
    (c.team.system = false → s.gather = none →
      ∃ t, exec i s = .next t ∧
        (c.team.onf = true → (t.team c.ti).status = .ended) ∧
        (c.team.onf = false → (t.team c.ti).status = .saving ∧ (t.team c.ti).cause = .fault ∧
          (t.team c.ti).faultCause = cause ∧ (t.team c.ti).faultAt.1 = c.gi) ∧
        (c.grp.gate = none → (t.group c.ti c.gi).sameRegs c.grp))) ∧
  (∀ (s : State) (t : Team) (x y : Raised) (d e : Splinter), s.teams.find x.team = some t → x.team = y.team →
    x.group < y.group → (t.group x.group).entries.find x.entry = some d → (t.group y.group).entries.find y.entry = some e →
    (t.group y.group).gate = none → ∀ fs : List Raised, fs = [x, y] ∨ fs = [y, x] →
    { s with gather := some fs }.settleFaults = ({ s with gather := none }.userFault x.team x.group d x.flt).postFault t.pid
      y.team (s.recordOf y.team y.group e y.flt))

/-- R105: `eret` restores PC, mode and clause state from the trap registers and clears EXL; nothing else of the trap state
changes. R374: any fault of a group of a system core in its handler (EXL = 1) stops its core's issue, adds a record of 0xF1 to
its die's machine-check log and sets MCHK on the system cores, its own too (R37, R106); the group itself stays as it was. -/
def Obligations.TrapReturnAndDoubleFault : Prop :=
  (∀ (c : Ctx) (s : State), c.MayIssue s 0x013 [] [] [] →
    exec .eret s = .next (s.setGroup c.ti c.gi
      ({ c.grp.setEntry c.ei { c.ent with
          pc := c.grp.trap.epc, mode := c.grp.trap.emode, mid := c.grp.trap.ecls.getLsbD 0
          cseta := c.grp.trap.ecls.extractLsb' 1 4, csetb := c.grp.trap.ecls.extractLsb' 5 4
          cleft := c.grp.trap.ecls.extractLsb' 9 4 } with
        trap := { c.grp.trap with ecause := c.grp.trap.ecause &&& ~~~(1#64 <<< 25) } }).settle)) ∧
  (∀ (n : BitVec 16) (c : Ctx) (s : State), c.MayIssue s 0x010 [] [] [] → c.team.system = true → c.grp.exl = true →
    ∃ t, exec (.trap n) s = .next t ∧ (t.core c.team.core).stopped = true ∧
      t.keeps s c.ti c.gi ∧ (t.group c.ti c.gi).sameRegs c.grp) ∧
  (∀ (f : Flt) (ti gi ei : Nat) (e : Splinter) (t : Team) (s : State), s.teams.find ti = some t → t.system = true →
    (t.group gi).exl = true → (t.group gi).entries.find ei = some e →
    let u := s.takeFault ti gi ei f
    let d := dieOfCore t.core
    (u.core t.core).stopped = true ∧ u.mem = s.mem ∧
      (u.die d).mclog.getLast? = some { cause := 0xF1, kind := 4, unit := d, team := false, time := s.now, pa := 0 } ∧
      (∀ k < 4, (u.core (192 + k)).event.getLsbD 3 = true) ∧
      (u.group ti gi).entries = (t.group gi).entries ∧ (u.group ti gi).frames = (t.group gi).frames ∧
      (u.group ti gi).sameRegs (t.group gi))

/-- R102, R103, R154, R183, R335, R375: `srd` of every system register: the trap registers, those of the core, SYS_SPLIT,
the slot registers of the selected core, and those of chapter 12; a read of SYS_MCLOG0 pops the oldest record. A number that
names none raises FLT_SYSREG. R102 to R106, R146, R154, R183, R375: `swr` writes the fields that software may write; a write
to a read-only register or to a number that names none raises FLT_SYSREG. The model's own: the widths of SYS_EPC and SYS_TVEC
(log entry 17), TIMER as a level of the core's `%time` (log entry 82), the free value that the slot registers of a core
that is no user core give, and SYS_SPLIT there (DESIGN CHOICE, log entry 15; log entry 7), the features that SYS_FOFF can offer
(log entry 16), what a restart by SYS_SCRST drops (log entry 18), GO and RETIRE of SYS_SPARE (log entry 20), a slice of another die
in SYS_CHRET (log entry 21), what the cores of a gated partition lose (log entry 22), and that GO of SYS_FWHO only sets STATE (log
entry 25). -/
def Obligations.SystemRegisterAccess : Prop :=
  (∀ (d : BitVec 6) (r : BitVec 9) (c : Ctx) (s : State), c.MayIssue s 0x015 [] [] [d.toNat] →
    (∀ x, issueReg s c r.toNat = some x →
      exec (.srd d r) s = .next (s.after c 0x015 (c.grp.writeS d.toNat (BitVec.ofNat 64 x)))) ∧
    (0x100 ≤ r.toNat → r.toNat ≤ 0x106 → 192 ≤ (s.core c.team.core).coresel.toNat → ∃ x,
      exec (.srd d r) s = .next ({ s with nfree := s.nfree + 1 }.after c 0x015 (c.grp.writeS d.toNat x))) ∧
    (r = 0x18E → (s.die (c.team.core - 192)).mclog = [] → exec (.srd d r) s = .next (s.after c 0x015 (c.grp.writeS d.toNat 0))) ∧
    (∀ y rest, r = 0x18E → (s.die (c.team.core - 192)).mclog = y :: rest → ∃ t, exec (.srd d r) s = .next t ∧
      t.keeps s c.ti c.gi ∧ (t.die (c.team.core - 192)).mclog = rest ∧
      (t.core (sysCore (c.team.core - 192))).mclog1 = BitVec.ofNat 64 y.word1 ∧
      t.group c.ti c.gi = (c.grp.writeS d.toNat (BitVec.ofNat 64 y.word0)).retire c.ei 0x015) ∧
    (namesNone r.toNat = true → exec (.srd d r) s = .next (s.takeFault c.ti c.gi c.ei { cause := 0x0F }))) ∧
  (∀ (a : BitVec 6) (r : BitVec 9) (c : Ctx) (s : State), c.MayIssue s 0x016 [] [] [a.toNat] →
    let x := c.grp.readS a.toNat
    (∀ t, trapWritten c.grp.trap x r.toNat = some t →
      exec (.swr a r) s = .next (s.after c 0x016 { c.grp with trap := t })) ∧
    (∀ k, coreWritten (s.core c.team.core) (s.timeOn c.team.core) x r.toNat = some k →
      exec (.swr a r) s = .next ((s.after c 0x016 c.grp).setCore c.team.core k)) ∧
    (∀ t, packageWritten s c x r.toNat = some t → exec (.swr a r) s = .next (t.retire c 0x016)) ∧
    (namesNone r.toNat = true ∨ r = 0x003 ∨ r = 0x044 ∨ (0x100 ≤ r.toNat ∧ r.toNat ≤ 0x106) ∨
        r ∈ [0x180, 0x182, 0x183, 0x187, 0x188, 0x18D, 0x18E, 0x18F, 0x192] →
      exec (.swr a r) s = .next (s.takeFault c.ti c.gi c.ei { cause := 0x0F })))

/-- R99: `fbpt` of a recipe that the kernel descriptor does not have raises FLT_RECIPE; otherwise it makes the flashback
record valid, with the recipe and the splinter's mode, when the group is unsplit outside every frame and no DEFER frame
exists, and else makes it invalid. Where the table's own line, or a table line of its translation, fails its check, the
machine check is raised instead (R37; DEDUCED, log entry 103). -/
def Obligations.FlashbackPoint : Prop :=
  ∀ (n : BitVec 6) (c : Ctx) (s : State), c.MayIssue s 0x012 [] [] [] →
    let found := if c.team.rtab = 0 then none else s.fenCheck c.team.fen (c.team.recipeAt n.toNat) 32
    ((s.recipe c.team n.toNat).isNone = true → found = none →
      exec (.fbpt n) s = .next (s.takeFault c.ti c.gi c.ei { cause := 0x0E })) ∧
    (∀ code pa, (s.recipe c.team n.toNat).isNone = true → found = some (code, pa) →
      exec (.fbpt n) s = .next (s.takeFault c.ti c.gi c.ei { cause := code, mcpa := some pa })) ∧
    ((s.recipe c.team n.toNat).isSome = true → exec (.fbpt n) s = .next (s.after c 0x012
      (if c.grp.entries.length = 1 ∧ c.ent.frame = 0x1F ∧ c.grp.hasDefer = false
        then { c.grp with fb := some (n, c.ent.mode), fbRec := (n, c.ent.mode) } else { c.grp with fb := none })))

/-- R108, R122, R128 to R136: a word that works element by element writes, in each active lane, the elements that its rule
gives, and joins their flags to the group's; under FX a trapping lane raises its fault instead. Another type raises
FLT_TYPE. R136: a special function gives its table's result for a special input, and for another a binary32 significand within its
bound of the exact result, encoded once under RNE. The model's own: where within the bound it lies (DESIGN CHOICE, log entry 11), and
what a unit of the last place is outside binary32's normal range (DESIGN CHOICE, log entry 105). The exact result is 1/x for `vrcp`, a
square root to 640 bits for `vrsq`, and for the others what `Special.exact` gives from its series; that these converge to the
functions, and so keep below 2 where the bound is absolute, is not stated. -/
def Obligations.ElementwiseWordResult : Prop :=
  (∀ (i : Instr) (op : Nat) (vs ss : List Nat) (b : Src) (d a : BitVec 7) (ok : Nat → Bool)
    (f : Env → Nat → Nat → Nat → Nat → Nat × Flags) (c : Ctx) (s : State),
    elemWord c.ent.mode i = some (op, vs, ss, b, d, a, ok, f) → wellFormed i = true →
    c.MayIssue s op vs (if tyPair c.ty then vs else []) ss →
    (ok c.ty = false → exec i s = .next (s.takeFault c.ti c.gi c.ei { cause := 0x23 })) ∧
    (ok c.ty = true → exec i s = match c.laneWrite c.ty d.toNat (c.elemwise b d.toNat a.toNat f) with
      | .ok g => .next (s.after c op g)
      | .error x => .next (s.takeFault c.ti c.gi c.ei x))) ∧
  (∀ op ∈ specialOps, ∀ (v : Env) (ty x mode : Nat), x < 2 ^ tyWidth ty → tySpecial ty = true →
    let p := if ty = 0x10 then v.cb.getD x 0 else x
    let y := decodeElem v ty x
    let gives := fun (z : Val) (f : Flags) => specialOp op mode v ty x =
      ((encodeFloat { v with rm := 0 } ty z).1, f ||| (encodeFloat { v with rm := 0 } ty z).2)
    (∀ z f, specialInput op y = some (z, f) → gives z f) ∧
    (∀ neg n d, y = .fin neg n d → specialInput op y = none → ∃ (m : Bool) (a b : Nat), 0 < b ∧ gives (.fin m a b) 0 ∧
      Special.result op mode p y = (.fin m a b, 0) ∧
      let r := Special.exact op neg n d
      (specialAbs op n d = true → r.2.1 < 2 * r.2.2) →
        |signedQ m a b - signedQ r.1 r.2.1 r.2.2| ≤ specialBound op n d r.2.1 r.2.2)) ∧
  (∀ (neg : Bool) (n d : Nat), 0 < n → 0 < d → Special.exact 0x069 neg n d = (neg, d, n) ∧
    let r := Special.exact 0x06A neg n d
    r.1 = false ∧ r.2.2 = 2 ^ 640 ∧ r.2.1 ^ 2 * n ≤ d * 4 ^ 640 ∧ d * 4 ^ 640 < (r.2.1 + 1) ^ 2 * n)

/-- R126, R132, R138: the words that move, select, combine and exchange whole operands; `vpack` and `vunpack` of a type that
R126 does not list raise FLT_TYPE. -/
def Obligations.MoveWordResult : Prop :=
  ∀ (i : Instr) (op : Nat) (vs ss : List Nat) (ok : Nat → Bool) (d : BitVec 7) (f : Nat → Nat) (c : Ctx) (s : State),
    moveWord c i = some (op, vs, ss, ok, d, f) → wellFormed i = true →
    c.MayIssue s op vs (if tyPair c.ty then vs else []) ss →
    (ok c.ty = false → exec i s = .next (s.takeFault c.ti c.gi c.ei { cause := 0x23 })) ∧
    (ok c.ty = true →
      exec i s = .next (s.after c op (c.lanes.foldl (fun g l => g.writeOp c.ty l d.toNat (f l)) c.grp)))

/-- R131, R137: a compare writes, in each active lane, whether every element compares true; a lane outside Active() keeps
its predicate. `vcmp` raises no flag. `vfcmp` raises NV where an element of A or B is a signalling NaN, or a NaN under lt, le,
gt or ge; it joins NV to the sticky flags, and under FX the lanes that raise it trap with FLT_FP_NV instead. A type that the
word does not accept raises FLT_TYPE. -/
def Obligations.CompareWordResult : Prop :=
  ∀ (b : Src) (cc : Cc) (pd : BitVec 3) (a : BitVec 7) (c : Ctx) (s : State),
    let vs := a.toNat :: b.vs
    let es := fun l => (elemsOf c.ty (c.grp.readOp c.ty l a.toNat)).zip (elemsOf c.ty (c.laneB c.ty b l))
    let r := fun l => (es l).all fun e => compareElem c.env cc c.ty e.1 e.2
    let x := fun (e : Nat × Nat) => decodeElem c.env c.ty e.1
    let y := fun (e : Nat × Nat) => decodeElem c.env c.ty e.2
    let nv := fun l => (es l).any fun e => (x e).isSnan || (y e).isSnan ||
      (decide (cc ∈ [.lt, .le, .gt, .ge]) && ((x e).isNan || (y e).isNan))
    let g := c.grp.writePs pd.toNat c.active (maskOf (c.lanes.filter r))
    (wellFormed (.vcmp b cc pd a) = true → c.MayIssue s 0x058 vs (if tyPair c.ty then vs else []) b.ss →
      (tyInt c.ty = true → exec (.vcmp b cc pd a) s = .next (s.after c 0x058 g)) ∧
      (tyInt c.ty = false → exec (.vcmp b cc pd a) s = .next (s.takeFault c.ti c.gi c.ei { cause := 0x23 }))) ∧
    (wellFormed (.vfcmp b cc pd a) = true → c.MayIssue s 0x066 vs (if tyPair c.ty then vs else []) b.ss →
      (tyFloat c.ty = true → modeFX c.ent.mode = false ∨ (∀ l ∈ c.lanes, nv l = false) →
        exec (.vfcmp b cc pd a) s = .next (s.after c 0x066
          { g with fp := if c.lanes.any nv then c.grp.fp ||| 1 else c.grp.fp })) ∧
      (tyFloat c.ty = true → modeFX c.ent.mode = true → (∃ l ∈ c.lanes, nv l = true) →
        exec (.vfcmp b cc pd a) s = .next (s.takeFault c.ti c.gi c.ei
          { cause := 0x20, lanes := maskOf (c.lanes.filter nv) })) ∧
      (tyFloat c.ty = false → exec (.vfcmp b cc pd a) s = .next (s.takeFault c.ti c.gi c.ei { cause := 0x23 })))

/-- R122, R124, R125: a conversion writes consecutive destination elements from consecutive source elements, keeps the
others, and joins the flags of every element converted to the sticky flags; under FX a lane whose flags trap raises its fault
instead. A first element outside its type raises FLT_TYPE. -/
def Obligations.ConvertWordResult : Prop :=
  ∀ (i : Instr) (op : Nat) (d a : BitVec 7) (e f : BitVec 3) (ct : Nat) (c : Ctx) (s : State),
    convertWord c i = some (op, d, a, e, f, ct) → wellFormed i = true →
    c.MayIssue s op [d.toNat, a.toNat] ((if tyPair c.ty then [a.toNat] else []) ++ if tyPair ct then [d.toNat] else []) [] →
    let n := min (tyElems c.ty - f.toNat) (tyElems ct - e.toNat)
    let x := fun l q => convertElem c.env c.ty ct ((elemsOf c.ty (c.grp.readOp c.ty l a.toNat)).getD (f.toNat + q) 0)
    let fs := c.lanes.map fun l => (l, (List.range n).map fun q => (x l q).2)
    (tyElems c.ty ≤ f.toNat ∨ tyElems ct ≤ e.toNat →
      exec i s = .next (s.takeFault c.ti c.gi c.ei { cause := 0x23 })) ∧
    (f.toNat < tyElems c.ty → e.toNat < tyElems ct →
      (∀ y, fpTrap (modeFX c.ent.mode) fs = some y → exec i s = .next (s.takeFault c.ti c.gi c.ei y)) ∧
      (fpTrap (modeFX c.ent.mode) fs = none →
        exec i s = .next (s.after c op ((c.lanes.foldl (fun g l =>
          g.writeOp ct l d.toNat (joinElems ct ((List.range n).foldl (fun ys q => ys.set (e.toNat + q) (x l q).1)
            (elemsOf ct (c.grp.readOp ct l d.toNat))))) c.grp).setFp fs))))

/-- R122, R139: `vred` gives every active lane the reduction over the active lanes, `vscan` the one over the active lanes up
to itself: for add the sum of all values encoded once, for min and max the least and the greatest value, for and, or and xor
the patterns of the whole operand (all 32 bits also under t6, DESIGN CHOICE, log entry 106). The flags of every element
join the sticky flags; under FX a lane whose flags trap raises its fault instead. -/
def Obligations.ReductionWordResult : Prop :=
  ∀ (d a : BitVec 7) (o : BitVec 3) (c : Ctx) (s : State), o.toNat ≤ 5 →
    let done := fun (i : Instr) (op : Nat) (sel : Nat → List Nat) =>
      let fs := c.lanes.map fun l => (l, (reduced c o.toNat a (sel l)).2)
      (∀ y, fpTrap (modeFX c.ent.mode) fs = some y → exec i s = .next (s.takeFault c.ti c.gi c.ei y)) ∧
      (fpTrap (modeFX c.ent.mode) fs = none → exec i s = .next (s.after c op ((c.lanes.foldl (fun g l =>
        g.writeOp c.ty l d.toNat (reduced c o.toNat a (sel l)).1) c.grp).setFp fs)))
    (c.MayIssue s 0x094 [d.toNat, a.toNat] (if tyPair c.ty then [d.toNat, a.toNat] else []) [] →
      done (.vred d a o) 0x094 fun _ => c.lanes) ∧
    (c.MayIssue s 0x095 [d.toNat, a.toNat] (if tyPair c.ty then [d.toNat, a.toNat] else []) [] →
      done (.vscan d a o) 0x095 fun l => c.lanes.filter fun m => m ≤ l)

/-- R132, R140, R142: immediates, lane masks and random numbers. R117, R127: `cbld` loads the codebook's 16 entries from
four uniform registers, `cbst` stores them. -/
def Obligations.MaskRandomAndCodebookWords : Prop :=
  (∀ (i : Instr) (op : Nat) (vs pairs ss : List Nat) (g : Group) (c : Ctx) (s : State),
    maskWord c i = some (op, vs, pairs, ss, g) → wellFormed i = true → c.MayIssue s op vs pairs ss →
    exec i s = .next (s.after c op g)) ∧
  (∀ (n : BitVec 6) (c : Ctx) (s : State),
    (wellFormed (.cbld n) = true → c.MayIssue s 0x083 [] [] (sRange n.toNat 4) →
      exec (.cbld n) s = .next (s.after c 0x083 { c.grp with
        codebook := (List.range 16).foldl (fun m j =>
          SMap.put 0 m j ((c.grp.readS (n.toNat + j / 4)).extractLsb' (16 * (j % 4)) 16)) c.grp.codebook })) ∧
    (wellFormed (.cbst n) = true → c.MayIssue s 0x084 [] [] (sRange n.toNat 4) →
      exec (.cbst n) s = .next (s.after c 0x084 ((List.range 4).foldl (fun g j =>
        g.writeS (n.toNat + j) (c.grp.codebook.get 0 (4 * j + 3) ++ c.grp.codebook.get 0 (4 * j + 2)
          ++ c.grp.codebook.get 0 (4 * j + 1) ++ c.grp.codebook.get 0 (4 * j))) c.grp))))

/-- R48, R159, R168, R175, R177: a load whose lanes pass their checks and need not wait starts an operation of its flag
with the values of its lanes; where they lie in memory, each value is made of the bytes that R159 gives, and memory and
registers stay until the operation delivers. That a load's bytes are bound at issue, lane by lane, is the model's reading
(DEDUCED, log entry 6), as is the mark `joined` that `lda` sets (DESIGN CHOICE, log entry 131). -/
def Obligations.LoadWordResult : Prop :=
  ∀ (i : Instr) (op n : Nat) (d : BitVec 7) (m : Mem) (l1 : Bool) (c : Ctx) (s s1 : State) (ls : List (Nat × Nat × Xlate)),
    loadForm c i = some (op, n, d, m, l1) → wellFormed i = true →
    c.MayIssue s op (d.toNat :: m.vs) ((if n = 8 then [d.toNat] else []) ++ m.pairs) m.ss →
    (n = 16 → d.toNat % 4 = 0 ∨ d = 127) →
    s.checkLanes c { op := op, bytes := n, r := true, w := false, kind := 1, tx := op ≠ 0x120 } (c.addresses m) = .ok (s1, ls) →
    let c1 := c.refresh s1
    let a := ls.foldl (LoadAcc.lane c1 (c.loadSpec n d.toNat l1 (op ≠ 0x120 && op ≠ 0x124)) (op ≠ 0x120))
      { s := s1, writes := [], bads := [], devs := [], stall := false }
    (a.stall = false → s1.acquirePending c1 = false → (∀ y ∈ ls, c1.scOverlap y.2.2.pa n = false) →
      ∃ t, exec i s = .next t ∧ (t.group c.ti c.gi).pend = (a.s.group c.ti c.gi).pend ++
        [{ id := a.s.nextId, flag := c1.flagNo op, writes := a.writes, waiting := 0, fp := 0, isPark := false, devs := a.devs
           bad := deferOf (.flag (c1.flagNo op)) 1 a.bads, acq := op = 0x120, dead := false }] ∧
        t.keeps s c.ti c.gi ∧ (t.group c.ti c.gi).sameRegs (c.grp.retire c.ei op)) ∧
    (c.active &&& c.grp.txOpen = 0 → s.acquirePending c = false → ∀ x : Nat → Nat,
      -- one lane, or no sector of the L1 that differs from memory and no line that fails its check
      (ls.length ≤ 1 ∨ ((∀ e ∈ (s.core c.team.core).l1, s.l1Bytes e = s.readSector e.fen e.sector) ∧
        ∀ y ∈ ls, s.lineErr c.fen (y.2.2.pa / 64) = none)) →
      (∀ y ∈ ls, isMemRegion y.2.2.pa = true ∧ y.2.2.pa % n = 0 ∧ c.scOverlap y.2.2.pa n = false ∧
        s.atomicOn c y.2.2.pa n = false ∧
        ((List.range n).mapM fun k => s.loadByte c (l1 && !y.2.2.nc) (y.2.2.pa + k)).map natLE = some (x y.1)) →
      ∃ t id floor joined, exec i s = .next t ∧ t.keeps s c.ti c.gi ∧
        (op ≠ 0x120 → floor = c.grp.floor ∧ joined = c.grp.joined) ∧
        t.group c.ti c.gi = ({ c.grp.flagUp (c.flagNo op) with
          floor := floor, joined := joined, pend := c.grp.pend ++ [{ Pending.new id (c.flagNo op) with
            writes := ls.flatMap fun (y : Nat × Nat × Xlate) => laneWrites y.1 d.toNat (regsOf n) (c.extended n (x y.1))
            acq := op = 0x120 }] }).retire c.ei op)

/-- R92: `sld` reads 8 bytes for the group into a uniform register; `sst` queues 8 bytes; a failed check of either is raised
for every lane. That `sld` binds its bytes at issue is the model's reading (DEDUCED, log entry 6), and that a store always
finds room in the group's queue its choice (DESIGN CHOICE, log entry 31). -/
def Obligations.UniformAccessResult : Prop :=
  ∀ (d n : BitVec 6) (c : Ctx) (s : State),
    let va := (c.grp.readS n.toNat).toNat
    (c.MayIssue s 0x035 [] [] [d.toNat, n.toNat] →
      (∀ x v, s.chk c { op := 0x035, bytes := 8, r := true, w := false, kind := 1 } false va = .ok x →
        isMemRegion x.pa = true → x.pa % 8 = 0 → s.acquirePending c = false → c.scOverlap x.pa 8 = false →
        s.atomicOn c x.pa 8 = false → ((List.range 8).mapM fun k => s.loadByte c (!x.nc) (x.pa + k)).map natLE = some v →
        ∃ t id, exec (.sld d n) s = .next t ∧ t.keeps s c.ti c.gi ∧
          t.group c.ti c.gi = ({ c.grp.flagUp (c.flagNo 0x035) with pend := c.grp.pend ++
            [{ Pending.new id (c.flagNo 0x035) with writes := [.s d.toNat (BitVec.ofNat 64 v)] }] }).retire c.ei 0x035) ∧
      (∀ cause at_ mc, s.chk c { op := 0x035, bytes := 8, r := true, w := false, kind := 1 } false va = .bad cause at_ mc →
        exec (.sld d n) s = .next (s.takeFault c.ti c.gi c.ei
          { cause := cause, lanes := BitVec.allOnes 32, addr := at_, kind := 1, mcpa := mc }))) ∧
    (c.MayIssue s 0x036 [] [] [d.toNat, n.toNat] →
      ∀ cause at_ mc, s.chk c { op := 0x036, bytes := 8, r := false, w := true, kind := 2 } false va = .bad cause at_ mc →
        exec (.sst d n) s = .next (s.takeFault c.ti c.gi c.ei
          { cause := cause, lanes := BitVec.allOnes 32, addr := at_, kind := 2, mcpa := mc })) ∧
    (c.MayIssue s 0x036 [] [] [d.toNat, n.toNat] → s.storeMustWait c = false →
      ∀ x, s.chk c { op := 0x036, bytes := 8, r := false, w := true, kind := 2 } false va = .ok x →
        exec (.sst d n) s = .next (({ s with nextId := s.nextId + 1 }.modGroup c.ti c.gi fun g => { g with
          sq := g.sq ++ [c.storeEnt s.nextId 32 va x.pa (whole (bytesLE 8 (c.grp.readS d.toNat).toNat)) .plain] }).retire c
          0x036))

/-- R168, R171, R175, R177: a store whose lanes pass their checks queues one entry for each lane, with its address and
the low bytes of its registers, and memory is unchanged until the entry reaches its home bank; a release first delivers a
failure of an earlier store. That the queue always has room is the model's choice (DESIGN CHOICE, log entry 31). -/
def Obligations.StoreWordResult : Prop :=
  ∀ (i : Instr) (op n : Nat) (k : StKind) (d : BitVec 7) (m : Mem) (c : Ctx) (s s1 : State) (ls : List (Nat × Nat × Xlate)),
    storeForm c i = some (op, n, k, d, m) → wellFormed i = true →
    c.MayIssue s op (d.toNat :: m.vs) ((if n = 8 then [d.toNat] else []) ++ m.pairs) m.ss →
    (n = 16 → d.toNat % 4 = 0) →
    s.checkLanes c { op := op, bytes := n, r := false, w := true, kind := 2, tx := k = .plain } (c.addresses m) = .ok (s1, ls) →
    s1.storeMustWait (c.refresh s1) = false →
    (k = .plain ∨ (c.refresh s1).dueStore = none →
      exec i s = .next (((ls.map fun y => (y.1, y.2.1, y.2.2.pa, whole ((c.refresh s1).grp.dataBytes y.1 d.toNat n))).foldl
        ((c.refresh s1).storeLane s1.nextId k) { s1 with nextId := s1.nextId + 1 }).retire c op)) ∧
    (k = .plain ∨ c.dueStore = none → c.active &&& c.grp.txOpen = 0 →
      exec i s = .next (({ s with nextId := s.nextId + 1 }.modGroup c.ti c.gi fun g => { g with
        sq := g.sq ++ ls.map fun (y : Nat × Nat × Xlate) =>
          c.storeEnt s.nextId y.1 y.2.1 y.2.2.pa (whole (c.grp.dataBytes y.1 d.toNat n)) k }).retire c op)) ∧
    (∀ x, k ≠ .plain → (c.refresh s1).dueStore = some x →
      exec i s = .next ((s1.modGroup c.ti c.gi fun g => g.dropDeferred x).takeFault c.ti c.gi c.ei x.flt))

/-- R152, R153, R173: `ldf` starts an operation with the converted elements of its lanes, or with the trap that is found
first and no writes; `stf` queues an entry for each element that it stores, with its bytes of both pages where it straddles
one, and joins its flags, or raises a lane's trap. The model's own: the elements and traps of `ldf` are fixed at issue (DEDUCED,
log entry 6), a trap of a lane leaves every destination of the word unchanged (log entry 36), and the group's queue always has room
(DESIGN CHOICE, log entry 31). -/
def Obligations.FormattedAccessResult : Prop :=
  ∀ (d : BitVec 7) (m : Mem) (c : Ctx) (s s1 : State) (ls : List (Nat × FmtAcc)),
    (wellFormed (.ldf d m) = true →
      c.MayIssue s 0x110 (d.toNat :: m.vs) ((if tyPair c.ty then [d.toNat] else []) ++ m.pairs) m.ss →
      s.checkFmt c { op := 0x110, bytes := 1, r := true, w := false, kind := 1, tx := true } m = .ok (s1, ls) →
      let f := ls.foldl (FmtLoad.lane (c.refresh s1) d.toNat m)
        { a := { s := s1, writes := [], bads := [], devs := [], stall := false }, flags := 0, traps := [] }
      f.a.stall = false → s1.acquirePending (c.refresh s1) = false →
      (∀ y ∈ ls, ∀ p ∈ y.2.parts, (c.refresh s1).scOverlap p.pa p.len = false) →
      ∃ t, exec (.ldf d m) s = .next t ∧ (t.group c.ti c.gi).pend = (f.a.s.group c.ti c.gi).pend ++
        [{ Pending.new f.a.s.nextId ((c.refresh s1).flagNo 0x110) with
           writes := if f.traps = [] then f.a.writes else [], fp := if f.traps = [] then f.flags else 0
           bad := deferOf (.flag ((c.refresh s1).flagNo 0x110)) 1 (sortBy (fun x y => x.1 ≤ y.1) (f.a.bads ++ f.traps)) }] ∧
        t.keeps s c.ti c.gi ∧ (t.group c.ti c.gi).sameRegs (c.grp.retire c.ei 0x110)) ∧
    (wellFormed (.stf d m) = true →
      c.MayIssue s 0x111 (d.toNat :: m.vs) ((if tyPair c.ty then [d.toNat] else []) ++ m.pairs) m.ss →
      s.checkFmt c { op := 0x111, bytes := 1, r := false, w := true, kind := 2, tx := true } m = .ok (s1, ls) →
      c.active &&& c.grp.txOpen = 0 → s.storeMustWait c = false →
      let rs := ls.map fun y => (y.1, y.2, (elemsOf c.ty (c.grp.readOp c.ty y.1 d.toNat)).map (fmtConvert c.env c.ty y.2.fmt))
      (∀ f, fpTrap (modeFX c.ent.mode) (rs.map fun r => (r.1, r.2.2.map (·.2))) = some f →
        exec (.stf d m) s = .next (s.takeFault c.ti c.gi c.ei f)) ∧
      (fpTrap (modeFX c.ent.mode) (rs.map fun r => (r.1, r.2.2.map (·.2))) = none →
        let fl := rs.map fun r => (r.1, r.2.2.map (·.2))
        let es := rs.flatMap fun r => fmtEntries c s.nextId m r.1 r.2.1 (r.2.2.map (·.1))
        ∃ t, exec (.stf d m) s = .next t ∧ t.keeps s c.ti c.gi ∧
          t.group c.ti c.gi = ({ c.grp.setFp fl with sq := c.grp.sq ++ es }).retire c.ei 0x111))

/-- R155, R174: a scratchpad load delivers the team's bytes in its lanes before the next word, a scratchpad store writes
them, lowest lane first; nothing else changes. -/
def Obligations.ScratchpadWordResult : Prop :=
  ∀ (i : Instr) (op n : Nat) (w : Bool) (d : BitVec 7) (m : Mem) (c : Ctx) (s : State) (ls : List (Nat × Nat × Xlate)),
    spadForm i = some (op, n, w, d, m) → wellFormed i = true →
    c.MayIssue s op (d.toNat :: m.vs) ((if n = 8 then [d.toNat] else []) ++ m.pairs) m.ss →
    (n = 16 → d.toNat % 4 = 0 ∨ (w = false ∧ d = 127)) → c.active &&& c.grp.txOpen = 0 → s.acquirePending c = false →
    s.checkSpad c op n w m = .ok (s, ls) →
    (w = false → exec i s = .next (s.after c op (ls.foldl (fun g y =>
      (laneWrites y.1 d.toNat ((n + 3) / 4) (natLE (c.team.readSpad y.2.1 n))).foldl Group.deliver g) c.grp))) ∧
    (w = true → exec i s = .next ((s.modTeam c.ti fun t =>
      ls.foldl (fun t y => t.writeSpad y.2.1 (c.grp.dataBytes y.1 d.toNat n)) t).retire c op)) ∧
    (∀ l o x, (l, o, x) ∈ ls → l ∈ c.lanes ∧ o % n = 0 ∧ o + n ≤ c.team.nspad * 16384)

/-- R176, R189, R190, R192: the atomics and the sequentially consistent accesses start an operation, or number their
store, and queue one request for each lane, with its operands; in ORD 2 an atomic is sent as SC accesses. A type that
the word does not accept raises FLT_HB_TYPE. That the SC requests are sent at the word itself, as far as they can be, is the
model's own reading (`pumpSc`; DEDUCED, log entry 34), and that the group's queue always has room its choice (DESIGN CHOICE, log entry
31). -/
def Obligations.AtomicAndScWordResult : Prop :=
  ∀ (c : Ctx) (s : State) (ls : List (Nat × Nat × Xlate)), c.active &&& c.grp.txOpen = 0 →
    (∀ (i : Instr) (op : Nat) (tys : List Nat) (f : AtomOp) (b : Src) (d a : BitVec 7),
      atomForm i = some (op, tys, f, b, d, a) → wellFormed i = true →
      c.MayIssue s op (a.toNat :: d.toNat :: b.vs) (a.toNat :: if tyPair c.ty then d.toNat :: b.vs else []) b.ss →
      (c.ty ∉ tys → exec i s = .next (s.takeFault c.ti c.gi c.ei { cause := 0x60 })) ∧
      (c.ty ∈ tys → s.storeMustWait c = false →
        s.checkLanes c { op := op, bytes := tyWidth c.ty / 8, r := true, w := true, kind := 3 } (c.pointers a) = .ok (s, ls) →
        let begun := { s with nextId := s.nextId + 1 }.begin c.ti c.gi
          { Pending.new s.nextId (c.flagNo op) with waiting := ls.length }
        let kind := fun l => StKind.atomic f c.ty (BitVec.ofNat 64 (c.laneB c.ty b l))
          (BitVec.ofNat 64 (c.grp.readOp c.ty l d.toNat)) s.nextId l d.toNat (decide (c.grp.hbc.extractLsb' 32 2 = 1))
        (c.grp.hbc.extractLsb' 32 2 ≠ 2 → exec i s = .next ((begun.modGroup c.ti c.gi fun g => { g with
          sq := g.sq ++ ls.map fun (y : Nat × Nat × Xlate) =>
            c.storeEnt s.nextId y.1 y.2.1 y.2.2.pa (whole (bytesLE (tyWidth c.ty / 8) 0)) (kind y.1) }).retire c op)) ∧
        (c.grp.hbc.extractLsb' 32 2 = 2 → exec i s = .next (((begun.modGroup c.ti c.gi fun g => { g with
          scq := g.scq ++ ls.map fun (y : Nat × Nat × Xlate) =>
            { c.scReq y.1 y.2.1 y.2.2.pa (tyWidth c.ty / 8) none s.nextId d.toNat with
              atom := some (kind y.1) } }).pumpSc c.ti c.gi).retire c op)))) ∧
    (∀ (d : BitVec 7) (m : Mem),
      let n := if tyPair c.ty then 8 else 4
      (wellFormed (.ldsc d m) = true →
        c.MayIssue s 0x122 (d.toNat :: m.vs) ((if n = 8 then [d.toNat] else []) ++ m.pairs) m.ss →
        s.checkLanes c { op := 0x122, bytes := n, r := true, w := false, kind := 1 } (c.addresses m) = .ok (s, ls) →
        exec (.ldsc d m) s = .next (((({ s with nextId := s.nextId + 1 }.begin c.ti c.gi
          { Pending.new s.nextId (c.flagNo 0x122) with waiting := ls.length }).modGroup c.ti c.gi fun g => { g with
            scq := g.scq ++ ls.map fun (y : Nat × Nat × Xlate) =>
              c.scReq y.1 y.2.1 y.2.2.pa n none s.nextId d.toNat }).pumpSc c.ti c.gi).retire c 0x122)) ∧
      (wellFormed (.stsc d m) = true →
        c.MayIssue s 0x123 (d.toNat :: m.vs) ((if n = 8 then [d.toNat] else []) ++ m.pairs) m.ss →
        s.checkLanes c { op := 0x123, bytes := n, r := false, w := true, kind := 2 } (c.addresses m) = .ok (s, ls) →
        c.dueStore = none →
        exec (.stsc d m) s = .next ((({ s with nextId := s.nextId + 1 }.modGroup c.ti c.gi fun g => { g with
          scq := g.scq ++ ls.map fun (y : Nat × Nat × Xlate) =>
            c.scReq y.1 y.2.1 y.2.2.pa n (some (c.grp.dataBytes y.1 d.toNat n)) s.nextId 0 }).pumpSc c.ti c.gi).retire c
          0x123)))

/-- R160, R161, R171, R178 to R180: a fence waits until the accesses that it orders are performed: stores as its kind and scope
say, loads at every scope but `g`, which orders nothing beyond program order. One of scope `d` or wider delivers a failure of an
earlier store and, unless its kind is `.st`, makes later loads of the group use no older L1 sector; one of scope `t` that is not
`.st` keeps later loads from L1 sectors older than those that any other group may use (DEDUCED, log entry 129); either marks with
`joined` what the group's later releases follow (DESIGN CHOICE, log entry 131); one of scope `y` that is not `.ld` first starts
the writes to the expanders. `pref` changes no register; `flush` starts the group's writes to its lines once its stores to them
have left (DEDUCED, log entry 39); `inv` drops the lines from the core's L1. R181, R182: `xlat` gives each lane the translation of
its address for the fen in SYS_XFEN, or the code of the failure; a `tlbi` word removes from every TLB of every core and slice the
entries that it names, at once (DEDUCED, log entry 40). -/
def Obligations.FenceCacheAndTranslationWords : Prop :=
  ((∀ (k : BitVec 2) (sc : BitVec 3) (c : Ctx) (s : State), wellFormed (.fence k sc) = true → c.MayIssue s 0x129 [] [] [] →
    let performed := (k = 1 ∨ s.storesAt c.ti c.gi sc.toNat = true) ∧ (sc = 0 ∨ s.loadsBound c.ti c.gi = true)
    let reached := sc.toNat = 4 → k ≠ 1 → s.throughDone c.ti c.gi = true
    (¬ performed → exec (.fence k sc) s = .next s) ∧
    (performed → ¬ reached → exec (.fence k sc) s = .next (s.startThrough c.ti c.gi)) ∧
    (performed → sc = 0 → exec (.fence k sc) s = .next (s.after c 0x129 c.grp)) ∧
    (performed → sc = 1 → exec (.fence k sc) s = .next (s.after c 0x129 (if k = 2 then c.grp
      else { c.grp with floor := max c.grp.floor (s.topFloor c.team.core), joined := s.nextId }))) ∧
    (performed → reached → 2 ≤ sc.toNat →
      (c.dueStore = none →
        exec (.fence k sc) s = .next (s.after c 0x129 (if k = 2 then c.grp
          else { c.grp with floor := s.nextId, joined := s.nextId }))) ∧
      (∀ d, c.dueStore = some d → exec (.fence k sc) s =
        .next ((s.setGroup c.ti c.gi (c.grp.dropDeferred d)).takeFault c.ti c.gi c.ei d.flt)))) ∧
  (∀ (h : BitVec 2) (m : Mem) (c : Ctx) (s : State), wellFormed (.pref h m) = true → c.MayIssue s 0x128 m.vs [] m.ss →
    ∃ t, exec (.pref h m) s = .next t ∧ t.group c.ti c.gi = c.grp.retire c.ei 0x128 ∧ t.keeps s c.ti c.gi) ∧
  (∀ (m : Mem) (c : Ctx) (s : State) (ls : List (Nat × Nat × Xlate)), c.active &&& c.grp.txOpen = 0 →
    (wellFormed (.flush m) = true → c.MayIssue s 0x12A m.vs m.pairs m.ss →
      s.checkLanes c (cacheRule 0x12A) (c.addresses m) = .ok (s, ls) →
      let lines := (ls.filter fun y => regionOf y.2.2.pa = 1).map fun y => y.2.2.pa / 128
      let queued := ∃ e ∈ c.grp.sq ++ (s.core c.team.core).cso, e.team = c.ti ∧ e.group = c.gi ∧
        ∃ y ∈ e.pieces, y.1 / 128 ∈ lines ∨ (y.1 + y.2.length - 1) / 128 ∈ lines
      (queued → exec (.flush m) s = .next s) ∧
      let start := fun (x : Through) =>
        if x.team = c.ti ∧ x.group = some c.gi ∧ x.line ∈ lines then { x with started := true } else x
      (¬ queued → exec (.flush m) s =
        .next ({ s with mem := { s.mem with through := s.mem.through.map start } }.retire c 0x12A))) ∧
    (wellFormed (.inv m) = true → c.MayIssue s 0x12B m.vs m.pairs m.ss →
      s.checkLanes c (cacheRule 0x12B) (c.addresses m) = .ok (s, ls) →
      ∃ t, exec (.inv m) s = .next t ∧ t.keeps s c.ti c.gi ∧ t.group c.ti c.gi = c.grp.retire c.ei 0x12B ∧
        ∀ e, e ∈ (t.core c.team.core).l1 ↔ e ∈ (s.core c.team.core).l1 ∧
          ∀ y ∈ ls, isMemRegion y.2.2.pa = true → e.fen ≠ c.fen ∨ e.sector / 4 ≠ y.2.2.pa / 128))) ∧
  (∀ (c : Ctx) (s : State),
    let fen := (s.core c.team.core).xfen.toNat
    (∀ (d : BitVec 7) (m : Mem) (x : Nat → W64), wellFormed (.xlat d m) = true →
      c.MayIssue s 0x130 (d.toNat :: m.vs) (d.toNat :: m.pairs) m.ss →
      (∀ l ∈ c.lanes, s.xlatOf c.team.core c.grp.port fen (c.ea m l) = .ok (x l)) →
      exec (.xlat d m) s = .next (({ s with nextId := s.nextId + 1 }.begin c.ti c.gi
        { Pending.new s.nextId (c.flagNo 0x130) with
          writes := c.lanes.flatMap fun l => laneWrites l d.toNat 2 (x l).toNat }).retire c 0x130)) ∧
    (∀ (i : Instr) (n : BitVec 6), c.MayIssue s 0x131 [] [] [n.toNat] →
      i = .tlbiPage n ∨ i = .tlbiFen n ∨ i = .tlbiAll n →
      let stays := fun (e : TlbEnt) => (i = .tlbiPage n → e.fen ≠ fen ∨ (c.grp.readS n.toNat).toNat % 2 ^ 57 < e.va ∨
          e.va + e.size ≤ (c.grp.readS n.toNat).toNat % 2 ^ 57) ∧
        (i = .tlbiFen n → e.fen ≠ fen) ∧ i ≠ .tlbiAll n
      ∃ t, exec i s = .next t ∧ t.keeps s c.ti c.gi ∧ t.group c.ti c.gi = c.grp.retire c.ei 0x131 ∧
        (∀ k p e, e ∈ (t.core k).tlb p ↔ e ∈ (s.core k).tlb p ∧ stays e) ∧
        ∀ k e, e ∈ t.sliceTlb k ↔ e ∈ s.sliceTlb k ∧ stays e))

/-- R171, R185, R187, R188, R193, R194: `parkt` sets the group's time limit and order; a `park` of a type that R185 does not
list raises FLT_HB_TYPE. One whose lanes all compare true gives them 1 and goes on; one with a lane that must wait blocks its
group; one whose lanes all find their bank's monitors taken, or a line that a finding keeps from them, gives them 0 and goes
on, the finding's cause being deferred to its flag with KIND 3. That the word is compared as it stands in memory at issue, the
group's own stores to it that have not been applied left out, is the model's choice (DESIGN CHOICE, log entry 141). -/
def Obligations.ParkWords : Prop :=
  ∀ (c : Ctx) (s : State),
    (∀ b : BitVec 6, c.MayIssue s 0x14B [] [] [b.toNat] →
      let x := c.grp.readS b.toNat
      let bad := x.extractLsb' 32 2 = 3 ∨ x.extractLsb' 34 30 ≠ 0
      (¬ bad → exec (.parkt b) s = .next (s.after c 0x14B { c.grp with hbc := x.setWidth 34 })) ∧
      (bad → exec (.parkt b) s = .next (s.takeFault c.ti c.gi c.ei { cause := 0x61 }))) ∧
    (∀ (b : Src) (cc : Cc) (pd : BitVec 3) (a : BitVec 7) (ls : List (Nat × Nat × Xlate)),
      wellFormed (.park b cc pd a) = true → c.ty ∈ [2, 3, 6, 7, 0x0A, 0x0B] → c.active &&& c.grp.txOpen = 0 →
      c.MayIssue s 0x14A (a.toNat :: b.vs) (a.toNat :: if tyPair c.ty then b.vs else []) b.ss →
      s.checkLanes c { op := 0x14A, bytes := tyWidth c.ty / 8, r := true, w := true, kind := 3 } (c.pointers a) = .ok (s, ls) →
      s.acquirePending c = false → (∀ y ∈ ls, s.lineErr c.fen (y.2.2.pa / 64) = none) →
      let holds := fun (y : Nat × Nat × Xlate) => compareElem bankEnv cc c.ty
        (s.readNat c.fen y.2.2.pa (tyWidth c.ty / 8)) (BitVec.ofNat 64 (c.laneB c.ty b y.1)).toNat
      ((∀ y ∈ ls, holds y = true) → ls ≠ [] →
        ∃ t, exec (.park b cc pd a) s = .next t ∧ t.keeps s c.ti c.gi ∧
          let g := t.group c.ti c.gi
          g.block = none ∧ g.flag (c.flagNo 0x14A) = c.grp.flag (c.flagNo 0x14A) ∧
          (∀ y ∈ ls, g.readP y.1 pd.toNat = true) ∧
          (∀ l < 32, ∀ k, k ≠ pd.toNat ∨ l ∉ c.lanes → g.readP l k = c.grp.readP l k) ∧
          g.sameRegs ({ c.grp with p := g.p }.retire c.ei 0x14A)) ∧
      ((∃ y ∈ ls, holds y = false) → s.mem.monitors.length + ls.length ≤ 64 →
        ∃ t, exec (.park b cc pd a) s = .next t ∧
          (t.group c.ti c.gi).block = some { kind := .park, entry := c.ei, since := s.now } ∧
          (t.group c.ti c.gi).flag (c.flagNo 0x14A) = c.grp.flag (c.flagNo 0x14A) + 1 ∧
          t.keeps { s with mem := { s.mem with monitors := t.mem.monitors } } c.ti c.gi ∧
          (t.group c.ti c.gi).sameRegs (c.grp.retire c.ei 0x14A)) ∧
      ((∀ y ∈ ls, holds y = false ∧ 64 ≤ (s.mem.monitors.filter fun n => n.bank = homeBank y.2.2.pa).length) → ls ≠ [] →
        (∀ n ∈ s.mem.monitors, n.pend ≠ s.nextId) → ∃ t, exec (.park b cc pd a) s = .next t ∧ t.keeps s c.ti c.gi ∧
          let g := t.group c.ti c.gi
          g.block = none ∧ g.flag (c.flagNo 0x14A) = c.grp.flag (c.flagNo 0x14A) ∧
          (∀ y ∈ ls, pd.toNat < 7 → g.readP y.1 pd.toNat = false) ∧
          (∀ l < 32, ∀ k, k ≠ pd.toNat ∨ l ∉ c.lanes → g.readP l k = c.grp.readP l k) ∧
          g.sameRegs ({ c.grp with p := g.p }.retire c.ei 0x14A))) ∧
    (∀ (b : Src) (cc : Cc) (pd : BitVec 3) (a : BitVec 7), wellFormed (.park b cc pd a) = true →
      c.MayIssue s 0x14A (a.toNat :: b.vs) (a.toNat :: if tyPair c.ty then b.vs else []) b.ss →
      (c.ty ∉ [2, 3, 6, 7, 0x0A, 0x0B] → exec (.park b cc pd a) s = .next (s.takeFault c.ti c.gi c.ei { cause := 0x60 })) ∧
      (∀ y e, c.ty ∈ [2, 3, 6, 7, 0x0A, 0x0B] → c.active &&& c.grp.txOpen = 0 → s.acquirePending c = false →
        s.checkLanes c { op := 0x14A, bytes := tyWidth c.ty / 8, r := true, w := true, kind := 3 } (c.pointers a) =
          .ok (s, [y]) → s.lineErr c.fen (y.2.2.pa / 64) = some e → isMc e.code = false → c.grp.ended = false →
        ∃ t, exec (.park b cc pd a) s = .next t ∧ t.keeps s c.ti c.gi ∧
          let g := t.group c.ti c.gi
          g.block = none ∧ g.flag (c.flagNo 0x14A) = c.grp.flag (c.flagNo 0x14A) ∧
          (pd.toNat < 7 → g.readP y.1 pd.toNat = false) ∧
          g.deferred = ({ at_ := .flag (c.flagNo 0x14A), cause := e.code, kind := 3, lanes := maskOf [y.1], addr := y.2.1 % 2 ^ 57
                          pa := y.2.2.pa, op := 0 } : Deferred).joinTo c.grp.deferred ∧
          g.sameRegs ({ c.grp with p := g.p }.retire c.ei 0x14A)))

/-- R200, R203 to R206, R208: while lanes of the group's `txe` commit, its transaction words wait. `txb` opens the active
lanes that are not open, and aborts the open ones with cause 7, while the group has a log buffer or one is free; otherwise the
lanes without a transaction abort with cause 9. `txa` aborts the active lanes; `txr` tells whether they hold what they read, and
aborts those that do not, or that meet a finding (with cause 5, DEDUCED, log entry 145); `txq` reads them; `txe` ends every
lane of TxActive, writes the registers of those that are not open, and hands those that are to the commit. The model's own:
a lane's CAUSE outside STATE 10, which `txq` reads as a free value (log entry 13), that a `txe` holds the group's buffer
until its last lane has ended (log entry 95), and when it waits for an older escalated lane of its group that it would fail
(DEDUCED, log entry 110). -/
def Obligations.TransactionWords : Prop :=
  ∀ (c : Ctx) (s : State),
    (s.committing c.ti c.gi = true → (c.MayIssue s 0x150 [] [] [] → exec .txb s = .next s) ∧
      (∀ (p : BitVec 3) (d : BitVec 7), c.MayIssue s 0x151 [d.toNat] [] [] → exec (.txe p d) s = .next s) ∧
      ∀ d : BitVec 7, (c.MayIssue s 0x153 [d.toNat] [] [] → exec (.txr d) s = .next s) ∧
        (c.MayIssue s 0x154 [d.toNat] [] [] → exec (.txq d) s = .next s)) ∧
    (∀ x : BitVec 8, c.MayIssue s 0x152 [] [] [] →
      exec (.txa x) s = .next (s.after c 0x152 ((lanesOf (c.active &&& c.grp.txOpen)).foldl
        (fun g l => g.abortLane 4 x.toNat l) c.grp))) ∧
    (s.committing c.ti c.gi = false →
      (c.MayIssue s 0x150 [] [] [] →
        let closed := c.lanes.filter fun l => (c.grp.txLane l).state = .none
        (closed ≠ [] → c.grp.txBuf = false → 4 ≤ s.buffersUsed c.team.core →
          exec .txb s = .next (s.after c 0x150 (closed.foldl (fun g l => g.abortLane 9 0 l) c.grp))) ∧
        (closed = [] ∨ c.grp.txBuf = true ∨ s.buffersUsed c.team.core < 4 → ∃ t, exec .txb s = .next t ∧
          t.keeps s c.ti c.gi ∧ (t.group c.ti c.gi).sameRegs (c.grp.retire c.ei 0x150) ∧
          (t.group c.ti c.gi).txBuf = (c.grp.txBuf || closed ≠ []) ∧
          (∀ l, l ∉ c.lanes → (t.group c.ti c.gi).txLane l = c.grp.txLane l) ∧
          ∀ l ∈ c.lanes,
            let x := c.grp.txLane l
            let y := (t.group c.ti c.gi).txLane l
            y.reads = [] ∧ y.writes = [] ∧
            (x.state = .opened → y.state = .aborted ∧ y.cause = 7) ∧
            (x.state ≠ .opened → y.state = .opened ∧ y.conf = x.conf ∧ y.esc = (x.esc || 8 ≤ x.conf)))) ∧
      (∀ d : BitVec 7, c.MayIssue s 0x153 [d.toNat] [] [] →
        let found := fun l => s.txFindings c.fen ((c.grp.txLane l).reads.map (·.sector))
        let after := c.lanes.foldl (fun g l =>
          if (c.grp.txLane l).state = .opened then match (found l).head? with
            | some e => (g.abortLane 5 e.1.code l).writeV l d.toNat 0
            | none =>
              if (c.grp.txLane l).reads.all (fun e => s.readSector c.fen e.sector = e.bytes) then g.writeV l d.toNat 1
              else (g.abortLane 1 0 l).writeV l d.toNat 0
          else g.writeV l d.toNat 0) c.grp
        ((∀ l ∈ c.lanes, (c.grp.txLane l).state = .opened → found l = []) →
          exec (.txr d) s = .next (s.after c 0x153 after)) ∧
        ∃ t, exec (.txr d) s = .next t ∧ t.keeps s c.ti c.gi ∧ t.group c.ti c.gi = after.retire c.ei 0x153) ∧
      (∀ d : BitVec 7, c.MayIssue s 0x154 [d.toNat] [] [] →
        let ls := lanesOf (c.acting 0x154)
        ∃ x : Nat → Nat, (∀ l, x l < 256 ∨ (c.grp.txLane l).state = TxState.aborted) ∧
          (∀ l, (c.grp.txLane l).state = TxState.aborted → x l = (c.grp.txLane l).cause) ∧
          exec (.txq d) s = .next
            ({ s with nfree := s.nfree + (ls.filter fun l => (c.grp.txLane l).state ≠ TxState.aborted).length }.after c 0x154
              (ls.foldl (fun g l => g.writeV l d.toNat (BitVec.ofNat 32 (txqWord (c.grp.txLane l) (x l)))) c.grp))) ∧
      (∀ (p : BitVec 3) (d : BitVec 7), c.MayIssue s 0x151 [d.toNat] [] [] →
        let opened := c.txActive.filter fun l => (c.grp.txLane l).state = .opened
        let ended := c.txActive.filter fun l => (c.grp.txLane l).state ≠ .opened
        (c.txeWaits s = true → exec (.txe p d) s = .next s) ∧
        (c.txeWaits s = false → ∃ t, exec (.txe p d) s = .next t ∧ t.keeps s c.ti c.gi ∧
          let g := t.group c.ti c.gi
          g.sameRegs (c.grp.retire c.ei 0x151) ∧
          g.pend = c.grp.pend ++ [{ Pending.new s.nextId (c.flagNo 0x151) with
            waiting := opened.length
            writes := ended.flatMap fun l => txeWrites l p.toNat d.toNat
              (if (c.grp.txLane l).state = .none then 10 else (c.grp.txLane l).cause) (c.grp.txLane l) }] ∧
          (∀ l ∈ c.txActive, (g.txLane l).state = .none) ∧
          (∀ l, l ∉ c.txActive → g.txLane l = c.grp.txLane l) ∧
          g.txBuf = (c.grp.txBuf && (opened ≠ [] || g.tx.any fun x => x.2.state ≠ .none)) ∧
          t.txops = s.txops ++ if opened = [] then [] else [{
            team := c.ti, group := c.gi, fen := c.fen, pend := s.nextId, pd := p.toNat, dst := d.toNat
            lanes := opened.map fun l => (l, c.grp.txLane l) }])))

/-- R218 to R221, R228, R232 to R235: a matrix word of a solo group is accepted by Sedge with its operands read, its flag
counts it and its tile is locked; a gang word arrives at its rendezvous, which takes in every word of a listed group with its
count (DEDUCED, log entry 127), and its group advances its count. Either waits while Sedge or the range-lock table is full.
Types outside R221 raise FLT_SEDGE_TYPE. -/
def Obligations.MatrixWordResult : Prop :=
  ∀ (i : Instr) (f : Mx) (c : Ctx) (s : State), matrixForm i = some f →
    c.MayIssue s f.op (vRange f.a (fragRegs f.op c.ty f.pat)) [] [f.s] → wellFormed i = true →
    (sedgeTypes f.op c.ty (modeCTY c.ent.mode) = false →
      exec i s = .next (s.takeFault c.ti c.gi c.ei { cause := 0x71 })) ∧
    (f.pre c = .ok () → f.metaOk c = .ok () → c.sedgeReady s = false → exec i s = .next s) ∧
    (f.pre c = .ok () → f.metaOk c = .ok () → c.sedgeReady s = true →
      (gangGroups c.grp.gang.toNat = [] → ∃ t, exec i s = .next t ∧ t.keeps s c.ti c.gi ∧
        (t.group c.ti c.gi).sameRegs (c.grp.retire c.ei f.op) ∧
        (t.core c.team.core).sedge = (s.core c.team.core).sedge ++ [{
          id := s.nextId + 1, op := s.nextId, count := 1, kind := sedgeKindOf f.op, team := c.ti, fen := c.fen, group := c.gi, pos := 0
          tile := f.acc.toNat, done := false, pat := f.pat, z := f.z, ty := c.ty, cty := modeCTY c.ent.mode
          boff := (c.grp.readS f.s).toNat, scfg := c.grp.scfg, flag := c.flagNo f.op, frag := f.frag c, bread := none }] ∧
        (t.core c.team.core).locks = (s.core c.team.core).locks ++ [{
          id := s.nextId + 1, fen := c.fen, team := c.ti
          src := some (intervalB f.op (c.grp.readS f.s).toNat c.grp.scfg), dst := none }] ∧
        (t.group c.ti c.gi).flag (c.flagNo f.op) = c.grp.flag (c.flagNo f.op) + 1) ∧
      (gangGroups c.grp.gang.toNat ≠ [] → ∃ t, exec i s = .next t ∧ t.keeps s c.ti c.gi ∧ t.cores = s.cores ∧
        (t.group c.ti c.gi).sameRegs { c.grp with gang := (t.group c.ti c.gi).gang } ∧
        (t.group c.ti c.gi).arrivedGang = some (gangSeq c.grp.gang.toNat) ∧
        gangSeq (t.group c.ti c.gi).gang.toNat = (gangSeq c.grp.gang.toNat + 1) % 256 ∧
        ∃ r ∈ (t.team c.ti).rdvs, r.seq = gangSeq c.grp.gang.toNat ∧ (∃ a ∈ r.arrivals, a.group = c.gi ∧ a.op = f.op) ∧
          ∀ q ∈ (s.team c.ti).rdvs, c.meets q = true → ∀ b ∈ q.arrivals, b ∈ r.arrivals))

/-- R219, R220, R230, R234, R237 to R241: the other Sedge words. That `ldga` binds its bytes when it issues is the model's
reading (DEDUCED, log entry 6). -/
def Obligations.TileWordResult : Prop :=
  ∀ (c : Ctx) (s : State),
    (∀ x : BitVec 21, wellFormed (.mcfg x) = true → c.MayIssue s 0x160 [] [] [] →
      exec (.mcfg x) s = .next (s.after c 0x160 { c.grp with scfg := x, latch := { c.grp.latch with valid := false } })) ∧
    (∀ b : BitVec 6, c.MayIssue s 0x161 [] [] [b.toNat] →
      (c.gangBad (c.grp.readS b.toNat).toNat = true →
        exec (.mgang b) s = .next (s.takeFault c.ti c.gi c.ei { cause := 0x76 })) ∧
      (c.gangBad (c.grp.readS b.toNat).toNat = false →
        exec (.mgang b) s = .next (((s.setGroup c.ti c.gi { c.grp with gang := c.grp.readS b.toNat }).breakGangs
          c.ti c.gi).retire c 0x161))) ∧
    (∀ ac : BitVec 6, c.MayIssue s 0x168 [] [] [] → c.tileOk ac = .ok () → (s.core c.team.core).sedgeRoom = true →
      ∃ t, exec (.accz ac) s = .next t ∧ t.keeps s c.ti c.gi ∧
        (t.group c.ti c.gi).sameRegs (c.grp.retire c.ei 0x168) ∧
        (∃ o, (t.core c.team.core).sedge = (s.core c.team.core).sedge ++ [o] ∧ o.kind = .accz ∧ o.team = c.ti ∧
          o.group = c.gi ∧ o.tile = c.tile ac ∧ o.done = false ∧ o.flag = c.flagNo 0x168) ∧
        (t.group c.ti c.gi).flag (c.flagNo 0x168) = c.grp.flag (c.flagNo 0x168) + 1) ∧
    (∀ (ac : BitVec 6) (a : BitVec 7) (p : BitVec 2), wellFormed (.accld ac a p) = true →
      c.MayIssue s 0x167 (vRange a.toNat 8) [] [] → c.tileOk ac = .ok () →
      (s.pendingTile c.team.core c.ti (c.tile ac) ≠ 0 →
        exec (.accld ac a p) s = .next (s.takeFault c.ti c.gi c.ei { cause := 0x70 })) ∧
      (s.pendingTile c.team.core c.ti (c.tile ac) = 0 →
        exec (.accld ac a p) s = .next (s.after c 0x167 (c.lanes.foldl (fun g l => (List.range 8).foldl (fun g k =>
          g.writeV l (a.toNat + k)
            (c.team.acc.get 0 (1024 * c.tile ac + 64 * (4 * p.toNat + l / 8) + (8 * (l % 8) + k)))) g) c.grp)))) ∧
    (∀ (d a : BitVec 7) (n : BitVec 3) (q : BitVec 1), wellFormed (.mcomp d a n q) = true →
      c.MayIssue s 0x165 (vRange a.toNat 16 ++ vRange d.toNat (8 + metaRegs c.ty (q = 1))) [] [] →
      (c.ty ∈ [0x08, 0x09, 0x0C, 0x0D, 0x0E] → ∃ t, exec (.mcomp d a n q) s = .next t ∧ t.keeps s c.ti c.gi ∧
        let g := t.group c.ti c.gi
        let per := tyElems c.ty
        let span := if q = 1 then 8 else 4
        let keep := if q = 1 then 4 else 2
        let bits := if q = 1 then 3 else 2
        let x := fun l p => (elemsOf c.ty (c.grp.readV l (a.toNat + p / per)).toNat).getD (p % per) 0
        let kept := fun l j => keptPositions (q = 1) (fun p => decodeElem sedgeEnv c.ty (x l p)) j
        let idx := fun l v => (kept l (v / keep)).getD (v % keep) 0
        g.sameRegs { c.grp.retire c.ei 0x165 with v := g.v, p := g.p } ∧
        (∀ l ∈ c.lanes,
          (∀ i < 8, ∀ j < per, d.toNat + i < 127 → (elemsOf c.ty (g.readV l (d.toNat + i)).toNat).getD j 0 =
            x l (span * ((per * i + j) / keep) + idx l (per * i + j))) ∧
          (∀ o < 32 * metaRegs c.ty (q = 1), d.toNat + 8 + o / 32 < 127 →
            (g.readV l (d.toNat + 8 + o / 32)).getLsbD (o % 32) =
              (decide (o < bits * (8 * per)) && (idx l (o / bits)).testBit (o % bits))) ∧
          (n.toNat < 7 → (g.readP l n.toNat = true ↔ ∃ j < 16 * per / span, ∃ k < span,
            k ∉ kept l j ∧ (decodeElem sedgeEnv c.ty (x l (span * j + k))).isZero = false))) ∧
        (∀ l < 32, ∀ r < 128, l ∉ c.lanes ∨ r < d.toNat ∨ d.toNat + 8 + metaRegs c.ty (q = 1) ≤ r →
          g.readV l r = c.grp.readV l r) ∧
        ∀ l < 32, ∀ r, l ∉ c.lanes ∨ r ≠ n.toNat → g.readP l r = c.grp.readP l r) ∧
      (c.ty ∉ [0x08, 0x09, 0x0C, 0x0D, 0x0E] →
        exec (.mcomp d a n q) s = .next (s.takeFault c.ti c.gi c.ei { cause := 0x71 }))) ∧
    (∀ (d : BitVec 7) (m : Mem) (s1 : State) (ls : List (Nat × Nat × Xlate)), wellFormed (.ldga d m) = true →
      c.MayIssue s 0x166 (vRange d.toNat 8 ++ m.vs) m.pairs m.ss →
      s.checkLanes c { op := 0x104, bytes := 32, r := true, w := false, kind := 1, tx := true } (c.addresses m) = .ok (s1, ls) →
      let a := ls.foldl (LoadAcc.lane (c.refresh s1) (c.loadSpec 32 d.toNat true true) true)
        { s := s1, writes := [], bads := [], devs := [], stall := false }
      a.stall = false → s1.acquirePending (c.refresh s1) = false →
      (∀ y ∈ ls, (c.refresh s1).scOverlap y.2.2.pa 32 = false) →
      ∃ t, exec (.ldga d m) s = .next t ∧ (t.group c.ti c.gi).pend = (a.s.group c.ti c.gi).pend ++
        [{ Pending.new a.s.nextId ((c.refresh s1).flagNo 0x166) with
           writes := a.writes, devs := a.devs, bad := deferOf (.flag ((c.refresh s1).flagNo 0x166)) 1 a.bads }] ∧
        t.keeps s c.ti c.gi ∧ (t.group c.ti c.gi).sameRegs (c.grp.retire c.ei 0x166)) ∧
    (∀ (d : BitVec 6) (sel : BitVec 9), c.MayIssue s 0x169 [] [] [d.toNat] →
      let k := s.core c.team.core
      let reads := fun x => exec (.mstat d sel) s = .next (s.after c 0x169 (c.grp.writeS d.toNat (BitVec.ofNat 64 x)))
      (sel = 0 → reads c.grp.mstat0) ∧ (sel = 1 → reads c.grp.mstat1) ∧
      (sel = 2 → reads ((k.sedge.filter fun o => o.team = c.ti ∧ o.group = c.gi).length +
        if c.grp.arrivedGang.isSome then 1 else 0)) ∧
      (sel = 3 → reads k.wfCount) ∧ (sel = 4 → reads k.wfTime) ∧
      (sel = 5 → reads (if dieOfCore c.team.core < 2 then s.sys.cur else s.sys.curb)) ∧
      (5 < sel.toNat → exec (.mstat d sel) s = .next (s.takeFault c.ti c.gi c.ei { cause := 0x01 })))

/-- R165, R247, R250 to R257: `cpt` and `cpx` read their layout record. A command word or a pair of types that R256 does not
permit raises FLT_COPY_CONVERT, a partition without an engine FLT_COPY_NO_ENGINE, an address of the record that fails its
checks its fault, and a record that does not permit the copy the fault of `copyPlan`. With no room at its stream or in the
range-lock table the word waits. Otherwise the copy is accepted, and its postings take effect together: the barrier expects
the box's bytes, the stream's slot is claimed, the range-lock table holds the intervals of both sides, the token and the
clause flag count it. The model's own: the pair of types is read from the record at stage 2, and ADDR and KIND of
FLT_COPY_LAYOUT (log entry 49). -/
def Obligations.BulkCopyAccepted : Prop :=
  ∀ (t l cr : BitVec 6) (c : Ctx) (s : State),
    let ra := (c.grp.readS l.toNat).toNat
    let rule := fun op => ({ op := op, bytes := 64, r := true, w := false, kind := 1 } : Rule)
    (∀ m, wellFormed (.cpx t l cr m) = true →
      c.MayIssue s 0x181 [] [] ([t.toNat, l.toNat, m.toNat] ++ sRange cr.toNat 3) →
      let v := (c.grp.readS m.toNat).toNat
      cpxBad v = true ∨ (∃ x bs s1, s.chk c (rule 0x181) false ra = .ok x ∧ s.acquirePending c = false ∧
          c.scOverlap x.pa 64 = false ∧ s.bind64 c x.nc x.pa = (.val bs, s1) ∧
          cpxPair (layoutOf (natLE bs)).ty (bitsOf v 5 5) = false) →
        exec (.cpx t l cr m) s = .next (s.takeFault c.ti c.gi c.ei { cause := 0x82 })) ∧
    (∀ (i : Instr) (op : Nat) (ss : List Nat) (cmd : CopyCmd),
      ((∃ b r, i = .cpt t l cr b r ∧ op = 0x180 ∧ ss = [t.toNat, l.toNat] ++ sRange cr.toNat 3 ∧
          cmd = { toGlobal := r = 1, bar := b.toNat, sty := none, crm := 0, csat := false }) ∨
        (∃ m, i = .cpx t l cr m ∧ op = 0x181 ∧ ss = [t.toNat, l.toNat, m.toNat] ++ sRange cr.toNat 3 ∧
          cpxBad (c.grp.readS m.toNat).toNat = false ∧ cmd = cpxCmd (c.grp.readS m.toNat).toNat)) →
      wellFormed i = true → c.MayIssue s op [] [] ss →
      ((∀ y, cmd.sty = some y → c.pairOk ra y s = true) → c.engine s = none →
        exec i s = .next (s.takeFault c.ti c.gi c.ei { cause := 0x84 })) ∧
      (∀ e, c.engine s = some e →
        (∀ cause a mc, s.chk c (rule op) false ra = .bad cause a mc →
          exec i s = .next (s.takeFault c.ti c.gi c.ei { c.leaderFlt cause a 1 with mcpa := mc })) ∧
        (∀ x, s.chk c (rule op) false ra = .ok x →
          (s.acquirePending c = true ∨ c.scOverlap x.pa 64 = true → exec i s = .next s) ∧
          (∀ bs s1, s.acquirePending c = false → c.scOverlap x.pa 64 = false → s.bind64 c x.nc x.pa = (.val bs, s1) →
            (∀ y, cmd.sty = some y → cpxPair (layoutOf (natLE bs)).ty y = true) →
            (∀ f, c.copyPlan cmd cr.toNat ra (natLE bs) = .error f → exec i s = .next (s1.takeFault c.ti c.gi c.ei f)) ∧
            (∀ p, c.copyPlan cmd cr.toNat ra (natLE bs) = .ok p →
              let room := (∀ q, p.slot = some q → (c.team.stream q.1).room = true) ∧ (s.core c.team.core).lockRoom 1 = true
              (¬ room → exec i s = .next s) ∧
              (room → ∃ t', exec i s = .next t' ∧
                t'.keeps (s.modTeam c.ti fun x => { x with bars := (t'.team c.ti).bars, streams := (t'.team c.ti).streams })
                  c.ti c.gi ∧
                t'.group c.ti c.gi = ({ c.grp.flagUp (c.flagNo op) with
                  tokens := if t.toNat = 63 then c.grp.tokens else c.grp.tokens ++ [t.toNat]
                  copies := c.grp.copies + 1 }).retire c.ei op ∧
                (t'.team c.ti).bars = (if p.y.pb then
                  SMap.put Barrier.zero c.team.bars cmd.bar
                    { c.team.bar cmd.bar with xexp := (c.team.bar cmd.bar).xexp + p.bytes }.settle
                  else c.team.bars) ∧
                (t'.team c.ti).streams = (match p.slot with
                  | some q => SMap.put Stream.zero c.team.streams q.1 ((c.team.stream q.1).claim false)
                  | none => c.team.streams) ∧
                (let glob := p.y.globalSpan p.coord (tyWidth (cmd.sty.getD p.y.ty))
                 let spad : Option Interval := some { spad := true, lo := p.d, len := p.bytes }
                 (t'.core c.team.core).locks = (s.core c.team.core).locks ++ [{
                   id := s1.nextId, fen := c.fen, team := c.ti
                   src := if cmd.toGlobal then spad else glob, dst := if cmd.toGlobal then glob else spad }]) ∧
                t'.copies = s.copies ++ [{
                  id := s1.nextId, team := c.ti, group := c.gi, core := c.team.core, engine := e, fen := c.fen
                  rec_ := BitVec.ofNat 512 (natLE bs), coord := p.coord, d := p.d, toGlobal := cmd.toGlobal
                  bar := if p.y.pb then some cmd.bar else none, stream := p.slot
                  tok := if t.toNat = 63 then none else some t.toNat, flag := c.flagNo op
                  sty := cmd.sty.getD p.y.ty, crm := cmd.crm, csat := cmd.csat, bytes := p.bytes
                  waits := none, asked := none, failed := [] }]))))))

/-- R260, R261, R273: `cpl` is accepted with each lane's count, source and scratchpad offset, or raises its failing lanes, and
waits while the range-lock table is full; `cpg` reads the copies in flight of the group or of the team, the bytes that the
group's copies have completed, or the time that groups have waited at a stream, and raises FLT_ILLEGAL_OP for another selector;
`cpf` waits while the group has a copy in flight, and then retires, and later loads see what they wrote (what `joined` marks is
the model's, DESIGN CHOICE, log entry 131, as is that a `v` register gives `cpl` its count alone under a 64-bit type, log entry
149). -/
def Obligations.LaneCopyAndCounterWords : Prop :=
  ∀ (c : Ctx) (s : State),
    (∀ (b : Src) (d a : BitVec 7), wellFormed (.cpl b d a) = true →
      c.MayIssue s 0x182 (d.toNat :: a.toNat :: b.vs) [a.toNat] b.ss →
      ((∃ l ∈ c.lanes, 32 < c.low32 b l) → exec (.cpl b d a) s = .next (s.takeFault c.ti c.gi c.ei
        { cause := 0x83, lanes := maskOf (c.lanes.filter fun l => 32 < c.low32 b l) })) ∧
      ((∀ l ∈ c.lanes, c.low32 b l ≤ 32) → (s.core c.team.core).lockRoom 1 = false → exec (.cpl b d a) s = .next s) ∧
      ((∀ l ∈ c.lanes, c.low32 b l ≤ 32) → (s.core c.team.core).lockRoom 1 = true → ∀ f,
        cplFault (c.lanes.map fun l => (l, s.cplLane c b d.toNat a.toNat l)) = some f →
        exec (.cpl b d a) s = .next (s.takeFault c.ti c.gi c.ei f)) ∧
      ((∀ l ∈ c.lanes, c.low32 b l ≤ 32) → (s.core c.team.core).lockRoom 1 = true → ∀ x : Nat → CplLane,
        (∀ l ∈ c.lanes, s.cplLane c b d.toNat a.toNat l = .ok (x l)) →
        ∃ t, exec (.cpl b d a) s = .next t ∧ t.keeps s c.ti c.gi ∧
          (t.group c.ti c.gi).sameRegs (c.grp.retire c.ei 0x182) ∧
          (t.group c.ti c.gi).flag (c.flagNo 0x182) = c.grp.flag (c.flagNo 0x182) + 1 ∧
          (t.group c.ti c.gi).copies = c.grp.copies + 1 ∧
          t.cpls = s.cpls ++ [{ id := s.nextId, team := c.ti, group := c.gi, core := c.team.core, fen := c.fen
                                flag := c.flagNo 0x182, lanes := c.lanes.map x }] ∧
          (t.core c.team.core).locks = (s.core c.team.core).locks ++ [{
            id := s.nextId, fen := c.fen, team := c.ti, src := none, dst := some (cplSpan (c.lanes.map x)) }])) ∧
    (∀ (d : BitVec 6) (sel : BitVec 7), c.MayIssue s 0x183 [] [] [d.toNat] →
      let reads := fun x => exec (.cpg d sel) s = .next (s.after c 0x183 (c.grp.writeS d.toNat (BitVec.ofNat 64 x)))
      let waited := fun (g : Group) (q : Nat) => match g.block with
        | some { kind := .qpop x, since := t, .. } => if x = q then s.now - max t (c.team.stream q).start else 0
        | _ => 0
      (sel = 0 → reads c.grp.copies) ∧ (sel = 1 → reads (c.team.groups.map fun g => g.2.copies).sum) ∧
      (sel = 2 → reads c.grp.copyBytes) ∧
      (8 ≤ sel.toNat → sel.toNat ≤ 15 → reads ((c.team.stream (sel.toNat - 8)).stall +
        (c.team.groups.map fun g => waited g.2 (sel.toNat - 8)).sum)) ∧
      ((2 < sel.toNat ∧ sel.toNat < 8) ∨ 15 < sel.toNat →
        exec (.cpg d sel) s = .next (s.takeFault c.ti c.gi c.ei { cause := 0x01 }))) ∧
    (c.MayIssue s 0x184 [] [] [] → c.grp.copies ≠ 0 → exec .cpf s = .next s) ∧
    (c.MayIssue s 0x184 [] [] [] → c.grp.copies = 0 →
      exec .cpf s = .next (s.after c 0x184 { c.grp with floor := s.nextId, joined := s.nextId }))

/-- R161, R264 to R267, R302: the barrier words. Once the phase has completed, `bwait` and `btest` make later loads of the
group use no older L1 sector; what else its later releases follow, which `joined` marks, is the model's (DESIGN CHOICE, log entry
131). The model's own too (DEDUCED): phases that become complete together settle with nothing between, `barv` waits until the
group's stores have left its queue (log entry 46), and a `bwait` that blocks clears the flashback record (R100, log entry 101). -/
def Obligations.BarrierWords : Prop :=
  ∀ (n : BitVec 4) (c : Ctx) (s : State), n.toNat < c.team.nbar →
    let x := c.team.bar n.toNat
    (∀ b : Src, wellFormed (.binit b n) = true → c.MayIssue s 0x190 [] [] b.ss →
      (x.arr ≠ 0 ∨ x.xexp ≠ 0 ∨ x.xarr ≠ 0 →
        exec (.binit b n) s = .next (s.takeFault c.ti c.gi c.ei { cause := 0x86 })) ∧
      (x.arr = 0 → x.xexp = 0 → x.xarr = 0 → (uniOperand c.grp b).toNat = 0 ∨ 1023 < (uniOperand c.grp b).toNat →
        exec (.binit b n) s = .next (s.takeFault c.ti c.gi c.ei { cause := 0x87 })) ∧
      (x.arr = 0 → x.xexp = 0 → x.xarr = 0 → 1 ≤ (uniOperand c.grp b).toNat → (uniOperand c.grp b).toNat ≤ 1023 →
        exec (.binit b n) s = .next ((s.modTeam c.ti fun t => t.setBar n.toNat
          { x with members := (uniOperand c.grp b).toNat }.settle).retire c 0x190))) ∧
    (∀ d : BitVec 6, c.MayIssue s 0x191 [] [] [d.toNat] →
      (x.members = 0 → exec (.barv d n) s = .next (s.takeFault c.ti c.gi c.ei { cause := 0x85 })) ∧
      (x.members ≠ 0 → x.arr = 1023 → exec (.barv d n) s = .next (s.takeFault c.ti c.gi c.ei { cause := 0x87 })) ∧
      (x.members ≠ 0 → x.arr ≠ 1023 → s.storesAt c.ti c.gi 1 = false → exec (.barv d n) s = .next s) ∧
      (x.members ≠ 0 → x.arr ≠ 1023 → s.storesAt c.ti c.gi 1 = true →
        let p := (x.phase + x.arr / x.members) % 2 ^ 16
        ∃ t, exec (.barv d n) s = .next t ∧
          t.keeps (s.modTeam c.ti fun y => { y with bars := (t.team c.ti).bars }) c.ti c.gi ∧
          t.group c.ti c.gi = ({ c.grp.writeS d.toNat (BitVec.ofNat 64 p) with
            lph := SMap.put 0 c.grp.lph n.toNat (BitVec.ofNat 16 p) }).retire c.ei 0x191 ∧
          (t.team c.ti).bars = SMap.put Barrier.zero c.team.bars n.toNat { x with arr := x.arr + 1 }.settle)) ∧
    (∀ b : Src, wellFormed (.bexp b n) = true → c.MayIssue s 0x192 [] [] b.ss →
      let y := x.xexp + (uniOperand c.grp b).toNat % 2 ^ 32
      (x.members = 0 → exec (.bexp b n) s = .next (s.takeFault c.ti c.gi c.ei { cause := 0x85 })) ∧
      (x.members ≠ 0 → 2 ^ 32 ≤ y → exec (.bexp b n) s = .next (s.takeFault c.ti c.gi c.ei { cause := 0x87 })) ∧
      (x.members ≠ 0 → y < 2 ^ 32 → exec (.bexp b n) s = .next ((s.modTeam c.ti fun t => t.setBar n.toNat
        { x with xexp := y }.settle).retire c 0x192))) ∧
    (∀ b : Src, wellFormed (.bwait b n) = true → c.MayIssue s 0x193 [] [] b.ss →
      (x.phase ≠ c.phaseOf b n.toNat →
        exec (.bwait b n) s = .next (s.after c 0x193 { c.grp with block := none, floor := s.nextId, joined := s.nextId })) ∧
      (x.phase = c.phaseOf b n.toNat → ∃ t, exec (.bwait b n) s = .next t ∧
        t.keeps s c.ti c.gi ∧ (t.group c.ti c.gi).sameRegs c.grp ∧ (t.group c.ti c.gi).entries = c.grp.entries ∧
        (t.group c.ti c.gi).fb = none ∧ ∃ k, (t.group c.ti c.gi).block = some k ∧ k.kind = .bwait n.toNat (c.phaseOf b n.toNat))) ∧
    (∀ (b : Src) (p : BitVec 3), wellFormed (.btest b p n) = true → c.MayIssue s 0x194 [] [] b.ss →
      exec (.btest b p n) s = .next (s.after c 0x194 (if x.phase ≠ c.phaseOf b n.toNat
        then { c.grp.writePs p.toNat c.active (BitVec.allOnes 32) with floor := s.nextId, joined := s.nextId }
        else c.grp.writePs p.toNat c.active 0)))

/-- R161, R268 to R271: the stream words. A stream above the team's count is FLT_ILLEGAL_OP, for `qcfg` too (DEDUCED, log entry
146), and one that is not configured FLT_STREAM_CONFIG. `qpush.res` waits while no slot is free. STALL counts from the last
`qcfg` on, and `qpop` makes later loads of the group use no older L1 sector (what `joined` marks is the model's, DESIGN CHOICE,
log entry 131). That `qpush.pub` waits until the group's stores have left its queue is the model's reading (DEDUCED, log entry
46), and that a `qpop` that blocks clears the flashback record (R100; DEDUCED, log entry 101). -/
def Obligations.StreamWords : Prop :=
  (∀ (i : Instr) (op : Nat) (n : BitVec 3) (ss : List Nat) (c : Ctx) (s : State),
    ((∃ b, i = .qcfg n b ∧ op = 0x188 ∧ ss = [b.toNat]) ∨ (∃ d, i = .qpushRes d n ∧ op = 0x189 ∧ ss = [d.toNat]) ∨
      (i = .qpushPub n ∧ op = 0x189 ∧ ss = []) ∨ (i = .qfree n ∧ op = 0x18A ∧ ss = []) ∨
      ∃ d, i = .qpop d n ∧ op = 0x18B ∧ ss = [d.toNat]) → c.MayIssue s op [] [] ss →
    (c.team.nstr ≤ n.toNat → exec i s = .next (s.takeFault c.ti c.gi c.ei { cause := 0x01 })) ∧
    (n.toNat < c.team.nstr → (c.team.stream n.toNat).v = false → op ≠ 0x188 →
      exec i s = .next (s.takeFault c.ti c.gi c.ei { cause := 0x88 }))) ∧
  ∀ (n : BitVec 3) (c : Ctx) (s : State), n.toNat < c.team.nstr →
    let q := c.team.stream n.toNat
    let put := fun (t : Team) (x : Stream) => t.setStream n.toNat x
    (∀ b : BitVec 6, c.MayIssue s 0x188 [] [] [b.toNat] →
      let v := (c.grp.readS b.toNat).toNat
      (q.nc ≠ 0 ∨ q.np ≠ 0 → exec (.qcfg n b) s = .next (s.takeFault c.ti c.gi c.ei { cause := 0x89 })) ∧
      (q.nc = 0 → q.np = 0 → streamBad c.team v = true →
        exec (.qcfg n b) s = .next (s.takeFault c.ti c.gi c.ei { cause := 0x88 })) ∧
      (q.nc = 0 → q.np = 0 → streamBad c.team v = false →
        exec (.qcfg n b) s = .next ((s.modTeam c.ti fun t => put t { q with
          base := bitsOf v 0 19, nsm1 := bitsOf v 24 6, ssz := bitsOf v 32 12, freei := 0, v := true, filled := 0, hand := 0
          stall := 0, start := s.now }).retire c 0x188))) ∧
    (∀ d : BitVec 6, c.MayIssue s 0x189 [] [] [d.toNat] → q.v = true → q.nsm1 + 1 ≤ q.np + q.nc →
      exec (.qpushRes d n) s = .next s) ∧
    (∀ d : BitVec 6, c.MayIssue s 0x189 [] [] [d.toNat] → q.v = true → q.np + q.nc < q.nsm1 + 1 →
      ∃ t, exec (.qpushRes d n) s = .next t ∧
        t.keeps (s.modTeam c.ti fun y => { y with streams := (t.team c.ti).streams }) c.ti c.gi ∧
        t.group c.ti c.gi = (c.grp.writeS d.toNat (BitVec.ofNat 64 (q.offset q.claimIdx))).retire c.ei 0x189 ∧
        (t.team c.ti).streams = (put c.team (q.claim true)).streams) ∧
    (c.MayIssue s 0x189 [] [] [] → q.v = true →
      (q.handSlot = none → exec (.qpushPub n) s = .next (s.takeFault c.ti c.gi c.ei { cause := 0x8A })) ∧
      (∀ k, q.handSlot = some k → s.storesAt c.ti c.gi 1 = false → exec (.qpushPub n) s = .next s) ∧
      (∀ k, q.handSlot = some k → s.storesAt c.ti c.gi 1 = true →
        exec (.qpushPub n) s = .next ((s.modTeam c.ti fun t =>
          put t { q.fill k with hand := clearBitN q.hand k }).retire c 0x189))) ∧
    (c.MayIssue s 0x18A [] [] [] → q.v = true →
      (q.np = 0 → exec (.qfree n) s = .next (s.takeFault c.ti c.gi c.ei { cause := 0x8A })) ∧
      (q.np ≠ 0 → exec (.qfree n) s = .next ((s.modTeam c.ti fun t =>
        put t { q with freei := (q.freei + 1) % (q.nsm1 + 1), np := q.np - 1 }).retire c 0x18A))) ∧
    (∀ d : BitVec 6, c.MayIssue s 0x18B [] [] [d.toNat] →
      (q.v = true → q.canPop = true → ∃ t, exec (.qpop d n) s = .next t ∧
        t.keeps (s.modTeam c.ti fun y => { y with streams := (t.team c.ti).streams }) c.ti c.gi ∧
        t.group c.ti c.gi =
          ({ { c.grp with block := none }.writeS d.toNat (BitVec.ofNat 64 (q.offset q.popIdx)) with
            floor := s.nextId, joined := s.nextId }).retire c.ei 0x18B ∧
        (t.team c.ti).streams = (put c.team { q with
          filled := clearBitN q.filled q.popIdx, nc := q.nc - 1, np := q.np + 1
          stall := q.stall + c.grp.stalledOn s.now q.start n.toNat }).streams) ∧
      (q.v = true → q.canPop = false → ∃ t, exec (.qpop d n) s = .next t ∧
        t.keeps s c.ti c.gi ∧ (t.group c.ti c.gi).sameRegs c.grp ∧ (t.group c.ti c.gi).entries = c.grp.entries ∧
        (t.group c.ti c.gi).fb = none ∧ ∃ k, (t.group c.ti c.gi).block = some k ∧ k.kind = .qpop n.toNat))

/-- R297, R303: `iodb` and `iodb.cq` hand their mark to Reed, counted by their flag; `iobind` makes the handle's remap entry
deliver to a barrier of the team, and `iounb` returns it to system software. A handle that is not loaded, or has no completion
queue for `iodb.cq`, raises FLT_IO_HANDLE; a slot outside the queue, or one that two lanes name, FLT_IO_SLOT; a vector that is
not valid, or of another fen, FLT_IO_VECTOR; one bound to another team FLT_IO_BOUND; a handle of another fen FLT_DOMAIN_ENGINE.
`iodb` waits while the range-lock table is full. That the entry remembers the number given to the team is the model's choice
(DESIGN CHOICE, log entry 92), as is that a `v` register gives the slots alone under a 64-bit type (log entry 149). -/
def Obligations.QueueHandleWords : Prop :=
  ∀ (a : BitVec 6) (c : Ctx) (s : State),
    let x := c.handle s a.toNat
    (∀ (b : Src) (cq : Bool) (i : Instr), i = (if cq then .iodbCq b a else .iodb b a) → wellFormed i = true →
      c.MayIssue s 0x1A0 b.vs [] (a.toNat :: b.ss) →
      let h := (c.grp.readS a.toNat).toNat
      let slot := fun l => c.low32 b l
      let bad := fun l => (if cq = true then x.cqm1 else x.sqm1) < slot l ∨ ∃ m ∈ c.lanes, m ≠ l ∧ slot m = slot l
      let none_ := 1024 ≤ h ∨ x.loaded = false ∨ (cq = true ∧ x.cqv = false)
      (none_ → exec i s = .next (s.takeFault c.ti c.gi c.ei { cause := 0x90 })) ∧
      (¬ none_ → (∃ l ∈ c.lanes, bad l) → ∀ m : W32, (∀ l < 32, m.getLsbD l = true ↔ l ∈ c.lanes ∧ bad l) →
        exec i s = .next (s.takeFault c.ti c.gi c.ei { cause := 0x91, lanes := m })) ∧
      (¬ none_ → (∀ l ∈ c.lanes, ¬ bad l) → x.fen ≠ c.fen →
        exec i s = .next (s.takeFault c.ti c.gi c.ei { cause := 0xB4 })) ∧
      (¬ none_ → (∀ l ∈ c.lanes, ¬ bad l) → x.fen = c.fen → cq = false → (s.core c.team.core).lockRoom 1 = false →
        exec i s = .next s) ∧
      (¬ none_ → (∀ l ∈ c.lanes, ¬ bad l) → x.fen = c.fen →
        (cq = true ∨ (s.core c.team.core).lockRoom 1 = true) → ∃ t, exec i s = .next t ∧ t.keeps s c.ti c.gi ∧
          (t.group c.ti c.gi).sameRegs (c.grp.retire c.ei 0x1A0) ∧
          (t.group c.ti c.gi).flag (c.flagNo 0x1A0) = c.grp.flag (c.flagNo 0x1A0) + 1 ∧
          t.reed.marks = s.reed.marks ++ [{
            id := s.nextId, team := c.ti, group := c.gi, handle := (c.grp.readS a.toNat).toNat, load := x.load, cq := cq
            slots := c.lanes.map fun l => (c.low32 b l, l), flag := c.flagNo 0x1A0, core := c.team.core
            joined := c.grp.joined, due := none }])) ∧
    (∀ (n : BitVec 4) (i : Instr) (op : Nat), (i = .iobind a n ∧ op = 0x1A1) ∨ (i = .iounb a ∧ op = 0x1A2) →
      c.MayIssue s op [] [] [a.toNat] →
      let y := s.remap x.rmap
      let none_ := 1024 ≤ (c.grp.readS a.toNat).toNat ∨ x.loaded = false
      let stray := y.v = false ∨ y.fen ≠ x.fen
      let taken := y.mode = 1 ∧ y.uid ≠ some c.ti
      let fault := fun code : Nat => exec i s = .next (s.takeFault c.ti c.gi c.ei { cause := code })
      (op = 0x1A1 → c.team.nbar ≤ n.toNat → fault 0x01) ∧
      (op = 0x1A2 ∨ n.toNat < c.team.nbar →
        (none_ → fault 0x90) ∧ (¬ none_ → stray → fault 0x93) ∧ (¬ none_ → ¬ stray → taken → fault 0x92) ∧
        (¬ none_ → ¬ stray → ¬ taken → x.fen ≠ c.fen → fault 0xB4))) ∧
    (∀ n : BitVec 4, n.toNat < c.team.nbar → c.MayIssue s 0x1A1 [] [] [a.toNat] → c.bindCheck s a.toNat = .ok () →
      (x.fen ≠ c.fen → exec (.iobind a n) s = .next (s.takeFault c.ti c.gi c.ei { cause := 0xB4 })) ∧
      (x.fen = c.fen → exec (.iobind a n) s = .next ((s.setRemap x.rmap { s.remap x.rmap with
        mode := 1, bar := n.toNat, seq := c.team.seq, team := c.team.linear, uid := some c.ti }).retire c 0x1A1))) ∧
    (c.MayIssue s 0x1A2 [] [] [a.toNat] → c.bindCheck s a.toNat = .ok () → x.fen = c.fen →
      exec (.iounb a) s = .next ((if (s.remap x.rmap).mode = 1
        then s.setRemap x.rmap { s.remap x.rmap with mode := 0, uid := none } else s).retire c 0x1A2))

/-- R293, R294: `prqpop` delivers the oldest entry that was not popped, or zeros; `prqack` answers a popped entry, and
raises FLT_PRQ_TAG for another. R288, R304, R305: `cfgrd` and `cfgwr` send a configuration request, the one counted
by its flag, the other blocking its group; `ntbmap` sets or clears a window. A bad address raises FLT_CFG_TARGET, a bad
descriptor FLT_NTB_WINDOW; of one that unmaps only the zero fields are checked, which is the model's reading (DEDUCED, log
entry 54). -/
def Obligations.PageRequestAndWindowWords : Prop :=
  (∀ (d a : BitVec 6) (code : BitVec 2) (c : Ctx) (s : State),
    (wellFormed (.prqpop d) = true → c.MayIssue s 0x1A8 [] [] (sRange d.toNat 4) →
      (s.reed.prq.find? (fun e => !e.popped) = none →
        exec (.prqpop d) s = .next (s.after c 0x1A8 (c.grp.writeS4 d.toNat []))) ∧
      (∀ e, s.reed.prq.find? (fun e => !e.popped) = some e →
        exec (.prqpop d) s = .next ((s.popPage e.tag).after c 0x1A8 (c.grp.writeS4 d.toNat
          [1 + e.src * 2 + e.acc * 2 ^ 4 + b2n e.last * 2 ^ 6 + e.prgi * 2 ^ 7 + e.fen * 2 ^ 16 + e.tag * 2 ^ 32, e.va
          , e.rid + e.port * 2 ^ 16 + e.pasid * 2 ^ 22, e.time])))) ∧
    (c.MayIssue s 0x1A9 [] [] [a.toNat] → wellFormed (.prqack a code) = true →
      (c.ackEntry s a.toNat = none → exec (.prqack a code) s = .next (s.takeFault c.ti c.gi c.ei { cause := 0x96 })) ∧
      (∀ e, c.ackEntry s a.toNat = some e → s.storesAt c.ti c.gi 3 = true →
        e ∈ s.reed.prq ∧ e.popped = true ∧
        exec (.prqack a code) s = .next ((s.ackPage e code.toNat).retire c 0x1A9)))) ∧
  (∀ (d a b : BitVec 6) (c : Ctx) (s : State),
    let x := (c.grp.readS a.toNat).toNat
    (c.MayIssue s 0x1AA [] [] [d.toNat, a.toNat] →
      (s.cfgTarget x = false → exec (.cfgrd d a) s = .next (s.takeFault c.ti c.gi c.ei { cause := 0x94 })) ∧
      (s.cfgTarget x = true → ∃ t, exec (.cfgrd d a) s = .next t ∧ t.keeps s c.ti c.gi ∧
        (t.group c.ti c.gi).sameRegs (c.grp.retire c.ei 0x1AA) ∧
        (t.group c.ti c.gi).pend = c.grp.pend ++ [{ Pending.new s.nextId (c.flagNo 0x1AA) with waiting := 1 }] ∧
        t.reed.cfg = s.reed.cfg ++ [{ team := c.ti, group := c.gi, pend := some s.nextId, addr := x, write := false
                                      data := 0, dst := d.toNat, since := s.now }])) ∧
    (c.MayIssue s 0x1AB [] [] [d.toNat, a.toNat, b.toNat] →
      (s.cfgTarget x = false → exec (.cfgwr d a b) s = .next (s.takeFault c.ti c.gi c.ei { cause := 0x94 })) ∧
      (s.cfgTarget x = true → ∃ t, exec (.cfgwr d a b) s = .next t ∧ t.keeps s c.ti c.gi ∧
        (t.group c.ti c.gi).sameRegs (c.grp.retire c.ei 0x1AB) ∧
        (t.group c.ti c.gi).block = some { kind := .cfg, entry := c.ei, since := s.now } ∧
        t.reed.cfg = s.reed.cfg ++ [{ team := c.ti, group := c.gi, pend := none, addr := x, write := true
                                      data := (c.grp.readS b.toNat).toNat % 2 ^ 32, dst := d.toNat, since := s.now }])) ∧
    (wellFormed (.ntbmap a) = true → c.MayIssue s 0x1AC [] [] (sRange a.toNat 4) →
      let y := c.descriptor a.toNat
      let w := windowOf y
      (s.windowOk y = false → exec (.ntbmap a) s = .next (s.takeFault c.ti c.gi c.ei { cause := 0x95 })) ∧
      (s.windowOk y = true → w.v = true ∨ s.windowBusy (s.window w.win) = false →
        exec (.ntbmap a) s = .next ({ s with reed := { s.reed with
          ntbw := SMap.put 0 s.reed.ntbw w.win (if w.v then BitVec.ofNat 256 y else 0) } }.retire c 0x1AC))))

/-- R311, R319 to R321: `enq` takes a slot of its queue and leaves its record to be copied, or finds the queue full; a queue
that is not enabled raises FLT_ENQ_QUEUE, one of another fen FLT_DOMAIN_ENGINE, an address that fails its checks its fault;
`rsub` deposits its lanes' payloads; `launch` takes the records that system software has placed, or says why it takes none, and
an operand with a reserved bit raises FLT_DST_TARGET. That `enq` on a system core raises FLT_ENQ_QUEUE, and that `rsub` has no
effect there or for a stopped grid, is the model's reading (DEDUCED, log entry 72), as is the answer of `launch` for a number
that is no partition (DEDUCED, log entry 56); that `enq` looks at its queue's own enable alone is the model's choice (DESIGN
CHOICE, log entry 124). -/
def Obligations.LaunchWords : Prop :=
  ∀ (c : Ctx) (s : State),
    (∀ (b : Src) (p : BitVec 3) (a : BitVec 7), wellFormed (.enq b p a) = true →
      c.MayIssue s 0x1B0 [a.toNat] [a.toNat] b.ss →
      let q := c.enqQueue b
      let l := (s.part c.team.pid).queue q
      let ra := (c.grp.readV2 (lowLane c.active) a.toNat).toNat
      (c.enqCheck b s ≠ .ok () → exec (.enq b p a) s = .next (s.takeFault c.ti c.gi c.ei { cause := 0xA0 })) ∧
      (c.enqCheck b s = .ok () → l.fen ≠ c.fen →
        exec (.enq b p a) s = .next (s.takeFault c.ti c.gi c.ei { cause := 0xB4 })) ∧
      (∀ cause at_ mc, c.enqCheck b s = .ok () → l.fen = c.fen →
        s.chk c { op := 0x1B0, bytes := 64, r := true, w := false, kind := 1 } false ra = .bad cause at_ mc →
        exec (.enq b p a) s = .next (s.takeFault c.ti c.gi c.ei { c.leaderFlt cause at_ 1 with mcpa := mc })) ∧
      (∀ x, c.enqCheck b s = .ok () → l.fen = c.fen →
        s.chk c { op := 0x1B0, bytes := 64, r := true, w := false, kind := 1 } false ra = .ok x →
        (l.held < 2 ^ l.log2 → (s.core c.team.core).lockRoom 1 = false → exec (.enq b p a) s = .next s) ∧
        (2 ^ l.log2 ≤ l.held → exec (.enq b p a) s = .next (s.after c 0x1B0 (c.grp.writePs p.toNat c.active 0))) ∧
        (l.held < 2 ^ l.log2 → (s.core c.team.core).lockRoom 1 = true →
          exec (.enq b p a) s = .next ((c.acceptEnq q ra x.pa (s.setGroup c.ti c.gi
            (c.grp.writePs p.toNat c.active (BitVec.allOnes 32)))).retire c 0x1B0)))) ∧
    (∀ (d a : BitVec 7) (b : BitVec 6), c.MayIssue s 0x1B1 [d.toNat, a.toNat] [a.toNat] [b.toNat] →
      (s.part c.team.pid).deposits + c.lanes.length ≤ 4096 →
      (c.team.system = false → (∃ g, (s.part c.team.pid).grid c.team.grid = some g ∧ g.stop = false) →
        exec (.rsub d a b) s = .next ((s.modPart c.team.pid fun x => { x with bins := (c.lanes.foldl (fun bs l =>
          depositIn c.team.grid (c.grp.readS b.toNat).toNat ((c.grp.readV l d.toNat).toNat % 2 ^ 16) s.now
            (c.grp.readV2 l a.toNat) bs) x.bins) }).retire c 0x1B1)) ∧
      (c.team.system = true ∨ (∀ g, (s.part c.team.pid).grid c.team.grid = some g → g.stop = true) →
        exec (.rsub d a b) s = .next (s.after c 0x1B1 c.grp))) ∧
    (∀ (d a : BitVec 6) (n : BitVec 7), wellFormed (.launch d a n) = true → c.MayIssue s 0x1B8 [] [] [d.toNat, a.toNat] →
      bitsOf (c.grp.readS a.toNat).toNat 12 52 ≠ 0 →
      exec (.launch d a n) s = .next (s.takeFault c.ti c.gi c.ei { cause := 0xA2 })) ∧
    (∀ (d a : BitVec 6) (n : BitVec 7), wellFormed (.launch d a n) = true → c.MayIssue s 0x1B8 [] [] [d.toNat, a.toNat] →
      s.storesAt c.ti c.gi 3 = true →
      let v := (c.grp.readS a.toNat).toNat
      let p := bitsOf v 0 6
      let q := bitsOf v 6 6
      let l := (s.part p).queue q
      let closed := !s.isPart p || s.sys.gated.getLsbD p || !(s.part p).en || !l.en
      let result := fun (t : State) (x : Nat) =>
        (t.modGroup c.ti c.gi fun g => g.writeS d.toNat (BitVec.ofNat 64 x)).retire c 0x1B8
      bitsOf v 12 52 = 0 →
      (closed = true → exec (.launch d a n) s = .next (result s (2 * 2 ^ 56))) ∧
      (closed = false → 2 ^ l.log2 < l.held + n.toNat + 8 → exec (.launch d a n) s = .next (result s (2 ^ 56))) ∧
      (closed = false → l.held + n.toNat + 8 ≤ 2 ^ l.log2 → exec (.launch d a n) s = .next (result
        ((List.range n.toNat).foldl (fun s _ => s.launchOne p q) s) (l.nseq + n.toNat * 2 ^ 48))))

/-- R325, R329, R330: `preempt` takes every named resident team off its core; the `resume` words dispose of the team whose
fault record is named, and raise FLT_RESUME_INDEX where there is none; `lend` and `reclaim` move a core between partitions; a
malformed operand of each raises FLT_DST_TARGET. The model's own (DEDUCED): a second `resume` of one record finds none, and
operation 3 ends the team with no core (log entry 71); HOLD is set in the partition of the named fen (log entry 73). -/
def Obligations.SchedulingWords : Prop :=
  ∀ (d a : BitVec 6) (c : Ctx) (s : State),
    let v := (c.grp.readS a.toNat).toNat
    let result := fun (t : State) (op x : Nat) => (t.modGroup c.ti c.gi fun g => g.writeS d.toNat (BitVec.ofNat 64 x)).retire c op
    let resident := fun (core fen : Nat) => (s.teams.filter fun t =>
      t.2.status = .resident && t.2.core = core && (fen = 0xFF || t.2.fen = fen)).map (·.1)
    (c.MayIssue s 0x1B9 [] [] [d.toNat, a.toNat] →
      (191 < bitsOf v 0 8 ∨ bitsOf v 17 47 ≠ 0 →
        exec (.preempt d a) s = .next (s.takeFault c.ti c.gi c.ei { cause := 0xA2 })) ∧
      (bitsOf v 0 8 ≤ 191 → bitsOf v 17 47 = 0 →
        bitOf v 16 = false ∨ bitsOf v 8 8 = 0xFF ∨ bitsOf v 8 8 = 0 ∨ (s.fen (bitsOf v 8 8)).v = false →
        exec (.preempt d a) s = .next (result ((resident (bitsOf v 0 8) (bitsOf v 8 8)).foldl
          (fun s ti => s.haltTeam ti .preempt) s) 0x1B9 (resident (bitsOf v 0 8) (bitsOf v 8 8)).length)) ∧
      (bitsOf v 0 8 ≤ 191 → bitsOf v 17 47 = 0 → bitOf v 16 = true → bitsOf v 8 8 ≠ 0xFF → bitsOf v 8 8 ≠ 0 →
        (s.fen (bitsOf v 8 8)).v = true → ∃ h, bitsOf v 8 8 ∈ h ∧
          (∀ f, f ≠ bitsOf v 8 8 → (f ∈ h ↔ f ∈ (s.part (s.fen (bitsOf v 8 8)).pid).hold)) ∧
          exec (.preempt d a) s = .next (result (((resident (bitsOf v 0 8) (bitsOf v 8 8)).foldl
            (fun s ti => s.haltTeam ti .preempt) s).modPart (s.fen (bitsOf v 8 8)).pid fun x => { x with hold := h })
            0x1B9 (resident (bitsOf v 0 8) (bitsOf v 8 8)).length))) ∧
    (∀ (i : Instr) (pr regs : Nat), resumeForm d a i = some (pr, regs) → wellFormed i = true →
      c.MayIssue s 0x1BA [] [] (d.toNat :: a.toNat :: pr :: sRange a.toNat regs) →
      let w := (c.grp.readS pr).toNat
      (bitsOf w 6 58 ≠ 0 ∨ s.isPart (w % 64) = false → exec i s = .next (s.takeFault c.ti c.gi c.ei { cause := 0xA2 })) ∧
      (bitsOf w 6 58 = 0 → s.isPart (w % 64) = true →
      (s.faulted (w % 64) v = none → exec i s = .next (s.takeFault c.ti c.gi c.ei { cause := 0xA3 })) ∧
      (∀ ti t, s.faulted (w % 64) v = some (ti, t) →
        (i = .resumeRestart d a → exec i s = .next (result (s.setTeam ti { t with resumed := true }) 0x1BA 0)) ∧
        (i = .resumeSkip d a → exec i s = .next (result (s.setTeam ti { t.skipWord with resumed := true }) 0x1BA 0)) ∧
        (i = .resumeSkipArgs d a → exec i s = .next (result (s.setTeam ti
          { t.skipWord.setGroup t.faultAt.1 ((List.range 8).foldl
              (fun g k => g.writeS k (c.grp.readS (a.toNat + 1 + k))) (t.skipWord.group t.faultAt.1)) with
            resumed := true }) 0x1BA 0)) ∧
        (i = .resumeEnd d a → ∃ pc, exec i s = .next (result ((s.endTeam ti t.faultCause pc t.faultDefer).modTeam ti
          fun t => { t with core := 255 }) 0x1BA 0))))) ∧
    (c.MayIssue s 0x1BB [] [] [d.toNat, a.toNat] → 191 < bitsOf v 0 8 ∨ 2 ^ 14 ≤ v ∨ s.isPart (bitsOf v 8 6) = false →
      exec (.lend d a) s = .next (s.takeFault c.ti c.gi c.ei { cause := 0xA2 })) ∧
    (c.MayIssue s 0x1BC [] [] [d.toNat, a.toNat] → 191 < v →
      exec (.reclaim d a) s = .next (s.takeFault c.ti c.gi c.ei { cause := 0xA2 })) ∧
    (c.MayIssue s 0x1BB [] [] [d.toNat, a.toNat] → bitsOf v 0 8 ≤ 191 → v < 2 ^ 14 → s.isPart (bitsOf v 8 6) = true →
      ((s.core (bitsOf v 0 8)).lent ≠ none ∨ s.teamsOn (bitsOf v 0 8) ≠ [] →
        exec (.lend d a) s = .next (result s 0x1BB 1)) ∧
      ((s.core (bitsOf v 0 8)).lent = none → s.teamsOn (bitsOf v 0 8) = [] →
        exec (.lend d a) s = .next (result (s.modCore (bitsOf v 0 8) fun k =>
          { k with lent := some (bitsOf v 8 6) }) 0x1BB 0))) ∧
    (c.MayIssue s 0x1BC [] [] [d.toNat, a.toNat] → v ≤ 191 →
      ((s.core v).lent = none → exec (.reclaim d a) s = .next (result s 0x1BC 1)) ∧
      ((s.core v).lent ≠ none → exec (.reclaim d a) s = .next (result (((resident v 0xFF).foldl
        (fun s ti => s.haltTeam ti .reclaim) s).modCore v fun k => { k with returning := true }).returnCores 0x1BC 0)))

/-- R346 to R348: `gcall` of a descriptor that permits it enters the gate: the target's FENID is borne, `v` and `s` from the
passed counts up to `v15` and `s7` are cleared, and the group stands at the entry in mode 0x42; otherwise FLT_GATE. Until every
clause flag is zero and the gate's rows are free the word waits, also where Active() is empty, and then it does nothing more.
Inside a gate it raises FLT_GATE_OP, as R347 has it, where R346 gives FLT_GATE (DEDUCED, log entry 126). The gate's rows, `v16`
upwards, read zero. `gret` returns after the calling clause with the passed registers as results and predicate Pd set, once
every clause flag is zero; outside a gate, from a split group or with a frame open it raises FLT_GATE. -/
def Obligations.GateWords : Prop :=
  ∀ (c : Ctx) (s : State),
    (∀ (i : Instr) (pd : Nat) (ss : List Nat) (n : Nat) (dsc : GateDesc), gateForm c i = some (pd, ss, n) →
      wellFormed i = true → c.MayIssue s 0x1C0 [] [] ss →
      (s.guard.gtsize ≤ n → exec i s = .next (s.takeFault c.ti c.gi c.ei { cause := 0xB7 })) ∧
      (c.gateCheck n s = .ok () → c.gateReady n s = false → exec i s = .next s) ∧
      (n < s.guard.gtsize → s.gateDesc n = .ok dsc → dsc.ok = false ∨ bitOf dsc.callers c.fen = false ∨
        s.sealedFen dsc.tfen ≠ s.sealedFen c.fen ∨ c.grp.unsplit = false ∨ (s.core c.team.core).slotOf dsc.tfen = none →
        exec i s = .next (s.takeFault c.ti c.gi c.ei { cause := 0xB7 })) ∧
      (c.gateCheck n s = .ok () → s.gateDesc n = .ok dsc → c.gateReady n s = true →
        ∃ t, exec i s = .next t ∧ t.keeps { s with guard := { s.guard with gcache := t.guard.gcache } } c.ti c.gi ∧
          (t.group c.ti c.gi).sameRegs { c.grp with s := (t.group c.ti c.gi).s, v := (t.group c.ti c.gi).v, lc := [] } ∧
          fenBorne (t.team c.ti) (t.group c.ti c.gi) = dsc.tfen ∧
          (t.group c.ti c.gi).entries = [(c.ei, newSplinter (pcOf dsc.entry) noFrame 0x42 c.ent.mask)] ∧
          (t.group c.ti c.gi).fb = none ∧
          (∀ l < 32, ∀ k < 16, dsc.pv ≤ k → (t.group c.ti c.gi).readV l k = 0) ∧
          (∀ k < 8, dsc.ps ≤ k → (t.group c.ti c.gi).readS k = 0) ∧
          (∀ l < 32, ∀ k < dsc.pv, (t.group c.ti c.gi).readV l k = c.grp.readV l k) ∧
          (∀ k < 62, k < dsc.ps ∨ 8 ≤ k → (t.group c.ti c.gi).readS k = c.grp.readS k) ∧
          (∀ l < 32, ∀ k, 16 ≤ k → (t.group c.ti c.gi).readV l k = 0))) ∧
    (∀ (i : Instr) (pd : Nat) (ss : List Nat) (n : Nat), gateForm c i = some (pd, ss, n) → wellFormed i = true →
      s.ctx = some c → c.stalled s = false → c.ent.mid = true → (∀ n ∈ ss, c.grp.tokens.contains n = false) →
      (c.grp.gate.isSome = true → exec i s = .next (s.takeFault c.ti c.gi c.ei { cause := 0xB8 })) ∧
      (c.grp.gate = none → c.active = 0 → c.gateCheck n s = .ok () → exec i s =
        .next (if c.gateReady n s = true then s.after c 0x1C0 c.grp else s))) ∧
    (c.MayIssue s 0x1C1 [] [] [] →
      (c.grp.gate = none ∨ c.grp.entries.length ≠ 1 ∨ c.grp.frames ≠ [] →
        exec .gret s = .next (s.takeFault c.ti c.gi c.ei { cause := 0xB7 })) ∧
      (c.grp.gate.isSome = true → c.grp.unsplit = true → c.grp.flagsZero 0xFFF = false → exec .gret s = .next s) ∧
      (∀ k, c.grp.gate = some k → c.grp.unsplit = true → c.grp.flagsZero 0xFFF = true →
        ∃ t, exec .gret s = .next t ∧ t.keeps s c.ti c.gi ∧ fenBorne (t.team c.ti) (t.group c.ti c.gi) = c.team.fen ∧
          let g := t.group c.ti c.gi
          g.gate = none ∧ g.frames = [] ∧
          (c.grp.ended = false → g.entries = [(0, newSplinter k.ret noFrame k.mode (~~~ c.grp.exited))]) ∧
          (∀ l < 32, ∀ n < 16, g.readV l n = if n < k.pv then c.grp.readV l n else 0) ∧
          (∀ l < 32, ∀ n < 127, 16 ≤ n → g.readV l n = SMap.get 0 c.grp.v (vkey l n)) ∧
          (∀ n < 63, g.readS n = if n ≠ 62 ∧ (n < k.ps ∨ 8 ≤ n) then c.grp.readS n else 0) ∧
          (∀ l < 32, ∀ n < 8, g.readP l n = (c.grp.readP l n || n = k.pd)) ∧ (∀ n < 3, g.readLC n = k.lcs.getD n 0) ∧
          g.sameRegs { c.grp with s := g.s, v := g.v, p := g.p, lc := g.lc }))

/-- R338, R344, R351, R352, R360: the words of fens, worlds and scrubs write their status, and change the machine only
with status 0. A malformed operand raises FLT_FEN_TARGET, and a fen or shares that a pending scrub holds
FLT_SCRUB_PENDING. That a whole-core entry carries FEN 0xFF is the model's choice (log entry 75). -/
def Obligations.FenWords : Prop :=
  ∀ (d a : BitVec 6) (c : Ctx) (s : State), s.storesAt c.ti c.gi 3 = true →
    let v := (c.grp.readS a.toNat).toNat
    let w := (c.grp.readS (a.toNat + 1)).toNat
    let result := fun (t : State) (op x : Nat) => (t.modGroup c.ti c.gi fun g => g.writeS d.toNat (BitVec.ofNat 64 x)).retire c op
    let fault := fun (i : Instr) (code : Nat) => exec i s = .next (s.takeFault c.ti c.gi c.ei { cause := code })
    (c.MayIssue s 0x1C8 [] [] [d.toNat, a.toNat] →
      let malformed := onlyBits v [(0, 9), (16, 6)] = false ∨ bitsOf v 0 8 = 0 ∨ bitsOf v 0 8 = 0xFF
      (malformed → fault (.kslot d a) 0xB9) ∧
      (¬ malformed → (∃ e ∈ s.scrubEnts, e.fen = bitsOf v 0 8) → fault (.kslot d a) 0xB6)) ∧
    (c.MayIssue s 0x1C9 [] [] [d.toNat, a.toNat] → v = 0 ∨ 0xFE < v → fault (.kzero d a) 0xB9) ∧
    (wellFormed (.scrub d a) = true → c.MayIssue s 0x1CA [] [] (d.toNat :: sRange a.toNat 2) →
      onlyBits v [(0, 2), (8, 8), (16, 24)] = false ∨ bitsOf v 0 2 ≠ 1 ∨ onlyBits w [(12, 40)] = false ∨
        runInside w (bitsOf v 16 24) = false → fault (.scrub d a) 0xB9) ∧
    (c.MayIssue s 0x1CB [] [] [d.toNat, a.toNat] → onlyBits v [(0, 9)] = false ∨ 191 < bitsOf v 0 8 →
      fault (.wlatch d a) 0xB9) ∧
    (wellFormed (.fset d a) = true → c.MayIssue s 0x1CC [] [] (d.toNat :: sRange a.toNat 3) →
      let r := c.fsetArgs a.toNat
      let z := (c.grp.readS (a.toNat + 2)).toNat
      let f := bitsOf v 16 8
      let malformed := onlyBits v [(0, 10), (16, 8)] = false ∨ 191 < bitsOf v 0 8 ∨ f = 0 ∨ 2 ^ 16 ≤ z ∨
        (f = 0xFF ∧ (w ≠ 0 ∨ z ≠ 0)) ∨ (f ≠ 0xFF ∧ ((s.fen f).v = false ∨ (s.core r.core).shareOk r.slot r.share = false))
      (malformed → fault (.fset d a) 0xB9) ∧
      (¬ malformed → f ≠ 0xFF → (∃ e ∈ s.scrubEnts, e.blocks r.core r.share = true) → fault (.fset d a) 0xB6)) ∧
    (c.MayIssue s 0x1C8 [] [] [d.toNat, a.toNat] → onlyBits v [(0, 9), (16, 6)] = true →
      1 ≤ bitsOf v 0 8 → bitsOf v 0 8 ≤ 0xFE → (∀ e ∈ s.scrubEnts, e.fen ≠ bitsOf v 0 8) →
      ((s.fen (bitsOf v 0 8)).v = true → exec (.kslot d a) s = .next (result s 0x1C8 1)) ∧
      ((s.fen (bitsOf v 0 8)).v = false → s.isPart (bitsOf v 16 6) = false →
        exec (.kslot d a) s = .next (result s 0x1C8 4)) ∧
      ((s.fen (bitsOf v 0 8)).v = false → s.isPart (bitsOf v 16 6) = true → ∃ key,
        exec (.kslot d a) s = .next (result ({ s.setFen (bitsOf v 0 8) { Fen.cold with
          v := true, world := bitOf v 8, pid := bitsOf v 16 6, key := key, idle := some s.now } with
            nfree := s.nfree + 1 }) 0x1C8 0))) ∧
    (c.MayIssue s 0x1C9 [] [] [d.toNat, a.toNat] → 1 ≤ v → v ≤ 0xFE →
      (s.fenBusy v = true → exec (.kzero d a) s = .next (result s 0x1C9 1)) ∧
      (s.fenBusy v = false → exec (.kzero d a) s = .next (result (s.killFen v) 0x1C9 0))) ∧
    (wellFormed (.scrub d a) = true → c.MayIssue s 0x1CA [] [] (d.toNat :: sRange a.toNat 2) →
      onlyBits v [(0, 2), (8, 8), (16, 24)] = true → bitsOf v 0 2 = 1 → onlyBits w [(12, 40)] = true →
      runInside w (bitsOf v 16 24) = true →
      let die := if regionOf w = 0 then dieOfPa w else bitsOf w 40 8 % 4
      ((s.scrubber die).full = true → exec (.scrub d a) s = .next (result s 0x1CA 2)) ∧
      ((s.scrubber die).full = false → exec (.scrub d a) s = .next (result (s.queueScrub die
        { kind := 1, slot := 0, core := 0, fen := bitsOf v 8 8, units := bitsOf v 16 24, spec := BitVec.ofNat 64 w, acc := 0 })
        0x1CA ((s.scrubber die).tail * 2 ^ 8)))) ∧
    (c.MayIssue s 0x1CB [] [] [d.toNat, a.toNat] → onlyBits v [(0, 9)] = true → bitsOf v 0 8 ≤ 191 →
      let core := bitsOf v 0 8
      let k := s.core core
      (bitOf v 8 = k.world → k.worldPend = false → exec (.wlatch d a) s = .next (result s 0x1CB 0)) ∧
      (bitOf v 8 ≠ k.world ∨ k.worldPend = true → k.slotUsed = true ∨ s.teamsOn core ≠ [] →
        exec (.wlatch d a) s = .next (result s 0x1CB 1)) ∧
      (bitOf v 8 ≠ k.world ∨ k.worldPend = true → k.slotUsed = false → s.teamsOn core = [] →
        ((s.scrubber (dieOfCore core)).full = true → exec (.wlatch d a) s = .next (result s 0x1CB 2)) ∧
        ((s.scrubber (dieOfCore core)).full = false → exec (.wlatch d a) s = .next (result ((s.queueScrub (dieOfCore core)
          { kind := 3, slot := 0, core := core, fen := 0xFF, units := 321, spec := 0, acc := 0 }).modCore core fun k =>
            { k with worldPend := true, worldTarget := bitOf v 8 }) 0x1CB 0)))) ∧
    (wellFormed (.fset d a) = true → c.MayIssue s 0x1CC [] [] (d.toNat :: sRange a.toNat 3) → c.fsetCheck a.toNat s = .ok () →
      let r := c.fsetArgs a.toNat
      let x := if r.share.fen = 0xFF then s.slotRelease r else s.slotAssign r
      exec (.fset d a) s = .next (result x.2 0x1CC x.1) ∧ (x.1 ≠ 0 → x.2 = s))

/-- R363, R365, R367 to R370: `meas` extends a fen's measurement. `attest` 0 and 1 write the signed evidence of the fen and
function in their request as stores, 1 with a new ephemeral key; `attest` 2 opens a release blob and writes its secret into the
fen's memory, and drops the key that it found. The `migr` words set a function's state, write the records of its stream that
fit its window, and apply the records in one. Each status says how far the word came, and nothing else changes. The model's
own: the order of the checks of the `attest` words, and status 2 for a blob of no length or off the curve (log entry 76);
status 1 for a malformed or unbound function (of `s`(a) bits [10:8] count for op 0 alone, log entry 152), the layout of a
function's image, the faults of a window, and that a finding on a line of it is deferred as a store's (log entry 77); that a
machine check met on the way of an `attest` word gives status 5 and is logged, and that another finding on a line that it reads
or writes is deferred as a store's (log entry 128). A window that cannot be reached raises the fault of `migrWindow`. A save in
state 3 logs the machine checks that reading the journal meets (DEDUCED, log entry 109). -/
def Obligations.AttestationAndMigrationWords : Prop :=
  ∀ (d a : BitVec 6) (c : Ctx) (s : State), s.storesAt c.ti c.gi 3 = true →
    let x := fun k => (c.grp.readS (a.toNat + k)).toNat
    let result := fun (t : State) (op y : Nat) => (t.modGroup c.ti c.gi fun g => g.writeS d.toNat (BitVec.ofNat 64 y)).retire c op
    let fault := fun f => (.next (s.takeFault c.ti c.gi c.ei f) : Host.Outcome State Fault Refusal)
    (wellFormed (.meas d a) = true → c.MayIssue s 0x1CE [] [] (d.toNat :: sRange a.toNat 7) →
      (256 ≤ x 0 → exec (.meas d a) s = fault { cause := 0xB9 }) ∧
      (x 0 < 256 → (s.fen (x 0)).v = false → exec (.meas d a) s = .next (result s 0x1CE 1)) ∧
      (x 0 < 256 → (s.fen (x 0)).v = true → exec (.meas d a) s = .next (result (s.setFen (x 0) { s.fen (x 0) with
        meas := Crypto.sha384 ((s.fen (x 0)).meas ++ (List.range 6).flatMap fun k => bytesLE 8 (x (k + 1)))
        mseq := (s.fen (x 0)).mseq + 1 }) 0x1CE 0))) ∧
    (∀ (i : Instr) (fresh : Bool), attestForm d a i = some fresh → wellFormed i = true →
      c.MayIssue s 0x1CD [] [] (d.toNat :: sRange a.toNat 2) →
      (s.spanOf 0 false (x 0) 64 = none → exec i s = .next (result (s.fenProbe 0 (x 0) 64) 0x1CD 5)) ∧
      (∀ rd, s.spanOf 0 false (x 0) 64 = some rd →
        let bs := s.spanRead 0 rd
        let r := s.spanDefer c 0 1 (x 0) rd
        (x 1 % 64 ≠ 0 → exec i s = .next (result r 0x1CD 5)) ∧
        (x 1 % 64 = 0 → s.spanOf 0 true (x 1) 384 = none → exec i s = .next (result (r.fenProbe 0 (x 1) 384) 0x1CD 5)) ∧
        (∀ pas, x 1 % 64 = 0 → s.spanOf 0 true (x 1) 384 = some pas →
          let fen := natLE (bs.take 1)
          let fn := natLE ((bs.drop 1).take 1)
          let nonce := (bs.drop 32).take 32
          let known := (r.fen fen).v = true ∧ (fn = 0x7F ∨ (fn ≤ 96 ∧ (r.func fn).fen = fen))
          (¬ known → exec i s = .next (result r 0x1CD 4)) ∧
          (known → ∃ e : Nat, 1 ≤ e ∧ e < Crypto.ecN ∧
            let t := if fresh = true
              then { r.setFen fen { r.fen fen with eph := some (e, nonce) } with nfree := r.nfree + 1 } else r
            exec i s = .next (result (t.spanStore c 0 (x 1) pas
              (t.signed (t.evidence fen fn nonce (if fresh = true then some e else none)))) 0x1CD 0))))) ∧
    (wellFormed (.attestRelease d a) = true → c.MayIssue s 0x1CD [] [] (d.toNat :: sRange a.toNat 2) →
      (s.spanOf 0 false (x 0) 176 = none →
        exec (.attestRelease d a) s = .next (result (s.fenProbe 0 (x 0) 176) 0x1CD 5)) ∧
      (∀ hd, s.spanOf 0 false (x 0) 176 = some hd →
        let b := blobOf (s.spanRead 0 hd)
        (s.spanOf 0 false (x 0 + 176) b.len = none →
          exec (.attestRelease d a) s = .next (result ((s.spanDefer c 0 1 (x 0) hd).fenProbe 0 (x 0 + 176) b.len) 0x1CD 5)) ∧
        (∀ rd, s.spanOf 0 false (x 0 + 176) b.len = some rd →
          let r := s.spanDefer c 0 1 (x 0) (hd ++ rd)
          let y := r.fen b.fen
          let dropped := r.setFen b.fen { y with eph := none }
          (y.v = false → exec (.attestRelease d a) s = .next (result r 0x1CD 4)) ∧
          (y.v = true → y.eph = none → exec (.attestRelease d a) s = .next (result r 0x1CD 3)) ∧
          (∀ e nonce, y.v = true → y.eph = some (e, nonce) →
            (nonce ≠ b.nonce → exec (.attestRelease d a) s = .next (result dropped 0x1CD 3)) ∧
            (nonce = b.nonce → b.gen ≠ r.genOf b.fen → exec (.attestRelease d a) s = .next (result dropped 0x1CD 1)) ∧
            (nonce = b.nonce → b.gen = r.genOf b.fen →
              (b.unwrap e (s.spanRead 0 rd) = none → exec (.attestRelease d a) s = .next (result dropped 0x1CD 2)) ∧
              (∀ p, b.unwrap e (s.spanRead 0 rd) = some p →
                (r.spanOf b.fen true (x 1) p.length = none →
                  exec (.attestRelease d a) s = .next (result (dropped.fenProbe b.fen (x 1) p.length) 0x1CD 5)) ∧
                (∀ pas, r.spanOf b.fen true (x 1) p.length = some pas →
                  exec (.attestRelease d a) s = .next (result (dropped.spanStore c b.fen (x 1) pas p) 0x1CD 0)))))))) ∧
    (∀ i : Instr, i = .migrSet d a ∨ i = .migrSave d a ∨ i = .migrLoad d a → wellFormed i = true →
      c.MayIssue s 0x1CF [] [] (d.toNat :: sRange a.toNat 3) →
      (s.migrTarget (x 0) = none → exec i s = .next (result s 0x1CF 1)) ∧
      (∀ fn, s.migrTarget (x 0) = some fn →
        let f := s.func fn
        (s.sealedFen f.fen = true → exec i s = .next (result s 0x1CF 2)) ∧
        (s.sealedFen f.fen = false →
          (i = .migrSet d a → s.migrOk fn (bitsOf (x 0) 8 3) = false → exec i s = .next (result s 0x1CF 1)) ∧
          (i = .migrSet d a → s.migrOk fn (bitsOf (x 0) 8 3) = true →
            exec i s = .next (result (s.migrSet fn (bitsOf (x 0) 8 3)) 0x1CF 0)) ∧
          (i = .migrSave d a →
            (f.mst ≠ 1 → f.mst ≠ 3 → exec i s = .next (result s 0x1CF 1)) ∧
            (f.mst = 1 ∨ f.mst = 3 →
              (f.savedEnd = true → exec i s = .next (result s 0x1CF 0)) ∧
              (∀ y, f.savedEnd = false → s.migrWindow 2 (x 1) 65536 = .error y → exec i s = fault y) ∧
              (∀ pages, f.savedEnd = false → s.migrWindow 2 (x 1) 65536 = .ok pages →
                let rs := takeWhole 65536 ((s.stream fn).drop f.saveSeq)
                let ok := rs.flatten.zipIdx.filter fun y => (s.windowErr pages y.2).isNone
                let s' := if f.mst = 3 then s.journalProbe f.fen else s
                exec i s = .next (result ((((s'.setFunc fn { f with
                  saveSeq := f.saveSeq + rs.length
                  savedEnd := f.saveSeq + rs.length = (s.stream fn).length }).storeSpan c 0
                    (ok.map fun y => windowByte pages y.2) (ok.map (·.1)))).windowDefer c 2 (x 1) pages rs.flatten.length)
                  0x1CF rs.flatten.length)))) ∧
          (i = .migrLoad d a →
            (f.mst ≠ 4 ∨ 65536 < x 2 → exec i s = .next (result s 0x1CF 1)) ∧
            (f.mst = 4 → x 2 ≤ 65536 →
              (∀ y, s.migrWindow 1 (x 1) (x 2) = .error y → exec i s = fault y) ∧
              (∀ pages, s.migrWindow 1 (x 1) (x 2) = .ok pages →
                ∃ (n : Nat) (t : Nat → State × List Byte),
                  t 0 = (s.windowDefer c 1 (x 1) pages (x 2), s.windowRead pages (x 2)) ∧
                  (∀ k < n, (t k).2 ≠ [] ∧ (t k).1.applyRecord fn (t k).2 = some (t (k + 1))) ∧
                  ((t n).2 = [] ∨ (t n).1.applyRecord fn (t n).2 = none) ∧
                  exec i s = .next (result (t n).1 0x1CF (if (t n).2 = [] then 0 else 1))))))))

/-- R153, R155 to R160, R171, R190, R356: the head of a group's queue enters the core store order, dropping its sectors from
the L1. A store that may leave the order changes, for its fen, exactly the bytes of its pieces (two where an element straddles
a page) under their masks, and makes its lines the fen's; an atomic stores its new value, makes its line the fen's and answers
the old value, whose registers are then written each on its own; one that meets a finding that is no machine check changes no
byte, answers zero and defers its cause to its flag with KIND 3 (R356); a request that meets a seal finding changes no byte and
defers its cause, joined to those of its word (DEDUCED, log entry 38). The model's own: what of the order an acquire makes
later releases follow, which `entered` counts (DESIGN CHOICE, log entry 131), and that an event whose conditions do not hold
changes nothing (DESIGN CHOICE, log entry 5). -/
def Obligations.StoreAndAtomicEvents : Prop :=
  (∀ (ti gi : Nat) (s : State) (t : Team), s.teams.find ti = some t →
    ((t.group gi).sq = [] → exec (.storeQueueDrain ti gi) s = .next s) ∧
    (∀ e rest, (t.group gi).sq = e :: rest → ∃ u, exec (.storeQueueDrain ti gi) s = .next u ∧ u.mem = s.mem ∧
      u.group ti gi = { t.group gi with sq := rest } ∧ (u.core t.core).cso = (s.core t.core).cso ++ [{ e with entered := s.nextId }] ∧
      ∀ x, x ∈ (u.core t.core).l1 ↔ x ∈ (s.core t.core).l1 ∧ ∀ y ∈ e.pieces, touches x.sector y.1 y.2.length = false)) ∧
  (∀ (core idx : Nat) (s : State) (e : StoreEnt), s.mayLeave core idx = some e → e.isAtomic = false →
    isMemRegion e.pa = true → s.NoScWaits core →
    ((∀ y ∈ e.pieces, s.rangeErr e.fen y.1 y.2.length = none) → e.fen ≠ 0xFF → s.mem.monitors = [] →
      (∀ y, e.more = some y → e.pa + e.bytes.length ≤ y.1 ∨ y.1 + y.2.length ≤ e.pa) →
      ∃ u, exec (.storeApply core idx) s = .next u ∧ u.teams = s.teams ∧
        (u.core core).cso = dropAt (s.core core).cso idx ∧
        (∀ y ∈ e.pieces, ∀ k < y.2.length, u.readByte e.fen (y.1 + k) =
          mergeByte (s.readByte e.fen (y.1 + k)) (y.2.getD k (0, 0)).1 (y.2.getD k (0, 0)).2 ∧
          u.tagOf ((y.1 + k) / 64) = { own := e.fen, key := s.keyOf e.fen }) ∧
        (∀ a, (∀ y ∈ e.pieces, a < y.1 ∨ y.1 + y.2.length ≤ a) → u.readByte e.fen a = s.readByte e.fen a) ∧
        (∀ f a, (∀ y ∈ e.pieces, ∀ k < y.2.length, (y.1 + k) / 64 ≠ a / 64) → u.readByte f a = s.readByte f a)) ∧
    (∀ t er pa, e.pieces.findSome? (fun y => s.rangeErr e.fen y.1 y.2.length) = some (er, pa) → isMc er.code = false →
      s.teams.find e.team = some t → (t.group e.group).ended = false →
      ∃ u, exec (.storeApply core idx) s = .next u ∧ u.mem = s.mem ∧
        (u.group e.team e.group).deferred = ({ at_ := .store, cause := er.code, kind := 2, lanes := laneMask e.lane
                                               addr := e.va, pa := pa, op := e.word } : Deferred).joinTo
          (t.group e.group).deferred)) ∧
  (∀ (core idx : Nat) (s : State) (e : StoreEnt) (op : AtomOp) (ty : Nat) (b d : W64) (id lane dst : Nat) (acq : Bool)
    (p : Pending), s.mayLeave core idx = some e → e.kind = .atomic op ty b d id lane dst acq →
    s.pending e.team e.group id = some p → p.dead = false → p.bad = none → p.devs = [] → p.writes = [] → s.NoScWaits core →
    let n := tyWidth ty / 8
    let old := s.readNat e.fen e.pa n
    let regs := if tyPair ty then 2 else 1
    (∀ er, s.lineErr e.fen (e.pa / 64) = some er → isMc er.code = false →
      let bad : Deferred := { at_ := .flag p.flag, cause := er.code, kind := 3, lanes := laneMask lane, addr := e.va, pa := e.pa, op := 0 }
      ∃ u, exec (.atomicApply core idx) s = .next u ∧ u.mem = s.mem ∧
        (dst ≠ 127 ∨ 1 < p.waiting → u.pending e.team e.group id = some { p with
          waiting := p.waiting - 1, bad := some bad
          writes := if dst = 127 then [] else (List.range regs).map fun i => .v lane (dst + i) 0 }) ∧
        (dst = 127 → p.waiting = 1 → (s.group e.team e.group).ended = false →
          (u.group e.team e.group).flag p.flag = (s.group e.team e.group).flag p.flag - 1 ∧
          (u.group e.team e.group).deferred = bad.joinTo (s.group e.team e.group).deferred)) ∧
    (s.lineErr e.fen (e.pa / 64) = none → e.fen ≠ 0xFF → s.mem.monitors = [] → ∃ u, exec (.atomicApply core idx) s = .next u ∧
      (∀ k < n, u.readByte e.fen (e.pa + k) = (bytesLE n (atomNew op ty old b.toNat d.toNat)).getD k 0) ∧
      (∀ k < n, u.tagOf ((e.pa + k) / 64) = { own := e.fen, key := s.keyOf e.fen }) ∧
      (∀ a, a < e.pa ∨ e.pa + n ≤ a → u.readByte e.fen a = s.readByte e.fen a) ∧
      (dst ≠ 127 ∨ 1 < p.waiting → (u.group e.team e.group).flag p.flag = (s.group e.team e.group).flag p.flag ∧
        u.pending e.team e.group id = some { p with
          waiting := p.waiting - 1
          writes := if dst = 127 then []
            else (List.range regs).map fun i => .v lane (dst + i) (BitVec.ofNat 32 (old / 2 ^ (32 * i))) }) ∧
      (dst = 127 → p.waiting = 1 → (u.group e.team e.group).flag p.flag = (s.group e.team e.group).flag p.flag - 1))) ∧
  (∀ (core idx : Nat) (s : State), s.mayLeave core idx = none →
    exec (.storeApply core idx) s = .next s ∧ exec (.atomicApply core idx) s = .next s) ∧
  (∀ (idx : Nat) (s : State) (x : Through), s.mem.through[idx]? = some x →
    exec (.expanderWriteComplete idx) s = .next (if x.started then { s with mem := { s.mem with
      through := dropAt s.mem.through idx } } else s))

/-- R48, R50, R171: one register write of an operation is delivered; the last one ends the operation, and its flag falls; each
device's answer comes, or a device abort, which a timeout gives the first read awaited. R195: a park entry that has expired
gives its lanes 0. R208, R212: a lane whose logged reads still hold commits its writes as one event, bit by bit under the masks
of its write log (DEDUCED, log entry 113), and another commits nothing; its registers are then written each on its own. It
waits for the accesses that happen before it (R161; what an acquire adds to them is the model's, log entry 131). R209: the lane
that commits is the lowest that may; one that shares a sector with a lower one of its word waits for it; when an escalated one
waits besides for older ones is the model's reading (DEDUCED, log entry 110). R162, R163, R170: reservations, the stamp
rollover, after which the accesses that it held back are sent, and walks, which fill the TLBs of the core's ports and of its
slice (the order in which a full one loses entries is the model's, log entry 31). Where an event's conditions do not hold it
changes nothing: the model's choice (DESIGN CHOICE, log entry 5). -/
def Obligations.ReplyCommitAndWalkEvents : Prop :=
  (∀ (ti gi op sel : Nat) (s : State) (p : Pending), s.pending ti gi op = some p → p.isPark = false →
    (s.group ti gi).scq = [] →
    (sel < p.devs.length →
      let aborted := fun n => s.modGroup ti gi fun g => g.modPend op fun q => q.abort fun y => q.devs[n]? = some y
      exec (.loadDataArrive ti gi op (2 * sel)) s =
        .next (s.modGroup ti gi fun g => g.modPend op fun q => { q with devs := dropAt q.devs sel }) ∧
      exec (.loadDataArrive ti gi op (2 * sel + 1)) s = .next (aborted sel) ∧
      exec (.deviceReadCompletionTimeout ti gi op) s = .next (aborted 0)) ∧
    (p.devs = [] → exec (.deviceReadCompletionTimeout ti gi op) s = .next s) ∧
    (∀ w at_, p.dead = false → p.writes[sel]? = some w → at_ / 2 = p.devs.length + sel →
      (p.awaits w = true → exec (.loadDataArrive ti gi op at_) s = .next s) ∧
      (p.awaits w = false → 1 < p.writes.length ∨ 0 < p.waiting ∨ p.devs ≠ [] →
        exec (.loadDataArrive ti gi op at_) s = .next (s.modGroup ti gi fun g =>
          (g.deliver w).modPend op fun q => { q with writes := dropAt q.writes sel })) ∧
      (p.writes.length = 1 → p.waiting = 0 → p.devs = [] → p.bad = none → exec (.loadDataArrive ti gi op at_) s = .next
        (s.modGroup ti gi fun g => { (g.deliver w).flagDown p.flag with
          fp := g.fp ||| p.fp, pend := g.pend.filter fun q => q.id ≠ op })))) ∧
  (∀ (idx : Nat) (s : State) (m : Monitor) (p : Pending), s.mem.monitors[idx]? = some m →
    (m.expiry.any (fun t => t ≤ s.now) = false → exec (.parkTimeout idx) s = .next s) ∧
    (m.expiry.any (fun t => t ≤ s.now) = true → s.pending m.team m.group m.pend = some p → p.isPark = true →
      p.dead = false → p.bad = none → p.writes = [] → p.waiting = (lanesOf m.lanes).length → m.pd < 7 →
      ∃ u, exec (.parkTimeout idx) s = .next u ∧ u.mem = { s.mem with monitors := dropAt s.mem.monitors idx } ∧
        (∀ l ∈ lanesOf m.lanes, (u.group m.team m.group).readP l m.pd = false) ∧
        (u.group m.team m.group).block = none ∧
        (u.group m.team m.group).flag p.flag = (s.group m.team m.group).flag p.flag - 1)) ∧
  (∀ (line ti gi : Nat) (rest : List (Nat × Nat)) (s : State) (t : Team) (r : ScReq),
    s.mem.resv.get [] line = (ti, gi) :: rest → s.teams.find ti = some t → (t.group gi).scq = [r] → r.data = none →
    r.atom = none → r.team = ti → r.group = gi → s.lineErr r.fen (r.pa / 64) = none →
    (∀ p ∈ (t.group gi).pend, p.bad = none) →
    ∃ u, exec (.scReservationGrant line) s = .next u ∧
      let st : Stamp := { c := max (s.core t.core).clock (s.lsOf r.pa).c + 1, core := t.core }
      u.mem.ls.find (r.pa / 128) = some st ∧ (u.core t.core).clock = st.c ∧ (u.group ti gi).scq = [] ∧
      (u.group ti gi).lastsc = st ∧ u.mem.resv.get [] line = rest) ∧
  (∀ s : State, (s.scFull = false ∨ s.mem.resv ≠ [] → exec .scStampRollover s = .next s) ∧
    (s.scFull = true → s.mem.resv = [] → ∃ u : State, u.scepoch = s.scepoch + 1 ∧
      u.mem = { s.mem with ls := [], fs := [] } ∧ (∀ c, u.core c = { s.core c with clock := 0 }) ∧
      (∀ ti gi, u.group ti gi = { s.group ti gi with lastsc := { c := 0, core := 0 } }) ∧
      exec .scStampRollover s =
        .next (u.teams.foldl (fun s t => t.2.groups.keys.foldl (fun s gi => s.pumpSc t.1 gi) s) u))) ∧
  (∀ (idx held : Nat) (s : State) (o : TxCommitOp), s.txops[idx]? = some o → o.lanes ≠ [] →
    s.commitReady o.team o.group o.pend = false ∨ (∀ y ∈ o.lanes, s.mayCommit o false y = false) →
    exec (.txCommit idx held) s = .next s) ∧
  (∀ (s : State) (o : TxCommitOp) (y : Nat × TxLane),
    ((∃ z ∈ o.lanes, z.1 < y.1 ∧ z.2.shares y.2 = true) → s.mayCommit o false y = false) ∧
    (y.2.esc = false → (∀ z ∈ o.lanes, z.1 < y.1 → z.2.shares y.2 = false) → s.mayCommit o false y = true)) ∧
  (∀ (idx : Nat) (s : State) (o : TxCommitOp) (l : Nat) (x : TxLane) (t : Team),
    s.txops[idx]? = some o → o.lanes.find? (s.mayCommit o false) = some (l, x) → s.teams.find o.team = some t →
    (t.group o.group).scq = [] → s.commitReady o.team o.group o.pend = true →
    (x.esc = false → s.escalated o.fen = false) → s.txFinding o.fen x = none → s.mem.monitors = [] →
    ∃ u, exec (.txCommit idx 0) s = .next u ∧ ((u.group o.team o.group).txLane l).state = .none ∧
      (∀ p, s.pending o.team o.group o.pend = some p →
        ∃ d, d % 256 = (if s.txValid o.fen x = true then 0 else 1) ∧ u.pending o.team o.group o.pend = some { p with
          waiting := p.waiting - 1
          writes := p.writes ++ .p l o.pd (s.txValid o.fen x) :: laneWrites l o.dst 1 d }) ∧
      (s.txValid o.fen x = false → u.mem = s.mem) ∧
      (s.txValid o.fen x = true → o.fen ≠ 0xFF → (x.writes.map (·.sector)).Nodup → (∀ e ∈ x.writes, e.bytes.length = 32) →
        (∀ e ∈ x.writes, ∀ k < 32, u.readByte o.fen (e.sector * 32 + k) =
          mergeByte (s.readByte o.fen (e.sector * 32 + k)) (e.bytes.getD k 0) (e.mask.getD k 0)) ∧
        ∀ a, (∀ e ∈ x.writes, e.sector ≠ a / 32) → u.readByte o.fen a = s.readByte o.fen a)) ∧
  (∀ (core fen va : Nat) (s : State), core < 196 →
    (∀ er, s.walk fen (va % 2 ^ 57) = .error er → exec (.pageWalkComplete core fen va) s = .next s) ∧
    (∀ e, s.walk fen (va % 2 ^ 57) = .ok e → ∃ u, exec (.pageWalkComplete core fen va) s = .next u ∧ u.mem = s.mem ∧
      u.teams = s.teams ∧ (∀ p < 4, (u.core core).tlb p = tlbPut 64 e ((s.core core).tlb p)) ∧
      (core < 192 → u.sliceTlb (core / 4) = tlbPut 8192 e (s.sliceTlb (core / 4))) ∧
      (∀ k, k ≠ core → u.core k = s.core k) ∧ (∀ k, 192 ≤ core ∨ k ≠ core / 4 → u.sliceTlb k = s.sliceTlb k) ∧
      e.fen = fen ∧ e.va ≤ va % 2 ^ 57 ∧ va % 2 ^ 57 < e.va + e.size))

/-- R222, R228, R229, R237: a wavefront whose turn it is writes its whole tile, each element the exact sum rounded once, and
no other; `accz` makes its tile zero; the last member of an operation leaves Sedge and its flag falls. R235: the
wavefronts of one operation share one reading of B; that it is the first wavefront's, made when that one runs, is the model's
choice (DESIGN CHOICE, log entry 111); a rendezvous whose arrivals agree is accepted, one
wavefront for each arrival with an active lane, and otherwise raises FLT_GANG_MISMATCH. Where an event's conditions do not
hold it changes nothing: the model's choice (DESIGN CHOICE, log entry 5), as is a wavefront's duration, a free value within
R245 (log entry 44). -/
def Obligations.SedgeEvents : Prop :=
  (∀ (core op : Nat) (s : State) (o : SedgeOp), (s.core core).sedgeNext op = some o →
    let tail := fun (u : State) => (s.core core).sedge.filter (fun x => x.op = o.op ∨ x.id = op) = [o] →
      (u.core core).sedge = (s.core core).sedge.filter (fun x => x.op ≠ o.op) ∧
      (∀ t, s.teams.find o.team = some t → (u.group o.team o.group).flag o.flag = (t.group o.group).flag o.flag - 1)
    let b := o.bread.getD (o.readB (s.team o.team))
    (o.kind ≠ .accz → exec (.acczApply core op) s = .next s ∧ ∃ u dur, exec (.wavefrontComplete core op) s = .next u ∧
      700 ≤ dur ∧ dur ≤ 6000 ∧ u.mem = s.mem ∧ tail u ∧
      (∀ r < 16, ∀ n < 64, (u.team o.team).acc.get 0 (accKey o.tile r n) = sumElem
        (if o.z then .fin false 0 1 else decodeElem sedgeEnv 0x0A ((s.team o.team).acc.get 0 (accKey o.tile r n)).toNat)
        (o.rowA r) ((List.range (o.rowA 0).length).map fun k => o.elemB { s.team o.team with spad := b } k n)) ∧
      ((∃ x ∈ (s.core core).sedge, x.op = o.op ∧ x.id ≠ op ∧ x.done = false) →
        ∀ x ∈ (u.core core).sedge, x.op = o.op → x.bread = some b) ∧
      (∀ k, k / 1024 ≠ o.tile → (u.team o.team).acc.get 0 k = (s.team o.team).acc.get 0 k) ∧
      (u.group o.team o.group).mstat0 = (s.group o.team o.group).mstat0 + 1 ∧
      (u.group o.team o.group).mstat1 = (s.group o.team o.group).mstat1 + dur ∧
      (u.core core).wfCount = (s.core core).wfCount + 1 ∧ (u.core core).wfTime = (s.core core).wfTime + dur) ∧
    (o.kind = .accz → exec (.wavefrontComplete core op) s = .next s ∧ ∃ u, exec (.acczApply core op) s = .next u ∧
      u.mem = s.mem ∧ tail u ∧ ∀ k, (u.team o.team).acc.get 0 k =
        if k / 1024 = o.tile then 0 else (s.team o.team).acc.get 0 k)) ∧
  (∀ (core op : Nat) (s : State), (s.core core).sedgeNext op = none →
    exec (.wavefrontComplete core op) s = .next s ∧ exec (.acczApply core op) s = .next s) ∧
  (∀ (ti idx : Nat) (s : State) (r : Rendezvous) (as : List Arrival),
    (s.team ti).rdvs[idx]? = some r → r.complete = some as →
    let k := s.core (s.team ti).core
    let act := as.zipIdx.filter fun x => x.1.active
    (k.lockRoom act.length = false ∨ k.sedgeRoom = false → exec (.rendezvousClose ti idx) s = .next s) ∧
    (k.lockRoom act.length = true → k.sedgeRoom = true →
      ((∃ x ∈ as, ∃ y ∈ as, x.agrees y = false) → exec (.rendezvousClose ti idx) s = .next
        ((s.modTeam ti fun t => { t with rdvs := dropAt t.rdvs idx }).raiseArrived ti 0x77 as)) ∧
      ((∀ x ∈ as, ∀ y ∈ as, x.agrees y = true) → ∃ u new op, exec (.rendezvousClose ti idx) s = .next u ∧ u.mem = s.mem ∧
        (u.team ti).rdvs = dropAt (s.team ti).rdvs idx ∧ (u.core (s.team ti).core).sedge = k.sedge ++ new ∧
        new.map (fun o => (o.group, o.tile, o.pos, o.frag)) = act.map (fun x => (x.1.group, x.1.tile, x.2, x.1.frag)) ∧
        (∀ o ∈ new, o.op = op ∧ o.done = false ∧ o.team = ti) ∧
        (u.core (s.team ti).core).locks.length = k.locks.length + act.length ∧
        ∀ a ∈ as, (u.group ti a.group).arrivedGang = none)))

/-- R164, R253, R258, R259, R260: a copy completes once the stores that precede it have been applied. It fails at its first
clipped element when the record forbids clipping, and at the page whose BG does not fit; an absent page makes a page request;
else its pieces move in box order (log entry 47), from the scratchpad as it stood when its team was swapped out if it was
(R274). Its range lock and its count end, its token takes the status word, its barrier the bytes, and its stream slot is
filled; a failure that no token reports is deferred. A `cpl` fills the 32 bytes of each lane, zeros after its count, and zeros
for a lane that meets a finding, whose cause is deferred. R320: an `enq` record is copied to its slot. R298, R299: marks of one
handle are made in the order in which their conditions came to hold, a mark's being that the group's accesses before its `iodb`
are performed at scope `y`; a mark advances its pointer, and a doorbell write carries it. Where an event's conditions do not
hold it changes nothing: the model's choice (DESIGN CHOICE, log entry 5), as are when a refused page request is made again (log
entry 48) and that BG is compared over the pages of elements that are not clipped (log entry 122). -/
def Obligations.CopyAndMarkEvents : Prop :=
  (∀ (op : Nat) (s : State) (o : CopyOp), s.copies.find? (fun c => c.id = op) = some o →
    let y := layoutOf o.rec_.toNat
    let ps := y.pieces o.coord (tyWidth o.sty)
    let vas := ps.filterMap (·.va)
    let out := ps.find? fun p => p.va.isNone
    (o.waits.isSome = true ∨ s.storesBefore o.team o.group o.id = false → exec (.copyComplete op) s = .next s) ∧
    (o.waits = none → s.storesBefore o.team o.group o.id = true →
      (∀ va, (y.clip = 1 → out = none) →
        vas.find? (fun va => !o.refused va && s.copyFind o.fen o.toGlobal va = .absent) = some va →
        exec (.copyComplete op) s = .next (o.request s va)) ∧
      (∀ t, (y.clip = 1 ∧ out.isSome = true) ∨
          (∀ va ∈ vas, o.refused va = true ∨ s.copyFind o.fen o.toGlobal va ≠ .absent) →
        s.teams.find o.team = some t → t.status ≠ .ended → (t.group o.group).ended = false →
        let img := if o.toGlobal then o.snap.getD t.spad else t.spad
        let a : CopyAcc := match (if y.clip = 1 then out else none), (if y.bga then o.blockFail s y vas else none) with
          | some p, _ => { s := s, img := img, fail := some (0x81, p.addr, none) }
          | none, some va => { s := s, img := img, fail := some (0x8C, va, none) }
          | none, none => ps.foldl (o.move y) { s := s, img := img, fail := none }
        (∀ x, a.fail = some x → isMc x.1 = false) → a.s.teams = s.teams →
        ∃ u, exec (.copyComplete op) s = .next u ∧ u.mem = a.s.mem ∧
          (u.team o.team).spad = (if o.toGlobal then t.spad else a.img) ∧
          u.copies = a.s.copies.filter (fun c => c.id ≠ o.id) ∧
          (u.core o.core).locks = (a.s.core o.core).locks.filter (fun e => e.id ≠ o.id) ∧
          (∀ b, (u.team o.team).bar b = if o.bar = some b
            then ({ t.bar b with xarr := (t.bar b).xarr + o.bytes } : Barrier).settle else t.bar b) ∧
          (∀ q i, o.stream = some (q, i) → (u.team o.team).stream q = (t.stream q).fill i) ∧
          (u.group o.team o.group).flag o.flag = (t.group o.group).flag o.flag - 1 ∧
          (u.group o.team o.group).copies = (t.group o.group).copies - 1 ∧
          (u.group o.team o.group).copyBytes = (t.group o.group).copyBytes + o.bytes ∧
          (∀ r, o.tok = some r → r < 63 → (u.group o.team o.group).readS r =
            BitVec.ofNat 64 (o.status out.isSome a.fail) ∧ r ∉ (u.group o.team o.group).tokens) ∧
          (u.group o.team o.group).deferred = match a.fail, o.tok with
            | some x, none => (asyncFault o.flag x.1 x.2.1 x.2.2 (BitVec.allOnes 32)).joinTo (t.group o.group).deferred
            | _, _ => (t.group o.group).deferred))) ∧
  (∀ (op : Nat) (s : State) (o : CplOp) (t : Team), s.cpls.find? (fun c => c.id = op) = some o →
    (o.canRead s = false → exec (.cplComplete op) s = .next s) ∧
    (o.canRead s = true → s.teams.find o.team = some t → (t.group o.group).ended = false →
      (∀ x ∈ o.lanes, x.pas.length ≤ 32 ∧ ∀ e, s.cplErr o.fen x = some e → isMc e.1.code = false) →
      let bads := o.lanes.filterMap fun x => (s.cplErr o.fen x).map fun e => (x.lane, e.1.code, x.va, e.2)
      ∃ u, exec (.cplComplete op) s = .next u ∧ u.mem = s.mem ∧ u.cpls = s.cpls.filter (fun c => c.id ≠ o.id) ∧
        (u.core o.core).locks = (s.core o.core).locks.filter (fun e => e.id ≠ o.id) ∧
        (u.group o.team o.group).flag o.flag = (t.group o.group).flag o.flag - 1 ∧
        (u.group o.team o.group).copies = (t.group o.group).copies - 1 ∧
        (u.group o.team o.group).copyBytes = (t.group o.group).copyBytes + 32 * o.lanes.length ∧
        (u.group o.team o.group).deferred = (match deferOf (.flag o.flag) 5 bads with
          | some d => d.joinTo (t.group o.group).deferred
          | none => (t.group o.group).deferred) ∧
        (∀ x ∈ o.lanes, (∀ y ∈ o.lanes, y = x ∨ x.off + 32 ≤ y.off ∨ y.off + 32 ≤ x.off) →
          (u.team o.team).readSpad x.off 32 = if (s.cplErr o.fen x).isSome then List.replicate 32 0
            else x.pas.map (fun pa => (o.byte s pa).getD 0) ++ List.replicate (32 - x.pas.length) 0) ∧
        ∀ a, (∀ x ∈ o.lanes, a < x.off ∨ x.off + 32 ≤ a) → (u.team o.team).readSpad a 1 = t.readSpad a 1)) ∧
  (∀ (idx : Nat) (s : State) (o : EnqOp) (g : Grid) (t : Team), s.enqs[idx]? = some o →
    (s.storesBefore o.team o.group o.id = false → exec (.enqRecordCopy idx) s = .next s) ∧
    (s.storesBefore o.team o.group o.id = true → s.lineErr o.fen (o.pa / 64) = none → (s.part o.pid).grid o.grid = some g →
      (∀ x, s.rangeErr 0 g.lrec 64 = some x → isMc x.1.code = false) → s.teams.find o.team = some t →
      let bs := s.readBytes o.fen o.pa 64
      ∃ v : State, exec (.enqRecordCopy idx) s = .next (v.judge o.pid o.grid
          ((lrecOf (natLE bs)).reject (s.part o.pid) (some t.nbar) fun k => o.nseqs.getD k 0)) ∧
        v.enqs = dropAt s.enqs idx ∧ v.readBytes 0 g.lrec 64 = bs ∧
        (∀ a, a < g.lrec ∨ g.lrec + 64 ≤ a → v.readByte 0 a = s.readByte 0 a) ∧
        (v.part o.pid).grid o.grid = some { g with rec_ := lrecOf (natLE bs) } ∧
        (v.core o.core).locks = (s.core o.core).locks.filter (fun e => e.id ≠ o.id) ∧
        (v.group o.team o.group).flag o.flag = (t.group o.group).flag o.flag - 1)) ∧
  (∀ (idx : Nat) (s : State) (m : Mark), s.dueMarks.reed.marks[idx]? = some m →
    (∀ x ∈ s.dueMarks.reed.marks, s.markReady x = true → s.markReached x = true → x.due.isSome = true) ∧
    (s.dueMarks.markTurn m = false → s.markReady m = false → exec (.iodbMark idx) s = .next s.dueMarks) ∧
    (s.dueMarks.markTurn m = false → s.markReady m = true → s.markReached m = false →
      exec (.iodbMark idx) s = .next (s.dueMarks.startMark m)) ∧
    (s.markReached m = true ↔ ∀ x ∈ s.mem.through, ¬ (x.team = m.team ∧ x.group = some m.group ∧ x.at_ < m.id)) ∧
    (∀ e ∈ (s.group m.team m.group).sq ++ (s.core (s.team m.team).core).cso, e.team = m.team → e.group = m.group → e.word < m.id →
      s.markReady m = false) ∧
    (s.dueMarks.markTurn m = true → (s.handle m.handle).loaded = false ∨ (s.handle m.handle).load ≠ m.load →
      exec (.iodbMark idx) s = .next (s.dueMarks.markDone m)) ∧
    (∀ t, s.dueMarks.markTurn m = true → s.teams.find m.team = some t →
      (t.group m.group).ended = false → (s.handle m.handle).loaded = true → (s.handle m.handle).load = m.load →
      let y := (s.handle m.handle).marked m.cq m.slots
      ∃ u, exec (.iodbMark idx) s = .next u ∧ u.mem = s.mem ∧ u.handle m.handle = y.1 ∧
        u.reed.marks = s.dueMarks.reed.marks.filter (fun x => x.id ≠ m.id) ∧
        (u.core m.core).locks = (s.core m.core).locks.filter (fun e => e.id ≠ m.id) ∧
        (u.group m.team m.group).flag m.flag = (t.group m.group).flag m.flag - 1 ∧
        (y.1.tail ≠ (s.handle m.handle).tail ∨ y.1.cqhead ≠ (s.handle m.handle).cqhead →
          (m.handle, m.cq) ∈ u.reed.doorbells) ∧
        (u.group m.team m.group).deferred = if y.2 = [] then (t.group m.group).deferred
          else (asyncFault m.flag 0x91 0 none (maskOf y.2)).joinTo (t.group m.group).deferred)) ∧
  (∀ (idx : Nat) (s : State) (h : Nat) (cq : Bool), s.reed.doorbells[idx]? = some (h, cq) →
    let x := s.handle h
    let t := { s with reed := { s.reed with doorbells := dropAt s.reed.doorbells idx } }.setHandle h
      { x with ndb := (x.ndb + 1) % 2 ^ 16 }
    exec (.doorbellWrite idx) s = .next (if (s.port x.port).up && !(s.port x.port).removed then
      t.sendOut (if cq then x.cqdb else x.sqdb) true (bytesLE 4 (if cq then x.cqhead else x.tail)) else t))

/-- R314, R315: the first waiting team that fits is placed on a core that it fits, with every group at its entry or where it
stood; one whose saved context is found corrupt ends instead (R37; DESIGN CHOICE, log entry 117). R316: a team blocked past the
threshold, or displaced, is being saved. R24, R326: a saved team leaves its core, and an ended one with nothing in flight is
removed. R321: a bin that is due starts a continuation team of its deposits, which waits in a save slot. Where an event's
conditions do not hold it changes nothing: the model's choice (DESIGN CHOICE, log entry 5). Which queue holds the others back is
the model's choice too (log entry 102), as are the order in which victims and blocked teams are taken together (log entry 68), a
continuation's lanes outside its MASK (log entry 63) and its slot (log entry 64), and that a reclaimed team that fits nowhere
holds back those of its priority (log entry 67). -/
def Obligations.TeamEvents : Prop :=
  (∀ (pid : Nat) (s : State),
    ((s.part pid).en = false ∨ s.nextTeam pid = none → exec (.teamPlace pid) s = .next s) ∧
    (∀ w cs slot, (s.part pid).en = true → s.nextTeam pid = some (w, cs) → cs ≠ [] →
      s.slotFor pid w = some slot →
      (∀ ti, w.cand = .team ti → ∃ u c, exec (.teamPlace pid) s = .next u ∧ c ∈ cs ∧ (u.part pid).lastCore = c ∧
        (s.slotErr (s.team ti) = none → (u.team ti).status = .resident ∧ (u.team ti).core = c ∧ (u.team ti).cause = .none) ∧
        ((s.slotErr (s.team ti)).isSome = true → (u.team ti).status = .ended)) ∧
      (∀ id g, w.cand = .grid id → (s.part pid).grid id = some g → ∃ u c ti, exec (.teamPlace pid) s = .next u ∧ c ∈ cs ∧
        s.teams.find ti = none ∧ (u.team ti).status = .resident ∧ (u.team ti).core = c ∧ (u.team ti).fen = w.team.fen ∧
        (u.team ti).slot = some slot ∧ (u.part pid).lastCore = c ∧
        (∀ gi < w.team.np + w.team.nc, (u.group ti gi).entries =
          [(0, newSplinter (pcOf g.rec_.entry) noFrame 0x42 (BitVec.allOnes 32))]) ∧
        ∃ h, (u.part pid).grid id = some h ∧ h.next = g.next + 1 ∧ h.live = g.live + 1))) ∧
  (∀ (ti : Nat) (s : State),
    (∀ t, s.teams.find ti = some t →
      (t.status ≠ .saving → exec (.contextSaveComplete ti) s = .next s) ∧
      (t.status = .saving → ∃ u, exec (.contextSaveComplete ti) s = .next u ∧ (u.team ti).status = .out ∧
        (u.team ti).flashed = s.flashSet t) ∧
      (t.status ≠ .ended ∨ s.mayRetire ti = false → exec (.teamRetire ti) s = .next s) ∧
      (t.status = .ended → s.mayRetire ti = true → t.system = true → ∃ u, exec (.teamRetire ti) s = .next u ∧
        u.teams = s.teams.del ti ∧ u.mem = s.mem ∧ ∀ e ∈ u.reed.remap, e.2.uid ≠ some ti) ∧
      (t.status = .ended → s.mayRetire ti = true → t.system = false → ∃ u, exec (.teamRetire ti) s = .next u ∧
        u.teams.find ti = none)) ∧
    (let t := s.team ti
     (t.status ≠ .resident ∨ t.system = true ∨ s.parkedLong t = false ∨
        (∀ q ∈ s.queueOrder t.pid, ∀ w, s.firstWaiting t.pid q = some w → s.canUse w t.core ti (s.alsoParked ti) [] = false) →
      exec (.parkThresholdSwap ti) s = .next s) ∧
     ((∃ q ∈ s.queueOrder t.pid, ∃ w, s.firstWaiting t.pid q = some w ∧ s.canUse w t.core ti (s.alsoParked ti) [] = true) →
        t.status = .resident → t.system = false → s.parkedLong t = true →
      ∃ u, exec (.parkThresholdSwap ti) s = .next u ∧ (u.team ti).status = .saving ∧ (u.team ti).cause = .blocked))) ∧
  (∀ (pid : Nat) (s : State),
    ((s.part pid).en = false ∨ (∀ q ∈ s.queueOrder pid, s.displaced pid q = none) →
      exec (.timeSliceExpiry pid) s = .next s) ∧
    (∀ out, (s.part pid).en = true → (s.queueOrder pid).findSome? (s.displaced pid) = some out →
      ∃ u, exec (.timeSliceExpiry pid) s = .next u ∧
        ∀ ti ∈ out, (u.team ti).status = .saving ∧ (u.team ti).cause = .preempt)) ∧
  (∀ (pid idx : Nat) (s : State) (b : Bin), (s.part pid).bins[idx]? = some b →
    (s.binDue pid b = false → exec (.reorderFlushTimeout pid idx) s = .next s) ∧
    (∀ g bs k, s.binDue pid b = true → (s.part pid).grid b.grid = some g → g.stop = false → b.items.length ≤ 32 →
      let fen := ((s.part pid).queue g.queue).fen
      let r := contRec (natLE bs)
      s.readRange fen b.tmpl 64 = some bs → r.fieldsOk = true → s.findSlot pid r.units true = some k →
      ∃ u ti, exec (.reorderFlushTimeout pid idx) s = .next u ∧ s.teams.find ti = none ∧
        (∀ f a, a / 64 < ((s.part pid).svbase + 65536 * k) / 64 ∨ ((s.part pid).svbase + 65536 * k + 63) / 64 < a / 64 →
          u.readByte f a = s.readByte f a) ∧
        (u.team ti).status = .waiting ∧ (u.team ti).linear = g.rec_.teams + g.conts ∧ (u.team ti).slot = some (k, r.units) ∧
        (u.part pid).bins = dropAt (s.part pid).bins idx ∧
        (u.group ti 0).entries = [(0, newSplinter (pcOf r.entry) noFrame 0x42 (maskOf (List.range b.items.length)))] ∧
        ∀ l < b.items.length, (u.group ti 0).readV2 l 0 = b.items.getD l 0 ∧
          (u.group ti 0).readV l 2 = BitVec.ofNat 32 b.key))

/-- R280 to R284: training takes the port's role, or reports a configuration error; a group of lanes splits while its ports
are idle; a partner brings the link up within what the port permits. R386: a narrower link after a lane failure, and
the end of a removed device. R283, R301, R302: interrupt messages. Where an event's conditions do not hold it changes
nothing: the model's choice (DESIGN CHOICE, log entry 5). That each lane failure counts is DEDUCED (log entry 55), and what a
message of a team that has ended finds too (log entry 92). -/
def Obligations.LinkAndMessageEvents : Prop :=
  (∀ (p value : Nat) (s : State),
    (s.portExists p = false → exec (.portTrain p value) s = .next s) ∧
    (s.portExists p = true → ∃ u, exec (.portTrain p value) s = .next u ∧ u.mem = s.mem ∧
      (u.port p).role = bitsOf value 0 3 ∧ (u.port p).maxrate = bitsOf value 3 3 ∧ (u.port p).up = false ∧
      (u.port p).deffen = bitsOf value 8 8 ∧ (u.port p).cfgerr = s.trainBad p (bitsOf value 0 3) ∧
      (u.port p).inForce = if s.trainBad p (bitsOf value 0 3) then 0 else bitsOf value 0 3)) ∧
  (∀ (g value : Nat) (s : State),
    ((∀ k < 4, (s.port (4 * g + k)).role = 0 ∧ (s.port (4 * g + k)).up = false) → g < 10 → value % 4 ≤ 2 →
      ∃ u, exec (.groupBifurcate g value) s = .next u ∧ u.splitOf g = value % 4) ∧
    ((∃ k < 4, (s.port (4 * g + k)).role ≠ 0 ∨ (s.port (4 * g + k)).up = true) ∨ 10 ≤ g ∨ value % 4 = 3 →
      exec (.groupBifurcate g value) s = .next s)) ∧
  (∀ (p rate width flit : Nat) (s : State),
    ((s.port p).inForce = 0 ∨ (s.port p).up = true ∨ width = 0 ∨ s.portExists p = false →
      exec (.linkPartnerDetect p rate width flit) s = .next s) ∧
    ((s.port p).inForce ≠ 0 → (s.port p).up = false → width ≠ 0 → s.portExists p = true →
      ∃ u, exec (.linkPartnerDetect p rate width flit) s = .next u ∧ u.mem = s.mem ∧ (u.port p).up = true ∧
        (u.port p).removed = false ∧ (u.port p).width = min width (5 - s.splitOf (p / 4)) ∧
        (u.port p).rate = min (min rate (min (s.port p).maxrate 6)) (if (s.port p).inForce = 2 then 5 else 6))) ∧
  (∀ (p width : Nat) (s : State),
    ((s.port p).up = false ∨ width = 0 ∨ (s.port p).width ≤ width → exec (.laneFailure p width) s = .next s) ∧
    ((s.port p).up = true → width ≠ 0 → width < (s.port p).width → ∃ u, exec (.laneFailure p width) s = .next u ∧
      u.port p = { s.port p with width := width } ∧
      (u.die (dieOfPort p)).degrades = min ((s.die (dieOfPort p)).degrades + 1) (2 ^ 16 - 1))) ∧
  (∀ (p : Nat) (s : State),
    (s.portExists p = true → (s.port p).bridges = true → ∃ u, exec (.deviceRemoval p) s = .next u ∧ u.mem = s.mem ∧
      (u.port p).up = false ∧ (u.port p).removed = true ∧
      ∀ ti gi op q, s.pending ti gi op = some q → u.pending ti gi op = some (q.abort fun d => d.2.1 = p)) ∧
    (s.portExists p = false ∨ (s.port p).bridges = false → exec (.deviceRemoval p) s = .next s)) ∧
  (∀ (p data addr : Nat) (s : State),
    let r := s.remap (data % 4096)
    let n := data % 2 ^ 32
    (s.carries p = false → exec (.msixMessage p data addr) s = .next s ∧ exec (.legacyInterruptMessage p) s = .next s) ∧
    (s.carries p = true → exec (.legacyInterruptMessage p) s = .next { s with reed := { s.reed with
      dropped := s.reed.dropped + 1 } }) ∧
    (s.carries p = true → addr ≠ msixAddr ∨ 4096 ≤ n ∨ r.v = false ∨ r.port ≠ p →
      exec (.msixMessage p data addr) s = .next { s with reed := { s.reed with dropped := s.reed.dropped + 1 } }) ∧
    (s.carries p = true → addr = msixAddr → n < 4096 → r.v = true → r.port = p →
      (r.mode = 0 → exec (.msixMessage p data addr) s = .next (s.setEvent (dieOfPort p) evIrq)) ∧
      (∀ ti t, r.mode = 1 → r.uid = some ti → s.arriveBar ti r.bar = some t → ∃ u,
        exec (.msixMessage p data addr) s = .next u ∧ u.mem = t.mem ∧
        u.remap n = { r with count := (r.count + 1) % 2 ^ 16 } ∧ (u.team ti).bars = (t.team ti).bars) ∧
      (r.mode = 2 → exec (.msixMessage p data addr) s = .next (s.setRemap n
        { r with drop := min (r.drop + 1) (2 ^ 16 - 1) }))))

/-- R289 to R292, R306: a memory request of a device reads or writes, as its fen, the memory that its address names; without a
fen or a permitted page it is an Unsupported Request. Translations, page requests and requests through incoming windows follow
the same tables. An uncorrectable error is logged as a machine check and is, as a failed seal, a Completer Abort for a device,
and for a peer, whose every failure is one (R306), an Unsupported Request; one that the walk meets is logged, and the request
is an Unsupported Request (R37; DEDUCED, log entry 128); each line that fails is logged once (DESIGN CHOICE, log entry 153).
R288: a configuration request is answered with the device's status, after 64 ms with status 4, or with status 5 when its link
is down (log entry 52). Where an event's conditions do not hold it changes nothing: the model's choice (DESIGN CHOICE, log
entry 5), as are the form of a translated request (log entry 94) and the answer to one that meets poison or an unmapped set
(log entry 118). Requests across 4 KiB, of no fen, and the kinds of answers are DEDUCED (log entry 53). -/
def Obligations.DeviceRequestEvents : Prop :=
  (∀ (p rid pasid addr len data flags : Nat) (s : State),
    let run := exec (.deviceMemoryRequest p rid pasid addr len data flags) s
    let write := bitOf flags 0
    let pa := fun f => s.requestPa f (if bitOf flags 1 then flags / 4 else addr) len write
      (if bitOf flags 1 then some addr else none)
    (s.carries p = false ∨ len = 0 ∨ 4096 < len → run = .next s) ∧
    (s.carries p = true → write = true → bitOf flags 1 = false → addr = msixAddr → len = 4 →
      run = exec (.msixMessage p data msixAddr) s) ∧
    (s.carries p = true → 1 ≤ len → len ≤ 4096 → addr ≠ msixAddr →
      (s.requestFen p rid pasid = none → run = .next (s.unsupported p rid write)) ∧
      (∀ f, s.requestFen p rid pasid = some f → pa f = none →
        let va := if bitOf flags 1 then flags / 4 else addr
        let found := if canonical va = true ∧ va % 4096 + len ≤ 4096 then match s.walkXlate f (va % 2 ^ 57) with
          | .error (.check code at_) => some (code, at_)
          | _ => none else none
        (found = none → run = .next (s.unsupported p rid write)) ∧
        (∀ code at_, found = some (code, at_) → isMc code = true →
          run = .next ((s.logMem code at_ false).unsupported p rid write))) ∧
      (∀ f x, s.requestFen p rid pasid = some f → pa f = some x →
        (let logged := s.logBeside [] (s.rangeErrs f x len)
         (∀ e at_, s.rangeErr f x len = some (e, at_) → e = .refused ∨ e = .abort → run = .next (logged.unsupported p rid write)) ∧
         (∀ e at_, s.rangeErr f x len = some (e, at_) → e = .mac ∨ e = .ecc ∨ e = .channel →
           run = .next (logged.completerAbort p rid write)) ∧
         (∀ e at_, x % 64 + len ≤ 64 → s.rangeErr f x len = some (e, at_) →
           logged = if e = .ecc ∨ e = .channel then s.logMem e.code at_ false else s)) ∧
        (s.rangeErr f x len = none → write = false → run = .next (s.respond {
          port := p, rid := rid, kind := 0, code := 0, data := s.readNat f x len })) ∧
        (s.rangeErr f x len = none → write = true → s.mem.monitors = [] → ∃ u, run = .next u ∧ u.teams = s.teams ∧
          (∀ k < len, u.readByte f (x + k) = (bytesLE len data).getD k 0) ∧
          ∀ a, a < x ∨ x + len ≤ a → u.readByte f a = s.readByte f a)))) ∧
  (∀ (p addr len data flags : Nat) (s : State),
    let run := exec (.ntbIncomingRequest p addr len data flags) s
    let write := bitOf flags 0
    ((s.port p).up = false ∨ (s.port p).inForce ≠ 3 ∨ len = 0 ∨ 4096 < len → run = .next s) ∧
    ((s.port p).up = true → (s.port p).inForce = 3 → 1 ≤ len → len ≤ 4096 →
      (s.inWindow p addr = none → run = .next (s.unsupported p 0 write)) ∧
      (∀ w, s.inWindow p addr = some w →
        let pa := s.requestPa w.fen (extend57 (w.loc + (addr - w.rem))) len write none
        (pa = none → run = .next ((s.requestProbe w.fen (extend57 (w.loc + (addr - w.rem))) len).unsupported
          p 0 write)) ∧
        (∀ x, pa = some x →
          (∀ e, s.rangeErr w.fen x len = some e →
            run = .next ((s.logBeside [] (s.rangeErrs w.fen x len)).unsupported p 0 write)) ∧
          (s.rangeErr w.fen x len = none → write = false → run = .next (s.respond {
            port := p, rid := 0, kind := 0, code := 0, data := s.readNat w.fen x len })) ∧
          (s.rangeErr w.fen x len = none → write = true → s.mem.monitors = [] → ∃ u, run = .next u ∧ u.teams = s.teams ∧
            (∀ k < len, u.readByte w.fen (x + k) = (bytesLE len data).getD k 0) ∧
            ∀ a, a < x ∨ x + len ≤ a → u.readByte w.fen a = s.readByte w.fen a))))) ∧
  (∀ (p rid pasid addr : Nat) (s : State),
    let run := exec (.atsTranslationRequest p rid pasid addr) s
    (s.carries p = false → run = .next s) ∧
    (s.carries p = true → s.requestFen p rid pasid = none ∨ canonical addr = false →
      run = .next (({ s with reed := { s.reed with unsupported := s.reed.unsupported + 1 } }).respond
        { port := p, rid := rid, kind := 1, code := 1, data := 0 })) ∧
    (∀ f e, s.carries p = true → s.requestFen p rid pasid = some f → canonical addr = true →
      s.walkXlate f (addr % 2 ^ 57) = .error e → (∀ code at_, e ≠ .check code at_) →
      run = .next (({ s with reed := { s.reed with unsupported := s.reed.unsupported + 1 } }).respond
        { port := p, rid := rid, kind := 1, code := 1, data := 0 })) ∧
    (∀ f code at_, s.carries p = true → s.requestFen p rid pasid = some f → canonical addr = true →
      s.walkXlate f (addr % 2 ^ 57) = .error (.check code at_) → isMc code = true →
      let u := s.logMem code at_ false
      run = .next (({ u with reed := { u.reed with unsupported := u.reed.unsupported + 1 } }).respond
        { port := p, rid := rid, kind := 1, code := 1, data := 0 })) ∧
    (∀ f x, s.carries p = true → s.requestFen p rid pasid = some f → canonical addr = true →
      s.walkXlate f (addr % 2 ^ 57) = .ok x →
      (x.da = false → run = .next (s.respond { port := p, rid := rid, kind := 1, code := 0, data := 0 })) ∧
      (x.da = true → ∃ u, run = .next u ∧ u.mem = s.mem ∧ (f, p, rid) ∈ u.reed.ats ∧ u.reed.responses =
        { port := p, rid := rid, kind := 1, code := 0, data := x.pa / 4096 * 4096 + b2n x.r + 2 * b2n x.w } ::
          s.reed.responses))) ∧
  (∀ (f : Nat) (s : State), exec (.atsInvalidateCompletion f) s = .next { s with reed := { s.reed with
    atspend := s.reed.atspend - 1 } }) ∧
  (∀ (p rid pasid addr acc prgi last : Nat) (s : State),
    let run := exec (.pageRequestMessage p rid pasid addr acc prgi last) s
    (s.carries p = false ∨ acc % 4 = 0 → run = .next s) ∧
    (s.carries p = true → acc % 4 ≠ 0 → s.requestFen p rid pasid = none →
      run = .next { s with reed := { s.reed with unsupported := s.reed.unsupported + 1 } }) ∧
    (∀ f, s.carries p = true → acc % 4 ≠ 0 → s.requestFen p rid pasid = some f →
      (s.reed.prqRoom f = false → run = .next ((s.prqRefuse f).respond
        { port := p, rid := rid, kind := 2, code := 2, data := prgi % 512 })) ∧
      (s.reed.prqRoom f = true → ∃ u, run = .next u ∧ u.mem = s.mem ∧ u.reed.prq = s.reed.prq ++ [{
        tag := s.reed.prqTag, popped := false, src := 0, acc := acc % 4, last := last = 1, prgi := prgi % 512, fen := f
        va := addr % 2 ^ 57 / 4096 * 4096, rid := rid % 2 ^ 16, port := p, pasid := pasid - 1, time := s.now }] ∧
        ∀ d < 4, (u.core (sysCore d)).event.getLsbD 2 = true))) ∧
  (∀ (idx status data : Nat) (s : State),
    (s.reed.cfg[idx]? = none → exec (.cfgCompletion idx status data) s = .next s ∧
      exec (.cfgCompletionTimeout idx) s = .next s) ∧
    (∀ r t, s.reed.cfg[idx]? = some r → s.teams.find r.team = some t →
      let done := fun (st x : Nat) (u : State) => u.mem = s.mem ∧ u.reed.cfg = dropAt s.reed.cfg idx ∧
        (r.dst < 63 → (u.group r.team r.group).readS r.dst = BitVec.ofNat 64 (st * 2 ^ 32 +
          if r.write then 0 else if st = 0 then x % 2 ^ 32 else 2 ^ 32 - 1)) ∧
        (r.pend = none → (u.group r.team r.group).block = none) ∧
        (∀ id q, r.pend = some id → s.pending r.team r.group id = some q →
          (u.group r.team r.group).flag q.flag = (t.group r.group).flag q.flag - 1)
      let up := (s.port (bitsOf r.addr 28 6)).up
      (∀ id q, r.pend = some id → s.pending r.team r.group id = some q → q.writes = [] ∧ q.devs = [] ∧ q.bad = none) →
      (up = false → ∃ u, exec (.cfgCompletion idx status data) s = .next u ∧ exec (.cfgCompletionTimeout idx) s = .next u ∧
        done 5 0 u) ∧
      (up = true → ∃ u, exec (.cfgCompletion idx status data) s = .next u ∧ done (status % 4) data u) ∧
      (up = true → r.since + 64000000 ≤ s.now → ∃ u, exec (.cfgCompletionTimeout idx) s = .next u ∧ done 4 0 u) ∧
      (up = true → s.now < r.since + 64000000 → exec (.cfgCompletionTimeout idx) s = .next s)))

/-- R296, R301, R308 to R310, R329, R341, R342, R345, R376, R380, R381: what a write of a register outside the cores does. A
handle that is retired or loaded makes the marks that are due first. Where an event's conditions do not hold it changes nothing:
the model's choice (DESIGN CHOICE, log entry 5). DEDUCED are the answers to offers and resets that the rules do not name (log
entries 23, 24), the blocks of numbers that are no partition (log entry 56), partitions over taken slices (log entry 57), what the
engine registers show (log entry 58), queues of a fen that is not bound (log entry 59), and the event of a page request and of a
timer (log entry 82). -/
def Obligations.RegisterWriteEvents : Prop :=
  ((∀ (h : Nat) (s : State),
    (1024 ≤ h → exec (.qhLoad h) s = .next s ∧ exec (.qhRetire h) s = .next s) ∧
    (let v := s.makeMarks h
     h < 1024 → (∃ u, exec (.qhRetire h) s = .next u ∧ u.mem = s.mem ∧ u.reed.marks = v.reed.marks ∧
       (∀ m ∈ u.reed.marks, m.handle = h → m.due = none) ∧
       u.handle h = { v.handle h with loaded := false, rdySq := [], rdyCq := [] }) ∧
      ((∀ m ∈ s.reed.marks, m.handle = h → m.due = none) → v = s) ∧
      exec (.qhLoad h) s = exec (.qhLoad h) v) ∧
    (let a := s.reed.qhbase + 64 * h
     let e := s.readNat 0 a 64
     h < 1024 → (∀ d ∈ s.reed.doorbells, d.1 ≠ h) → (∀ m ∈ s.reed.marks, m.handle = h → m.due = none) →
      (s.handleOk e = true → s.rangeErr 0 a 64 = none → ∃ u, exec (.qhLoad h) s = .next u ∧ u.mem = s.mem ∧
        let x := u.handle h
        x.loaded = true ∧ x.err = false ∧ x.fen = bitsOf e 8 8 ∧ x.sqm1 = bitsOf e 16 10 ∧ x.cqm1 = bitsOf e 32 10 ∧
        x.port = bitsOf e 42 6 ∧ x.rmap = bitsOf e 48 12 ∧ x.tail = 0 ∧ x.cqhead = 0 ∧ x.ndb = 0) ∧
      (s.handleOk e = false ∨ s.rangeErr 0 a 64 ≠ none → ∃ u, exec (.qhLoad h) s = .next u ∧ u.mem = s.mem ∧
        (u.handle h).loaded = false ∧ (u.handle h).err = true))) ∧
  (∀ (e word value : Nat) (s : State),
    (4096 ≤ e → exec (.remapWrite e word value) s = .next s) ∧
    (e < 4096 → word = 1 → bitsOf value 48 16 ≠ 0 →
      exec (.remapWrite e word value) s = .next (s.setRemap e { s.remap e with drop := 0 })) ∧
    (e < 4096 → word = 0 → ∃ u, exec (.remapWrite e word value) s = .next u ∧ u.mem = s.mem ∧
      (u.remap e).v = bitOf value 0 ∧ (u.remap e).fen = bitsOf value 8 8 ∧ (u.remap e).port = bitsOf value 16 6 ∧
      (u.remap e).mode = (if bitsOf value 1 2 = 0 ∨ bitsOf value 1 2 = 2 then bitsOf value 1 2 else (s.remap e).mode) ∧
      (u.remap e).count = (s.remap e).count ∧ (u.remap e).drop = (s.remap e).drop)) ∧
  (∀ (p value : Nat) (s : State), let x := s.part p
    (s.isPart p = false → ∀ q w, exec (.dstQueueWrite p q w value) s = .next s ∧ exec (.dstJbaseWrite p value) s = .next s ∧
      exec (.dstFqbaseWrite p value) s = .next s ∧ exec (.dstFqrdWrite p value) s = .next s ∧
      exec (.dstHoldClear p w value) s = .next s) ∧
    (s.isPart p = true →
      (∀ q < 64,
        (s.bound (bitsOf value 8 8) p = false → exec (.dstQueueWrite p q 0 value) s = .next s) ∧
        (s.bound (bitsOf value 8 8) p = true → ∃ u, exec (.dstQueueWrite p q 0 value) s = .next u ∧ u.mem = s.mem ∧
          let l := (u.part p).queue q
          l.en = bitOf value 0 ∧ l.base = (x.queue q).base ∧ l.head = (x.queue q).head ∧ l.tail = (x.queue q).tail ∧
          ((x.queue q).en = false → (x.queue q).head = (x.queue q).tail → l.ser = bitOf value 1 ∧
            l.prio = bitsOf value 2 3 ∧ l.fen = bitsOf value 8 8) ∧
          ((x.queue q).en = true → l.ser = (x.queue q).ser ∧ l.prio = (x.queue q).prio ∧ l.fen = (x.queue q).fen ∧
            l.log2 = (x.queue q).log2)) ∧
        ((x.queue q).en = true → exec (.dstQueueWrite p q 1 value) s = .next s) ∧
        ((x.queue q).en = false → (x.queue q).head = (x.queue q).tail → ∃ u,
          exec (.dstQueueWrite p q 1 value) s = .next u ∧ bitsOf ((u.part p).queue q).base 12 40 = bitsOf value 12 40)) ∧
      (∃ u, exec (.dstJbaseWrite p value) s = .next u ∧ u.mem = s.mem ∧ (u.part p).jwr = 0 ∧
        bitOf (u.part p).jbase 0 = bitOf value 0 ∧ bitsOf (u.part p).jbase 12 40 = bitsOf value 12 40) ∧
      (x.fqwait = [] → (∃ u, exec (.dstFqbaseWrite p value) s = .next u ∧ u.mem = s.mem ∧ (u.part p).fqwr = 0 ∧
          bitOf (u.part p).fqbase 0 = bitOf value 0 ∧ bitsOf (u.part p).fqbase 12 40 = bitsOf value 12 40) ∧
        exec (.dstFqrdWrite p value) s = .next (s.setPart p { x with fqrd := value % 2 ^ 64 })) ∧
      (∀ k < 4, ∃ u, exec (.dstHoldClear p k value) s = .next u ∧ u.mem = s.mem ∧
        ∀ f, f ∈ (u.part p).hold ↔ f ∈ x.hold ∧ ¬ (f / 64 = k ∧ bitOf value (f % 64) = true))))) ∧
  ((∀ (first size : Nat) (s : State), first < 64 → size < 64 →
    (runOk first size = false → exec (.partitionMake first size) s = .next (s.pstat 1)) ∧
    (runOk first size = true → (∃ k < size, (s.partOf (first + k)).isSome = true) →
      exec (.partitionMake first size) s = .next (s.pstat 2)) ∧
    (runOk first size = true → (∀ k < size, s.partOf (first + k) = none) → ∃ u,
      exec (.partitionMake first size) s = .next u ∧ u.mem = s.mem ∧ (u.part first).size = size ∧
      (u.part first).gen = s.guard.lgen + 1 ∧ u.guard.lgen = s.guard.lgen + 1 ∧ u.guard.pstat = 0) ∧
    (size = 0 ∨ (s.part first).size ≠ size → exec (.partitionUnmake first size) s = .next (s.pstat 1)) ∧
    (size ≠ 0 → (s.part first).size = size →
      (s.partIdle first false = false → exec (.partitionUnmake first size) s = .next (s.pstat 2)) ∧
      (s.partIdle first false = true → ∃ u, exec (.partitionUnmake first size) s = .next u ∧ u.mem = s.mem ∧
        u.isPart first = false ∧ u.guard.lgen = s.guard.lgen ∧ u.guard.pstat = 0))) ∧
  (∀ (e value : Nat) (s : State),
    (64 ≤ e → exec (.copyEngineAssign e value) s = .next s) ∧
    (e < 64 → bitOf value 6 = true → s.isPart (bitsOf value 0 6) = false → exec (.copyEngineAssign e value) s = .next s) ∧
    (e < 64 → (bitOf value 6 = true → s.isPart (bitsOf value 0 6) = true) → ∃ u,
      exec (.copyEngineAssign e value) s = .next u ∧ u.mem = s.mem ∧ u.engine e =
        if s.copies.any (fun c => c.engine = e) then { s.engine e with pend := some (bitsOf value 0 6, bitOf value 6) }
        else { pid := bitsOf value 0 6, v := bitOf value 6, pend := none }) ∧
    (∀ pid v, (s.engine e).pend = some (pid, v) → (∀ c ∈ s.copies, c.engine ≠ e) →
      exec (.copyEngineAssignEffect e) s = .next (s.setEngine e { pid := pid, v := v, pend := none })) ∧
    ((s.engine e).pend = none ∨ (∃ c ∈ s.copies, c.engine = e) → exec (.copyEngineAssignEffect e) s = .next s)) ∧
  (∀ s : State, exec .gateTableInvalidate s = .next { s with guard := { s.guard with gcache := [] } }) ∧
  (∀ (pa value : Nat) (s : State),
    (regionOf pa ≠ 15 → exec (.registerWrite pa value) s = .next s) ∧
    (∀ i < 4, exec (.registerWrite (15 * 2 ^ 48 + 0x300000C0 + 8 * i) value) s = .next { s with guard := { s.guard with
      aoscr := SMap.put 0 s.guard.aoscr i (BitVec.ofNat 64 value) } }) ∧
    (regionOf pa = 15 → exec (.registerWrite pa value) s = .next (s.regPut (pa % 2 ^ 48 / 8 * 8) (BitVec.ofNat 64 value)
      (BitVec.allOnes 64))))) ∧
  ((∀ (fn : Nat) (s : State),
    let served := s.sys.latched = true ∧ s.sys.facc.getLsbD 1 = true ∧
      (fn = 0 ∨ (fn ≤ 96 ∧ s.sys.facc.getLsbD 0 = true))
    (¬ served → exec (.hostDoorbellWrite fn) s = .next s) ∧
    (served → exec (.hostDoorbellWrite fn) s = .next (({ s with sys := { s.sys with
      hdb := s.sys.hdb ||| (1#97 <<< fn) } }).setEvent 0 evIrq)) ∧
    (fn ≠ 0 → exec (.functionLevelReset fn) s = .next s) ∧
    (fn = 0 → exec (.functionLevelReset fn) s = .next { s with sys := { s.sys with
      facc := 0, latched := false, featErr := false } })) ∧
  (∀ (lo hi : Nat) (s : State),
    let acc := BitVec.ofNat 128 (lo % 2 ^ 64 + hi % 2 ^ 64 * 2 ^ 64)
    (s.sys.latched = true → exec (.featOk lo hi) s = .next s) ∧
    (s.sys.latched = false → acc &&& ~~~ s.sys.foff ≠ 0 →
      exec (.featOk lo hi) s = .next { s with sys := { s.sys with featErr := true } }) ∧
    (s.sys.latched = false → acc &&& ~~~ s.sys.foff = 0 → exec (.featOk lo hi) s = .next { s with sys := { s.sys with
      facc := acc, latched := true, featErr := false } })) ∧
  (∀ (d : Nat) (s : State), (4 ≤ d ∨ (s.die d).mclog = [] → exec (.mclogPop d) s = .next s) ∧
    (∀ r rest, d < 4 → (s.die d).mclog = r :: rest → ∃ u, exec (.mclogPop d) s = .next u ∧ u.mem = s.mem ∧
      (u.die d).mclog = rest ∧ (u.core (sysCore d)).mclog1 = BitVec.ofNat 64 r.word1)))

/-- R357 to R361: a scrub unit makes 4 KiB read zero for every fen (in a retired channel it is a machine check instead, R385);
the first unit of a kind 2 entry drops the fen's L1 sectors of the core and its records, reuse latches and rendezvous entries
in Sedge, that of a kind 3 entry all of the core's, with its range locks; and the last unit of an entry takes it from the list;
a list stopped by a warm reset goes on when it is resumed. R344: a whole-core scrub latches the world asked for. R384: the
scrub of a spare puts it in its core's place, DONE unless a later command was refused. R366: an idle fen's measurements are
saved in its part of the area, and nowhere else. Where an event's conditions do not hold it changes nothing: the model's choice
(DESIGN CHOICE, log entry 5), as are the fields of a whole-core entry (log entry 75), the entry of a spare (log entry 20) and
the saved bytes (log entry 78). -/
def Obligations.ScrubAndSaveEvents : Prop :=
  (∀ (d : Nat) (s : State), let x := s.scrubber d
    (4 ≤ d ∨ x.paused = true ∨ x.live = [] → exec (.scrubUnit d) s = .next s) ∧
    (x.paused = false → exec (.scrubResume d) s = .next s) ∧
    (x.paused = true → d < 4 → ∃ u, exec (.scrubResume d) s = .next u ∧ (u.scrubber d).resumed = true ∧
      exec (.scrubUnit d) (s.setScrubber d { x with paused := false, resumed := true }) = .next u) ∧
    (∀ e, d < 4 → x.paused = false → x.live.head? = some e → ∃ u, exec (.scrubUnit d) s = .next u ∧
      (u.scrubber d).total = x.total + 1 ∧
      (x.done + 1 < e.units → (u.scrubber d).done = x.done + 1 ∧ (u.scrubber d).head = x.head) ∧
      (e.units ≤ x.done + 1 → (u.scrubber d).done = 0 ∧ (u.scrubber d).head = (x.head + 1) % 128) ∧
      (e.kind = 1 → let pa := bitsOf e.spec.toNat 12 40 * 4096 + 4096 * x.done
        (s.channelRetired pa = false → (∀ f a, pa ≤ a → a < pa + 4096 → u.readByte f a = 0) ∧
          ∀ f a, a < pa ∨ pa + 4096 ≤ a → u.readByte f a = s.readByte f a) ∧
        (s.channelRetired pa = true → u.mem = s.mem ∧ u.sys.dies = (s.logMem 0xF3 pa false).sys.dies)) ∧
      (e.kind ≠ 1 → u.mem = s.mem) ∧
      (x.done = 0 → e.kind = 2 ∨ e.kind = 3 →
        (∀ y, y ∈ (u.core e.core).l1 ↔ y ∈ (s.core e.core).l1 ∧ e.kind = 2 ∧ y.fen ≠ e.fen) ∧
        (∀ y, y ∈ (u.core e.core).sedge ↔ y ∈ (s.core e.core).sedge ∧ e.kind = 2 ∧ y.fen ≠ e.fen) ∧
        (e.kind = 3 → (u.core e.core).locks = []) ∧
        (∀ ti t, s.teams.find ti = some t → t.core = e.core → t.status = .resident → e.kind = 3 ∨ t.fen = e.fen →
          (u.team ti).rdvs = [] ∧ ∀ gi, (u.group ti gi).latch.valid = false ∧ (u.group ti gi).arrivedGang = none)) ∧
      (e.kind = 3 → e.units ≤ x.done + 1 → (s.die (dieOfCore e.core)).sparePend ≠ some e.core →
        (s.core e.core).worldPend = true →
        (u.core e.core).world = (s.core e.core).worldTarget ∧ (u.core e.core).worldPend = false) ∧
      (e.kind = 3 → e.units ≤ x.done + 1 → (s.die (dieOfCore e.core)).sparePend = some e.core →
        (u.die (dieOfCore e.core)).spareUsed = true ∧
        (u.die (dieOfCore e.core)).spareDone = !(s.die (dieOfCore e.core)).spareErr ∧
        (u.die (dieOfCore e.core)).sparePend = none ∧ (u.core e.core).retired = false))) ∧
  (∀ (f : Nat) (s : State), let x := s.fen f
    (x.v = true → s.slotsOf f = 0 → s.fenState f = 2 ∨ (∃ t, x.idle = some t ∧ t + 1000000 ≤ s.now) →
      ∃ u, exec (.fenMeasurementSave f) s = .next u ∧ u.fen f = { x with saved := true } ∧ u.teams = s.teams ∧
        ∀ g a, a / 64 < (s.guard.msbase + 4096 * f) / 64 ∨ (s.guard.msbase + 4096 * f + 63) / 64 < a / 64 →
          u.readByte g a = s.readByte g a) ∧
    (x.v = false ∨ s.slotsOf f ≠ 0 ∨ (s.fenState f ≠ 2 ∧ ∀ t, x.idle = some t → s.now < t + 1000000) →
      exec (.fenMeasurementSave f) s = .next s))

/-- R374, R384, R385, R387: a stopped system core restarts with group 0 at its trap vector; a spare takes the place of a
core once it is scrubbed, and a core or a channel is retired; a handover takes the new firmware, or keeps the old one
and says why. R106, R154: timers, and a split that takes effect on an empty core. Where an event's conditions do not hold it
changes nothing: the model's choice (DESIGN CHOICE, log entry 5), as are what the L1 holds after a new split (log entry 19),
the scrub of a spare (log entry 20), the moments of a handover (log entry 25) and how far a core's time is ahead (log entry
8). DEDUCED: a slice of another die is not retired (log entry 21), and TIMER follows the comparison (log entry 82). -/
def Obligations.ServiceEvents : Prop :=
  (∀ (d : Nat) (s : State),
    let others := ∃ k < 4, k ≠ d ∧ (s.core (sysCore k)).stopped = false
    (4 ≤ d ∨ (s.core (sysCore d)).stopped = false ∨ ¬ others → exec (.systemCoreRestart d) s = .next s) ∧
    (d < 4 → (s.core (sysCore d)).stopped = true → others → ∃ u, exec (.systemCoreRestart d) s = .next u ∧ u.mem = s.mem ∧
      (u.core (sysCore d)).stopped = false ∧
      ∀ ti t, s.teams.find ti = some t → t.system = true → t.core = sysCore d → (t.group 0).ended = false →
        (u.group ti 0).entries =
          [(0, newSplinter (s.core (sysCore d)).tvec noFrame 0x42 (~~~ (t.group 0).exited))] ∧
        ∀ gi ∈ t.groups.keys, gi ≠ 0 → (u.group ti gi).ended = true ∧ (u.group ti gi).entries = [])) ∧
  (∀ (d core : Nat) (s : State), core < 256 →
    (4 ≤ d → exec (.spareSubstitute d core) s = .next s ∧ exec (.coreRetire d core) s = .next s) ∧
    (d < 4 →
      (s.coreFree d core = true → (s.die d).spareUsed = false → (s.die d).sparePend = none →
        (s.scrubber d).full = false → ∃ u,
        exec (.spareSubstitute d core) s = .next u ∧ u.mem = s.mem ∧ (u.die d).sparePend = some core ∧
        (u.die d).spareDone = false ∧ (u.die d).spareErr = false ∧ (u.die d).spare.toNat = core ∧
        (u.scrubber d).tail = ((s.scrubber d).tail + 1) % 128) ∧
      (s.coreFree d core = false ∨ (s.die d).spareUsed = true ∨ (s.die d).sparePend ≠ none ∨ (s.scrubber d).full = true →
        ∃ u, exec (.spareSubstitute d core) s = .next u ∧
        (u.die d).sparePend = (s.die d).sparePend ∧ u.mem = s.mem ∧ u.cores = s.cores ∧ u.guard = s.guard ∧ (u.die d).spareDone = false ∧ (u.die d).spareErr = true) ∧
      (s.coreFree d core = true → ∃ u, exec (.coreRetire d core) s = .next u ∧ u.mem = s.mem ∧
        (u.core core).retired = true ∧ (u.die d).spareDone = true ∧ (u.die d).spareErr = false) ∧
      (s.coreFree d core = false → ∃ u, exec (.coreRetire d core) s = .next u ∧ u.mem = s.mem ∧ u.cores = s.cores ∧
        (u.die d).spareErr = true))) ∧
  (∀ (d slice ch : Nat) (s : State), slice < 64 → ch < 16 →
    (4 ≤ d → exec (.channelRetire d slice ch) s = .next s) ∧
    (d < 4 → slice < 48 → dieOfSlice slice = d → ∃ u, exec (.channelRetire d slice ch) s = .next u ∧
      (u.die d).chDone = true ∧ (∀ k, (u.mem.retiredCh.get 0 slice).getLsbD k =
        ((s.mem.retiredCh.get 0 slice).getLsbD k || k = ch))) ∧
    (d < 4 → 48 ≤ slice ∨ dieOfSlice slice ≠ d → ∃ u, exec (.channelRetire d slice ch) s = .next u ∧ u.mem = s.mem ∧
      (u.die d).chDone = false)) ∧
  (∀ s : State,
    let begun := ∃ d < 4, (s.die d).hoState = 1
    let refused := fun e : Nat => ∃ u, exec .firmwareHandover s = .next u ∧ u.mem = s.mem ∧ u.teams = s.teams ∧
      u.cores = s.cores ∧ u.guard = s.guard ∧ ∀ d < 4, u.die d =
        if (s.die d).hoState = 1 then { s.die d with hoState := 3, hoErr := e } else s.die d
    (¬ begun → exec .firmwareHandover s = .next s) ∧
    (∀ e, begun → imageError s.sys.flash = some e → refused e) ∧
    (∀ x, begun → imageError s.sys.flash = none → s.sys.flash = some x →
      (s.sys.facc &&& ~~~ x.foff ≠ 0 → refused 6) ∧
      (s.sys.facc &&& ~~~ x.foff = 0 → ∃ u, exec .firmwareHandover s = .next u ∧
        (∀ d < 4, (s.die d).hoState = 1 → (u.die d).hoState = 2 ∧ (u.die d).hoErr = 0) ∧
        u.guard.fwmeas = x.fwmeas ∧ u.sys.fwver = x.version ∧ u.sys.fwsec = x.security ∧
        ∀ d < 4, (u.core (sysCore d)).tvec = x.entry ∧ (u.core (sysCore d)).stopped = false ∧
          ∃ ti, (u.team ti).system = true ∧ (u.team ti).core = sysCore d ∧ (u.team ti).status = .resident))) ∧
  (∀ (c : Nat) (s : State), let k := s.core c
    (c < 192 → k.splitMode ≠ k.splitCur → s.teamsOn c = [] → k.slotUsed = false →
      exec (.splitEffect c) s = .next (s.setCore c { k with splitCur := k.splitMode, l1 := [] })) ∧
    (192 ≤ c ∨ k.splitMode = k.splitCur ∨ s.teamsOn c ≠ [] ∨ k.slotUsed = true →
      exec (.splitEffect c) s = .next s)) ∧
  (∀ (d : Nat) (s : State), let k := s.core (sysCore d)
    (4 ≤ d → exec (.timecmpEvent d) s = .next s) ∧
    (d < 4 → exec (.timecmpEvent d) s = .next (s.setCore (sysCore d) { k with
      event := k.event ||| (if k.timecmp.toNat ≤ s.timeOn (sysCore d) then 1 else 0) })))

/-- R3, R388 to R392: the power modes asked for and in force, with their limit on the draw, gated partitions, the power cap
and the temperature limits. Where an event's conditions do not hold it changes nothing: the model's choice (DESIGN CHOICE, log
entry 5), as is what the cores of a gated partition lose (log entry 22). DEDUCED: when the cap is released, and that the
module's shutdown stops every step but a cold reset (log entry 30). -/
def Obligations.PowerAndThermalEvents : Prop :=
  (∀ (v : Nat) (s : State),
    exec (.powerModeWrite v) s = .next { s with sys := { s.sys with
      mode := if v % 4 = 3 then s.sys.mode else v % 4, modeb := if v / 4 % 4 = 3 then s.sys.modeb else v / 4 % 4
      split := bitOf v 4 } }) ∧
  (∀ s : State,
    let cur := if s.sys.forced then 0 else s.sys.mode
    let curb := if s.sys.forced then 0 else if s.sys.split then s.sys.modeb else s.sys.mode
    let watts := fun m => if m = 0 then 3200 else if m = 2 then 4600 else 4000
    let limit := (watts cur + watts curb) / 2
    exec .powerModeEffect s = .next { s with sys := { s.sys with
      cur := cur, curb := curb
      drawOver := if limit < s.sys.draw then some (s.sys.drawOver.getD s.now) else none
      drawUnder := if 100 * s.sys.draw ≤ 95 * limit then some (s.sys.drawUnder.getD s.now) else none } }) ∧
  (∀ (p : Nat) (s : State), p < 64 → let x := s.part p
    (s.isPart p = true → s.partIdle p true = true → ∃ u, exec (.partitionGate p) s = .next u ∧ u.mem = s.mem ∧
      u.guard = s.guard ∧ u.sys.gateDone = true ∧ u.sys.gateErr = false ∧
      (∀ k < 48, u.sys.gated.getLsbD k = (s.sys.gated.getLsbD k || (p ≤ k && k < p + x.size))) ∧
      ∀ c, 4 * p ≤ c → c < 4 * p + 4 * x.size → (u.core c).slots = [] ∧ (u.core c).l1 = [] ∧ (u.core c).tlbs = [] ∧
        (u.core c).clock = (s.core c).clock ∧ (u.core c).retired = (s.core c).retired) ∧
    (s.isPart p = false ∨ s.partIdle p true = false → exec (.partitionGate p) s = .next { s with sys := { s.sys with
      gatePid := p, gateDone := false, gateErr := true } }) ∧
    (s.isPart p = true → ∃ u, exec (.partitionUngate p) s = .next u ∧ u.mem = s.mem ∧
      (s.sys.gated &&& s.gateMask p = 0 → u.cores = s.cores) ∧
      (s.sys.gated &&& s.gateMask p ≠ 0 → ∀ c, 4 * p ≤ c → c < 4 * p + 4 * x.size → (u.core c).slots = [] ∧
        (u.core c).splitMode = 1 ∧ (u.core c).splitCur = 1 ∧ (u.core c).world = false ∧ (u.core c).worldPend = false) ∧
      u.sys.gateDone = true ∧ u.sys.gateErr = false ∧
      ∀ k < 48, u.sys.gated.getLsbD k = (s.sys.gated.getLsbD k && !(p ≤ k && k < p + x.size))) ∧
    (s.isPart p = false → exec (.partitionUngate p) s = .next { s with sys := { s.sys with
      gatePid := p, gateDone := false, gateErr := true } })) ∧
  (∀ s : State,
    (∀ t, s.sys.drawOver = some t → t + 1000000 < s.now →
      exec .powerCapEngage s = .next { s with sys := { s.sys with cap := true } }) ∧
    (s.sys.drawOver = none ∨ (∃ t, s.sys.drawOver = some t ∧ s.now ≤ t + 1000000) → exec .powerCapEngage s = .next s) ∧
    (∀ t, s.sys.drawUnder = some t → t + 10000000 ≤ s.now → (∀ d ∈ s.sys.dies, d.2.hot = false) →
      exec .powerCapRelease s = .next { s with sys := { s.sys with cap := false } }) ∧
    (s.sys.drawUnder = none ∨ (∃ t, s.sys.drawUnder = some t ∧ s.now < t + 10000000) ∨
      (∃ d ∈ s.sys.dies, d.2.hot = true) → exec .powerCapRelease s = .next s)) ∧
  (∀ (d : Nat) (s : State),
    (4 ≤ d → exec (.thermalCap d) s = .next s ∧ exec (.thermalTrip d) s = .next s ∧ exec (.thermalShutdown d) s = .next s) ∧
    (d < 4 → (∃ u, exec (.thermalCap d) s = .next u ∧ u.mem = s.mem ∧ u.teams = s.teams ∧ u.sys.cap = true ∧
        (u.die d).hot = true) ∧
      (∃ u, exec (.thermalTrip d) s = .next u ∧ u.mem = s.mem ∧ u.teams = s.teams ∧ u.sys.cap = true ∧
        u.sys.forced = true ∧ u.sys.cur = 0 ∧ u.sys.curb = 0 ∧ u.sys.mode = s.sys.mode ∧
        (u.die d).mclog.getLast? = some { cause := 0xF5, kind := 3, unit := d, team := false, time := s.now, pa := 0 } ∧
        (u.core (sysCore d)).event.getLsbD 3 = true) ∧
      exec (.thermalShutdown d) s = .next { s with sys := { s.sys with off := true } })) ∧
  (∀ s : State,
    (s.sys.forced = false → exec .thermalRecovery s = .next s) ∧
    (s.sys.forced = true → ∃ u, exec .thermalRecovery s = .next u ∧ u.mem = s.mem ∧ u.sys.forced = false ∧
      u.sys.cur = s.sys.mode ∧ u.sys.curb = (if s.sys.split then s.sys.modeb else s.sys.mode) ∧
      ∀ d ∈ u.sys.dies, d.2.hot = false))

/-- R37, R376: an uncorrectable error of a core or a link is logged once, and delivered to each team that it affects, in turn: a
team of a system core or one whose saved context is intact takes its cause, another has ended with it; a team at the core that it does
not affect goes on. That no fault record is
posted for the latter is the model's choice (DESIGN CHOICE, log entry 116). R361, R373, R377, R379: a cold reset
leaves what reset gives and boots; a warm reset keeps the always-on domain. A boot without a valid image, or whose
training fails, starts no team. Where an event's conditions do not hold it changes nothing: the model's choice (DESIGN CHOICE,
log entry 5), as is what the rules leave open of a warm reset (log entry 28). DEDUCED: where a lost link is logged and which
teams its event names (log entry 29). The outcome of training is a free value (log entry 27). -/
def Obligations.ErrorAndResetEvents : Prop :=
  (let deliver := fun (cause : Nat) (intact : Bool) (u : State) (ti : Nat) => match u.teams.find ti with
     | some t =>
       if t.system = true ∨ intact = true then match t.lowest with
         | some (gi, ei) => u.takeFault ti gi ei { cause := cause }
         | none => u
       else if t.status = .ended then u else u.endTeam ti cause 0 false
     | none => u
   let hits := fun (intact : Bool) (t : Option Team) => t.any fun t => t.system = false &&
     if intact then (t.status = .resident || t.onf) && t.lowest.isSome else t.status ≠ .ended
  (∀ (core how : Nat) (s : State),
    let r := fun b : Bool => ({
      cause := 0xF2, kind := if 192 ≤ core then 4 else 1, unit := if 192 ≤ core then core - 192 else core
      team := b, time := s.now, pa := 0 } : McRec)
    let there := (s.teams.filter fun t => t.2.core = core && (t.2.status = .resident || t.2.status = .saving)).map (·.1)
    -- two bits for each team there: is it affected, and is its saved context intact
    let affected := (there.zipIdx.filter fun x => bitOf how (2 * x.2)).map fun x => (x.1, bitOf how (2 * x.2 + 1))
    let run := exec (.coreUncorrectableError core how) s
    (196 ≤ core → run = .next s) ∧
    (core < 196 → affected = [] → run = .next (s.logMc (dieOfCore core) (r false))) ∧
    (core < 196 → run = .next (affected.foldl (fun u x => deliver 0xF2 x.2 u x.1) (s.logMc (dieOfCore core)
      (r (affected.any fun x => hits x.2 (s.teams.find x.1)))))) ∧
    (∀ ti t intact, core < 196 → affected = [(ti, intact)] → s.teams.find ti = some t →
      (∀ gi ei, t.lowest = some (gi, ei) → t.system = true →
        run = .next ((s.logMc (dieOfCore core) (r false)).takeFault ti gi ei { cause := 0xF2 })) ∧
      (∀ gi ei, t.lowest = some (gi, ei) → t.system = false → intact = true → t.status = .resident →
        run = .next ((s.logMc (dieOfCore core) (r true)).takeFault ti gi ei { cause := 0xF2 })) ∧
      (t.system = false → intact = false → t.status ≠ .ended → ∃ u, run = .next u ∧ (u.team ti).status = .ended ∧
        u = (s.logMc (dieOfCore core) (r true)).endTeam ti 0xF2 0 false))) ∧
  (∀ (link : Nat) (s : State),
    let r := fun b : Bool => ({ cause := 0xF4, kind := 2, unit := link, team := b, time := s.now, pa := 0 } : McRec)
    (∀ a b, 6 ≤ link → exec (.linkDataLoss link a b) s = .next s) ∧
    (link < 6 → exec (.linkDataLoss link [] []) s = .next (s.logMc (dieOfLink link) (r false))) ∧
    (∀ a b, link < 6 → exec (.linkDataLoss link a b) s = .next (b.foldl (deliver 0xF4 false) (a.foldl (deliver 0xF4 true)
      (s.logMc (dieOfLink link) (r (a.any (fun ti => hits true (s.teams.find ti)) ||
        b.any fun ti => hits false (s.teams.find ti))))))) ∧
    (∀ ti t gi ei, link < 6 → s.teams.find ti = some t → t.system = false → t.status = .resident →
      t.lowest = some (gi, ei) →
      exec (.linkDataLoss link [ti] []) s =
        .next ((s.logMc (dieOfLink link) (r true)).takeFault ti gi ei { cause := 0xF4 }) ∧
      ∃ u, exec (.linkDataLoss link [] [ti]) s = .next u ∧ (u.team ti).status = .ended))) ∧
  (∀ s : State, ∃ u, exec .coldReset s = .next u ∧
    (∀ e, imageError s.sys.flash = some e → u = { s.coldState.drawKey with sys := { s.coldState.sys with
      stage := 15, bootErr := e } }) ∧
    (imageError s.sys.flash = none → ∀ x, s.sys.flash = some x → u.guard.fwmeas = x.fwmeas ∧ u.sys.fwver = x.version ∧
      ((u.sys.stage = 15 ∧ (u.sys.bootErr = 4 ∨ u.sys.bootErr = 5) ∧ u.teams = []) ∨
        (u.sys.stage = 3 ∧ u.ptbase = x.ptbase &&& 0x000FFFFFFFFFF000 ∧ ∀ d < 4, ∃ ti, (u.team ti).system = true ∧
          (u.team ti).core = sysCore d ∧ (u.team ti).status = .resident)))) ∧
  (∀ s : State, ∃ u, exec .warmReset s = .next u ∧ u.now = s.now ∧ u.guard.lgen = s.guard.lgen ∧
    u.guard.aoscr = s.guard.aoscr ∧ (∀ f, u.keyOf f = s.keyOf f ∧ (u.fen f).meas = (s.fen f).meas ∧
      (u.fen f).pid = (s.fen f).pid ∧ (u.fen f).v = (s.fen f).v ∧ (u.fen f).eph = none) ∧
    u.sys.cap = s.sys.cap ∧ u.sys.forced = s.sys.forced ∧ (s.sys.forced = true → u.sys.cur = 0 ∧ u.sys.curb = 0) ∧
    (∀ p, (u.part p).gen = (s.part p).gen ∧ (u.part p).size = (s.part p).size ∧ (u.part p).en = false) ∧
    (imageError s.sys.flash ≠ none → u.teams = [] ∧ (∀ f a, u.readByte f a = s.readByte f a) ∧
      ∀ c, (u.core c).slots = (s.core c).slots ∧ (u.core c).world = (s.core c).world ∧ (u.core c).l1 = []))

/-- The words of the opcode map: what the encoder gives for an instruction, whatever its fields hold, decodes to that
instruction (R38 to R57). No field's bit is dropped, and no two instructions share a word. The encoder answers for every
instruction that is a word, with a word of 32 bits, and for no event. -/
def Obligations.DecodeEncodeRoundTrip : Prop :=
  (∀ (i : Instr) (w : Nat), encode i = some w → decodeWord w = some i) ∧
  ∀ i : Instr, (i.isWord = true → ∃ w, encode i = some w ∧ w < 2 ^ 32) ∧ (i.isWord = false → encode i = none)

/-- Words written out from their encodings: R46, R57, R73, R83, R89, R93, R108, R168, R177, R189, R193, R228, R255, R266,
R297, R320, R346, R351. -/
def Obligations.SampleWordsDecode : Prop :=
  -- 1111 | WAIT 0000_0000_0101 | SETA 0001 | SETB 0010 | LEN 0011 | YH 1 | LB 0 | 00
  decodeWord 0b1111_0000_0000_0101_0001_0010_0011_1_0_00 = some (.clauseHeader 5 1 2 3 1 0) ∧
  -- `br`: 0x004 | h 10 | q 011 | n 1 | offset -2
  decodeWord 0b000000100_10_011_1_11111111111111110 = some (.br 2 3 1 0x1FFFE) ∧
  -- `loop`: 0x00B | l 01 | c 1 | n 5 | e 7
  decodeWord 0b000001011_01_1_0000000101_0000000111 = some (.loop 1 1 5 7) ∧
  -- `sadd`: 0x020 | bs 01 | 0 | d 3 | 0 | a 1 | b 2
  decodeWord 0b000100000_01_0_000011_0_000001_0000010 = some (.sadd (.s 2) 3 1) ∧
  -- `pand`: 0x038 | 11 | 0000 | d 1 | 0000 | a 2 | 0000 | b 3
  decodeWord 0b000111000_11_0000_001_0000_010_0000_011 = some (.pand 1 2 3) ∧
  -- `vfma`: 0x063 | bs 00 | d 4 | a 5 | b 6
  decodeWord 0b001100011_00_0000100_0000101_0000110 = some (.vfma (.v 6) 4 5) ∧
  -- `ldw`: 0x102 | d 9 | a 127 | s 8 | sc 2
  decodeWord 0b100000010_0001001_1111111_001000_010 = some (.ldw 9 { a := 127, s := 8, sc := 2 }) ∧
  -- `stl`: 0x121 | d 9 | a 10 | s 63 | sc 7
  decodeWord 0b100100001_0001001_0001010_111111_111 = some (.stl 9 { a := 10, s := 63, sc := 7 }) ∧
  -- `acas`: 0x149 | bs 00 | d 20 | a 22 | b 24
  decodeWord 0b101001001_00_0010100_0010110_0011000 = some (.acas (.v 24) 20 22) ∧
  -- `park`: 0x14A | bs 10 | cc GE | p 2 | a 4 | imm 1
  decodeWord 0b101001010_10_0101_010_0000100_0000001 = some (.park (.imm 1) .ge 2 4) ∧
  -- `mma`: 0x162 | r 1 | c 3 | a 16 | s 5 | 00 | z 1
  decodeWord 0b101100010_1_000011_0010000_000101_00_1 = some (.mma 1 3 16 5 1) ∧
  -- `cpt`: 0x180 | t 1 | l 2 | c 3 | b 4 | r 1
  decodeWord 0b110000000_000001_000010_000011_0100_1 = some (.cpt 1 2 3 4 1) ∧
  -- `binit`: 0x190 | bs 10 | 0 | n 3 | imm 8
  decodeWord 0b110010000_10_0000000000_0011_0001000 = some (.binit (.imm 8) 3) ∧
  -- `iodb` and `iodb.cq`: 0x1A0 | bs 00 | 0 or 1 | a 7 | b 12
  decodeWord 0b110100000_00_000000_0_0_000111_0001100 = some (.iodb (.v 12) 7) ∧
  decodeWord 0b110100000_00_000000_1_0_000111_0001100 = some (.iodbCq (.v 12) 7) ∧
  -- `enq`: 0x1B0 | bs 10 | 0000 | p 1 | a 2 | imm 5
  decodeWord 0b110110000_10_0000_001_0000010_0000101 = some (.enq (.imm 5) 1 2) ∧
  -- `gcall`: 0x1C0 | 10 | 0000 | p 1 | 0 | imm 9
  decodeWord 0b111000000_10_0000_001_0000000_0001001 = some (.gcallImm 1 9) ∧
  -- `kslot`: 0x1C8 | 00 | 0 | d 3 | 0 | a 4 | 0
  decodeWord 0b111001000_00_0_000011_0_000100_0000000 = some (.kslot 3 4) ∧
  -- a reserved opcode, and a reserved bit of `join`
  decodeWord 0b000011110_00000000000000000000000 = none ∧
  decodeWord 0b000001010_00000000000000000000001 = none

/-- One step runs what is due: the choice that the agenda names first, or else the policy's. For a word, the instruction that
the bytes at the splinter's PC decode to is executed on the state that names its issuer; a fetch that fails, or a word that
decodes to nothing, takes its fault, but for one that counts on a full flag, which stalls (R48); a splinter that may not issue
changes nothing else; an event is executed, an input has its effect; words of several groups of a team may issue in one cycle,
and the faults that they raise are then delivered together (R35; DESIGN CHOICE, log entry 144). A module that has shut down
stops (R391; DEDUCED, log entry 30). A fetch that fails is met before the word is decoded (R394). The agenda is the model's
(log entry 1), and so is what comes to the part through it without an event of its own: time passes, a stored line goes bad
(poison only in an expander), a corrected error is counted up to the counter's end, the flash is written, an L1 sector, a
translation or a line's stamp is evicted (the bank's floor keeps the later stamp), a die's temperature and the draw are
measured, a port's windows are set, and a function that the host reaches is configured; it changes nothing else. -/
def Obligations.StepRunsDecodedInstruction : Prop :=
  (∀ s : State,
    (∀ ns, s.input (.tick ns) = { s with now := s.now + ns }) ∧
    (∀ line how, let u := s.input (.corrupt line how)
      (how = .poison → regionOf (line * 64) ≠ 1 → u = s) ∧
      (how ≠ .poison ∨ regionOf (line * 64) = 1 → u.mem.bad.find line = some how ∧
        (∀ k, k ≠ line → u.mem.bad.find k = s.mem.bad.find k) ∧
        u = { s with mem := { s.mem with bad := u.mem.bad } })) ∧
    (∀ d array, s.input (.corrected d array) = s.modDie d fun x => { x with
      corrMem := if array then x.corrMem else min (x.corrMem + 1) (2 ^ 32 - 1)
      corrArray := if array then min (x.corrArray + 1) (2 ^ 16 - 1) else x.corrArray }) ∧
    (∀ img, s.input (.flash img) = { s with sys := { s.sys with flash := img } }) ∧
    (∀ c i, s.input (.evictL1 c i) = s.setCore c { s.core c with l1 := dropAt (s.core c).l1 i }) ∧
    (∀ c p i, let u := s.input (.evictTlb c p i)
      (u.core c).tlb p = dropAt ((s.core c).tlb p) i ∧ (∀ q, q ≠ p → (u.core c).tlb q = (s.core c).tlb q) ∧
      u = s.setCore c { s.core c with tlbs := (u.core c).tlbs }) ∧
    (∀ x i, let u := s.input (.evictSliceTlb x i)
      u.sliceTlb x = dropAt (s.sliceTlb x) i ∧ (∀ k, k ≠ x → u.sliceTlb k = s.sliceTlb k) ∧
      u = { s with sliceTlbs := u.sliceTlbs }) ∧
    (∀ line, let u := s.input (.evictStamp line)
      let bank := homeBank (line * 128)
      let ls := s.mem.ls.get { c := 0, core := 0 } line
      let fs := s.mem.fs.get { c := 0, core := 0 } bank
      u.mem.ls.find line = none ∧ (∀ k, k ≠ line → u.mem.ls.find k = s.mem.ls.find k) ∧
      u.mem.fs.get { c := 0, core := 0 } bank = (if ls.le fs = true then fs else ls) ∧
      u = { s with mem := { s.mem with ls := u.mem.ls, fs := u.mem.fs } }) ∧
    (∀ d on, s.input (.hot d on) = s.modDie d fun x => { x with hot := on }) ∧
    (∀ p ws, let u := s.input (.windows p ws)
      u.port p = { s.port p with windows := ws } ∧ (∀ q, q ≠ p → u.port q = s.port q) ∧
      u = { s with reed := { s.reed with ports := u.reed.ports } }) ∧
    (∀ i bytes, let u := s.input (.config i bytes)
      let served := i = 0 ∨ (i ≤ 96 ∧ s.sys.latched = true ∧ s.sys.facc.getLsbD 0 = true)
      (served → u.func i = { s.func i with config := bytes.take 4096 } ∧ (∀ k, k ≠ i → u.func k = s.func k) ∧
        u = { s with guard := { s.guard with funcs := u.guard.funcs } }) ∧
      (¬ served → u = s)) ∧
    (∀ watts, s.input (.draw watts) = { s with sys := { s.sys with
      draw := watts
      drawOver := if s.sys.limit < watts then some (s.sys.drawOver.getD s.now) else none
      drawUnder := if 100 * watts ≤ 95 * s.sys.limit then some (s.sys.drawUnder.getD s.now) else none } })) ∧
  ∀ s : State,
    (∀ x rest, s.agenda = x :: rest → s.choose = (x, { s.housekeep with agenda := rest })) ∧
    (s.sys.off = true → s.agenda.head? ≠ some (.event .coldReset) → step s = .fault .moduleOff) ∧
    (s.sys.off = false ∨ s.agenda.head? = some (.event .coldReset) →
      (∀ ti gi ei s1, s.choose = (.word ti gi ei, s1) →
        let s2 := { s1 with cur := (ti, gi, ei) }
        (s2.ctx = none → step s = .refused .noIssuer) ∧
        (∀ c, s2.ctx = some c → c.stalled s2 = true → step s = .next s2) ∧
        (∀ c, s2.ctx = some c → c.stalled s2 = false →
          (∀ w i, s2.fetchWord c.team.core c.grp.port c.fen c.ent.pc.toNat = .ok w → decodeWord w = some i → step s = exec i s2) ∧
          (∀ w, s2.fetchWord c.team.core c.grp.port c.fen c.ent.pc.toNat = .ok w → decodeWord w = none →
            let op := w / 2 ^ 23
            let full := ∃ n, c.flagOf op = some (some n) ∧ c.grp.flag n = 63 ∧ c.ent.mid = true ∧
              ¬ (guardedOp op = true ∧ c.acting op = 0)
            (full → step s = .next s2) ∧ (¬ full → step s = .next (s2.takeFault c.ti c.gi c.ei (undecoded c w)))) ∧
          (∀ cause, s2.fetchWord c.team.core c.grp.port c.fen c.ent.pc.toNat = .error cause →
            step s = .next (s2.takeFault c.ti c.gi c.ei (s2.fetchFault c cause))))) ∧
      (∀ i s1, s.choose = (.event i, s1) → i.isWord = false → step s = exec i s1) ∧
      (∀ x s1, s.choose = (.input x, s1) → step s = .next (s1.input x)) ∧
      (∀ ti words s1, s.choose = (.cycle ti words, s1) → step s = .next (s1.cycle ti words) ∧
        (s1.oneCycle ti words = false → step s = .next s1) ∧
        (s1.oneCycle ti words = true →
          step s = .next ((words.foldl (State.cycleWord ti) { s1 with gather := some [] }).settleFaults))) ∧
      (∀ x s1, s.choose = (x, s1) → s1.gather = none))

/-- What the spec gives for cold reset: SYS_TIMECMP all ones, split 01 (384 KiB of scratchpad) asked for and in force, every fen
slot free and the world open (R103, R154, R335, R337); no port trained, at most 128 GT/s and one port for each group (R281, R282);
no partition, PTH 20, TSL 1000, RUWAIT 32 (R308, R341); only fen 0x00 (R339); functions without a fen (R369); mode N asked for and
in force on both die pairs (R388); memory scrubbed (R356, R361; log entry 4). That reset lists no team is the state before its
boot ROM has run (log entry 2). -/
def Obligations.ResetState : Prop :=
  let s := State.reset
  s.teams = [] ∧ s.scepoch = 0 ∧
  (∀ c, (s.core c).timecmp = BitVec.allOnes 64 ∧ (s.core c).splitMode = 1 ∧ (s.core c).splitCur = 1 ∧
    (s.core c).slots = [] ∧ (s.core c).world = false ∧ (s.core c).clock = 0 ∧ (s.core c).stopped = false) ∧
  (∀ p, (s.port p).role = 0 ∧ (s.port p).inForce = 0 ∧ (s.port p).up = false ∧ (s.port p).maxrate = 6 ∧
    s.splitOf p = 0) ∧
  (∀ p, s.isPart p = false ∧ (s.part p).en = false ∧ (s.part p).pth = 20 ∧ (s.part p).tsl = 1000 ∧
    (s.part p).ruwait = 32 ∧ ∀ q, ((s.part p).queue q).en = false) ∧
  (∀ f, (s.fen f).v = decide (f = 0)) ∧ (∀ i, (s.func i).fen = 0xFF ∧ (s.func i).mst = 0) ∧
  (s.sys.mode = 1 ∧ s.sys.modeb = 1 ∧ s.sys.cur = 1 ∧ s.sys.curb = 1 ∧ s.sys.split = false ∧ s.sys.gated = 0 ∧ s.sys.facc = 0 ∧
    s.sys.hdb = 0) ∧ (∀ d, (s.die d).hoState = 0) ∧
  (∀ d, s.scrubEnts = [] ∧ (s.die d).mclog = [] ∧ (s.die d).corrMem = 0 ∧ (s.die d).spareUsed = false) ∧
  s.guard.lgen = 0 ∧ s.guard.gtsize = 0 ∧ s.reed.prq = [] ∧ s.mem.wf = true ∧ ∀ f a, s.readByte f a = 0

/-- R156, R350, R355, R356: bytes written by a fen read back, for that fen, under their masks, and every other byte that it
reads stays; the lines written become its own, and every line that was not written reads as before for every fen. A
line that a sealed fen owns is refused to another fen. A scrubbed range reads zero for every fen. -/
def Obligations.MemoryReadAfterWrite : Prop :=
  (∀ (s : State) (f pa : Nat) (bs : List (Byte × Byte)), f ≠ 0xFF → let u := s.writeMasked f pa bs
    (∀ k < bs.length, u.readByte f (pa + k) =
      mergeByte (s.readByte f (pa + k)) (bs.getD k (0, 0)).1 (bs.getD k (0, 0)).2) ∧
    (∀ a, a < pa ∨ pa + bs.length ≤ a → u.readByte f a = s.readByte f a) ∧
    (∀ k < bs.length, u.tagOf ((pa + k) / 64) = { own := f, key := s.keyOf f }) ∧
    (∀ g a, (∀ k < bs.length, (pa + k) / 64 ≠ a / 64) → u.readByte g a = s.readByte g a) ∧
    (s.mem.wf = true → u.mem.wf = true) ∧
    (∀ g k, k < bs.length → f ≠ g → f ≠ 0 → s.sealedFen f = true →
      (∀ j < bs.length, (pa + j) / 64 = (pa + k) / 64 ∨ s.tierLine ((pa + j) / 64) = none ∨
        s.tierLine ((pa + j) / 64) ≠ s.tierLine ((pa + k) / 64)) → s.tierAbort ((pa + k) / 64 * 64) = false →
      s.channelRetired ((pa + k) / 64 * 64) = false → s.mem.bad.find ((pa + k) / 64) = none →
      u.lineErr g ((pa + k) / 64) = some .refused)) ∧
  (∀ (s : State) (pa n : Nat), let u := s.scrubRange (4096 * pa) (4096 * n)
    (∀ f a, 4096 * pa ≤ a → a < 4096 * (pa + n) → u.readByte f a = 0) ∧
    (∀ f a, a < 4096 * pa ∨ 4096 * (pa + n) ≤ a → u.readByte f a = s.readByte f a) ∧
    (s.mem.wf = true → u.mem.wf = true))

/-- The memory keeps its canonical form in every step: addresses strictly rise, and no entry equals what an unlisted address
reads as (log entry 4). The list is the model's own; that the bytes of R156 and R356 have one representation is what lets
two memories be compared. -/
def Obligations.StepKeepsMemoryForm : Prop :=
  ∀ s t : State, s.mem.wf = true → step s = .next t → t.mem.wf = true
end

