-- ==== Sys2Proof/Laws/Tables.lean ====
section
/-!
SUPPORT. Laws of sparse tables: what a lookup finds after a change, and that every change keeps the canonical form.
-/
namespace Sys2Proof

variable {α : Type}

/-! ## Lookups -/

@[simp] theorem SMap.find_nil (n : Nat) : SMap.find ([] : SMap α) n = none := rfl

@[simp] theorem SMap.find_ins_same (m : SMap α) (n : Nat) (x : α) : (SMap.ins m n x).find n = some x := by
  induction m with
  | nil => simp [SMap.ins, SMap.find]
  | cons e m ih => obtain ⟨k, v⟩ := e; simp only [SMap.ins]; split_ifs <;> simp_all [SMap.find]

theorem SMap.find_ins_other (m : SMap α) (n j : Nat) (x : α) (h : j ≠ n) : (SMap.ins m n x).find j = m.find j := by
  induction m with
  | nil => simp [SMap.ins, SMap.find, h]
  | cons e m ih =>
    obtain ⟨k, v⟩ := e
    simp only [SMap.ins]
    split_ifs with h1 h2
    · subst h1; simp [SMap.find, h]
    · simp [SMap.find, h]
    · simp only [SMap.find, ih]

@[simp] theorem SMap.ins_ins (m : SMap α) (n : Nat) (x y : α) : SMap.ins (SMap.ins m n x) n y = SMap.ins m n y := by
  induction m with
  | nil => simp [SMap.ins]
  | cons e m ih =>
    obtain ⟨k, v⟩ := e
    simp only [SMap.ins]
    split_ifs with h1 h2
    · simp [SMap.ins]
    · simp [SMap.ins]
    · simp [SMap.ins, h1, ih]

/-- Setting an entry to what it is changes nothing. -/
theorem SMap.ins_find (m : SMap α) (n : Nat) (x : α) (h : m.find n = some x) : SMap.ins m n x = m := by
  induction m with
  | nil => simp at h
  | cons e m ih =>
    obtain ⟨k, v⟩ := e
    simp only [SMap.find] at h
    simp only [SMap.ins]
    split_ifs at h ⊢ with h1 h2
    · simp_all
    · simp [h] at h2
    · exact congrArg _ (ih h)

@[simp] theorem SMap.get_ins_same (d : α) (m : SMap α) (n : Nat) (x : α) : (SMap.ins m n x).get d n = x := by
  simp [SMap.get]

theorem SMap.get_ins_other (d : α) (m : SMap α) (n j : Nat) (x : α) (h : j ≠ n) :
    (SMap.ins m n x).get d j = m.get d j := by
  simp [SMap.get, SMap.find_ins_other m n j x h]

/-- A lookup of a key that a filter keeps. -/
theorem SMap.find_filter (m : SMap α) (p : Nat → Bool) (j : Nat) (h : p j = true) :
    SMap.find (m.filter fun e => p e.1) j = m.find j := by
  induction m with
  | nil => rfl
  | cons e m ih =>
    obtain ⟨k, v⟩ := e
    by_cases h1 : j = k
    · subst h1; simp [h, SMap.find]
    · cases h2 : p k <;> simp [h2, SMap.find, h1, ih]

/-- A lookup of a key that a filter drops. -/
theorem SMap.find_filter_none (m : SMap α) (p : Nat → Bool) (j : Nat) (h : p j = false) :
    SMap.find (m.filter fun e => p e.1) j = none := by
  induction m with
  | nil => rfl
  | cons e m ih =>
    obtain ⟨k, v⟩ := e
    by_cases h1 : j = k
    · subst h1; simp [h, ih]
    · cases h2 : p k <;> simp [h2, SMap.find, h1, ih]

@[simp] theorem SMap.find_del_same (m : SMap α) (n : Nat) : (m.del n).find n = none :=
  SMap.find_filter_none m (fun k => decide (k ≠ n)) n (by simp)

theorem SMap.find_del_other (m : SMap α) (n j : Nat) (h : j ≠ n) : (m.del n).find j = m.find j :=
  SMap.find_filter m (fun k => decide (k ≠ n)) j (by simp [h])

/-- A lookup at the key that was stored to. -/
@[simp] theorem SMap.get_put_same [DecidableEq α] (d : α) (m : SMap α) (n : Nat) (x : α) : (m.put d n x).get d n = x := by
  unfold SMap.put
  split_ifs with hx
  · simp [SMap.get, hx]
  · simp

/-- A lookup at another key. -/
theorem SMap.get_put_other [DecidableEq α] (d : α) (m : SMap α) (n j : Nat) (x : α) (hj : j ≠ n) :
    (m.put d n x).get d j = m.get d j := by
  unfold SMap.put
  split_ifs with hx
  · simp [SMap.get, SMap.find_del_other m n j hj]
  · exact SMap.get_ins_other d m n j x hj

/-! ## The canonical form -/

theorem SMap.sortedFrom_le (m : SMap α) (n j : Nat) (h : m.sortedFrom n = true) (hj : j ≤ n) :
    m.sortedFrom j = true := by
  cases m with
  | nil => rfl
  | cons e m =>
    simp only [SMap.sortedFrom, Bool.and_eq_true, decide_eq_true_eq] at h ⊢
    exact ⟨by omega, h.2⟩

/-- A table whose keys start at `n` has no lower key. -/
theorem SMap.find_below (m : SMap α) (n j : Nat) (h : m.sortedFrom n = true) (hj : j < n) : m.find j = none := by
  induction m generalizing n with
  | nil => rfl
  | cons e m ih =>
    obtain ⟨k, v⟩ := e
    simp only [SMap.sortedFrom, Bool.and_eq_true, decide_eq_true_eq] at h
    simp only [SMap.find]
    rw [if_neg (by omega), ih _ h.2 (by omega)]

theorem SMap.sortedFrom_ins (m : SMap α) (b n : Nat) (x : α) (h : m.sortedFrom b = true) (hn : b ≤ n) :
    (SMap.ins m n x).sortedFrom b = true := by
  induction m generalizing b with
  | nil => simp [SMap.ins, SMap.sortedFrom, hn]
  | cons e m ih =>
    obtain ⟨k, v⟩ := e
    simp only [SMap.sortedFrom, Bool.and_eq_true, decide_eq_true_eq] at h
    simp only [SMap.ins]
    split_ifs with h1 h2
    · subst h1; simp [SMap.sortedFrom, h]
    · simp [SMap.sortedFrom, hn, h.2]; omega
    · have : ¬ n < k := fun hlt => h2 ⟨hlt, by simp [SMap.find_below m _ n h.2 (by omega)]⟩
      simp [SMap.sortedFrom, h.1, ih _ h.2 (by omega)]

theorem SMap.sortedFrom_filter (m : SMap α) (p : Nat × α → Bool) (b : Nat) (h : m.sortedFrom b = true) :
    SMap.sortedFrom b (m.filter p) = true := by
  induction m generalizing b with
  | nil => rfl
  | cons e m ih =>
    obtain ⟨k, v⟩ := e
    simp only [SMap.sortedFrom, Bool.and_eq_true, decide_eq_true_eq] at h
    by_cases h1 : p (k, v) = true
    · simp [h1, SMap.sortedFrom, h.1, ih _ h.2]
    · simp only [List.filter_cons_of_neg h1]
      exact SMap.sortedFrom_le _ _ _ (ih _ h.2) (by omega)

theorem SMap.mem_ins (m : SMap α) (n : Nat) (x : α) (e : Nat × α) (h : e ∈ SMap.ins m n x) : e = (n, x) ∨ e ∈ m := by
  induction m with
  | nil => simpa [SMap.ins] using h
  | cons a m ih =>
    obtain ⟨k, v⟩ := a
    simp only [SMap.ins] at h
    split_ifs at h with h1 h2
    · simp at h ⊢; tauto
    · simp at h ⊢; tauto
    · simp at h ⊢; tauto

variable [DecidableEq α]

theorem SMap.wf_iff (d : α) (m : SMap α) : m.wf d = true ↔ m.sortedFrom 0 = true ∧ ∀ e ∈ m, e.2 ≠ d := by
  simp [SMap.wf, List.all_eq_true]

/-- Keeping some entries keeps the canonical form. -/
theorem SMap.wf_filter (d : α) (m : SMap α) (p : Nat × α → Bool) (h : m.wf d = true) : SMap.wf d (m.filter p) = true := by
  rw [SMap.wf_iff] at h ⊢
  exact ⟨SMap.sortedFrom_filter m p 0 h.1, fun e he => h.2 e (List.mem_of_mem_filter he)⟩

theorem SMap.wf_del (d : α) (m : SMap α) (n : Nat) (h : m.wf d = true) : (m.del n).wf d = true :=
  SMap.wf_filter d m _ h

/-- Storing a value keeps the canonical form. -/
theorem SMap.wf_put (d : α) (m : SMap α) (n : Nat) (x : α) (h : m.wf d = true) : (m.put d n x).wf d = true := by
  unfold SMap.put
  split_ifs with hx
  · exact SMap.wf_del d m n h
  · rw [SMap.wf_iff] at h ⊢
    exact ⟨SMap.sortedFrom_ins m 0 n x h.1 (Nat.zero_le _), fun e he => by
      rcases SMap.mem_ins m n x e he with rfl | he
      · exact hx
      · exact h.2 e he⟩

end Sys2Proof
end

