-- ==== Sys2Proof/Laws/Memory.lean ====
section
/-!
SUPPORT. Laws of memory: every operation keeps the canonical form, and what a fen reads after it has written.
-/
namespace Sys2Proof

namespace Machine

theorem Memory.wf_iff (m : Memory) :
    m.wf = true ↔ SMap.wf 0 m.bytes = true ∧ SMap.wf LineTag.scrubbed m.tags = true := by
  simp [Memory.wf]

theorem putBytes_wf (m : List Host.Cell) (a : Nat) (bs : List Byte) (h : SMap.wf 0 m = true) :
    SMap.wf 0 (putBytes m a bs) = true := by
  induction bs generalizing m a with
  | nil => exact h
  | cons b bs ih => exact ih _ _ (SMap.wf_put 0 m a b h)

/-- What lies below or above the stored bytes stays. -/
theorem putBytes_other (m : List Host.Cell) (a : Nat) (bs : List Byte) (j : Nat)
    (hj : j < a ∨ a + bs.length ≤ j) : SMap.get 0 (putBytes m a bs) j = SMap.get 0 m j := by
  induction bs generalizing m a with
  | nil => rfl
  | cons b bs ih =>
    simp only [List.length_cons] at hj
    rw [putBytes, ih _ _ (by omega), SMap.get_put_other 0 m a j b (by omega)]

/-- The stored bytes are found. -/
theorem putBytes_same (m : List Host.Cell) (a : Nat) (bs : List Byte) (i : Nat)
    (hi : i < bs.length) : SMap.get 0 (putBytes m a bs) (a + i) = bs.getD i 0 := by
  induction bs generalizing m a i with
  | nil => simp at hi
  | cons b bs ih =>
    rw [putBytes]
    cases i with
    | zero =>
      rw [putBytes_other _ _ _ _ (by omega)]
      simp
    | succ i =>
      have := ih (SMap.put 0 m a b) (a + 1) i (by simpa using hi)
      rw [show a + (i + 1) = a + 1 + i by omega, this]
      simp

theorem claimLine_wf (s : State) (f line : Nat) (h : s.mem.wf = true) : (s.claimLine f line).mem.wf = true := by
  rw [Memory.wf_iff] at h ⊢
  refine ⟨?_, SMap.wf_put _ _ _ _ h.2⟩
  simp only [State.claimLine]
  split_ifs
  · exact h.1
  · exact putBytes_wf _ _ _ h.1

theorem writeByte_wf (s : State) (f pa : Nat) (x m : Byte) (h : s.mem.wf = true) :
    (s.writeByte f pa x m).mem.wf = true := by
  have h1 := (Memory.wf_iff _).1 (claimLine_wf s f (pa / 64) h)
  exact (Memory.wf_iff _).2 ⟨SMap.wf_put _ _ _ _ h1.1, h1.2⟩

theorem writeMasked_wf (s : State) (f pa : Nat) (xs : List (Byte × Byte)) (h : s.mem.wf = true) :
    (s.writeMasked f pa xs).mem.wf = true := by
  induction xs generalizing s pa with
  | nil => exact h
  | cons x xs ih => obtain ⟨x, m⟩ := x; exact ih _ _ (writeByte_wf s f pa x m h)

theorem writeBytes_wf (s : State) (f pa : Nat) (bs : List Byte) (h : s.mem.wf = true) :
    (s.writeBytes f pa bs).mem.wf = true := writeMasked_wf s f pa _ h

theorem scrubRange_wf (s : State) (pa n : Nat) (h : s.mem.wf = true) : (s.scrubRange pa n).mem.wf = true := by
  rw [Memory.wf_iff] at h ⊢
  exact ⟨SMap.wf_filter _ _ _ h.1, SMap.wf_filter _ _ _ h.2⟩

@[simp] theorem claimLine_guard (s : State) (f line : Nat) : (s.claimLine f line).guard = s.guard := rfl

@[simp] theorem claimLine_keyOf (s : State) (f line g : Nat) : (s.claimLine f line).keyOf g = s.keyOf g := rfl

/-- The tag of a line after a fen has made it its own (R356). -/
theorem claimLine_tag (s : State) (f line l : Nat) :
    (s.claimLine f line).tagOf l = if l = line then { own := f, key := s.keyOf f } else s.tagOf l := by
  simp only [State.tagOf, State.claimLine]
  split_ifs with h1
  · subst h1; exact SMap.get_put_same _ _ _ _
  · exact SMap.get_put_other _ _ _ _ _ h1

theorem readBytes_getD (s : State) (f pa n i : Nat) (hi : i < n) : (s.readBytes f pa n).getD i 0 = s.readByte f (pa + i) := by
  simp [State.readBytes, List.getD_eq_getElem?_getD, hi]

/-- Making a line one's own changes no byte that one reads (R356). -/
theorem readByte_claimLine (s : State) (f line a : Nat) (hf : f ≠ 0xFF) :
    (s.claimLine f line).readByte f a = s.readByte f a := by
  by_cases hl : a / 64 = line
  · have e : (s.claimLine f line).readByte f a = SMap.get 0 (s.claimLine f line).mem.bytes a := by
      simp [State.readByte, claimLine_tag s f line _, hl, hf]
    rw [e]
    simp only [State.claimLine]
    split_ifs with h1
    · rw [← hl] at h1; simp [State.readByte, h1]
    · have hi : a - line * 64 < (s.readBytes f (line * 64) 64).length := by simp [State.readBytes]; omega
      have := putBytes_same s.mem.bytes (line * 64) (s.readBytes f (line * 64) 64) (a - line * 64) hi
      rw [show line * 64 + (a - line * 64) = a by omega] at this
      rw [this, readBytes_getD _ _ _ _ _ (by omega), show line * 64 + (a - line * 64) = a by omega]
  · have e : ∀ j, j / 64 = a / 64 → SMap.get 0 (s.claimLine f line).mem.bytes j = SMap.get 0 s.mem.bytes j := by
      intro j hj
      simp only [State.claimLine]
      split_ifs with h1
      · rfl
      · exact putBytes_other _ _ _ _ (by simp [State.readBytes]; omega)
    have raw : (s.claimLine f line).mem.rawSector (a / 32) = s.mem.rawSector (a / 32) := by
      simp only [Memory.rawSector]
      exact List.map_congr_left fun i hi => e _ (by simp at hi; omega)
    simp only [State.readByte, State.readSector, claimLine_tag s f line _, claimLine_keyOf, e a rfl, raw,
      if_neg hl, if_neg (show ¬ a / 32 / 2 = line by omega)]

/-- What the writer reads after it has written one byte: the written bits there, and every other byte as before. -/
theorem readByte_writeByte (s : State) (f pa a : Nat) (x m : Byte) (hf : f ≠ 0xFF) :
    (s.writeByte f pa x m).readByte f a
      = if a = pa then mergeByte (s.readByte f pa) x m else s.readByte f a := by
  have tag : ∀ l, (s.writeByte f pa x m).tagOf l = (s.claimLine f (pa / 64)).tagOf l := fun _ => rfl
  have key : (s.writeByte f pa x m).keyOf f = s.keyOf f := rfl
  have own : (s.claimLine f (pa / 64)).readByte f pa = SMap.get 0 (s.claimLine f (pa / 64)).mem.bytes pa := by
    simp [State.readByte, claimLine_tag s f _ _, hf]
  split_ifs with h1
  · subst h1
    have : (s.writeByte f a x m).readByte f a = SMap.get 0 (s.writeByte f a x m).mem.bytes a := by
      simp [State.readByte, tag, key, claimLine_tag s f _ _, hf]
    rw [this, ← readByte_claimLine s f (a / 64) a hf, own]
    exact SMap.get_put_same _ _ _ _
  · rw [← readByte_claimLine s f (pa / 64) a hf]
    by_cases hl : a / 64 = pa / 64
    · have e1 : (s.writeByte f pa x m).readByte f a = SMap.get 0 (s.writeByte f pa x m).mem.bytes a := by
        simp [State.readByte, tag, key, claimLine_tag s f _ _, hf, hl]
      have e2 : (s.claimLine f (pa / 64)).readByte f a = SMap.get 0 (s.claimLine f (pa / 64)).mem.bytes a := by
        simp [State.readByte, claimLine_tag s f _ _, hf, hl]
      rw [e1, e2]
      exact SMap.get_put_other _ _ _ _ _ h1
    · have raw : (s.writeByte f pa x m).mem.rawSector (a / 32) = (s.claimLine f (pa / 64)).mem.rawSector (a / 32) := by
        simp only [Memory.rawSector]
        exact List.map_congr_left fun i hi => SMap.get_put_other _ _ _ _ _ (by simp at hi; omega)
      have eb : SMap.get 0 (s.writeByte f pa x m).mem.bytes a = SMap.get 0 (s.claimLine f (pa / 64)).mem.bytes a :=
        SMap.get_put_other _ _ _ _ _ h1
      have kk : (s.writeByte f pa x m).keyOf f = (s.claimLine f (pa / 64)).keyOf f := rfl
      simp only [State.readByte, State.readSector, tag, kk, raw, eb]

end Machine
end Sys2Proof
end

