-- ==== Sys2Proof/Laws/State.lean ====
section
/-!
SUPPORT. What each named update of the machine leaves as it was, field by field, and what it changes read back.
-/
namespace Sys2Proof.Machine

@[simp] theorem State.setTeam_agenda (s : State) (ti : Nat) (t : Team) : (s.setTeam ti t).agenda = s.agenda := rfl
@[simp] theorem State.setTeam_gather (s : State) (ti : Nat) (t : Team) : (s.setTeam ti t).gather = s.gather := rfl
@[simp] theorem State.setTeam_cur (s : State) (ti : Nat) (t : Team) : (s.setTeam ti t).cur = s.cur := rfl
@[simp] theorem State.setTeam_nfree (s : State) (ti : Nat) (t : Team) : (s.setTeam ti t).nfree = s.nfree := rfl
@[simp] theorem State.setTeam_nextId (s : State) (ti : Nat) (t : Team) : (s.setTeam ti t).nextId = s.nextId := rfl
@[simp] theorem State.setTeam_now (s : State) (ti : Nat) (t : Team) : (s.setTeam ti t).now = s.now := rfl
@[simp] theorem State.setTeam_ptbase (s : State) (ti : Nat) (t : Team) : (s.setTeam ti t).ptbase = s.ptbase := rfl
@[simp] theorem State.setTeam_scepoch (s : State) (ti : Nat) (t : Team) : (s.setTeam ti t).scepoch = s.scepoch := rfl
@[simp] theorem State.setTeam_cores (s : State) (ti : Nat) (t : Team) : (s.setTeam ti t).cores = s.cores := rfl
@[simp] theorem State.setTeam_mem (s : State) (ti : Nat) (t : Team) : (s.setTeam ti t).mem = s.mem := rfl
@[simp] theorem State.setTeam_sliceTlbs (s : State) (ti : Nat) (t : Team) : (s.setTeam ti t).sliceTlbs = s.sliceTlbs := rfl
@[simp] theorem State.setTeam_copies (s : State) (ti : Nat) (t : Team) : (s.setTeam ti t).copies = s.copies := rfl
@[simp] theorem State.setTeam_cpls (s : State) (ti : Nat) (t : Team) : (s.setTeam ti t).cpls = s.cpls := rfl
@[simp] theorem State.setTeam_enqs (s : State) (ti : Nat) (t : Team) : (s.setTeam ti t).enqs = s.enqs := rfl
@[simp] theorem State.setTeam_txops (s : State) (ti : Nat) (t : Team) : (s.setTeam ti t).txops = s.txops := rfl
@[simp] theorem State.setTeam_reed (s : State) (ti : Nat) (t : Team) : (s.setTeam ti t).reed = s.reed := rfl
@[simp] theorem State.setTeam_parts (s : State) (ti : Nat) (t : Team) : (s.setTeam ti t).parts = s.parts := rfl
@[simp] theorem State.setTeam_guard (s : State) (ti : Nat) (t : Team) : (s.setTeam ti t).guard = s.guard := rfl
@[simp] theorem State.setTeam_sys (s : State) (ti : Nat) (t : Team) : (s.setTeam ti t).sys = s.sys := rfl
@[simp] theorem State.modTeam_agenda (s : State) (ti : Nat) (f : Team → Team) : (s.modTeam ti f).agenda = s.agenda := rfl
@[simp] theorem State.modTeam_gather (s : State) (ti : Nat) (f : Team → Team) : (s.modTeam ti f).gather = s.gather := rfl
@[simp] theorem State.modTeam_cur (s : State) (ti : Nat) (f : Team → Team) : (s.modTeam ti f).cur = s.cur := rfl
@[simp] theorem State.modTeam_nfree (s : State) (ti : Nat) (f : Team → Team) : (s.modTeam ti f).nfree = s.nfree := rfl
@[simp] theorem State.modTeam_nextId (s : State) (ti : Nat) (f : Team → Team) : (s.modTeam ti f).nextId = s.nextId := rfl
@[simp] theorem State.modTeam_now (s : State) (ti : Nat) (f : Team → Team) : (s.modTeam ti f).now = s.now := rfl
@[simp] theorem State.modTeam_ptbase (s : State) (ti : Nat) (f : Team → Team) : (s.modTeam ti f).ptbase = s.ptbase := rfl
@[simp] theorem State.modTeam_scepoch (s : State) (ti : Nat) (f : Team → Team) : (s.modTeam ti f).scepoch = s.scepoch := rfl
@[simp] theorem State.modTeam_cores (s : State) (ti : Nat) (f : Team → Team) : (s.modTeam ti f).cores = s.cores := rfl
@[simp] theorem State.modTeam_mem (s : State) (ti : Nat) (f : Team → Team) : (s.modTeam ti f).mem = s.mem := rfl
@[simp] theorem State.modTeam_sliceTlbs (s : State) (ti : Nat) (f : Team → Team) : (s.modTeam ti f).sliceTlbs = s.sliceTlbs := rfl
@[simp] theorem State.modTeam_copies (s : State) (ti : Nat) (f : Team → Team) : (s.modTeam ti f).copies = s.copies := rfl
@[simp] theorem State.modTeam_cpls (s : State) (ti : Nat) (f : Team → Team) : (s.modTeam ti f).cpls = s.cpls := rfl
@[simp] theorem State.modTeam_enqs (s : State) (ti : Nat) (f : Team → Team) : (s.modTeam ti f).enqs = s.enqs := rfl
@[simp] theorem State.modTeam_txops (s : State) (ti : Nat) (f : Team → Team) : (s.modTeam ti f).txops = s.txops := rfl
@[simp] theorem State.modTeam_reed (s : State) (ti : Nat) (f : Team → Team) : (s.modTeam ti f).reed = s.reed := rfl
@[simp] theorem State.modTeam_parts (s : State) (ti : Nat) (f : Team → Team) : (s.modTeam ti f).parts = s.parts := rfl
@[simp] theorem State.modTeam_guard (s : State) (ti : Nat) (f : Team → Team) : (s.modTeam ti f).guard = s.guard := rfl
@[simp] theorem State.modTeam_sys (s : State) (ti : Nat) (f : Team → Team) : (s.modTeam ti f).sys = s.sys := rfl
@[simp] theorem State.setGroup_agenda (s : State) (ti gi : Nat) (g : Group) : (s.setGroup ti gi g).agenda = s.agenda := rfl
@[simp] theorem State.setGroup_gather (s : State) (ti gi : Nat) (g : Group) : (s.setGroup ti gi g).gather = s.gather := rfl
@[simp] theorem State.setGroup_cur (s : State) (ti gi : Nat) (g : Group) : (s.setGroup ti gi g).cur = s.cur := rfl
@[simp] theorem State.setGroup_nfree (s : State) (ti gi : Nat) (g : Group) : (s.setGroup ti gi g).nfree = s.nfree := rfl
@[simp] theorem State.setGroup_nextId (s : State) (ti gi : Nat) (g : Group) : (s.setGroup ti gi g).nextId = s.nextId := rfl
@[simp] theorem State.setGroup_now (s : State) (ti gi : Nat) (g : Group) : (s.setGroup ti gi g).now = s.now := rfl
@[simp] theorem State.setGroup_ptbase (s : State) (ti gi : Nat) (g : Group) : (s.setGroup ti gi g).ptbase = s.ptbase := rfl
@[simp] theorem State.setGroup_scepoch (s : State) (ti gi : Nat) (g : Group) : (s.setGroup ti gi g).scepoch = s.scepoch := rfl
@[simp] theorem State.setGroup_cores (s : State) (ti gi : Nat) (g : Group) : (s.setGroup ti gi g).cores = s.cores := rfl
@[simp] theorem State.setGroup_mem (s : State) (ti gi : Nat) (g : Group) : (s.setGroup ti gi g).mem = s.mem := rfl
@[simp] theorem State.setGroup_sliceTlbs (s : State) (ti gi : Nat) (g : Group) : (s.setGroup ti gi g).sliceTlbs = s.sliceTlbs := rfl
@[simp] theorem State.setGroup_copies (s : State) (ti gi : Nat) (g : Group) : (s.setGroup ti gi g).copies = s.copies := rfl
@[simp] theorem State.setGroup_cpls (s : State) (ti gi : Nat) (g : Group) : (s.setGroup ti gi g).cpls = s.cpls := rfl
@[simp] theorem State.setGroup_enqs (s : State) (ti gi : Nat) (g : Group) : (s.setGroup ti gi g).enqs = s.enqs := rfl
@[simp] theorem State.setGroup_txops (s : State) (ti gi : Nat) (g : Group) : (s.setGroup ti gi g).txops = s.txops := rfl
@[simp] theorem State.setGroup_reed (s : State) (ti gi : Nat) (g : Group) : (s.setGroup ti gi g).reed = s.reed := rfl
@[simp] theorem State.setGroup_parts (s : State) (ti gi : Nat) (g : Group) : (s.setGroup ti gi g).parts = s.parts := rfl
@[simp] theorem State.setGroup_guard (s : State) (ti gi : Nat) (g : Group) : (s.setGroup ti gi g).guard = s.guard := rfl
@[simp] theorem State.setGroup_sys (s : State) (ti gi : Nat) (g : Group) : (s.setGroup ti gi g).sys = s.sys := rfl
@[simp] theorem State.modGroup_agenda (s : State) (ti gi : Nat) (f : Group → Group) : (s.modGroup ti gi f).agenda = s.agenda := rfl
@[simp] theorem State.modGroup_gather (s : State) (ti gi : Nat) (f : Group → Group) : (s.modGroup ti gi f).gather = s.gather := rfl
@[simp] theorem State.modGroup_cur (s : State) (ti gi : Nat) (f : Group → Group) : (s.modGroup ti gi f).cur = s.cur := rfl
@[simp] theorem State.modGroup_nfree (s : State) (ti gi : Nat) (f : Group → Group) : (s.modGroup ti gi f).nfree = s.nfree := rfl
@[simp] theorem State.modGroup_nextId (s : State) (ti gi : Nat) (f : Group → Group) : (s.modGroup ti gi f).nextId = s.nextId := rfl
@[simp] theorem State.modGroup_now (s : State) (ti gi : Nat) (f : Group → Group) : (s.modGroup ti gi f).now = s.now := rfl
@[simp] theorem State.modGroup_ptbase (s : State) (ti gi : Nat) (f : Group → Group) : (s.modGroup ti gi f).ptbase = s.ptbase := rfl
@[simp] theorem State.modGroup_scepoch (s : State) (ti gi : Nat) (f : Group → Group) : (s.modGroup ti gi f).scepoch = s.scepoch := rfl
@[simp] theorem State.modGroup_cores (s : State) (ti gi : Nat) (f : Group → Group) : (s.modGroup ti gi f).cores = s.cores := rfl
@[simp] theorem State.modGroup_mem (s : State) (ti gi : Nat) (f : Group → Group) : (s.modGroup ti gi f).mem = s.mem := rfl
@[simp] theorem State.modGroup_sliceTlbs (s : State) (ti gi : Nat) (f : Group → Group) : (s.modGroup ti gi f).sliceTlbs = s.sliceTlbs := rfl
@[simp] theorem State.modGroup_copies (s : State) (ti gi : Nat) (f : Group → Group) : (s.modGroup ti gi f).copies = s.copies := rfl
@[simp] theorem State.modGroup_cpls (s : State) (ti gi : Nat) (f : Group → Group) : (s.modGroup ti gi f).cpls = s.cpls := rfl
@[simp] theorem State.modGroup_enqs (s : State) (ti gi : Nat) (f : Group → Group) : (s.modGroup ti gi f).enqs = s.enqs := rfl
@[simp] theorem State.modGroup_txops (s : State) (ti gi : Nat) (f : Group → Group) : (s.modGroup ti gi f).txops = s.txops := rfl
@[simp] theorem State.modGroup_reed (s : State) (ti gi : Nat) (f : Group → Group) : (s.modGroup ti gi f).reed = s.reed := rfl
@[simp] theorem State.modGroup_parts (s : State) (ti gi : Nat) (f : Group → Group) : (s.modGroup ti gi f).parts = s.parts := rfl
@[simp] theorem State.modGroup_guard (s : State) (ti gi : Nat) (f : Group → Group) : (s.modGroup ti gi f).guard = s.guard := rfl
@[simp] theorem State.modGroup_sys (s : State) (ti gi : Nat) (f : Group → Group) : (s.modGroup ti gi f).sys = s.sys := rfl
@[simp] theorem State.setCore_agenda (s : State) (c : Nat) (k : Core) : (s.setCore c k).agenda = s.agenda := rfl
@[simp] theorem State.setCore_gather (s : State) (c : Nat) (k : Core) : (s.setCore c k).gather = s.gather := rfl
@[simp] theorem State.setCore_cur (s : State) (c : Nat) (k : Core) : (s.setCore c k).cur = s.cur := rfl
@[simp] theorem State.setCore_nfree (s : State) (c : Nat) (k : Core) : (s.setCore c k).nfree = s.nfree := rfl
@[simp] theorem State.setCore_nextId (s : State) (c : Nat) (k : Core) : (s.setCore c k).nextId = s.nextId := rfl
@[simp] theorem State.setCore_now (s : State) (c : Nat) (k : Core) : (s.setCore c k).now = s.now := rfl
@[simp] theorem State.setCore_ptbase (s : State) (c : Nat) (k : Core) : (s.setCore c k).ptbase = s.ptbase := rfl
@[simp] theorem State.setCore_scepoch (s : State) (c : Nat) (k : Core) : (s.setCore c k).scepoch = s.scepoch := rfl
@[simp] theorem State.setCore_teams (s : State) (c : Nat) (k : Core) : (s.setCore c k).teams = s.teams := rfl
@[simp] theorem State.setCore_mem (s : State) (c : Nat) (k : Core) : (s.setCore c k).mem = s.mem := rfl
@[simp] theorem State.setCore_sliceTlbs (s : State) (c : Nat) (k : Core) : (s.setCore c k).sliceTlbs = s.sliceTlbs := rfl
@[simp] theorem State.setCore_copies (s : State) (c : Nat) (k : Core) : (s.setCore c k).copies = s.copies := rfl
@[simp] theorem State.setCore_cpls (s : State) (c : Nat) (k : Core) : (s.setCore c k).cpls = s.cpls := rfl
@[simp] theorem State.setCore_enqs (s : State) (c : Nat) (k : Core) : (s.setCore c k).enqs = s.enqs := rfl
@[simp] theorem State.setCore_txops (s : State) (c : Nat) (k : Core) : (s.setCore c k).txops = s.txops := rfl
@[simp] theorem State.setCore_reed (s : State) (c : Nat) (k : Core) : (s.setCore c k).reed = s.reed := rfl
@[simp] theorem State.setCore_parts (s : State) (c : Nat) (k : Core) : (s.setCore c k).parts = s.parts := rfl
@[simp] theorem State.setCore_guard (s : State) (c : Nat) (k : Core) : (s.setCore c k).guard = s.guard := rfl
@[simp] theorem State.setCore_sys (s : State) (c : Nat) (k : Core) : (s.setCore c k).sys = s.sys := rfl
@[simp] theorem State.modCore_agenda (s : State) (c : Nat) (f : Core → Core) : (s.modCore c f).agenda = s.agenda := rfl
@[simp] theorem State.modCore_gather (s : State) (c : Nat) (f : Core → Core) : (s.modCore c f).gather = s.gather := rfl
@[simp] theorem State.modCore_cur (s : State) (c : Nat) (f : Core → Core) : (s.modCore c f).cur = s.cur := rfl
@[simp] theorem State.modCore_nfree (s : State) (c : Nat) (f : Core → Core) : (s.modCore c f).nfree = s.nfree := rfl
@[simp] theorem State.modCore_nextId (s : State) (c : Nat) (f : Core → Core) : (s.modCore c f).nextId = s.nextId := rfl
@[simp] theorem State.modCore_now (s : State) (c : Nat) (f : Core → Core) : (s.modCore c f).now = s.now := rfl
@[simp] theorem State.modCore_ptbase (s : State) (c : Nat) (f : Core → Core) : (s.modCore c f).ptbase = s.ptbase := rfl
@[simp] theorem State.modCore_scepoch (s : State) (c : Nat) (f : Core → Core) : (s.modCore c f).scepoch = s.scepoch := rfl
@[simp] theorem State.modCore_teams (s : State) (c : Nat) (f : Core → Core) : (s.modCore c f).teams = s.teams := rfl
@[simp] theorem State.modCore_mem (s : State) (c : Nat) (f : Core → Core) : (s.modCore c f).mem = s.mem := rfl
@[simp] theorem State.modCore_sliceTlbs (s : State) (c : Nat) (f : Core → Core) : (s.modCore c f).sliceTlbs = s.sliceTlbs := rfl
@[simp] theorem State.modCore_copies (s : State) (c : Nat) (f : Core → Core) : (s.modCore c f).copies = s.copies := rfl
@[simp] theorem State.modCore_cpls (s : State) (c : Nat) (f : Core → Core) : (s.modCore c f).cpls = s.cpls := rfl
@[simp] theorem State.modCore_enqs (s : State) (c : Nat) (f : Core → Core) : (s.modCore c f).enqs = s.enqs := rfl
@[simp] theorem State.modCore_txops (s : State) (c : Nat) (f : Core → Core) : (s.modCore c f).txops = s.txops := rfl
@[simp] theorem State.modCore_reed (s : State) (c : Nat) (f : Core → Core) : (s.modCore c f).reed = s.reed := rfl
@[simp] theorem State.modCore_parts (s : State) (c : Nat) (f : Core → Core) : (s.modCore c f).parts = s.parts := rfl
@[simp] theorem State.modCore_guard (s : State) (c : Nat) (f : Core → Core) : (s.modCore c f).guard = s.guard := rfl
@[simp] theorem State.modCore_sys (s : State) (c : Nat) (f : Core → Core) : (s.modCore c f).sys = s.sys := rfl
@[simp] theorem State.setPart_agenda (s : State) (p : Nat) (x : Part) : (s.setPart p x).agenda = s.agenda := rfl
@[simp] theorem State.setPart_gather (s : State) (p : Nat) (x : Part) : (s.setPart p x).gather = s.gather := rfl
@[simp] theorem State.setPart_cur (s : State) (p : Nat) (x : Part) : (s.setPart p x).cur = s.cur := rfl
@[simp] theorem State.setPart_nfree (s : State) (p : Nat) (x : Part) : (s.setPart p x).nfree = s.nfree := rfl
@[simp] theorem State.setPart_nextId (s : State) (p : Nat) (x : Part) : (s.setPart p x).nextId = s.nextId := rfl
@[simp] theorem State.setPart_now (s : State) (p : Nat) (x : Part) : (s.setPart p x).now = s.now := rfl
@[simp] theorem State.setPart_ptbase (s : State) (p : Nat) (x : Part) : (s.setPart p x).ptbase = s.ptbase := rfl
@[simp] theorem State.setPart_scepoch (s : State) (p : Nat) (x : Part) : (s.setPart p x).scepoch = s.scepoch := rfl
@[simp] theorem State.setPart_teams (s : State) (p : Nat) (x : Part) : (s.setPart p x).teams = s.teams := rfl
@[simp] theorem State.setPart_cores (s : State) (p : Nat) (x : Part) : (s.setPart p x).cores = s.cores := rfl
@[simp] theorem State.setPart_mem (s : State) (p : Nat) (x : Part) : (s.setPart p x).mem = s.mem := rfl
@[simp] theorem State.setPart_sliceTlbs (s : State) (p : Nat) (x : Part) : (s.setPart p x).sliceTlbs = s.sliceTlbs := rfl
@[simp] theorem State.setPart_copies (s : State) (p : Nat) (x : Part) : (s.setPart p x).copies = s.copies := rfl
@[simp] theorem State.setPart_cpls (s : State) (p : Nat) (x : Part) : (s.setPart p x).cpls = s.cpls := rfl
@[simp] theorem State.setPart_enqs (s : State) (p : Nat) (x : Part) : (s.setPart p x).enqs = s.enqs := rfl
@[simp] theorem State.setPart_txops (s : State) (p : Nat) (x : Part) : (s.setPart p x).txops = s.txops := rfl
@[simp] theorem State.setPart_reed (s : State) (p : Nat) (x : Part) : (s.setPart p x).reed = s.reed := rfl
@[simp] theorem State.setPart_guard (s : State) (p : Nat) (x : Part) : (s.setPart p x).guard = s.guard := rfl
@[simp] theorem State.setPart_sys (s : State) (p : Nat) (x : Part) : (s.setPart p x).sys = s.sys := rfl
@[simp] theorem State.modPart_agenda (s : State) (p : Nat) (f : Part → Part) : (s.modPart p f).agenda = s.agenda := rfl
@[simp] theorem State.modPart_gather (s : State) (p : Nat) (f : Part → Part) : (s.modPart p f).gather = s.gather := rfl
@[simp] theorem State.modPart_cur (s : State) (p : Nat) (f : Part → Part) : (s.modPart p f).cur = s.cur := rfl
@[simp] theorem State.modPart_nfree (s : State) (p : Nat) (f : Part → Part) : (s.modPart p f).nfree = s.nfree := rfl
@[simp] theorem State.modPart_nextId (s : State) (p : Nat) (f : Part → Part) : (s.modPart p f).nextId = s.nextId := rfl
@[simp] theorem State.modPart_now (s : State) (p : Nat) (f : Part → Part) : (s.modPart p f).now = s.now := rfl
@[simp] theorem State.modPart_ptbase (s : State) (p : Nat) (f : Part → Part) : (s.modPart p f).ptbase = s.ptbase := rfl
@[simp] theorem State.modPart_scepoch (s : State) (p : Nat) (f : Part → Part) : (s.modPart p f).scepoch = s.scepoch := rfl
@[simp] theorem State.modPart_teams (s : State) (p : Nat) (f : Part → Part) : (s.modPart p f).teams = s.teams := rfl
@[simp] theorem State.modPart_cores (s : State) (p : Nat) (f : Part → Part) : (s.modPart p f).cores = s.cores := rfl
@[simp] theorem State.modPart_mem (s : State) (p : Nat) (f : Part → Part) : (s.modPart p f).mem = s.mem := rfl
@[simp] theorem State.modPart_sliceTlbs (s : State) (p : Nat) (f : Part → Part) : (s.modPart p f).sliceTlbs = s.sliceTlbs := rfl
@[simp] theorem State.modPart_copies (s : State) (p : Nat) (f : Part → Part) : (s.modPart p f).copies = s.copies := rfl
@[simp] theorem State.modPart_cpls (s : State) (p : Nat) (f : Part → Part) : (s.modPart p f).cpls = s.cpls := rfl
@[simp] theorem State.modPart_enqs (s : State) (p : Nat) (f : Part → Part) : (s.modPart p f).enqs = s.enqs := rfl
@[simp] theorem State.modPart_txops (s : State) (p : Nat) (f : Part → Part) : (s.modPart p f).txops = s.txops := rfl
@[simp] theorem State.modPart_reed (s : State) (p : Nat) (f : Part → Part) : (s.modPart p f).reed = s.reed := rfl
@[simp] theorem State.modPart_guard (s : State) (p : Nat) (f : Part → Part) : (s.modPart p f).guard = s.guard := rfl
@[simp] theorem State.modPart_sys (s : State) (p : Nat) (f : Part → Part) : (s.modPart p f).sys = s.sys := rfl
@[simp] theorem State.modDie_agenda (s : State) (d : Nat) (f : Die → Die) : (s.modDie d f).agenda = s.agenda := rfl
@[simp] theorem State.modDie_gather (s : State) (d : Nat) (f : Die → Die) : (s.modDie d f).gather = s.gather := rfl
@[simp] theorem State.modDie_cur (s : State) (d : Nat) (f : Die → Die) : (s.modDie d f).cur = s.cur := rfl
@[simp] theorem State.modDie_nfree (s : State) (d : Nat) (f : Die → Die) : (s.modDie d f).nfree = s.nfree := rfl
@[simp] theorem State.modDie_nextId (s : State) (d : Nat) (f : Die → Die) : (s.modDie d f).nextId = s.nextId := rfl
@[simp] theorem State.modDie_now (s : State) (d : Nat) (f : Die → Die) : (s.modDie d f).now = s.now := rfl
@[simp] theorem State.modDie_ptbase (s : State) (d : Nat) (f : Die → Die) : (s.modDie d f).ptbase = s.ptbase := rfl
@[simp] theorem State.modDie_scepoch (s : State) (d : Nat) (f : Die → Die) : (s.modDie d f).scepoch = s.scepoch := rfl
@[simp] theorem State.modDie_teams (s : State) (d : Nat) (f : Die → Die) : (s.modDie d f).teams = s.teams := rfl
@[simp] theorem State.modDie_cores (s : State) (d : Nat) (f : Die → Die) : (s.modDie d f).cores = s.cores := rfl
@[simp] theorem State.modDie_mem (s : State) (d : Nat) (f : Die → Die) : (s.modDie d f).mem = s.mem := rfl
@[simp] theorem State.modDie_sliceTlbs (s : State) (d : Nat) (f : Die → Die) : (s.modDie d f).sliceTlbs = s.sliceTlbs := rfl
@[simp] theorem State.modDie_copies (s : State) (d : Nat) (f : Die → Die) : (s.modDie d f).copies = s.copies := rfl
@[simp] theorem State.modDie_cpls (s : State) (d : Nat) (f : Die → Die) : (s.modDie d f).cpls = s.cpls := rfl
@[simp] theorem State.modDie_enqs (s : State) (d : Nat) (f : Die → Die) : (s.modDie d f).enqs = s.enqs := rfl
@[simp] theorem State.modDie_txops (s : State) (d : Nat) (f : Die → Die) : (s.modDie d f).txops = s.txops := rfl
@[simp] theorem State.modDie_reed (s : State) (d : Nat) (f : Die → Die) : (s.modDie d f).reed = s.reed := rfl
@[simp] theorem State.modDie_parts (s : State) (d : Nat) (f : Die → Die) : (s.modDie d f).parts = s.parts := rfl
@[simp] theorem State.modDie_guard (s : State) (d : Nat) (f : Die → Die) : (s.modDie d f).guard = s.guard := rfl
@[simp] theorem State.setFen_agenda (s : State) (f : Nat) (x : Fen) : (s.setFen f x).agenda = s.agenda := rfl
@[simp] theorem State.setFen_gather (s : State) (f : Nat) (x : Fen) : (s.setFen f x).gather = s.gather := rfl
@[simp] theorem State.setFen_cur (s : State) (f : Nat) (x : Fen) : (s.setFen f x).cur = s.cur := rfl
@[simp] theorem State.setFen_nfree (s : State) (f : Nat) (x : Fen) : (s.setFen f x).nfree = s.nfree := rfl
@[simp] theorem State.setFen_nextId (s : State) (f : Nat) (x : Fen) : (s.setFen f x).nextId = s.nextId := rfl
@[simp] theorem State.setFen_now (s : State) (f : Nat) (x : Fen) : (s.setFen f x).now = s.now := rfl
@[simp] theorem State.setFen_ptbase (s : State) (f : Nat) (x : Fen) : (s.setFen f x).ptbase = s.ptbase := rfl
@[simp] theorem State.setFen_scepoch (s : State) (f : Nat) (x : Fen) : (s.setFen f x).scepoch = s.scepoch := rfl
@[simp] theorem State.setFen_teams (s : State) (f : Nat) (x : Fen) : (s.setFen f x).teams = s.teams := rfl
@[simp] theorem State.setFen_cores (s : State) (f : Nat) (x : Fen) : (s.setFen f x).cores = s.cores := rfl
@[simp] theorem State.setFen_mem (s : State) (f : Nat) (x : Fen) : (s.setFen f x).mem = s.mem := rfl
@[simp] theorem State.setFen_sliceTlbs (s : State) (f : Nat) (x : Fen) : (s.setFen f x).sliceTlbs = s.sliceTlbs := rfl
@[simp] theorem State.setFen_copies (s : State) (f : Nat) (x : Fen) : (s.setFen f x).copies = s.copies := rfl
@[simp] theorem State.setFen_cpls (s : State) (f : Nat) (x : Fen) : (s.setFen f x).cpls = s.cpls := rfl
@[simp] theorem State.setFen_enqs (s : State) (f : Nat) (x : Fen) : (s.setFen f x).enqs = s.enqs := rfl
@[simp] theorem State.setFen_txops (s : State) (f : Nat) (x : Fen) : (s.setFen f x).txops = s.txops := rfl
@[simp] theorem State.setFen_reed (s : State) (f : Nat) (x : Fen) : (s.setFen f x).reed = s.reed := rfl
@[simp] theorem State.setFen_parts (s : State) (f : Nat) (x : Fen) : (s.setFen f x).parts = s.parts := rfl
@[simp] theorem State.setFen_sys (s : State) (f : Nat) (x : Fen) : (s.setFen f x).sys = s.sys := rfl
@[simp] theorem State.setEngine_agenda (s : State) (e : Nat) (x : Engine) : (s.setEngine e x).agenda = s.agenda := rfl
@[simp] theorem State.setEngine_gather (s : State) (e : Nat) (x : Engine) : (s.setEngine e x).gather = s.gather := rfl
@[simp] theorem State.setEngine_cur (s : State) (e : Nat) (x : Engine) : (s.setEngine e x).cur = s.cur := rfl
@[simp] theorem State.setEngine_nfree (s : State) (e : Nat) (x : Engine) : (s.setEngine e x).nfree = s.nfree := rfl
@[simp] theorem State.setEngine_nextId (s : State) (e : Nat) (x : Engine) : (s.setEngine e x).nextId = s.nextId := rfl
@[simp] theorem State.setEngine_now (s : State) (e : Nat) (x : Engine) : (s.setEngine e x).now = s.now := rfl
@[simp] theorem State.setEngine_ptbase (s : State) (e : Nat) (x : Engine) : (s.setEngine e x).ptbase = s.ptbase := rfl
@[simp] theorem State.setEngine_scepoch (s : State) (e : Nat) (x : Engine) : (s.setEngine e x).scepoch = s.scepoch := rfl
@[simp] theorem State.setEngine_teams (s : State) (e : Nat) (x : Engine) : (s.setEngine e x).teams = s.teams := rfl
@[simp] theorem State.setEngine_cores (s : State) (e : Nat) (x : Engine) : (s.setEngine e x).cores = s.cores := rfl
@[simp] theorem State.setEngine_mem (s : State) (e : Nat) (x : Engine) : (s.setEngine e x).mem = s.mem := rfl
@[simp] theorem State.setEngine_sliceTlbs (s : State) (e : Nat) (x : Engine) : (s.setEngine e x).sliceTlbs = s.sliceTlbs := rfl
@[simp] theorem State.setEngine_copies (s : State) (e : Nat) (x : Engine) : (s.setEngine e x).copies = s.copies := rfl
@[simp] theorem State.setEngine_cpls (s : State) (e : Nat) (x : Engine) : (s.setEngine e x).cpls = s.cpls := rfl
@[simp] theorem State.setEngine_enqs (s : State) (e : Nat) (x : Engine) : (s.setEngine e x).enqs = s.enqs := rfl
@[simp] theorem State.setEngine_txops (s : State) (e : Nat) (x : Engine) : (s.setEngine e x).txops = s.txops := rfl
@[simp] theorem State.setEngine_reed (s : State) (e : Nat) (x : Engine) : (s.setEngine e x).reed = s.reed := rfl
@[simp] theorem State.setEngine_parts (s : State) (e : Nat) (x : Engine) : (s.setEngine e x).parts = s.parts := rfl
@[simp] theorem State.setEngine_sys (s : State) (e : Nat) (x : Engine) : (s.setEngine e x).sys = s.sys := rfl
@[simp] theorem State.setFunc_agenda (s : State) (i : Nat) (x : Func) : (s.setFunc i x).agenda = s.agenda := rfl
@[simp] theorem State.setFunc_gather (s : State) (i : Nat) (x : Func) : (s.setFunc i x).gather = s.gather := rfl
@[simp] theorem State.setFunc_cur (s : State) (i : Nat) (x : Func) : (s.setFunc i x).cur = s.cur := rfl
@[simp] theorem State.setFunc_nfree (s : State) (i : Nat) (x : Func) : (s.setFunc i x).nfree = s.nfree := rfl
@[simp] theorem State.setFunc_nextId (s : State) (i : Nat) (x : Func) : (s.setFunc i x).nextId = s.nextId := rfl
@[simp] theorem State.setFunc_now (s : State) (i : Nat) (x : Func) : (s.setFunc i x).now = s.now := rfl
@[simp] theorem State.setFunc_ptbase (s : State) (i : Nat) (x : Func) : (s.setFunc i x).ptbase = s.ptbase := rfl
@[simp] theorem State.setFunc_scepoch (s : State) (i : Nat) (x : Func) : (s.setFunc i x).scepoch = s.scepoch := rfl
@[simp] theorem State.setFunc_teams (s : State) (i : Nat) (x : Func) : (s.setFunc i x).teams = s.teams := rfl
@[simp] theorem State.setFunc_cores (s : State) (i : Nat) (x : Func) : (s.setFunc i x).cores = s.cores := rfl
@[simp] theorem State.setFunc_mem (s : State) (i : Nat) (x : Func) : (s.setFunc i x).mem = s.mem := rfl
@[simp] theorem State.setFunc_sliceTlbs (s : State) (i : Nat) (x : Func) : (s.setFunc i x).sliceTlbs = s.sliceTlbs := rfl
@[simp] theorem State.setFunc_copies (s : State) (i : Nat) (x : Func) : (s.setFunc i x).copies = s.copies := rfl
@[simp] theorem State.setFunc_cpls (s : State) (i : Nat) (x : Func) : (s.setFunc i x).cpls = s.cpls := rfl
@[simp] theorem State.setFunc_enqs (s : State) (i : Nat) (x : Func) : (s.setFunc i x).enqs = s.enqs := rfl
@[simp] theorem State.setFunc_txops (s : State) (i : Nat) (x : Func) : (s.setFunc i x).txops = s.txops := rfl
@[simp] theorem State.setFunc_reed (s : State) (i : Nat) (x : Func) : (s.setFunc i x).reed = s.reed := rfl
@[simp] theorem State.setFunc_parts (s : State) (i : Nat) (x : Func) : (s.setFunc i x).parts = s.parts := rfl
@[simp] theorem State.setFunc_sys (s : State) (i : Nat) (x : Func) : (s.setFunc i x).sys = s.sys := rfl
@[simp] theorem State.setScrubber_agenda (s : State) (d : Nat) (x : Scrubber) : (s.setScrubber d x).agenda = s.agenda := rfl
@[simp] theorem State.setScrubber_gather (s : State) (d : Nat) (x : Scrubber) : (s.setScrubber d x).gather = s.gather := rfl
@[simp] theorem State.setScrubber_cur (s : State) (d : Nat) (x : Scrubber) : (s.setScrubber d x).cur = s.cur := rfl
@[simp] theorem State.setScrubber_nfree (s : State) (d : Nat) (x : Scrubber) : (s.setScrubber d x).nfree = s.nfree := rfl
@[simp] theorem State.setScrubber_nextId (s : State) (d : Nat) (x : Scrubber) : (s.setScrubber d x).nextId = s.nextId := rfl
@[simp] theorem State.setScrubber_now (s : State) (d : Nat) (x : Scrubber) : (s.setScrubber d x).now = s.now := rfl
@[simp] theorem State.setScrubber_ptbase (s : State) (d : Nat) (x : Scrubber) : (s.setScrubber d x).ptbase = s.ptbase := rfl
@[simp] theorem State.setScrubber_scepoch (s : State) (d : Nat) (x : Scrubber) : (s.setScrubber d x).scepoch = s.scepoch := rfl
@[simp] theorem State.setScrubber_teams (s : State) (d : Nat) (x : Scrubber) : (s.setScrubber d x).teams = s.teams := rfl
@[simp] theorem State.setScrubber_cores (s : State) (d : Nat) (x : Scrubber) : (s.setScrubber d x).cores = s.cores := rfl
@[simp] theorem State.setScrubber_mem (s : State) (d : Nat) (x : Scrubber) : (s.setScrubber d x).mem = s.mem := rfl
@[simp] theorem State.setScrubber_sliceTlbs (s : State) (d : Nat) (x : Scrubber) : (s.setScrubber d x).sliceTlbs = s.sliceTlbs := rfl
@[simp] theorem State.setScrubber_copies (s : State) (d : Nat) (x : Scrubber) : (s.setScrubber d x).copies = s.copies := rfl
@[simp] theorem State.setScrubber_cpls (s : State) (d : Nat) (x : Scrubber) : (s.setScrubber d x).cpls = s.cpls := rfl
@[simp] theorem State.setScrubber_enqs (s : State) (d : Nat) (x : Scrubber) : (s.setScrubber d x).enqs = s.enqs := rfl
@[simp] theorem State.setScrubber_txops (s : State) (d : Nat) (x : Scrubber) : (s.setScrubber d x).txops = s.txops := rfl
@[simp] theorem State.setScrubber_reed (s : State) (d : Nat) (x : Scrubber) : (s.setScrubber d x).reed = s.reed := rfl
@[simp] theorem State.setScrubber_parts (s : State) (d : Nat) (x : Scrubber) : (s.setScrubber d x).parts = s.parts := rfl
@[simp] theorem State.setScrubber_sys (s : State) (d : Nat) (x : Scrubber) : (s.setScrubber d x).sys = s.sys := rfl
@[simp] theorem State.setHandle_agenda (s : State) (h : Nat) (x : Handle) : (s.setHandle h x).agenda = s.agenda := rfl
@[simp] theorem State.setHandle_gather (s : State) (h : Nat) (x : Handle) : (s.setHandle h x).gather = s.gather := rfl
@[simp] theorem State.setHandle_cur (s : State) (h : Nat) (x : Handle) : (s.setHandle h x).cur = s.cur := rfl
@[simp] theorem State.setHandle_nfree (s : State) (h : Nat) (x : Handle) : (s.setHandle h x).nfree = s.nfree := rfl
@[simp] theorem State.setHandle_nextId (s : State) (h : Nat) (x : Handle) : (s.setHandle h x).nextId = s.nextId := rfl
@[simp] theorem State.setHandle_now (s : State) (h : Nat) (x : Handle) : (s.setHandle h x).now = s.now := rfl
@[simp] theorem State.setHandle_ptbase (s : State) (h : Nat) (x : Handle) : (s.setHandle h x).ptbase = s.ptbase := rfl
@[simp] theorem State.setHandle_scepoch (s : State) (h : Nat) (x : Handle) : (s.setHandle h x).scepoch = s.scepoch := rfl
@[simp] theorem State.setHandle_teams (s : State) (h : Nat) (x : Handle) : (s.setHandle h x).teams = s.teams := rfl
@[simp] theorem State.setHandle_cores (s : State) (h : Nat) (x : Handle) : (s.setHandle h x).cores = s.cores := rfl
@[simp] theorem State.setHandle_mem (s : State) (h : Nat) (x : Handle) : (s.setHandle h x).mem = s.mem := rfl
@[simp] theorem State.setHandle_sliceTlbs (s : State) (h : Nat) (x : Handle) : (s.setHandle h x).sliceTlbs = s.sliceTlbs := rfl
@[simp] theorem State.setHandle_copies (s : State) (h : Nat) (x : Handle) : (s.setHandle h x).copies = s.copies := rfl
@[simp] theorem State.setHandle_cpls (s : State) (h : Nat) (x : Handle) : (s.setHandle h x).cpls = s.cpls := rfl
@[simp] theorem State.setHandle_enqs (s : State) (h : Nat) (x : Handle) : (s.setHandle h x).enqs = s.enqs := rfl
@[simp] theorem State.setHandle_txops (s : State) (h : Nat) (x : Handle) : (s.setHandle h x).txops = s.txops := rfl
@[simp] theorem State.setHandle_parts (s : State) (h : Nat) (x : Handle) : (s.setHandle h x).parts = s.parts := rfl
@[simp] theorem State.setHandle_guard (s : State) (h : Nat) (x : Handle) : (s.setHandle h x).guard = s.guard := rfl
@[simp] theorem State.setHandle_sys (s : State) (h : Nat) (x : Handle) : (s.setHandle h x).sys = s.sys := rfl
@[simp] theorem State.setRemap_agenda (s : State) (e : Nat) (x : Remap) : (s.setRemap e x).agenda = s.agenda := rfl
@[simp] theorem State.setRemap_gather (s : State) (e : Nat) (x : Remap) : (s.setRemap e x).gather = s.gather := rfl
@[simp] theorem State.setRemap_cur (s : State) (e : Nat) (x : Remap) : (s.setRemap e x).cur = s.cur := rfl
@[simp] theorem State.setRemap_nfree (s : State) (e : Nat) (x : Remap) : (s.setRemap e x).nfree = s.nfree := rfl
@[simp] theorem State.setRemap_nextId (s : State) (e : Nat) (x : Remap) : (s.setRemap e x).nextId = s.nextId := rfl
@[simp] theorem State.setRemap_now (s : State) (e : Nat) (x : Remap) : (s.setRemap e x).now = s.now := rfl
@[simp] theorem State.setRemap_ptbase (s : State) (e : Nat) (x : Remap) : (s.setRemap e x).ptbase = s.ptbase := rfl
@[simp] theorem State.setRemap_scepoch (s : State) (e : Nat) (x : Remap) : (s.setRemap e x).scepoch = s.scepoch := rfl
@[simp] theorem State.setRemap_teams (s : State) (e : Nat) (x : Remap) : (s.setRemap e x).teams = s.teams := rfl
@[simp] theorem State.setRemap_cores (s : State) (e : Nat) (x : Remap) : (s.setRemap e x).cores = s.cores := rfl
@[simp] theorem State.setRemap_mem (s : State) (e : Nat) (x : Remap) : (s.setRemap e x).mem = s.mem := rfl
@[simp] theorem State.setRemap_sliceTlbs (s : State) (e : Nat) (x : Remap) : (s.setRemap e x).sliceTlbs = s.sliceTlbs := rfl
@[simp] theorem State.setRemap_copies (s : State) (e : Nat) (x : Remap) : (s.setRemap e x).copies = s.copies := rfl
@[simp] theorem State.setRemap_cpls (s : State) (e : Nat) (x : Remap) : (s.setRemap e x).cpls = s.cpls := rfl
@[simp] theorem State.setRemap_enqs (s : State) (e : Nat) (x : Remap) : (s.setRemap e x).enqs = s.enqs := rfl
@[simp] theorem State.setRemap_txops (s : State) (e : Nat) (x : Remap) : (s.setRemap e x).txops = s.txops := rfl
@[simp] theorem State.setRemap_parts (s : State) (e : Nat) (x : Remap) : (s.setRemap e x).parts = s.parts := rfl
@[simp] theorem State.setRemap_guard (s : State) (e : Nat) (x : Remap) : (s.setRemap e x).guard = s.guard := rfl
@[simp] theorem State.setRemap_sys (s : State) (e : Nat) (x : Remap) : (s.setRemap e x).sys = s.sys := rfl
@[simp] theorem State.modPort_agenda (s : State) (p : Nat) (f : Port → Port) : (s.modPort p f).agenda = s.agenda := rfl
@[simp] theorem State.modPort_gather (s : State) (p : Nat) (f : Port → Port) : (s.modPort p f).gather = s.gather := rfl
@[simp] theorem State.modPort_cur (s : State) (p : Nat) (f : Port → Port) : (s.modPort p f).cur = s.cur := rfl
@[simp] theorem State.modPort_nfree (s : State) (p : Nat) (f : Port → Port) : (s.modPort p f).nfree = s.nfree := rfl
@[simp] theorem State.modPort_nextId (s : State) (p : Nat) (f : Port → Port) : (s.modPort p f).nextId = s.nextId := rfl
@[simp] theorem State.modPort_now (s : State) (p : Nat) (f : Port → Port) : (s.modPort p f).now = s.now := rfl
@[simp] theorem State.modPort_ptbase (s : State) (p : Nat) (f : Port → Port) : (s.modPort p f).ptbase = s.ptbase := rfl
@[simp] theorem State.modPort_scepoch (s : State) (p : Nat) (f : Port → Port) : (s.modPort p f).scepoch = s.scepoch := rfl
@[simp] theorem State.modPort_teams (s : State) (p : Nat) (f : Port → Port) : (s.modPort p f).teams = s.teams := rfl
@[simp] theorem State.modPort_cores (s : State) (p : Nat) (f : Port → Port) : (s.modPort p f).cores = s.cores := rfl
@[simp] theorem State.modPort_mem (s : State) (p : Nat) (f : Port → Port) : (s.modPort p f).mem = s.mem := rfl
@[simp] theorem State.modPort_sliceTlbs (s : State) (p : Nat) (f : Port → Port) : (s.modPort p f).sliceTlbs = s.sliceTlbs := rfl
@[simp] theorem State.modPort_copies (s : State) (p : Nat) (f : Port → Port) : (s.modPort p f).copies = s.copies := rfl
@[simp] theorem State.modPort_cpls (s : State) (p : Nat) (f : Port → Port) : (s.modPort p f).cpls = s.cpls := rfl
@[simp] theorem State.modPort_enqs (s : State) (p : Nat) (f : Port → Port) : (s.modPort p f).enqs = s.enqs := rfl
@[simp] theorem State.modPort_txops (s : State) (p : Nat) (f : Port → Port) : (s.modPort p f).txops = s.txops := rfl
@[simp] theorem State.modPort_parts (s : State) (p : Nat) (f : Port → Port) : (s.modPort p f).parts = s.parts := rfl
@[simp] theorem State.modPort_guard (s : State) (p : Nat) (f : Port → Port) : (s.modPort p f).guard = s.guard := rfl
@[simp] theorem State.modPort_sys (s : State) (p : Nat) (f : Port → Port) : (s.modPort p f).sys = s.sys := rfl
@[simp] theorem State.retire_agenda (s : State) (c : Ctx) (op : Nat) : (s.retire c op).agenda = s.agenda := rfl
@[simp] theorem State.retire_gather (s : State) (c : Ctx) (op : Nat) : (s.retire c op).gather = s.gather := rfl
@[simp] theorem State.retire_cur (s : State) (c : Ctx) (op : Nat) : (s.retire c op).cur = s.cur := rfl
@[simp] theorem State.retire_nfree (s : State) (c : Ctx) (op : Nat) : (s.retire c op).nfree = s.nfree := rfl
@[simp] theorem State.retire_nextId (s : State) (c : Ctx) (op : Nat) : (s.retire c op).nextId = s.nextId := rfl
@[simp] theorem State.retire_now (s : State) (c : Ctx) (op : Nat) : (s.retire c op).now = s.now := rfl
@[simp] theorem State.retire_ptbase (s : State) (c : Ctx) (op : Nat) : (s.retire c op).ptbase = s.ptbase := rfl
@[simp] theorem State.retire_scepoch (s : State) (c : Ctx) (op : Nat) : (s.retire c op).scepoch = s.scepoch := rfl
@[simp] theorem State.retire_cores (s : State) (c : Ctx) (op : Nat) : (s.retire c op).cores = s.cores := rfl
@[simp] theorem State.retire_mem (s : State) (c : Ctx) (op : Nat) : (s.retire c op).mem = s.mem := rfl
@[simp] theorem State.retire_sliceTlbs (s : State) (c : Ctx) (op : Nat) : (s.retire c op).sliceTlbs = s.sliceTlbs := rfl
@[simp] theorem State.retire_copies (s : State) (c : Ctx) (op : Nat) : (s.retire c op).copies = s.copies := rfl
@[simp] theorem State.retire_cpls (s : State) (c : Ctx) (op : Nat) : (s.retire c op).cpls = s.cpls := rfl
@[simp] theorem State.retire_enqs (s : State) (c : Ctx) (op : Nat) : (s.retire c op).enqs = s.enqs := rfl
@[simp] theorem State.retire_txops (s : State) (c : Ctx) (op : Nat) : (s.retire c op).txops = s.txops := rfl
@[simp] theorem State.retire_reed (s : State) (c : Ctx) (op : Nat) : (s.retire c op).reed = s.reed := rfl
@[simp] theorem State.retire_parts (s : State) (c : Ctx) (op : Nat) : (s.retire c op).parts = s.parts := rfl
@[simp] theorem State.retire_guard (s : State) (c : Ctx) (op : Nat) : (s.retire c op).guard = s.guard := rfl
@[simp] theorem State.retire_sys (s : State) (c : Ctx) (op : Nat) : (s.retire c op).sys = s.sys := rfl

@[simp] theorem Group.writeLC_entries (g : Group) (k : Nat) (x : W32) : (g.writeLC k x).entries = g.entries := rfl
@[simp] theorem Group.writeLC_frames (g : Group) (k : Nat) (x : W32) : (g.writeLC k x).frames = g.frames := rfl
@[simp] theorem Group.writeLC_s (g : Group) (k : Nat) (x : W32) : (g.writeLC k x).s = g.s := rfl
@[simp] theorem Group.writeLC_v (g : Group) (k : Nat) (x : W32) : (g.writeLC k x).v = g.v := rfl
@[simp] theorem Group.writeLC_p (g : Group) (k : Nat) (x : W32) : (g.writeLC k x).p = g.p := rfl
@[simp] theorem Group.writeLC_cf (g : Group) (k : Nat) (x : W32) : (g.writeLC k x).cf = g.cf := rfl
@[simp] theorem Group.writeLC_exited (g : Group) (k : Nat) (x : W32) : (g.writeLC k x).exited = g.exited := rfl
@[simp] theorem Group.writeLC_fb (g : Group) (k : Nat) (x : W32) : (g.writeLC k x).fb = g.fb := rfl
@[simp] theorem Group.writeLC_fbRec (g : Group) (k : Nat) (x : W32) : (g.writeLC k x).fbRec = g.fbRec := rfl
@[simp] theorem Group.writeLC_fp (g : Group) (k : Nat) (x : W32) : (g.writeLC k x).fp = g.fp := rfl
@[simp] theorem Group.writeLC_codebook (g : Group) (k : Nat) (x : W32) : (g.writeLC k x).codebook = g.codebook := rfl
@[simp] theorem Group.writeLC_rng (g : Group) (k : Nat) (x : W32) : (g.writeLC k x).rng = g.rng := rfl
@[simp] theorem Group.writeLC_hbc (g : Group) (k : Nat) (x : W32) : (g.writeLC k x).hbc = g.hbc := rfl
@[simp] theorem Group.writeLC_scfg (g : Group) (k : Nat) (x : W32) : (g.writeLC k x).scfg = g.scfg := rfl
@[simp] theorem Group.writeLC_gang (g : Group) (k : Nat) (x : W32) : (g.writeLC k x).gang = g.gang := rfl
@[simp] theorem Group.writeLC_latch (g : Group) (k : Nat) (x : W32) : (g.writeLC k x).latch = g.latch := rfl
@[simp] theorem Group.writeLC_lph (g : Group) (k : Nat) (x : W32) : (g.writeLC k x).lph = g.lph := rfl
@[simp] theorem Group.writeLC_tx (g : Group) (k : Nat) (x : W32) : (g.writeLC k x).tx = g.tx := rfl
@[simp] theorem Group.writeLC_txBuf (g : Group) (k : Nat) (x : W32) : (g.writeLC k x).txBuf = g.txBuf := rfl
@[simp] theorem Group.writeLC_lastsc (g : Group) (k : Nat) (x : W32) : (g.writeLC k x).lastsc = g.lastsc := rfl
@[simp] theorem Group.writeLC_mstat0 (g : Group) (k : Nat) (x : W32) : (g.writeLC k x).mstat0 = g.mstat0 := rfl
@[simp] theorem Group.writeLC_mstat1 (g : Group) (k : Nat) (x : W32) : (g.writeLC k x).mstat1 = g.mstat1 := rfl
@[simp] theorem Group.writeLC_copies (g : Group) (k : Nat) (x : W32) : (g.writeLC k x).copies = g.copies := rfl
@[simp] theorem Group.writeLC_copyBytes (g : Group) (k : Nat) (x : W32) : (g.writeLC k x).copyBytes = g.copyBytes := rfl
@[simp] theorem Group.writeLC_tokens (g : Group) (k : Nat) (x : W32) : (g.writeLC k x).tokens = g.tokens := rfl
@[simp] theorem Group.writeLC_pend (g : Group) (k : Nat) (x : W32) : (g.writeLC k x).pend = g.pend := rfl
@[simp] theorem Group.writeLC_sq (g : Group) (k : Nat) (x : W32) : (g.writeLC k x).sq = g.sq := rfl
@[simp] theorem Group.writeLC_scq (g : Group) (k : Nat) (x : W32) : (g.writeLC k x).scq = g.scq := rfl
@[simp] theorem Group.writeLC_deferred (g : Group) (k : Nat) (x : W32) : (g.writeLC k x).deferred = g.deferred := rfl
@[simp] theorem Group.writeLC_block (g : Group) (k : Nat) (x : W32) : (g.writeLC k x).block = g.block := rfl
@[simp] theorem Group.writeLC_gate (g : Group) (k : Nat) (x : W32) : (g.writeLC k x).gate = g.gate := rfl
@[simp] theorem Group.writeLC_port (g : Group) (k : Nat) (x : W32) : (g.writeLC k x).port = g.port := rfl
@[simp] theorem Group.writeLC_floor (g : Group) (k : Nat) (x : W32) : (g.writeLC k x).floor = g.floor := rfl
@[simp] theorem Group.writeLC_joined (g : Group) (k : Nat) (x : W32) : (g.writeLC k x).joined = g.joined := rfl
@[simp] theorem Group.writeLC_lastTime (g : Group) (k : Nat) (x : W32) : (g.writeLC k x).lastTime = g.lastTime := rfl
@[simp] theorem Group.writeLC_trap (g : Group) (k : Nat) (x : W32) : (g.writeLC k x).trap = g.trap := rfl
@[simp] theorem Group.writeLC_arrivedGang (g : Group) (k : Nat) (x : W32) : (g.writeLC k x).arrivedGang = g.arrivedGang := rfl
@[simp] theorem Group.writeLC_idle (g : Group) (k : Nat) (x : W32) : (g.writeLC k x).idle = g.idle := rfl
@[simp] theorem Group.writeLC_freed (g : Group) (k : Nat) (x : W32) : (g.writeLC k x).freed = g.freed := rfl
@[simp] theorem Group.writeLC_txeFlags (g : Group) (k : Nat) (x : W32) : (g.writeLC k x).txeFlags = g.txeFlags := rfl
@[simp] theorem Group.flagUp_entries (g : Group) (k : Nat) : (g.flagUp k).entries = g.entries := rfl
@[simp] theorem Group.flagUp_frames (g : Group) (k : Nat) : (g.flagUp k).frames = g.frames := rfl
@[simp] theorem Group.flagUp_s (g : Group) (k : Nat) : (g.flagUp k).s = g.s := rfl
@[simp] theorem Group.flagUp_v (g : Group) (k : Nat) : (g.flagUp k).v = g.v := rfl
@[simp] theorem Group.flagUp_p (g : Group) (k : Nat) : (g.flagUp k).p = g.p := rfl
@[simp] theorem Group.flagUp_lc (g : Group) (k : Nat) : (g.flagUp k).lc = g.lc := rfl
@[simp] theorem Group.flagUp_exited (g : Group) (k : Nat) : (g.flagUp k).exited = g.exited := rfl
@[simp] theorem Group.flagUp_fb (g : Group) (k : Nat) : (g.flagUp k).fb = g.fb := rfl
@[simp] theorem Group.flagUp_fbRec (g : Group) (k : Nat) : (g.flagUp k).fbRec = g.fbRec := rfl
@[simp] theorem Group.flagUp_fp (g : Group) (k : Nat) : (g.flagUp k).fp = g.fp := rfl
@[simp] theorem Group.flagUp_codebook (g : Group) (k : Nat) : (g.flagUp k).codebook = g.codebook := rfl
@[simp] theorem Group.flagUp_rng (g : Group) (k : Nat) : (g.flagUp k).rng = g.rng := rfl
@[simp] theorem Group.flagUp_hbc (g : Group) (k : Nat) : (g.flagUp k).hbc = g.hbc := rfl
@[simp] theorem Group.flagUp_scfg (g : Group) (k : Nat) : (g.flagUp k).scfg = g.scfg := rfl
@[simp] theorem Group.flagUp_gang (g : Group) (k : Nat) : (g.flagUp k).gang = g.gang := rfl
@[simp] theorem Group.flagUp_latch (g : Group) (k : Nat) : (g.flagUp k).latch = g.latch := rfl
@[simp] theorem Group.flagUp_lph (g : Group) (k : Nat) : (g.flagUp k).lph = g.lph := rfl
@[simp] theorem Group.flagUp_tx (g : Group) (k : Nat) : (g.flagUp k).tx = g.tx := rfl
@[simp] theorem Group.flagUp_txBuf (g : Group) (k : Nat) : (g.flagUp k).txBuf = g.txBuf := rfl
@[simp] theorem Group.flagUp_lastsc (g : Group) (k : Nat) : (g.flagUp k).lastsc = g.lastsc := rfl
@[simp] theorem Group.flagUp_mstat0 (g : Group) (k : Nat) : (g.flagUp k).mstat0 = g.mstat0 := rfl
@[simp] theorem Group.flagUp_mstat1 (g : Group) (k : Nat) : (g.flagUp k).mstat1 = g.mstat1 := rfl
@[simp] theorem Group.flagUp_copies (g : Group) (k : Nat) : (g.flagUp k).copies = g.copies := rfl
@[simp] theorem Group.flagUp_copyBytes (g : Group) (k : Nat) : (g.flagUp k).copyBytes = g.copyBytes := rfl
@[simp] theorem Group.flagUp_tokens (g : Group) (k : Nat) : (g.flagUp k).tokens = g.tokens := rfl
@[simp] theorem Group.flagUp_pend (g : Group) (k : Nat) : (g.flagUp k).pend = g.pend := rfl
@[simp] theorem Group.flagUp_sq (g : Group) (k : Nat) : (g.flagUp k).sq = g.sq := rfl
@[simp] theorem Group.flagUp_scq (g : Group) (k : Nat) : (g.flagUp k).scq = g.scq := rfl
@[simp] theorem Group.flagUp_deferred (g : Group) (k : Nat) : (g.flagUp k).deferred = g.deferred := rfl
@[simp] theorem Group.flagUp_block (g : Group) (k : Nat) : (g.flagUp k).block = g.block := rfl
@[simp] theorem Group.flagUp_gate (g : Group) (k : Nat) : (g.flagUp k).gate = g.gate := rfl
@[simp] theorem Group.flagUp_port (g : Group) (k : Nat) : (g.flagUp k).port = g.port := rfl
@[simp] theorem Group.flagUp_floor (g : Group) (k : Nat) : (g.flagUp k).floor = g.floor := rfl
@[simp] theorem Group.flagUp_joined (g : Group) (k : Nat) : (g.flagUp k).joined = g.joined := rfl
@[simp] theorem Group.flagUp_lastTime (g : Group) (k : Nat) : (g.flagUp k).lastTime = g.lastTime := rfl
@[simp] theorem Group.flagUp_trap (g : Group) (k : Nat) : (g.flagUp k).trap = g.trap := rfl
@[simp] theorem Group.flagUp_arrivedGang (g : Group) (k : Nat) : (g.flagUp k).arrivedGang = g.arrivedGang := rfl
@[simp] theorem Group.flagUp_idle (g : Group) (k : Nat) : (g.flagUp k).idle = g.idle := rfl
@[simp] theorem Group.flagUp_freed (g : Group) (k : Nat) : (g.flagUp k).freed = g.freed := rfl
@[simp] theorem Group.flagUp_txeFlags (g : Group) (k : Nat) : (g.flagUp k).txeFlags = g.txeFlags := rfl
@[simp] theorem Group.flagDown_entries (g : Group) (k : Nat) : (g.flagDown k).entries = g.entries := rfl
@[simp] theorem Group.flagDown_frames (g : Group) (k : Nat) : (g.flagDown k).frames = g.frames := rfl
@[simp] theorem Group.flagDown_s (g : Group) (k : Nat) : (g.flagDown k).s = g.s := rfl
@[simp] theorem Group.flagDown_v (g : Group) (k : Nat) : (g.flagDown k).v = g.v := rfl
@[simp] theorem Group.flagDown_p (g : Group) (k : Nat) : (g.flagDown k).p = g.p := rfl
@[simp] theorem Group.flagDown_lc (g : Group) (k : Nat) : (g.flagDown k).lc = g.lc := rfl
@[simp] theorem Group.flagDown_exited (g : Group) (k : Nat) : (g.flagDown k).exited = g.exited := rfl
@[simp] theorem Group.flagDown_fb (g : Group) (k : Nat) : (g.flagDown k).fb = g.fb := rfl
@[simp] theorem Group.flagDown_fbRec (g : Group) (k : Nat) : (g.flagDown k).fbRec = g.fbRec := rfl
@[simp] theorem Group.flagDown_fp (g : Group) (k : Nat) : (g.flagDown k).fp = g.fp := rfl
@[simp] theorem Group.flagDown_codebook (g : Group) (k : Nat) : (g.flagDown k).codebook = g.codebook := rfl
@[simp] theorem Group.flagDown_rng (g : Group) (k : Nat) : (g.flagDown k).rng = g.rng := rfl
@[simp] theorem Group.flagDown_hbc (g : Group) (k : Nat) : (g.flagDown k).hbc = g.hbc := rfl
@[simp] theorem Group.flagDown_scfg (g : Group) (k : Nat) : (g.flagDown k).scfg = g.scfg := rfl
@[simp] theorem Group.flagDown_gang (g : Group) (k : Nat) : (g.flagDown k).gang = g.gang := rfl
@[simp] theorem Group.flagDown_latch (g : Group) (k : Nat) : (g.flagDown k).latch = g.latch := rfl
@[simp] theorem Group.flagDown_lph (g : Group) (k : Nat) : (g.flagDown k).lph = g.lph := rfl
@[simp] theorem Group.flagDown_tx (g : Group) (k : Nat) : (g.flagDown k).tx = g.tx := rfl
@[simp] theorem Group.flagDown_txBuf (g : Group) (k : Nat) : (g.flagDown k).txBuf = g.txBuf := rfl
@[simp] theorem Group.flagDown_lastsc (g : Group) (k : Nat) : (g.flagDown k).lastsc = g.lastsc := rfl
@[simp] theorem Group.flagDown_mstat0 (g : Group) (k : Nat) : (g.flagDown k).mstat0 = g.mstat0 := rfl
@[simp] theorem Group.flagDown_mstat1 (g : Group) (k : Nat) : (g.flagDown k).mstat1 = g.mstat1 := rfl
@[simp] theorem Group.flagDown_copies (g : Group) (k : Nat) : (g.flagDown k).copies = g.copies := rfl
@[simp] theorem Group.flagDown_copyBytes (g : Group) (k : Nat) : (g.flagDown k).copyBytes = g.copyBytes := rfl
@[simp] theorem Group.flagDown_tokens (g : Group) (k : Nat) : (g.flagDown k).tokens = g.tokens := rfl
@[simp] theorem Group.flagDown_pend (g : Group) (k : Nat) : (g.flagDown k).pend = g.pend := rfl
@[simp] theorem Group.flagDown_sq (g : Group) (k : Nat) : (g.flagDown k).sq = g.sq := rfl
@[simp] theorem Group.flagDown_scq (g : Group) (k : Nat) : (g.flagDown k).scq = g.scq := rfl
@[simp] theorem Group.flagDown_deferred (g : Group) (k : Nat) : (g.flagDown k).deferred = g.deferred := rfl
@[simp] theorem Group.flagDown_block (g : Group) (k : Nat) : (g.flagDown k).block = g.block := rfl
@[simp] theorem Group.flagDown_gate (g : Group) (k : Nat) : (g.flagDown k).gate = g.gate := rfl
@[simp] theorem Group.flagDown_port (g : Group) (k : Nat) : (g.flagDown k).port = g.port := rfl
@[simp] theorem Group.flagDown_floor (g : Group) (k : Nat) : (g.flagDown k).floor = g.floor := rfl
@[simp] theorem Group.flagDown_joined (g : Group) (k : Nat) : (g.flagDown k).joined = g.joined := rfl
@[simp] theorem Group.flagDown_lastTime (g : Group) (k : Nat) : (g.flagDown k).lastTime = g.lastTime := rfl
@[simp] theorem Group.flagDown_trap (g : Group) (k : Nat) : (g.flagDown k).trap = g.trap := rfl
@[simp] theorem Group.flagDown_arrivedGang (g : Group) (k : Nat) : (g.flagDown k).arrivedGang = g.arrivedGang := rfl
@[simp] theorem Group.flagDown_idle (g : Group) (k : Nat) : (g.flagDown k).idle = g.idle := rfl
@[simp] theorem Group.flagDown_freed (g : Group) (k : Nat) : (g.flagDown k).freed = g.freed := rfl
@[simp] theorem Group.flagDown_txeFlags (g : Group) (k : Nat) : (g.flagDown k).txeFlags = g.txeFlags := rfl
@[simp] theorem Group.setTx_entries (g : Group) (l : Nat) (x : TxLane) : (g.setTx l x).entries = g.entries := rfl
@[simp] theorem Group.setTx_frames (g : Group) (l : Nat) (x : TxLane) : (g.setTx l x).frames = g.frames := rfl
@[simp] theorem Group.setTx_s (g : Group) (l : Nat) (x : TxLane) : (g.setTx l x).s = g.s := rfl
@[simp] theorem Group.setTx_v (g : Group) (l : Nat) (x : TxLane) : (g.setTx l x).v = g.v := rfl
@[simp] theorem Group.setTx_p (g : Group) (l : Nat) (x : TxLane) : (g.setTx l x).p = g.p := rfl
@[simp] theorem Group.setTx_cf (g : Group) (l : Nat) (x : TxLane) : (g.setTx l x).cf = g.cf := rfl
@[simp] theorem Group.setTx_lc (g : Group) (l : Nat) (x : TxLane) : (g.setTx l x).lc = g.lc := rfl
@[simp] theorem Group.setTx_exited (g : Group) (l : Nat) (x : TxLane) : (g.setTx l x).exited = g.exited := rfl
@[simp] theorem Group.setTx_fb (g : Group) (l : Nat) (x : TxLane) : (g.setTx l x).fb = g.fb := rfl
@[simp] theorem Group.setTx_fbRec (g : Group) (l : Nat) (x : TxLane) : (g.setTx l x).fbRec = g.fbRec := rfl
@[simp] theorem Group.setTx_fp (g : Group) (l : Nat) (x : TxLane) : (g.setTx l x).fp = g.fp := rfl
@[simp] theorem Group.setTx_codebook (g : Group) (l : Nat) (x : TxLane) : (g.setTx l x).codebook = g.codebook := rfl
@[simp] theorem Group.setTx_rng (g : Group) (l : Nat) (x : TxLane) : (g.setTx l x).rng = g.rng := rfl
@[simp] theorem Group.setTx_hbc (g : Group) (l : Nat) (x : TxLane) : (g.setTx l x).hbc = g.hbc := rfl
@[simp] theorem Group.setTx_scfg (g : Group) (l : Nat) (x : TxLane) : (g.setTx l x).scfg = g.scfg := rfl
@[simp] theorem Group.setTx_gang (g : Group) (l : Nat) (x : TxLane) : (g.setTx l x).gang = g.gang := rfl
@[simp] theorem Group.setTx_latch (g : Group) (l : Nat) (x : TxLane) : (g.setTx l x).latch = g.latch := rfl
@[simp] theorem Group.setTx_lph (g : Group) (l : Nat) (x : TxLane) : (g.setTx l x).lph = g.lph := rfl
@[simp] theorem Group.setTx_txBuf (g : Group) (l : Nat) (x : TxLane) : (g.setTx l x).txBuf = g.txBuf := rfl
@[simp] theorem Group.setTx_lastsc (g : Group) (l : Nat) (x : TxLane) : (g.setTx l x).lastsc = g.lastsc := rfl
@[simp] theorem Group.setTx_mstat0 (g : Group) (l : Nat) (x : TxLane) : (g.setTx l x).mstat0 = g.mstat0 := rfl
@[simp] theorem Group.setTx_mstat1 (g : Group) (l : Nat) (x : TxLane) : (g.setTx l x).mstat1 = g.mstat1 := rfl
@[simp] theorem Group.setTx_copies (g : Group) (l : Nat) (x : TxLane) : (g.setTx l x).copies = g.copies := rfl
@[simp] theorem Group.setTx_copyBytes (g : Group) (l : Nat) (x : TxLane) : (g.setTx l x).copyBytes = g.copyBytes := rfl
@[simp] theorem Group.setTx_tokens (g : Group) (l : Nat) (x : TxLane) : (g.setTx l x).tokens = g.tokens := rfl
@[simp] theorem Group.setTx_pend (g : Group) (l : Nat) (x : TxLane) : (g.setTx l x).pend = g.pend := rfl
@[simp] theorem Group.setTx_sq (g : Group) (l : Nat) (x : TxLane) : (g.setTx l x).sq = g.sq := rfl
@[simp] theorem Group.setTx_scq (g : Group) (l : Nat) (x : TxLane) : (g.setTx l x).scq = g.scq := rfl
@[simp] theorem Group.setTx_deferred (g : Group) (l : Nat) (x : TxLane) : (g.setTx l x).deferred = g.deferred := rfl
@[simp] theorem Group.setTx_block (g : Group) (l : Nat) (x : TxLane) : (g.setTx l x).block = g.block := rfl
@[simp] theorem Group.setTx_gate (g : Group) (l : Nat) (x : TxLane) : (g.setTx l x).gate = g.gate := rfl
@[simp] theorem Group.setTx_port (g : Group) (l : Nat) (x : TxLane) : (g.setTx l x).port = g.port := rfl
@[simp] theorem Group.setTx_floor (g : Group) (l : Nat) (x : TxLane) : (g.setTx l x).floor = g.floor := rfl
@[simp] theorem Group.setTx_joined (g : Group) (l : Nat) (x : TxLane) : (g.setTx l x).joined = g.joined := rfl
@[simp] theorem Group.setTx_lastTime (g : Group) (l : Nat) (x : TxLane) : (g.setTx l x).lastTime = g.lastTime := rfl
@[simp] theorem Group.setTx_trap (g : Group) (l : Nat) (x : TxLane) : (g.setTx l x).trap = g.trap := rfl
@[simp] theorem Group.setTx_arrivedGang (g : Group) (l : Nat) (x : TxLane) : (g.setTx l x).arrivedGang = g.arrivedGang := rfl
@[simp] theorem Group.setTx_idle (g : Group) (l : Nat) (x : TxLane) : (g.setTx l x).idle = g.idle := rfl
@[simp] theorem Group.setTx_freed (g : Group) (l : Nat) (x : TxLane) : (g.setTx l x).freed = g.freed := rfl
@[simp] theorem Group.setTx_txeFlags (g : Group) (l : Nat) (x : TxLane) : (g.setTx l x).txeFlags = g.txeFlags := rfl
@[simp] theorem Group.setEntry_frames (g : Group) (i : Nat) (e : Splinter) : (g.setEntry i e).frames = g.frames := rfl
@[simp] theorem Group.setEntry_s (g : Group) (i : Nat) (e : Splinter) : (g.setEntry i e).s = g.s := rfl
@[simp] theorem Group.setEntry_v (g : Group) (i : Nat) (e : Splinter) : (g.setEntry i e).v = g.v := rfl
@[simp] theorem Group.setEntry_p (g : Group) (i : Nat) (e : Splinter) : (g.setEntry i e).p = g.p := rfl
@[simp] theorem Group.setEntry_cf (g : Group) (i : Nat) (e : Splinter) : (g.setEntry i e).cf = g.cf := rfl
@[simp] theorem Group.setEntry_lc (g : Group) (i : Nat) (e : Splinter) : (g.setEntry i e).lc = g.lc := rfl
@[simp] theorem Group.setEntry_exited (g : Group) (i : Nat) (e : Splinter) : (g.setEntry i e).exited = g.exited := rfl
@[simp] theorem Group.setEntry_fb (g : Group) (i : Nat) (e : Splinter) : (g.setEntry i e).fb = g.fb := rfl
@[simp] theorem Group.setEntry_fbRec (g : Group) (i : Nat) (e : Splinter) : (g.setEntry i e).fbRec = g.fbRec := rfl
@[simp] theorem Group.setEntry_fp (g : Group) (i : Nat) (e : Splinter) : (g.setEntry i e).fp = g.fp := rfl
@[simp] theorem Group.setEntry_codebook (g : Group) (i : Nat) (e : Splinter) : (g.setEntry i e).codebook = g.codebook := rfl
@[simp] theorem Group.setEntry_rng (g : Group) (i : Nat) (e : Splinter) : (g.setEntry i e).rng = g.rng := rfl
@[simp] theorem Group.setEntry_hbc (g : Group) (i : Nat) (e : Splinter) : (g.setEntry i e).hbc = g.hbc := rfl
@[simp] theorem Group.setEntry_scfg (g : Group) (i : Nat) (e : Splinter) : (g.setEntry i e).scfg = g.scfg := rfl
@[simp] theorem Group.setEntry_gang (g : Group) (i : Nat) (e : Splinter) : (g.setEntry i e).gang = g.gang := rfl
@[simp] theorem Group.setEntry_latch (g : Group) (i : Nat) (e : Splinter) : (g.setEntry i e).latch = g.latch := rfl
@[simp] theorem Group.setEntry_lph (g : Group) (i : Nat) (e : Splinter) : (g.setEntry i e).lph = g.lph := rfl
@[simp] theorem Group.setEntry_tx (g : Group) (i : Nat) (e : Splinter) : (g.setEntry i e).tx = g.tx := rfl
@[simp] theorem Group.setEntry_txBuf (g : Group) (i : Nat) (e : Splinter) : (g.setEntry i e).txBuf = g.txBuf := rfl
@[simp] theorem Group.setEntry_lastsc (g : Group) (i : Nat) (e : Splinter) : (g.setEntry i e).lastsc = g.lastsc := rfl
@[simp] theorem Group.setEntry_mstat0 (g : Group) (i : Nat) (e : Splinter) : (g.setEntry i e).mstat0 = g.mstat0 := rfl
@[simp] theorem Group.setEntry_mstat1 (g : Group) (i : Nat) (e : Splinter) : (g.setEntry i e).mstat1 = g.mstat1 := rfl
@[simp] theorem Group.setEntry_copies (g : Group) (i : Nat) (e : Splinter) : (g.setEntry i e).copies = g.copies := rfl
@[simp] theorem Group.setEntry_copyBytes (g : Group) (i : Nat) (e : Splinter) : (g.setEntry i e).copyBytes = g.copyBytes := rfl
@[simp] theorem Group.setEntry_tokens (g : Group) (i : Nat) (e : Splinter) : (g.setEntry i e).tokens = g.tokens := rfl
@[simp] theorem Group.setEntry_pend (g : Group) (i : Nat) (e : Splinter) : (g.setEntry i e).pend = g.pend := rfl
@[simp] theorem Group.setEntry_sq (g : Group) (i : Nat) (e : Splinter) : (g.setEntry i e).sq = g.sq := rfl
@[simp] theorem Group.setEntry_scq (g : Group) (i : Nat) (e : Splinter) : (g.setEntry i e).scq = g.scq := rfl
@[simp] theorem Group.setEntry_deferred (g : Group) (i : Nat) (e : Splinter) : (g.setEntry i e).deferred = g.deferred := rfl
@[simp] theorem Group.setEntry_block (g : Group) (i : Nat) (e : Splinter) : (g.setEntry i e).block = g.block := rfl
@[simp] theorem Group.setEntry_gate (g : Group) (i : Nat) (e : Splinter) : (g.setEntry i e).gate = g.gate := rfl
@[simp] theorem Group.setEntry_port (g : Group) (i : Nat) (e : Splinter) : (g.setEntry i e).port = g.port := rfl
@[simp] theorem Group.setEntry_floor (g : Group) (i : Nat) (e : Splinter) : (g.setEntry i e).floor = g.floor := rfl
@[simp] theorem Group.setEntry_joined (g : Group) (i : Nat) (e : Splinter) : (g.setEntry i e).joined = g.joined := rfl
@[simp] theorem Group.setEntry_lastTime (g : Group) (i : Nat) (e : Splinter) : (g.setEntry i e).lastTime = g.lastTime := rfl
@[simp] theorem Group.setEntry_trap (g : Group) (i : Nat) (e : Splinter) : (g.setEntry i e).trap = g.trap := rfl
@[simp] theorem Group.setEntry_arrivedGang (g : Group) (i : Nat) (e : Splinter) : (g.setEntry i e).arrivedGang = g.arrivedGang := rfl
@[simp] theorem Group.setEntry_txeFlags (g : Group) (i : Nat) (e : Splinter) : (g.setEntry i e).txeFlags = g.txeFlags := rfl
@[simp] theorem Group.setEntry_freed (g : Group) (i : Nat) (e : Splinter) : (g.setEntry i e).freed = g.freed := rfl
@[simp] theorem Group.setEntry_idle (g : Group) (i : Nat) (e : Splinter) : (g.setEntry i e).idle = g.idle.del i := rfl
@[simp] theorem Group.setFrame_entries (g : Group) (i : Nat) (f : Frame) : (g.setFrame i f).entries = g.entries := rfl
@[simp] theorem Group.setFrame_s (g : Group) (i : Nat) (f : Frame) : (g.setFrame i f).s = g.s := rfl
@[simp] theorem Group.setFrame_v (g : Group) (i : Nat) (f : Frame) : (g.setFrame i f).v = g.v := rfl
@[simp] theorem Group.setFrame_p (g : Group) (i : Nat) (f : Frame) : (g.setFrame i f).p = g.p := rfl
@[simp] theorem Group.setFrame_cf (g : Group) (i : Nat) (f : Frame) : (g.setFrame i f).cf = g.cf := rfl
@[simp] theorem Group.setFrame_lc (g : Group) (i : Nat) (f : Frame) : (g.setFrame i f).lc = g.lc := rfl
@[simp] theorem Group.setFrame_exited (g : Group) (i : Nat) (f : Frame) : (g.setFrame i f).exited = g.exited := rfl
@[simp] theorem Group.setFrame_fb (g : Group) (i : Nat) (f : Frame) : (g.setFrame i f).fb = g.fb := rfl
@[simp] theorem Group.setFrame_fbRec (g : Group) (i : Nat) (f : Frame) : (g.setFrame i f).fbRec = g.fbRec := rfl
@[simp] theorem Group.setFrame_fp (g : Group) (i : Nat) (f : Frame) : (g.setFrame i f).fp = g.fp := rfl
@[simp] theorem Group.setFrame_codebook (g : Group) (i : Nat) (f : Frame) : (g.setFrame i f).codebook = g.codebook := rfl
@[simp] theorem Group.setFrame_rng (g : Group) (i : Nat) (f : Frame) : (g.setFrame i f).rng = g.rng := rfl
@[simp] theorem Group.setFrame_hbc (g : Group) (i : Nat) (f : Frame) : (g.setFrame i f).hbc = g.hbc := rfl
@[simp] theorem Group.setFrame_scfg (g : Group) (i : Nat) (f : Frame) : (g.setFrame i f).scfg = g.scfg := rfl
@[simp] theorem Group.setFrame_gang (g : Group) (i : Nat) (f : Frame) : (g.setFrame i f).gang = g.gang := rfl
@[simp] theorem Group.setFrame_latch (g : Group) (i : Nat) (f : Frame) : (g.setFrame i f).latch = g.latch := rfl
@[simp] theorem Group.setFrame_lph (g : Group) (i : Nat) (f : Frame) : (g.setFrame i f).lph = g.lph := rfl
@[simp] theorem Group.setFrame_tx (g : Group) (i : Nat) (f : Frame) : (g.setFrame i f).tx = g.tx := rfl
@[simp] theorem Group.setFrame_txBuf (g : Group) (i : Nat) (f : Frame) : (g.setFrame i f).txBuf = g.txBuf := rfl
@[simp] theorem Group.setFrame_lastsc (g : Group) (i : Nat) (f : Frame) : (g.setFrame i f).lastsc = g.lastsc := rfl
@[simp] theorem Group.setFrame_mstat0 (g : Group) (i : Nat) (f : Frame) : (g.setFrame i f).mstat0 = g.mstat0 := rfl
@[simp] theorem Group.setFrame_mstat1 (g : Group) (i : Nat) (f : Frame) : (g.setFrame i f).mstat1 = g.mstat1 := rfl
@[simp] theorem Group.setFrame_copies (g : Group) (i : Nat) (f : Frame) : (g.setFrame i f).copies = g.copies := rfl
@[simp] theorem Group.setFrame_copyBytes (g : Group) (i : Nat) (f : Frame) : (g.setFrame i f).copyBytes = g.copyBytes := rfl
@[simp] theorem Group.setFrame_tokens (g : Group) (i : Nat) (f : Frame) : (g.setFrame i f).tokens = g.tokens := rfl
@[simp] theorem Group.setFrame_pend (g : Group) (i : Nat) (f : Frame) : (g.setFrame i f).pend = g.pend := rfl
@[simp] theorem Group.setFrame_sq (g : Group) (i : Nat) (f : Frame) : (g.setFrame i f).sq = g.sq := rfl
@[simp] theorem Group.setFrame_scq (g : Group) (i : Nat) (f : Frame) : (g.setFrame i f).scq = g.scq := rfl
@[simp] theorem Group.setFrame_deferred (g : Group) (i : Nat) (f : Frame) : (g.setFrame i f).deferred = g.deferred := rfl
@[simp] theorem Group.setFrame_block (g : Group) (i : Nat) (f : Frame) : (g.setFrame i f).block = g.block := rfl
@[simp] theorem Group.setFrame_gate (g : Group) (i : Nat) (f : Frame) : (g.setFrame i f).gate = g.gate := rfl
@[simp] theorem Group.setFrame_port (g : Group) (i : Nat) (f : Frame) : (g.setFrame i f).port = g.port := rfl
@[simp] theorem Group.setFrame_floor (g : Group) (i : Nat) (f : Frame) : (g.setFrame i f).floor = g.floor := rfl
@[simp] theorem Group.setFrame_joined (g : Group) (i : Nat) (f : Frame) : (g.setFrame i f).joined = g.joined := rfl
@[simp] theorem Group.setFrame_lastTime (g : Group) (i : Nat) (f : Frame) : (g.setFrame i f).lastTime = g.lastTime := rfl
@[simp] theorem Group.setFrame_trap (g : Group) (i : Nat) (f : Frame) : (g.setFrame i f).trap = g.trap := rfl
@[simp] theorem Group.setFrame_arrivedGang (g : Group) (i : Nat) (f : Frame) : (g.setFrame i f).arrivedGang = g.arrivedGang := rfl
@[simp] theorem Group.setFrame_idle (g : Group) (i : Nat) (f : Frame) : (g.setFrame i f).idle = g.idle := rfl
@[simp] theorem Group.setFrame_txeFlags (g : Group) (i : Nat) (f : Frame) : (g.setFrame i f).txeFlags = g.txeFlags := rfl
@[simp] theorem Group.setFrame_freed (g : Group) (i : Nat) (f : Frame) : (g.setFrame i f).freed = g.freed.del i := rfl
@[simp] theorem Group.writeS_entries (g : Group) (n : Nat) (x : W64) : (g.writeS n x).entries = g.entries := by unfold Group.writeS; split <;> rfl
@[simp] theorem Group.writeS_frames (g : Group) (n : Nat) (x : W64) : (g.writeS n x).frames = g.frames := by unfold Group.writeS; split <;> rfl
@[simp] theorem Group.writeS_v (g : Group) (n : Nat) (x : W64) : (g.writeS n x).v = g.v := by unfold Group.writeS; split <;> rfl
@[simp] theorem Group.writeS_p (g : Group) (n : Nat) (x : W64) : (g.writeS n x).p = g.p := by unfold Group.writeS; split <;> rfl
@[simp] theorem Group.writeS_cf (g : Group) (n : Nat) (x : W64) : (g.writeS n x).cf = g.cf := by unfold Group.writeS; split <;> rfl
@[simp] theorem Group.writeS_lc (g : Group) (n : Nat) (x : W64) : (g.writeS n x).lc = g.lc := by unfold Group.writeS; split <;> rfl
@[simp] theorem Group.writeS_exited (g : Group) (n : Nat) (x : W64) : (g.writeS n x).exited = g.exited := by unfold Group.writeS; split <;> rfl
@[simp] theorem Group.writeS_fb (g : Group) (n : Nat) (x : W64) : (g.writeS n x).fb = g.fb := by unfold Group.writeS; split <;> rfl
@[simp] theorem Group.writeS_fbRec (g : Group) (n : Nat) (x : W64) : (g.writeS n x).fbRec = g.fbRec := by unfold Group.writeS; split <;> rfl
@[simp] theorem Group.writeS_fp (g : Group) (n : Nat) (x : W64) : (g.writeS n x).fp = g.fp := by unfold Group.writeS; split <;> rfl
@[simp] theorem Group.writeS_codebook (g : Group) (n : Nat) (x : W64) : (g.writeS n x).codebook = g.codebook := by unfold Group.writeS; split <;> rfl
@[simp] theorem Group.writeS_rng (g : Group) (n : Nat) (x : W64) : (g.writeS n x).rng = g.rng := by unfold Group.writeS; split <;> rfl
@[simp] theorem Group.writeS_hbc (g : Group) (n : Nat) (x : W64) : (g.writeS n x).hbc = g.hbc := by unfold Group.writeS; split <;> rfl
@[simp] theorem Group.writeS_scfg (g : Group) (n : Nat) (x : W64) : (g.writeS n x).scfg = g.scfg := by unfold Group.writeS; split <;> rfl
@[simp] theorem Group.writeS_gang (g : Group) (n : Nat) (x : W64) : (g.writeS n x).gang = g.gang := by unfold Group.writeS; split <;> rfl
@[simp] theorem Group.writeS_latch (g : Group) (n : Nat) (x : W64) : (g.writeS n x).latch = g.latch := by unfold Group.writeS; split <;> rfl
@[simp] theorem Group.writeS_lph (g : Group) (n : Nat) (x : W64) : (g.writeS n x).lph = g.lph := by unfold Group.writeS; split <;> rfl
@[simp] theorem Group.writeS_tx (g : Group) (n : Nat) (x : W64) : (g.writeS n x).tx = g.tx := by unfold Group.writeS; split <;> rfl
@[simp] theorem Group.writeS_txBuf (g : Group) (n : Nat) (x : W64) : (g.writeS n x).txBuf = g.txBuf := by unfold Group.writeS; split <;> rfl
@[simp] theorem Group.writeS_lastsc (g : Group) (n : Nat) (x : W64) : (g.writeS n x).lastsc = g.lastsc := by unfold Group.writeS; split <;> rfl
@[simp] theorem Group.writeS_mstat0 (g : Group) (n : Nat) (x : W64) : (g.writeS n x).mstat0 = g.mstat0 := by unfold Group.writeS; split <;> rfl
@[simp] theorem Group.writeS_mstat1 (g : Group) (n : Nat) (x : W64) : (g.writeS n x).mstat1 = g.mstat1 := by unfold Group.writeS; split <;> rfl
@[simp] theorem Group.writeS_copies (g : Group) (n : Nat) (x : W64) : (g.writeS n x).copies = g.copies := by unfold Group.writeS; split <;> rfl
@[simp] theorem Group.writeS_copyBytes (g : Group) (n : Nat) (x : W64) : (g.writeS n x).copyBytes = g.copyBytes := by unfold Group.writeS; split <;> rfl
@[simp] theorem Group.writeS_tokens (g : Group) (n : Nat) (x : W64) : (g.writeS n x).tokens = g.tokens := by unfold Group.writeS; split <;> rfl
@[simp] theorem Group.writeS_pend (g : Group) (n : Nat) (x : W64) : (g.writeS n x).pend = g.pend := by unfold Group.writeS; split <;> rfl
@[simp] theorem Group.writeS_sq (g : Group) (n : Nat) (x : W64) : (g.writeS n x).sq = g.sq := by unfold Group.writeS; split <;> rfl
@[simp] theorem Group.writeS_scq (g : Group) (n : Nat) (x : W64) : (g.writeS n x).scq = g.scq := by unfold Group.writeS; split <;> rfl
@[simp] theorem Group.writeS_deferred (g : Group) (n : Nat) (x : W64) : (g.writeS n x).deferred = g.deferred := by unfold Group.writeS; split <;> rfl
@[simp] theorem Group.writeS_block (g : Group) (n : Nat) (x : W64) : (g.writeS n x).block = g.block := by unfold Group.writeS; split <;> rfl
@[simp] theorem Group.writeS_gate (g : Group) (n : Nat) (x : W64) : (g.writeS n x).gate = g.gate := by unfold Group.writeS; split <;> rfl
@[simp] theorem Group.writeS_port (g : Group) (n : Nat) (x : W64) : (g.writeS n x).port = g.port := by unfold Group.writeS; split <;> rfl
@[simp] theorem Group.writeS_floor (g : Group) (n : Nat) (x : W64) : (g.writeS n x).floor = g.floor := by unfold Group.writeS; split <;> rfl
@[simp] theorem Group.writeS_joined (g : Group) (n : Nat) (x : W64) : (g.writeS n x).joined = g.joined := by unfold Group.writeS; split <;> rfl
@[simp] theorem Group.writeS_lastTime (g : Group) (n : Nat) (x : W64) : (g.writeS n x).lastTime = g.lastTime := by unfold Group.writeS; split <;> rfl
@[simp] theorem Group.writeS_trap (g : Group) (n : Nat) (x : W64) : (g.writeS n x).trap = g.trap := by unfold Group.writeS; split <;> rfl
@[simp] theorem Group.writeS_arrivedGang (g : Group) (n : Nat) (x : W64) : (g.writeS n x).arrivedGang = g.arrivedGang := by unfold Group.writeS; split <;> rfl
@[simp] theorem Group.writeS_idle (g : Group) (n : Nat) (x : W64) : (g.writeS n x).idle = g.idle := by unfold Group.writeS; split <;> rfl
@[simp] theorem Group.writeS_freed (g : Group) (n : Nat) (x : W64) : (g.writeS n x).freed = g.freed := by unfold Group.writeS; split <;> rfl
@[simp] theorem Group.writeS_txeFlags (g : Group) (n : Nat) (x : W64) : (g.writeS n x).txeFlags = g.txeFlags := by unfold Group.writeS; split <;> rfl
@[simp] theorem Group.writePs_entries (g : Group) (k : Nat) (sel x : W32) : (g.writePs k sel x).entries = g.entries := by unfold Group.writePs; split <;> rfl
@[simp] theorem Group.writePs_frames (g : Group) (k : Nat) (sel x : W32) : (g.writePs k sel x).frames = g.frames := by unfold Group.writePs; split <;> rfl
@[simp] theorem Group.writePs_s (g : Group) (k : Nat) (sel x : W32) : (g.writePs k sel x).s = g.s := by unfold Group.writePs; split <;> rfl
@[simp] theorem Group.writePs_v (g : Group) (k : Nat) (sel x : W32) : (g.writePs k sel x).v = g.v := by unfold Group.writePs; split <;> rfl
@[simp] theorem Group.writePs_cf (g : Group) (k : Nat) (sel x : W32) : (g.writePs k sel x).cf = g.cf := by unfold Group.writePs; split <;> rfl
@[simp] theorem Group.writePs_lc (g : Group) (k : Nat) (sel x : W32) : (g.writePs k sel x).lc = g.lc := by unfold Group.writePs; split <;> rfl
@[simp] theorem Group.writePs_exited (g : Group) (k : Nat) (sel x : W32) : (g.writePs k sel x).exited = g.exited := by unfold Group.writePs; split <;> rfl
@[simp] theorem Group.writePs_fb (g : Group) (k : Nat) (sel x : W32) : (g.writePs k sel x).fb = g.fb := by unfold Group.writePs; split <;> rfl
@[simp] theorem Group.writePs_fbRec (g : Group) (k : Nat) (sel x : W32) : (g.writePs k sel x).fbRec = g.fbRec := by unfold Group.writePs; split <;> rfl
@[simp] theorem Group.writePs_fp (g : Group) (k : Nat) (sel x : W32) : (g.writePs k sel x).fp = g.fp := by unfold Group.writePs; split <;> rfl
@[simp] theorem Group.writePs_codebook (g : Group) (k : Nat) (sel x : W32) : (g.writePs k sel x).codebook = g.codebook := by unfold Group.writePs; split <;> rfl
@[simp] theorem Group.writePs_rng (g : Group) (k : Nat) (sel x : W32) : (g.writePs k sel x).rng = g.rng := by unfold Group.writePs; split <;> rfl
@[simp] theorem Group.writePs_hbc (g : Group) (k : Nat) (sel x : W32) : (g.writePs k sel x).hbc = g.hbc := by unfold Group.writePs; split <;> rfl
@[simp] theorem Group.writePs_scfg (g : Group) (k : Nat) (sel x : W32) : (g.writePs k sel x).scfg = g.scfg := by unfold Group.writePs; split <;> rfl
@[simp] theorem Group.writePs_gang (g : Group) (k : Nat) (sel x : W32) : (g.writePs k sel x).gang = g.gang := by unfold Group.writePs; split <;> rfl
@[simp] theorem Group.writePs_latch (g : Group) (k : Nat) (sel x : W32) : (g.writePs k sel x).latch = g.latch := by unfold Group.writePs; split <;> rfl
@[simp] theorem Group.writePs_lph (g : Group) (k : Nat) (sel x : W32) : (g.writePs k sel x).lph = g.lph := by unfold Group.writePs; split <;> rfl
@[simp] theorem Group.writePs_tx (g : Group) (k : Nat) (sel x : W32) : (g.writePs k sel x).tx = g.tx := by unfold Group.writePs; split <;> rfl
@[simp] theorem Group.writePs_txBuf (g : Group) (k : Nat) (sel x : W32) : (g.writePs k sel x).txBuf = g.txBuf := by unfold Group.writePs; split <;> rfl
@[simp] theorem Group.writePs_lastsc (g : Group) (k : Nat) (sel x : W32) : (g.writePs k sel x).lastsc = g.lastsc := by unfold Group.writePs; split <;> rfl
@[simp] theorem Group.writePs_mstat0 (g : Group) (k : Nat) (sel x : W32) : (g.writePs k sel x).mstat0 = g.mstat0 := by unfold Group.writePs; split <;> rfl
@[simp] theorem Group.writePs_mstat1 (g : Group) (k : Nat) (sel x : W32) : (g.writePs k sel x).mstat1 = g.mstat1 := by unfold Group.writePs; split <;> rfl
@[simp] theorem Group.writePs_copies (g : Group) (k : Nat) (sel x : W32) : (g.writePs k sel x).copies = g.copies := by unfold Group.writePs; split <;> rfl
@[simp] theorem Group.writePs_copyBytes (g : Group) (k : Nat) (sel x : W32) : (g.writePs k sel x).copyBytes = g.copyBytes := by unfold Group.writePs; split <;> rfl
@[simp] theorem Group.writePs_tokens (g : Group) (k : Nat) (sel x : W32) : (g.writePs k sel x).tokens = g.tokens := by unfold Group.writePs; split <;> rfl
@[simp] theorem Group.writePs_pend (g : Group) (k : Nat) (sel x : W32) : (g.writePs k sel x).pend = g.pend := by unfold Group.writePs; split <;> rfl
@[simp] theorem Group.writePs_sq (g : Group) (k : Nat) (sel x : W32) : (g.writePs k sel x).sq = g.sq := by unfold Group.writePs; split <;> rfl
@[simp] theorem Group.writePs_scq (g : Group) (k : Nat) (sel x : W32) : (g.writePs k sel x).scq = g.scq := by unfold Group.writePs; split <;> rfl
@[simp] theorem Group.writePs_deferred (g : Group) (k : Nat) (sel x : W32) : (g.writePs k sel x).deferred = g.deferred := by unfold Group.writePs; split <;> rfl
@[simp] theorem Group.writePs_block (g : Group) (k : Nat) (sel x : W32) : (g.writePs k sel x).block = g.block := by unfold Group.writePs; split <;> rfl
@[simp] theorem Group.writePs_gate (g : Group) (k : Nat) (sel x : W32) : (g.writePs k sel x).gate = g.gate := by unfold Group.writePs; split <;> rfl
@[simp] theorem Group.writePs_port (g : Group) (k : Nat) (sel x : W32) : (g.writePs k sel x).port = g.port := by unfold Group.writePs; split <;> rfl
@[simp] theorem Group.writePs_floor (g : Group) (k : Nat) (sel x : W32) : (g.writePs k sel x).floor = g.floor := by unfold Group.writePs; split <;> rfl
@[simp] theorem Group.writePs_joined (g : Group) (k : Nat) (sel x : W32) : (g.writePs k sel x).joined = g.joined := by unfold Group.writePs; split <;> rfl
@[simp] theorem Group.writePs_lastTime (g : Group) (k : Nat) (sel x : W32) : (g.writePs k sel x).lastTime = g.lastTime := by unfold Group.writePs; split <;> rfl
@[simp] theorem Group.writePs_trap (g : Group) (k : Nat) (sel x : W32) : (g.writePs k sel x).trap = g.trap := by unfold Group.writePs; split <;> rfl
@[simp] theorem Group.writePs_arrivedGang (g : Group) (k : Nat) (sel x : W32) : (g.writePs k sel x).arrivedGang = g.arrivedGang := by unfold Group.writePs; split <;> rfl
@[simp] theorem Group.writePs_idle (g : Group) (k : Nat) (sel x : W32) : (g.writePs k sel x).idle = g.idle := by unfold Group.writePs; split <;> rfl
@[simp] theorem Group.writePs_freed (g : Group) (k : Nat) (sel x : W32) : (g.writePs k sel x).freed = g.freed := by unfold Group.writePs; split <;> rfl
@[simp] theorem Group.writePs_txeFlags (g : Group) (k : Nat) (sel x : W32) : (g.writePs k sel x).txeFlags = g.txeFlags := by unfold Group.writePs; split <;> rfl
@[simp] theorem Group.writeV_entries (g : Group) (l n : Nat) (x : W32) : (g.writeV l n x).entries = g.entries := by unfold Group.writeV; split; rfl; split; split <;> rfl; rfl
@[simp] theorem Group.writeV_frames (g : Group) (l n : Nat) (x : W32) : (g.writeV l n x).frames = g.frames := by unfold Group.writeV; split; rfl; split; split <;> rfl; rfl
@[simp] theorem Group.writeV_s (g : Group) (l n : Nat) (x : W32) : (g.writeV l n x).s = g.s := by unfold Group.writeV; split; rfl; split; split <;> rfl; rfl
@[simp] theorem Group.writeV_p (g : Group) (l n : Nat) (x : W32) : (g.writeV l n x).p = g.p := by unfold Group.writeV; split; rfl; split; split <;> rfl; rfl
@[simp] theorem Group.writeV_cf (g : Group) (l n : Nat) (x : W32) : (g.writeV l n x).cf = g.cf := by unfold Group.writeV; split; rfl; split; split <;> rfl; rfl
@[simp] theorem Group.writeV_lc (g : Group) (l n : Nat) (x : W32) : (g.writeV l n x).lc = g.lc := by unfold Group.writeV; split; rfl; split; split <;> rfl; rfl
@[simp] theorem Group.writeV_exited (g : Group) (l n : Nat) (x : W32) : (g.writeV l n x).exited = g.exited := by unfold Group.writeV; split; rfl; split; split <;> rfl; rfl
@[simp] theorem Group.writeV_fb (g : Group) (l n : Nat) (x : W32) : (g.writeV l n x).fb = g.fb := by unfold Group.writeV; split; rfl; split; split <;> rfl; rfl
@[simp] theorem Group.writeV_fbRec (g : Group) (l n : Nat) (x : W32) : (g.writeV l n x).fbRec = g.fbRec := by unfold Group.writeV; split; rfl; split; split <;> rfl; rfl
@[simp] theorem Group.writeV_fp (g : Group) (l n : Nat) (x : W32) : (g.writeV l n x).fp = g.fp := by unfold Group.writeV; split; rfl; split; split <;> rfl; rfl
@[simp] theorem Group.writeV_codebook (g : Group) (l n : Nat) (x : W32) : (g.writeV l n x).codebook = g.codebook := by unfold Group.writeV; split; rfl; split; split <;> rfl; rfl
@[simp] theorem Group.writeV_rng (g : Group) (l n : Nat) (x : W32) : (g.writeV l n x).rng = g.rng := by unfold Group.writeV; split; rfl; split; split <;> rfl; rfl
@[simp] theorem Group.writeV_hbc (g : Group) (l n : Nat) (x : W32) : (g.writeV l n x).hbc = g.hbc := by unfold Group.writeV; split; rfl; split; split <;> rfl; rfl
@[simp] theorem Group.writeV_scfg (g : Group) (l n : Nat) (x : W32) : (g.writeV l n x).scfg = g.scfg := by unfold Group.writeV; split; rfl; split; split <;> rfl; rfl
@[simp] theorem Group.writeV_gang (g : Group) (l n : Nat) (x : W32) : (g.writeV l n x).gang = g.gang := by unfold Group.writeV; split; rfl; split; split <;> rfl; rfl
@[simp] theorem Group.writeV_latch (g : Group) (l n : Nat) (x : W32) : (g.writeV l n x).latch = g.latch := by unfold Group.writeV; split; rfl; split; split <;> rfl; rfl
@[simp] theorem Group.writeV_lph (g : Group) (l n : Nat) (x : W32) : (g.writeV l n x).lph = g.lph := by unfold Group.writeV; split; rfl; split; split <;> rfl; rfl
@[simp] theorem Group.writeV_tx (g : Group) (l n : Nat) (x : W32) : (g.writeV l n x).tx = g.tx := by unfold Group.writeV; split; rfl; split; split <;> rfl; rfl
@[simp] theorem Group.writeV_txBuf (g : Group) (l n : Nat) (x : W32) : (g.writeV l n x).txBuf = g.txBuf := by unfold Group.writeV; split; rfl; split; split <;> rfl; rfl
@[simp] theorem Group.writeV_lastsc (g : Group) (l n : Nat) (x : W32) : (g.writeV l n x).lastsc = g.lastsc := by unfold Group.writeV; split; rfl; split; split <;> rfl; rfl
@[simp] theorem Group.writeV_mstat0 (g : Group) (l n : Nat) (x : W32) : (g.writeV l n x).mstat0 = g.mstat0 := by unfold Group.writeV; split; rfl; split; split <;> rfl; rfl
@[simp] theorem Group.writeV_mstat1 (g : Group) (l n : Nat) (x : W32) : (g.writeV l n x).mstat1 = g.mstat1 := by unfold Group.writeV; split; rfl; split; split <;> rfl; rfl
@[simp] theorem Group.writeV_copies (g : Group) (l n : Nat) (x : W32) : (g.writeV l n x).copies = g.copies := by unfold Group.writeV; split; rfl; split; split <;> rfl; rfl
@[simp] theorem Group.writeV_copyBytes (g : Group) (l n : Nat) (x : W32) : (g.writeV l n x).copyBytes = g.copyBytes := by unfold Group.writeV; split; rfl; split; split <;> rfl; rfl
@[simp] theorem Group.writeV_tokens (g : Group) (l n : Nat) (x : W32) : (g.writeV l n x).tokens = g.tokens := by unfold Group.writeV; split; rfl; split; split <;> rfl; rfl
@[simp] theorem Group.writeV_pend (g : Group) (l n : Nat) (x : W32) : (g.writeV l n x).pend = g.pend := by unfold Group.writeV; split; rfl; split; split <;> rfl; rfl
@[simp] theorem Group.writeV_sq (g : Group) (l n : Nat) (x : W32) : (g.writeV l n x).sq = g.sq := by unfold Group.writeV; split; rfl; split; split <;> rfl; rfl
@[simp] theorem Group.writeV_scq (g : Group) (l n : Nat) (x : W32) : (g.writeV l n x).scq = g.scq := by unfold Group.writeV; split; rfl; split; split <;> rfl; rfl
@[simp] theorem Group.writeV_deferred (g : Group) (l n : Nat) (x : W32) : (g.writeV l n x).deferred = g.deferred := by unfold Group.writeV; split; rfl; split; split <;> rfl; rfl
@[simp] theorem Group.writeV_block (g : Group) (l n : Nat) (x : W32) : (g.writeV l n x).block = g.block := by unfold Group.writeV; split; rfl; split; split <;> rfl; rfl
@[simp] theorem Group.writeV_port (g : Group) (l n : Nat) (x : W32) : (g.writeV l n x).port = g.port := by unfold Group.writeV; split; rfl; split; split <;> rfl; rfl
@[simp] theorem Group.writeV_floor (g : Group) (l n : Nat) (x : W32) : (g.writeV l n x).floor = g.floor := by unfold Group.writeV; split; rfl; split; split <;> rfl; rfl
@[simp] theorem Group.writeV_joined (g : Group) (l n : Nat) (x : W32) : (g.writeV l n x).joined = g.joined := by unfold Group.writeV; split; rfl; split; split <;> rfl; rfl
@[simp] theorem Group.writeV_lastTime (g : Group) (l n : Nat) (x : W32) : (g.writeV l n x).lastTime = g.lastTime := by unfold Group.writeV; split; rfl; split; split <;> rfl; rfl
@[simp] theorem Group.writeV_trap (g : Group) (l n : Nat) (x : W32) : (g.writeV l n x).trap = g.trap := by unfold Group.writeV; split; rfl; split; split <;> rfl; rfl
@[simp] theorem Group.writeV_arrivedGang (g : Group) (l n : Nat) (x : W32) : (g.writeV l n x).arrivedGang = g.arrivedGang := by unfold Group.writeV; split; rfl; split; split <;> rfl; rfl
@[simp] theorem Group.writeV_idle (g : Group) (l n : Nat) (x : W32) : (g.writeV l n x).idle = g.idle := by unfold Group.writeV; split; rfl; split; split <;> rfl; rfl
@[simp] theorem Group.writeV_freed (g : Group) (l n : Nat) (x : W32) : (g.writeV l n x).freed = g.freed := by unfold Group.writeV; split; rfl; split; split <;> rfl; rfl
@[simp] theorem Group.writeV_txeFlags (g : Group) (l n : Nat) (x : W32) : (g.writeV l n x).txeFlags = g.txeFlags := by unfold Group.writeV; split; rfl; split; split <;> rfl; rfl

@[simp] theorem State.team_setTeam (s : State) (ti : Nat) (t : Team) : (s.setTeam ti t).team ti = t := by
  simp [State.team, State.setTeam]

theorem State.team_setTeam_other (s : State) (ti j : Nat) (t : Team) (h : j ≠ ti) : (s.setTeam ti t).team j = s.team j :=
  SMap.get_ins_other _ _ _ _ _ h

@[simp] theorem Team.group_setGroup (t : Team) (gi : Nat) (g : Group) : (t.setGroup gi g).group gi = g := by
  simp [Team.group, Team.setGroup]

theorem Team.group_setGroup_other (t : Team) (gi j : Nat) (g : Group) (h : j ≠ gi) :
    (t.setGroup gi g).group j = t.group j := SMap.get_ins_other _ _ _ _ _ h

@[simp] theorem State.group_setGroup (s : State) (ti gi : Nat) (g : Group) : (s.setGroup ti gi g).group ti gi = g := by
  simp [State.group, State.setGroup]

@[simp] theorem Team.setGroup_setGroup (t : Team) (gi : Nat) (g h : Group) :
    (t.setGroup gi g).setGroup gi h = t.setGroup gi h := by
  simp [Team.setGroup]

@[simp] theorem State.setTeam_setTeam (s : State) (ti : Nat) (t u : Team) :
    (s.setTeam ti t).setTeam ti u = s.setTeam ti u := by
  simp [State.setTeam]

@[simp] theorem State.setGroup_setGroup (s : State) (ti gi : Nat) (g h : Group) :
    (s.setGroup ti gi g).setGroup ti gi h = s.setGroup ti gi h := by
  simp [State.setGroup]

@[simp] theorem State.modGroup_setGroup (s : State) (ti gi : Nat) (g : Group) (f : Group → Group) :
    (s.setGroup ti gi g).modGroup ti gi f = s.setGroup ti gi (f g) := by
  simp [State.modGroup]

/-! ## Hard-wired registers (R40) -/

@[simp] theorem Group.readS_63 (g : Group) : g.readS 63 = 0 := rfl

@[simp] theorem Group.writeS_63 (g : Group) (x : W64) : g.writeS 63 x = g := rfl

@[simp] theorem Group.readV_127 (g : Group) (l : Nat) : g.readV l 127 = 0 := rfl

@[simp] theorem Group.writeV_127 (g : Group) (l : Nat) (x : W32) : g.writeV l 127 x = g := rfl

@[simp] theorem Group.pmask_7 (g : Group) : g.pmask 7 = BitVec.allOnes 32 := rfl

@[simp] theorem Group.writePs_7 (g : Group) (sel x : W32) : g.writePs 7 sel x = g := rfl

/-! ## Reading what was written -/

theorem Group.readS_writeS (g : Group) (n : Nat) (x : W64) (hn : n ≠ 63) : (g.writeS n x).readS n = x := by
  simp [Group.readS, Group.writeS, hn]

theorem Group.readS_writeS_other (g : Group) (n j : Nat) (x : W64) (hj : j ≠ n) : (g.writeS n x).readS j = g.readS j := by
  have := SMap.get_put_other 0 g.s n j x hj
  by_cases h1 : j = 63 <;> by_cases h2 : n = 63 <;> simp [Group.readS, Group.writeS, h1, h2]
  simpa using this

theorem Group.pmask_writePs (g : Group) (k : Nat) (sel x : W32) (hk : k ≠ 7) :
    (g.writePs k sel x).pmask k = (g.pmask k &&& ~~~sel) ||| (x &&& sel) := by
  simp [Group.pmask, Group.writePs, hk]

end Sys2Proof.Machine
end

