-- ==== Sys2Proof/Laws/Access.lean ====
section
/-!
SUPPORT. What the operations shared by many words may do to memory: they keep its canonical form, and those that only
note an access leave every byte and every tag.
-/
namespace Sys2Proof
namespace Machine

@[simp] theorem State.touch_bytes (s : State) (pa n : Nat) : (s.touch pa n).mem.bytes = s.mem.bytes := rfl
@[simp] theorem State.touch_tags (s : State) (pa n : Nat) : (s.touch pa n).mem.tags = s.mem.tags := rfl
@[simp] theorem State.touch_teams (s : State) (pa n : Nat) : (s.touch pa n).teams = s.teams := rfl
@[simp] theorem State.touch_cores (s : State) (pa n : Nat) : (s.touch pa n).cores = s.cores := rfl
@[simp] theorem State.touch_parts (s : State) (pa n : Nat) : (s.touch pa n).parts = s.parts := rfl

@[simp] theorem State.free_mem (s : State) : s.free.2.mem = s.mem := rfl
@[simp] theorem State.free_teams (s : State) : s.free.2.teams = s.teams := rfl
@[simp] theorem State.free_nfree (s : State) : s.free.2.nfree = s.nfree + 1 := rfl

/-- Free values only count up: whatever their number, nothing else changes. -/
theorem State.frees_state (s : State) (w n : Nat) : (s.frees w n).2 = { s with nfree := s.nfree + n } := by
  induction n generalizing s with
  | zero => rfl
  | succ n ih =>
    have h := ih s.free.2
    simp only [State.frees] at h ⊢
    rw [h]
    simp [State.free, Nat.add_comm n 1, Nat.add_assoc]

@[simp] theorem State.dropL1_mem (s : State) (core pa n : Nat) : (s.dropL1 core pa n).mem = s.mem := rfl
@[simp] theorem State.dropL1_teams (s : State) (core pa n : Nat) : (s.dropL1 core pa n).teams = s.teams := rfl
@[simp] theorem State.dropOwn_mem (s : State) (core fen pa n : Nat) : (s.dropOwn core fen pa n).mem = s.mem := rfl
@[simp] theorem State.dropOwn_teams (s : State) (core fen pa n : Nat) : (s.dropOwn core fen pa n).teams = s.teams := rfl

/-- A line noted for its expander: every byte and every tag stays. -/
theorem State.markThrough_mem (s : State) (ti : Nat) (gi : Option Nat) (moment pa : Nat) :
    (s.markThrough ti gi moment pa).mem = { s.mem with through := (s.markThrough ti gi moment pa).mem.through } := by
  unfold State.markThrough
  split <;> rfl

/-- A finding noted: nothing but the machine-check log and its events changes. -/
@[simp] theorem State.logFound_mem (s : State) (cause : Nat) (pa : Option Nat) : (s.logFound cause pa).mem = s.mem := by
  unfold State.logFound
  split
  · split <;> rfl
  · rfl

@[simp] theorem State.logMem_mem (s : State) (cause pa : Nat) (team : Bool) : (s.logMem cause pa team).mem = s.mem := rfl
@[simp] theorem State.logMem_teams (s : State) (cause pa : Nat) (team : Bool) : (s.logMem cause pa team).teams = s.teams := rfl

/-- Further findings noted: nothing but the machine-check log and its events changes (R37, R385). -/
@[simp] theorem State.logBeside_mem (s : State) (kept fs : List (Nat × Nat)) : (s.logBeside kept fs).mem = s.mem := by
  unfold State.logBeside
  generalize List.foldl _ [] _ = others
  induction others generalizing s with
  | nil => rfl
  | cons f rest ih => simpa using ih (s.logMem f.1 f.2 false)

@[simp] theorem State.logBeside_teams (s : State) (kept fs : List (Nat × Nat)) : (s.logBeside kept fs).teams = s.teams := by
  unfold State.logBeside
  generalize List.foldl _ [] _ = others
  induction others generalizing s with
  | nil => rfl
  | cons f rest ih => simpa using ih (s.logMem f.1 f.2 false)

/-- What the part writes for itself keeps the canonical form, whether the write is made or its machine check is logged. -/
theorem State.ownWrite_wf (s : State) (fen pa : Nat) (bs : List Byte) (h : s.mem.wf = true) :
    (s.ownWrite fen pa bs).mem.wf = true := by
  unfold State.ownWrite
  split
  · simpa using h
  · exact writeBytes_wf s fen pa bs h

/-- So does what the fen guard writes into its own area. -/
theorem State.guardWrite_wf (s : State) (pa : Nat) (bs : List Byte) (h : s.mem.wf = true) :
    (s.guardWrite pa bs).mem.wf = true := by
  unfold State.guardWrite
  split
  · exact writeBytes_wf s 0 pa bs h
  · exact s.ownWrite_wf 0 pa bs h

end Machine
end Sys2Proof
end

