-- ==== Sys2Proof/Laws/Exec.lean ====
section
/-!
SUPPORT. One equation for each arm of `exec`, so that no proof unfolds the whole of it.
-/
namespace Sys2Proof.Machine

@[simp] theorem exec_clauseHeader (w : BitVec 12) (a : BitVec 4) (b : BitVec 4) (n : BitVec 4) (y : BitVec 1) (c : BitVec 1) (s : State) : exec (.clauseHeader w a b n y c) s = Sys2Proof.Machine.execClauseHeader w a b n y c s := rfl
@[simp] theorem exec_nop (i : BitVec 23) (s : State) : exec (.nop i) s = Sys2Proof.Machine.execNop i s := rfl
@[simp] theorem exec_setm (m : BitVec 23) (s : State) : exec (.setm m) s = Sys2Proof.Machine.execSetm m s := rfl
@[simp] theorem exec_gets (d : BitVec 6) (i : BitVec 9) (s : State) : exec (.gets d i) s = Sys2Proof.Machine.execGets d i s := rfl
@[simp] theorem exec_getv (d : BitVec 7) (i : BitVec 9) (s : State) : exec (.getv d i) s = Sys2Proof.Machine.execGetv d i s := rfl
@[simp] theorem exec_br (h : BitVec 2) (q : BitVec 3) (n : BitVec 1) (o : BitVec 17) (s : State) : exec (.br h q n o) s = Sys2Proof.Machine.execBr h q n o s := rfl
@[simp] theorem exec_jmp (hx : BitVec 6) (o : BitVec 17) (s : State) : exec (.jmp hx o) s = Sys2Proof.Machine.execJmp hx o s := rfl
@[simp] theorem exec_jr (a : BitVec 6) (s : State) : exec (.jr a) s = Sys2Proof.Machine.execJr a s := rfl
@[simp] theorem exec_call (hx : BitVec 6) (o : BitVec 17) (s : State) : exec (.call hx o) s = Sys2Proof.Machine.execCall hx o s := rfl
@[simp] theorem exec_ret (a : BitVec 6) (s : State) : exec (.ret a) s = Sys2Proof.Machine.execRet a s := rfl
@[simp] theorem exec_recon (o : BitVec 17) (s : State) : exec (.recon o) s = Sys2Proof.Machine.execRecon o s := rfl
@[simp] theorem exec_join (s : State) : exec (.join) s = Sys2Proof.Machine.execJoin s := rfl
@[simp] theorem exec_loop (l : BitVec 2) (c : BitVec 1) (n : BitVec 10) (e : BitVec 10) (s : State) : exec (.loop l c n e) s = Sys2Proof.Machine.execLoop l c n e s := rfl
@[simp] theorem exec_lbrk (h : BitVec 2) (q : BitVec 3) (n : BitVec 1) (o : BitVec 17) (s : State) : exec (.lbrk h q n o) s = Sys2Proof.Machine.execLbrk h q n o s := rfl
@[simp] theorem exec_exit (s : State) : exec (.exit) s = Sys2Proof.Machine.execExit s := rfl
@[simp] theorem exec_yield (s : State) : exec (.yield) s = Sys2Proof.Machine.execYield s := rfl
@[simp] theorem exec_wait (f : BitVec 12) (s : State) : exec (.wait f) s = Sys2Proof.Machine.execWait f s := rfl
@[simp] theorem exec_trap (n : BitVec 16) (s : State) : exec (.trap n) s = Sys2Proof.Machine.execTrap n s := rfl
@[simp] theorem exec_sys (n : BitVec 16) (s : State) : exec (.sys n) s = Sys2Proof.Machine.execSys n s := rfl
@[simp] theorem exec_fbpt (n : BitVec 6) (s : State) : exec (.fbpt n) s = Sys2Proof.Machine.execFbpt n s := rfl
@[simp] theorem exec_eret (s : State) : exec (.eret) s = Sys2Proof.Machine.execEret s := rfl
@[simp] theorem exec_halt (s : State) : exec (.halt) s = Sys2Proof.Machine.execHalt s := rfl
@[simp] theorem exec_srd (d : BitVec 6) (r : BitVec 9) (s : State) : exec (.srd d r) s = Sys2Proof.Machine.execSrd d r s := rfl
@[simp] theorem exec_swr (a : BitVec 6) (r : BitVec 9) (s : State) : exec (.swr a r) s = Sys2Proof.Machine.execSwr a r s := rfl
@[simp] theorem exec_sadd (b : Src) (d : BitVec 6) (a : BitVec 6) (s : State) : exec (.sadd b d a) s = Sys2Proof.Machine.execSadd b d a s := rfl
@[simp] theorem exec_ssub (b : Src) (d : BitVec 6) (a : BitVec 6) (s : State) : exec (.ssub b d a) s = Sys2Proof.Machine.execSsub b d a s := rfl
@[simp] theorem exec_smul (b : Src) (d : BitVec 6) (a : BitVec 6) (s : State) : exec (.smul b d a) s = Sys2Proof.Machine.execSmul b d a s := rfl
@[simp] theorem exec_smulh (b : Src) (d : BitVec 6) (a : BitVec 6) (s : State) : exec (.smulh b d a) s = Sys2Proof.Machine.execSmulh b d a s := rfl
@[simp] theorem exec_sand (b : Src) (d : BitVec 6) (a : BitVec 6) (s : State) : exec (.sand b d a) s = Sys2Proof.Machine.execSand b d a s := rfl
@[simp] theorem exec_sor (b : Src) (d : BitVec 6) (a : BitVec 6) (s : State) : exec (.sor b d a) s = Sys2Proof.Machine.execSor b d a s := rfl
@[simp] theorem exec_sxor (b : Src) (d : BitVec 6) (a : BitVec 6) (s : State) : exec (.sxor b d a) s = Sys2Proof.Machine.execSxor b d a s := rfl
@[simp] theorem exec_sshl (b : Src) (d : BitVec 6) (a : BitVec 6) (s : State) : exec (.sshl b d a) s = Sys2Proof.Machine.execSshl b d a s := rfl
@[simp] theorem exec_sshr (b : Src) (d : BitVec 6) (a : BitVec 6) (s : State) : exec (.sshr b d a) s = Sys2Proof.Machine.execSshr b d a s := rfl
@[simp] theorem exec_ssra (b : Src) (d : BitVec 6) (a : BitVec 6) (s : State) : exec (.ssra b d a) s = Sys2Proof.Machine.execSsra b d a s := rfl
@[simp] theorem exec_smin (b : Src) (d : BitVec 6) (a : BitVec 6) (s : State) : exec (.smin b d a) s = Sys2Proof.Machine.execSmin b d a s := rfl
@[simp] theorem exec_smax (b : Src) (d : BitVec 6) (a : BitVec 6) (s : State) : exec (.smax b d a) s = Sys2Proof.Machine.execSmax b d a s := rfl
@[simp] theorem exec_scmp (b : Src) (c : Cc) (p : BitVec 3) (a : BitVec 6) (s : State) : exec (.scmp b c p a) s = Sys2Proof.Machine.execScmp b c p a s := rfl
@[simp] theorem exec_ssel (b : Src) (d : BitVec 6) (a : BitVec 6) (s : State) : exec (.ssel b d a) s = Sys2Proof.Machine.execSsel b d a s := rfl
@[simp] theorem exec_smov (b : Src) (d : BitVec 6) (s : State) : exec (.smov b d) s = Sys2Proof.Machine.execSmov b d s := rfl
@[simp] theorem exec_smovi (d : BitVec 6) (i : BitVec 16) (s : State) : exec (.smovi d i) s = Sys2Proof.Machine.execSmovi d i s := rfl
@[simp] theorem exec_smovh (d : BitVec 6) (i : BitVec 16) (s : State) : exec (.smovh d i) s = Sys2Proof.Machine.execSmovh d i s := rfl
@[simp] theorem exec_smovx (d : BitVec 6) (i : BitVec 16) (s : State) : exec (.smovx d i) s = Sys2Proof.Machine.execSmovx d i s := rfl
@[simp] theorem exec_smovy (d : BitVec 6) (i : BitVec 16) (s : State) : exec (.smovy d i) s = Sys2Proof.Machine.execSmovy d i s := rfl
@[simp] theorem exec_sclz (d : BitVec 6) (a : BitVec 6) (s : State) : exec (.sclz d a) s = Sys2Proof.Machine.execSclz d a s := rfl
@[simp] theorem exec_spop (d : BitVec 6) (a : BitVec 6) (s : State) : exec (.spop d a) s = Sys2Proof.Machine.execSpop d a s := rfl
@[simp] theorem exec_sld (d : BitVec 6) (sr : BitVec 6) (s : State) : exec (.sld d sr) s = Sys2Proof.Machine.execSld d sr s := rfl
@[simp] theorem exec_sst (d : BitVec 6) (sr : BitVec 6) (s : State) : exec (.sst d sr) s = Sys2Proof.Machine.execSst d sr s := rfl
@[simp] theorem exec_pand (d : BitVec 3) (a : BitVec 3) (b : BitVec 3) (s : State) : exec (.pand d a b) s = Sys2Proof.Machine.execPand d a b s := rfl
@[simp] theorem exec_por (d : BitVec 3) (a : BitVec 3) (b : BitVec 3) (s : State) : exec (.por d a b) s = Sys2Proof.Machine.execPor d a b s := rfl
@[simp] theorem exec_pxor (d : BitVec 3) (a : BitVec 3) (b : BitVec 3) (s : State) : exec (.pxor d a b) s = Sys2Proof.Machine.execPxor d a b s := rfl
@[simp] theorem exec_pnot (d : BitVec 3) (a : BitVec 3) (s : State) : exec (.pnot d a) s = Sys2Proof.Machine.execPnot d a s := rfl
@[simp] theorem exec_pany (d : BitVec 6) (a : BitVec 3) (s : State) : exec (.pany d a) s = Sys2Proof.Machine.execPany d a s := rfl
@[simp] theorem exec_pall (d : BitVec 6) (a : BitVec 3) (s : State) : exec (.pall d a) s = Sys2Proof.Machine.execPall d a s := rfl
@[simp] theorem exec_pmov (b : Src) (d : BitVec 3) (s : State) : exec (.pmov b d) s = Sys2Proof.Machine.execPmov b d s := rfl
@[simp] theorem exec_vadd (b : Src) (d : BitVec 7) (a : BitVec 7) (s : State) : exec (.vadd b d a) s = Sys2Proof.Machine.execVadd b d a s := rfl
@[simp] theorem exec_vsub (b : Src) (d : BitVec 7) (a : BitVec 7) (s : State) : exec (.vsub b d a) s = Sys2Proof.Machine.execVsub b d a s := rfl
@[simp] theorem exec_vmul (b : Src) (d : BitVec 7) (a : BitVec 7) (s : State) : exec (.vmul b d a) s = Sys2Proof.Machine.execVmul b d a s := rfl
@[simp] theorem exec_vmulh (b : Src) (d : BitVec 7) (a : BitVec 7) (s : State) : exec (.vmulh b d a) s = Sys2Proof.Machine.execVmulh b d a s := rfl
@[simp] theorem exec_vmad (b : Src) (d : BitVec 7) (a : BitVec 7) (s : State) : exec (.vmad b d a) s = Sys2Proof.Machine.execVmad b d a s := rfl
@[simp] theorem exec_vdiv (b : Src) (d : BitVec 7) (a : BitVec 7) (s : State) : exec (.vdiv b d a) s = Sys2Proof.Machine.execVdiv b d a s := rfl
@[simp] theorem exec_vrem (b : Src) (d : BitVec 7) (a : BitVec 7) (s : State) : exec (.vrem b d a) s = Sys2Proof.Machine.execVrem b d a s := rfl
@[simp] theorem exec_vabs (d : BitVec 7) (a : BitVec 7) (s : State) : exec (.vabs d a) s = Sys2Proof.Machine.execVabs d a s := rfl
@[simp] theorem exec_vneg (d : BitVec 7) (a : BitVec 7) (s : State) : exec (.vneg d a) s = Sys2Proof.Machine.execVneg d a s := rfl
@[simp] theorem exec_vmin (b : Src) (d : BitVec 7) (a : BitVec 7) (s : State) : exec (.vmin b d a) s = Sys2Proof.Machine.execVmin b d a s := rfl
@[simp] theorem exec_vmax (b : Src) (d : BitVec 7) (a : BitVec 7) (s : State) : exec (.vmax b d a) s = Sys2Proof.Machine.execVmax b d a s := rfl
@[simp] theorem exec_vand (b : Src) (d : BitVec 7) (a : BitVec 7) (s : State) : exec (.vand b d a) s = Sys2Proof.Machine.execVand b d a s := rfl
@[simp] theorem exec_vor (b : Src) (d : BitVec 7) (a : BitVec 7) (s : State) : exec (.vor b d a) s = Sys2Proof.Machine.execVor b d a s := rfl
@[simp] theorem exec_vxor (b : Src) (d : BitVec 7) (a : BitVec 7) (s : State) : exec (.vxor b d a) s = Sys2Proof.Machine.execVxor b d a s := rfl
@[simp] theorem exec_vnot (d : BitVec 7) (a : BitVec 7) (s : State) : exec (.vnot d a) s = Sys2Proof.Machine.execVnot d a s := rfl
@[simp] theorem exec_vshl (b : Src) (d : BitVec 7) (a : BitVec 7) (s : State) : exec (.vshl b d a) s = Sys2Proof.Machine.execVshl b d a s := rfl
@[simp] theorem exec_vshr (b : Src) (d : BitVec 7) (a : BitVec 7) (s : State) : exec (.vshr b d a) s = Sys2Proof.Machine.execVshr b d a s := rfl
@[simp] theorem exec_vsra (b : Src) (d : BitVec 7) (a : BitVec 7) (s : State) : exec (.vsra b d a) s = Sys2Proof.Machine.execVsra b d a s := rfl
@[simp] theorem exec_vclz (d : BitVec 7) (a : BitVec 7) (s : State) : exec (.vclz d a) s = Sys2Proof.Machine.execVclz d a s := rfl
@[simp] theorem exec_vpop (d : BitVec 7) (a : BitVec 7) (s : State) : exec (.vpop d a) s = Sys2Proof.Machine.execVpop d a s := rfl
@[simp] theorem exec_vbrev (d : BitVec 7) (a : BitVec 7) (s : State) : exec (.vbrev d a) s = Sys2Proof.Machine.execVbrev d a s := rfl
@[simp] theorem exec_vbfx (b : Src) (d : BitVec 7) (a : BitVec 7) (s : State) : exec (.vbfx b d a) s = Sys2Proof.Machine.execVbfx b d a s := rfl
@[simp] theorem exec_vbfi (b : Src) (d : BitVec 7) (a : BitVec 7) (s : State) : exec (.vbfi b d a) s = Sys2Proof.Machine.execVbfi b d a s := rfl
@[simp] theorem exec_vsel (b : Src) (d : BitVec 7) (a : BitVec 7) (s : State) : exec (.vsel b d a) s = Sys2Proof.Machine.execVsel b d a s := rfl
@[simp] theorem exec_vcmp (b : Src) (c : Cc) (p : BitVec 3) (a : BitVec 7) (s : State) : exec (.vcmp b c p a) s = Sys2Proof.Machine.execVcmp b c p a s := rfl
@[simp] theorem exec_vmov (b : Src) (d : BitVec 7) (s : State) : exec (.vmov b d) s = Sys2Proof.Machine.execVmov b d s := rfl
@[simp] theorem exec_vmovi (d : BitVec 7) (i : BitVec 16) (s : State) : exec (.vmovi d i) s = Sys2Proof.Machine.execVmovi d i s := rfl
@[simp] theorem exec_vmovh (d : BitVec 7) (i : BitVec 16) (s : State) : exec (.vmovh d i) s = Sys2Proof.Machine.execVmovh d i s := rfl
@[simp] theorem exec_vfadd (b : Src) (d : BitVec 7) (a : BitVec 7) (s : State) : exec (.vfadd b d a) s = Sys2Proof.Machine.execVfadd b d a s := rfl
@[simp] theorem exec_vfsub (b : Src) (d : BitVec 7) (a : BitVec 7) (s : State) : exec (.vfsub b d a) s = Sys2Proof.Machine.execVfsub b d a s := rfl
@[simp] theorem exec_vfmul (b : Src) (d : BitVec 7) (a : BitVec 7) (s : State) : exec (.vfmul b d a) s = Sys2Proof.Machine.execVfmul b d a s := rfl
@[simp] theorem exec_vfma (b : Src) (d : BitVec 7) (a : BitVec 7) (s : State) : exec (.vfma b d a) s = Sys2Proof.Machine.execVfma b d a s := rfl
@[simp] theorem exec_vfmin (b : Src) (d : BitVec 7) (a : BitVec 7) (s : State) : exec (.vfmin b d a) s = Sys2Proof.Machine.execVfmin b d a s := rfl
@[simp] theorem exec_vfmax (b : Src) (d : BitVec 7) (a : BitVec 7) (s : State) : exec (.vfmax b d a) s = Sys2Proof.Machine.execVfmax b d a s := rfl
@[simp] theorem exec_vfcmp (b : Src) (c : Cc) (p : BitVec 3) (a : BitVec 7) (s : State) : exec (.vfcmp b c p a) s = Sys2Proof.Machine.execVfcmp b c p a s := rfl
@[simp] theorem exec_vfclass (d : BitVec 7) (a : BitVec 7) (s : State) : exec (.vfclass d a) s = Sys2Proof.Machine.execVfclass d a s := rfl
@[simp] theorem exec_vfrnd (d : BitVec 7) (a : BitVec 7) (s : State) : exec (.vfrnd d a) s = Sys2Proof.Machine.execVfrnd d a s := rfl
@[simp] theorem exec_vrcp (d : BitVec 7) (a : BitVec 7) (s : State) : exec (.vrcp d a) s = Sys2Proof.Machine.execVrcp d a s := rfl
@[simp] theorem exec_vrsq (d : BitVec 7) (a : BitVec 7) (s : State) : exec (.vrsq d a) s = Sys2Proof.Machine.execVrsq d a s := rfl
@[simp] theorem exec_vsqrt (d : BitVec 7) (a : BitVec 7) (s : State) : exec (.vsqrt d a) s = Sys2Proof.Machine.execVsqrt d a s := rfl
@[simp] theorem exec_vexp2 (d : BitVec 7) (a : BitVec 7) (s : State) : exec (.vexp2 d a) s = Sys2Proof.Machine.execVexp2 d a s := rfl
@[simp] theorem exec_vlog2 (d : BitVec 7) (a : BitVec 7) (s : State) : exec (.vlog2 d a) s = Sys2Proof.Machine.execVlog2 d a s := rfl
@[simp] theorem exec_vsin (d : BitVec 7) (a : BitVec 7) (s : State) : exec (.vsin d a) s = Sys2Proof.Machine.execVsin d a s := rfl
@[simp] theorem exec_vcos (d : BitVec 7) (a : BitVec 7) (s : State) : exec (.vcos d a) s = Sys2Proof.Machine.execVcos d a s := rfl
@[simp] theorem exec_vtanh (d : BitVec 7) (a : BitVec 7) (s : State) : exec (.vtanh d a) s = Sys2Proof.Machine.execVtanh d a s := rfl
@[simp] theorem exec_vsigm (d : BitVec 7) (a : BitVec 7) (s : State) : exec (.vsigm d a) s = Sys2Proof.Machine.execVsigm d a s := rfl
@[simp] theorem exec_vfdiv (b : Src) (d : BitVec 7) (a : BitVec 7) (s : State) : exec (.vfdiv b d a) s = Sys2Proof.Machine.execVfdiv b d a s := rfl
@[simp] theorem exec_vcvt (d : BitVec 7) (a : BitVec 7) (e : BitVec 3) (f : BitVec 3) (s : State) : exec (.vcvt d a e f) s = Sys2Proof.Machine.execVcvt d a e f s := rfl
@[simp] theorem exec_vpack (d : BitVec 7) (a : BitVec 7) (b : BitVec 7) (s : State) : exec (.vpack d a b) s = Sys2Proof.Machine.execVpack d a b s := rfl
@[simp] theorem exec_vunpack (d : BitVec 7) (a : BitVec 7) (b : BitVec 7) (s : State) : exec (.vunpack d a b) s = Sys2Proof.Machine.execVunpack d a b s := rfl
@[simp] theorem exec_cbld (a : BitVec 6) (s : State) : exec (.cbld a) s = Sys2Proof.Machine.execCbld a s := rfl
@[simp] theorem exec_cbst (d : BitVec 6) (s : State) : exec (.cbst d) s = Sys2Proof.Machine.execCbst d s := rfl
@[simp] theorem exec_vcbq (d : BitVec 7) (a : BitVec 7) (e : BitVec 3) (f : BitVec 3) (s : State) : exec (.vcbq d a e f) s = Sys2Proof.Machine.execVcbq d a e f s := rfl
@[simp] theorem exec_vshf (b : Src) (d : BitVec 7) (a : BitVec 7) (s : State) : exec (.vshf b d a) s = Sys2Proof.Machine.execVshf b d a s := rfl
@[simp] theorem exec_vrot (b : Src) (d : BitVec 7) (a : BitVec 7) (s : State) : exec (.vrot b d a) s = Sys2Proof.Machine.execVrot b d a s := rfl
@[simp] theorem exec_vbcst (d : BitVec 7) (a : BitVec 7) (s : State) : exec (.vbcst d a) s = Sys2Proof.Machine.execVbcst d a s := rfl
@[simp] theorem exec_vrd (b : Src) (d : BitVec 7) (a : BitVec 7) (s : State) : exec (.vrd b d a) s = Sys2Proof.Machine.execVrd b d a s := rfl
@[simp] theorem exec_vred (d : BitVec 7) (a : BitVec 7) (o : BitVec 3) (s : State) : exec (.vred d a o) s = Sys2Proof.Machine.execVred d a o s := rfl
@[simp] theorem exec_vscan (d : BitVec 7) (a : BitVec 7) (o : BitVec 3) (s : State) : exec (.vscan d a o) s = Sys2Proof.Machine.execVscan d a o s := rfl
@[simp] theorem exec_vball (d : BitVec 7) (b : BitVec 3) (s : State) : exec (.vball d b) s = Sys2Proof.Machine.execVball d b s := rfl
@[simp] theorem exec_vmatch (d : BitVec 7) (a : BitVec 7) (s : State) : exec (.vmatch d a) s = Sys2Proof.Machine.execVmatch d a s := rfl
@[simp] theorem exec_vrnd (d : BitVec 7) (s : State) : exec (.vrnd d) s = Sys2Proof.Machine.execVrnd d s := rfl
@[simp] theorem exec_vseed (b : Src) (a : BitVec 7) (s : State) : exec (.vseed b a) s = Sys2Proof.Machine.execVseed b a s := rfl
@[simp] theorem exec_ldb (d : BitVec 7) (m : Mem) (s : State) : exec (.ldb d m) s = Sys2Proof.Machine.execLdb d m s := rfl
@[simp] theorem exec_ldh (d : BitVec 7) (m : Mem) (s : State) : exec (.ldh d m) s = Sys2Proof.Machine.execLdh d m s := rfl
@[simp] theorem exec_ldw (d : BitVec 7) (m : Mem) (s : State) : exec (.ldw d m) s = Sys2Proof.Machine.execLdw d m s := rfl
@[simp] theorem exec_ldd (d : BitVec 7) (m : Mem) (s : State) : exec (.ldd d m) s = Sys2Proof.Machine.execLdd d m s := rfl
@[simp] theorem exec_ldq (d : BitVec 7) (m : Mem) (s : State) : exec (.ldq d m) s = Sys2Proof.Machine.execLdq d m s := rfl
@[simp] theorem exec_stb (d : BitVec 7) (m : Mem) (s : State) : exec (.stb d m) s = Sys2Proof.Machine.execStb d m s := rfl
@[simp] theorem exec_sth (d : BitVec 7) (m : Mem) (s : State) : exec (.sth d m) s = Sys2Proof.Machine.execSth d m s := rfl
@[simp] theorem exec_stw (d : BitVec 7) (m : Mem) (s : State) : exec (.stw d m) s = Sys2Proof.Machine.execStw d m s := rfl
@[simp] theorem exec_std (d : BitVec 7) (m : Mem) (s : State) : exec (.std d m) s = Sys2Proof.Machine.execStd d m s := rfl
@[simp] theorem exec_stq (d : BitVec 7) (m : Mem) (s : State) : exec (.stq d m) s = Sys2Proof.Machine.execStq d m s := rfl
@[simp] theorem exec_ldf (d : BitVec 7) (m : Mem) (s : State) : exec (.ldf d m) s = Sys2Proof.Machine.execLdf d m s := rfl
@[simp] theorem exec_stf (d : BitVec 7) (m : Mem) (s : State) : exec (.stf d m) s = Sys2Proof.Machine.execStf d m s := rfl
@[simp] theorem exec_ldsw (d : BitVec 7) (m : Mem) (s : State) : exec (.ldsw d m) s = Sys2Proof.Machine.execLdsw d m s := rfl
@[simp] theorem exec_ldsd (d : BitVec 7) (m : Mem) (s : State) : exec (.ldsd d m) s = Sys2Proof.Machine.execLdsd d m s := rfl
@[simp] theorem exec_ldsq (d : BitVec 7) (m : Mem) (s : State) : exec (.ldsq d m) s = Sys2Proof.Machine.execLdsq d m s := rfl
@[simp] theorem exec_stsw (d : BitVec 7) (m : Mem) (s : State) : exec (.stsw d m) s = Sys2Proof.Machine.execStsw d m s := rfl
@[simp] theorem exec_stsd (d : BitVec 7) (m : Mem) (s : State) : exec (.stsd d m) s = Sys2Proof.Machine.execStsd d m s := rfl
@[simp] theorem exec_stsq (d : BitVec 7) (m : Mem) (s : State) : exec (.stsq d m) s = Sys2Proof.Machine.execStsq d m s := rfl
@[simp] theorem exec_lda (d : BitVec 7) (m : Mem) (s : State) : exec (.lda d m) s = Sys2Proof.Machine.execLda d m s := rfl
@[simp] theorem exec_stl (d : BitVec 7) (m : Mem) (s : State) : exec (.stl d m) s = Sys2Proof.Machine.execStl d m s := rfl
@[simp] theorem exec_ldsc (d : BitVec 7) (m : Mem) (s : State) : exec (.ldsc d m) s = Sys2Proof.Machine.execLdsc d m s := rfl
@[simp] theorem exec_stsc (d : BitVec 7) (m : Mem) (s : State) : exec (.stsc d m) s = Sys2Proof.Machine.execStsc d m s := rfl
@[simp] theorem exec_ldnx (d : BitVec 7) (m : Mem) (s : State) : exec (.ldnx d m) s = Sys2Proof.Machine.execLdnx d m s := rfl
@[simp] theorem exec_stnx (d : BitVec 7) (m : Mem) (s : State) : exec (.stnx d m) s = Sys2Proof.Machine.execStnx d m s := rfl
@[simp] theorem exec_pref (h : BitVec 2) (m : Mem) (s : State) : exec (.pref h m) s = Sys2Proof.Machine.execPref h m s := rfl
@[simp] theorem exec_fence (k : BitVec 2) (sr : BitVec 3) (s : State) : exec (.fence k sr) s = Sys2Proof.Machine.execFence k sr s := rfl
@[simp] theorem exec_flush (m : Mem) (s : State) : exec (.flush m) s = Sys2Proof.Machine.execFlush m s := rfl
@[simp] theorem exec_inv (m : Mem) (s : State) : exec (.inv m) s = Sys2Proof.Machine.execInv m s := rfl
@[simp] theorem exec_xlat (d : BitVec 7) (m : Mem) (s : State) : exec (.xlat d m) s = Sys2Proof.Machine.execXlat d m s := rfl
@[simp] theorem exec_tlbiPage (sr : BitVec 6) (s : State) : exec (.tlbiPage sr) s = Sys2Proof.Machine.execTlbiPage sr s := rfl
@[simp] theorem exec_tlbiFen (sr : BitVec 6) (s : State) : exec (.tlbiFen sr) s = Sys2Proof.Machine.execTlbiFen sr s := rfl
@[simp] theorem exec_tlbiAll (sr : BitVec 6) (s : State) : exec (.tlbiAll sr) s = Sys2Proof.Machine.execTlbiAll sr s := rfl
@[simp] theorem exec_aadd (b : Src) (d : BitVec 7) (a : BitVec 7) (s : State) : exec (.aadd b d a) s = Sys2Proof.Machine.execAadd b d a s := rfl
@[simp] theorem exec_aand (b : Src) (d : BitVec 7) (a : BitVec 7) (s : State) : exec (.aand b d a) s = Sys2Proof.Machine.execAand b d a s := rfl
@[simp] theorem exec_aor (b : Src) (d : BitVec 7) (a : BitVec 7) (s : State) : exec (.aor b d a) s = Sys2Proof.Machine.execAor b d a s := rfl
@[simp] theorem exec_axor (b : Src) (d : BitVec 7) (a : BitVec 7) (s : State) : exec (.axor b d a) s = Sys2Proof.Machine.execAxor b d a s := rfl
@[simp] theorem exec_amin (b : Src) (d : BitVec 7) (a : BitVec 7) (s : State) : exec (.amin b d a) s = Sys2Proof.Machine.execAmin b d a s := rfl
@[simp] theorem exec_amax (b : Src) (d : BitVec 7) (a : BitVec 7) (s : State) : exec (.amax b d a) s = Sys2Proof.Machine.execAmax b d a s := rfl
@[simp] theorem exec_axchg (b : Src) (d : BitVec 7) (a : BitVec 7) (s : State) : exec (.axchg b d a) s = Sys2Proof.Machine.execAxchg b d a s := rfl
@[simp] theorem exec_ainc (b : Src) (d : BitVec 7) (a : BitVec 7) (s : State) : exec (.ainc b d a) s = Sys2Proof.Machine.execAinc b d a s := rfl
@[simp] theorem exec_afadd (b : Src) (d : BitVec 7) (a : BitVec 7) (s : State) : exec (.afadd b d a) s = Sys2Proof.Machine.execAfadd b d a s := rfl
@[simp] theorem exec_acas (b : Src) (d : BitVec 7) (a : BitVec 7) (s : State) : exec (.acas b d a) s = Sys2Proof.Machine.execAcas b d a s := rfl
@[simp] theorem exec_park (b : Src) (c : Cc) (p : BitVec 3) (a : BitVec 7) (s : State) : exec (.park b c p a) s = Sys2Proof.Machine.execPark b c p a s := rfl
@[simp] theorem exec_parkt (b : BitVec 6) (s : State) : exec (.parkt b) s = Sys2Proof.Machine.execParkt b s := rfl
@[simp] theorem exec_txb (s : State) : exec (.txb) s = Sys2Proof.Machine.execTxb s := rfl
@[simp] theorem exec_txe (p : BitVec 3) (c : BitVec 7) (s : State) : exec (.txe p c) s = Sys2Proof.Machine.execTxe p c s := rfl
@[simp] theorem exec_txa (i : BitVec 8) (s : State) : exec (.txa i) s = Sys2Proof.Machine.execTxa i s := rfl
@[simp] theorem exec_txr (d : BitVec 7) (s : State) : exec (.txr d) s = Sys2Proof.Machine.execTxr d s := rfl
@[simp] theorem exec_txq (d : BitVec 7) (s : State) : exec (.txq d) s = Sys2Proof.Machine.execTxq d s := rfl
@[simp] theorem exec_mcfg (i : BitVec 21) (s : State) : exec (.mcfg i) s = Sys2Proof.Machine.execMcfg i s := rfl
@[simp] theorem exec_mgang (b : BitVec 6) (s : State) : exec (.mgang b) s = Sys2Proof.Machine.execMgang b s := rfl
@[simp] theorem exec_mma (r : BitVec 1) (c : BitVec 6) (a : BitVec 7) (sr : BitVec 6) (z : BitVec 1) (s : State) : exec (.mma r c a sr z) s = Sys2Proof.Machine.execMma r c a sr z s := rfl
@[simp] theorem exec_mmas (r : BitVec 1) (c : BitVec 6) (a : BitVec 7) (sr : BitVec 6) (t : BitVec 1) (z : BitVec 1) (s : State) : exec (.mmas r c a sr t z) s = Sys2Proof.Machine.execMmas r c a sr t z s := rfl
@[simp] theorem exec_mmaw (r : BitVec 1) (c : BitVec 6) (a : BitVec 7) (sr : BitVec 6) (z : BitVec 1) (s : State) : exec (.mmaw r c a sr z) s = Sys2Proof.Machine.execMmaw r c a sr z s := rfl
@[simp] theorem exec_mcomp (d : BitVec 7) (a : BitVec 7) (n : BitVec 3) (t : BitVec 1) (s : State) : exec (.mcomp d a n t) s = Sys2Proof.Machine.execMcomp d a n t s := rfl
@[simp] theorem exec_ldga (d : BitVec 7) (m : Mem) (s : State) : exec (.ldga d m) s = Sys2Proof.Machine.execLdga d m s := rfl
@[simp] theorem exec_accld (c : BitVec 6) (a : BitVec 7) (p : BitVec 2) (s : State) : exec (.accld c a p) s = Sys2Proof.Machine.execAccld c a p s := rfl
@[simp] theorem exec_accz (c : BitVec 6) (s : State) : exec (.accz c) s = Sys2Proof.Machine.execAccz c s := rfl
@[simp] theorem exec_mstat (d : BitVec 6) (sr : BitVec 9) (s : State) : exec (.mstat d sr) s = Sys2Proof.Machine.execMstat d sr s := rfl
@[simp] theorem exec_cpt (t : BitVec 6) (l : BitVec 6) (c : BitVec 6) (b : BitVec 4) (r : BitVec 1) (s : State) : exec (.cpt t l c b r) s = Sys2Proof.Machine.execCpt t l c b r s := rfl
@[simp] theorem exec_cpx (t : BitVec 6) (l : BitVec 6) (c : BitVec 6) (m : BitVec 5) (s : State) : exec (.cpx t l c m) s = Sys2Proof.Machine.execCpx t l c m s := rfl
@[simp] theorem exec_cpl (b : Src) (d : BitVec 7) (a : BitVec 7) (s : State) : exec (.cpl b d a) s = Sys2Proof.Machine.execCpl b d a s := rfl
@[simp] theorem exec_cpg (d : BitVec 6) (sr : BitVec 7) (s : State) : exec (.cpg d sr) s = Sys2Proof.Machine.execCpg d sr s := rfl
@[simp] theorem exec_cpf (s : State) : exec (.cpf) s = Sys2Proof.Machine.execCpf s := rfl
@[simp] theorem exec_qcfg (n : BitVec 3) (b : BitVec 6) (s : State) : exec (.qcfg n b) s = Sys2Proof.Machine.execQcfg n b s := rfl
@[simp] theorem exec_qpushRes (d : BitVec 6) (n : BitVec 3) (s : State) : exec (.qpushRes d n) s = Sys2Proof.Machine.execQpushRes d n s := rfl
@[simp] theorem exec_qpushPub (n : BitVec 3) (s : State) : exec (.qpushPub n) s = Sys2Proof.Machine.execQpushPub n s := rfl
@[simp] theorem exec_qfree (n : BitVec 3) (s : State) : exec (.qfree n) s = Sys2Proof.Machine.execQfree n s := rfl
@[simp] theorem exec_qpop (d : BitVec 6) (n : BitVec 3) (s : State) : exec (.qpop d n) s = Sys2Proof.Machine.execQpop d n s := rfl
@[simp] theorem exec_binit (b : Src) (n : BitVec 4) (s : State) : exec (.binit b n) s = Sys2Proof.Machine.execBinit b n s := rfl
@[simp] theorem exec_barv (d : BitVec 6) (n : BitVec 4) (s : State) : exec (.barv d n) s = Sys2Proof.Machine.execBarv d n s := rfl
@[simp] theorem exec_bexp (b : Src) (n : BitVec 4) (s : State) : exec (.bexp b n) s = Sys2Proof.Machine.execBexp b n s := rfl
@[simp] theorem exec_bwait (b : Src) (n : BitVec 4) (s : State) : exec (.bwait b n) s = Sys2Proof.Machine.execBwait b n s := rfl
@[simp] theorem exec_btest (b : Src) (p : BitVec 3) (n : BitVec 4) (s : State) : exec (.btest b p n) s = Sys2Proof.Machine.execBtest b p n s := rfl
@[simp] theorem exec_iodb (b : Src) (a : BitVec 6) (s : State) : exec (.iodb b a) s = Sys2Proof.Machine.execIodb b a s := rfl
@[simp] theorem exec_iodbCq (b : Src) (a : BitVec 6) (s : State) : exec (.iodbCq b a) s = Sys2Proof.Machine.execIodbCq b a s := rfl
@[simp] theorem exec_iobind (a : BitVec 6) (n : BitVec 4) (s : State) : exec (.iobind a n) s = Sys2Proof.Machine.execIobind a n s := rfl
@[simp] theorem exec_iounb (a : BitVec 6) (s : State) : exec (.iounb a) s = Sys2Proof.Machine.execIounb a s := rfl
@[simp] theorem exec_prqpop (d : BitVec 6) (s : State) : exec (.prqpop d) s = Sys2Proof.Machine.execPrqpop d s := rfl
@[simp] theorem exec_prqack (a : BitVec 6) (c : BitVec 2) (s : State) : exec (.prqack a c) s = Sys2Proof.Machine.execPrqack a c s := rfl
@[simp] theorem exec_cfgrd (d : BitVec 6) (a : BitVec 6) (s : State) : exec (.cfgrd d a) s = Sys2Proof.Machine.execCfgrd d a s := rfl
@[simp] theorem exec_cfgwr (d : BitVec 6) (a : BitVec 6) (b : BitVec 6) (s : State) : exec (.cfgwr d a b) s = Sys2Proof.Machine.execCfgwr d a b s := rfl
@[simp] theorem exec_ntbmap (a : BitVec 6) (s : State) : exec (.ntbmap a) s = Sys2Proof.Machine.execNtbmap a s := rfl
@[simp] theorem exec_enq (b : Src) (p : BitVec 3) (a : BitVec 7) (s : State) : exec (.enq b p a) s = Sys2Proof.Machine.execEnq b p a s := rfl
@[simp] theorem exec_rsub (d : BitVec 7) (a : BitVec 7) (b : BitVec 6) (s : State) : exec (.rsub d a b) s = Sys2Proof.Machine.execRsub d a b s := rfl
@[simp] theorem exec_launch (d : BitVec 6) (a : BitVec 6) (n : BitVec 7) (s : State) : exec (.launch d a n) s = Sys2Proof.Machine.execLaunch d a n s := rfl
@[simp] theorem exec_preempt (d : BitVec 6) (a : BitVec 6) (s : State) : exec (.preempt d a) s = Sys2Proof.Machine.execPreempt d a s := rfl
@[simp] theorem exec_resumeRestart (d : BitVec 6) (a : BitVec 6) (s : State) : exec (.resumeRestart d a) s = Sys2Proof.Machine.execResumeRestart d a s := rfl
@[simp] theorem exec_resumeSkip (d : BitVec 6) (a : BitVec 6) (s : State) : exec (.resumeSkip d a) s = Sys2Proof.Machine.execResumeSkip d a s := rfl
@[simp] theorem exec_resumeSkipArgs (d : BitVec 6) (a : BitVec 6) (s : State) : exec (.resumeSkipArgs d a) s = Sys2Proof.Machine.execResumeSkipArgs d a s := rfl
@[simp] theorem exec_resumeEnd (d : BitVec 6) (a : BitVec 6) (s : State) : exec (.resumeEnd d a) s = Sys2Proof.Machine.execResumeEnd d a s := rfl
@[simp] theorem exec_lend (d : BitVec 6) (a : BitVec 6) (s : State) : exec (.lend d a) s = Sys2Proof.Machine.execLend d a s := rfl
@[simp] theorem exec_reclaim (d : BitVec 6) (a : BitVec 6) (s : State) : exec (.reclaim d a) s = Sys2Proof.Machine.execReclaim d a s := rfl
@[simp] theorem exec_gcallImm (p : BitVec 3) (n : BitVec 7) (s : State) : exec (.gcallImm p n) s = Sys2Proof.Machine.execGcallImm p n s := rfl
@[simp] theorem exec_gcallReg (p : BitVec 3) (b : BitVec 6) (s : State) : exec (.gcallReg p b) s = Sys2Proof.Machine.execGcallReg p b s := rfl
@[simp] theorem exec_gret (s : State) : exec (.gret) s = Sys2Proof.Machine.execGret s := rfl
@[simp] theorem exec_kslot (d : BitVec 6) (a : BitVec 6) (s : State) : exec (.kslot d a) s = Sys2Proof.Machine.execKslot d a s := rfl
@[simp] theorem exec_kzero (d : BitVec 6) (a : BitVec 6) (s : State) : exec (.kzero d a) s = Sys2Proof.Machine.execKzero d a s := rfl
@[simp] theorem exec_scrub (d : BitVec 6) (a : BitVec 6) (s : State) : exec (.scrub d a) s = Sys2Proof.Machine.execScrub d a s := rfl
@[simp] theorem exec_wlatch (d : BitVec 6) (a : BitVec 6) (s : State) : exec (.wlatch d a) s = Sys2Proof.Machine.execWlatch d a s := rfl
@[simp] theorem exec_fset (d : BitVec 6) (a : BitVec 6) (s : State) : exec (.fset d a) s = Sys2Proof.Machine.execFset d a s := rfl
@[simp] theorem exec_attestEvidence (d : BitVec 6) (a : BitVec 6) (s : State) : exec (.attestEvidence d a) s = Sys2Proof.Machine.execAttestEvidence d a s := rfl
@[simp] theorem exec_attestEphemeral (d : BitVec 6) (a : BitVec 6) (s : State) : exec (.attestEphemeral d a) s = Sys2Proof.Machine.execAttestEphemeral d a s := rfl
@[simp] theorem exec_attestRelease (d : BitVec 6) (a : BitVec 6) (s : State) : exec (.attestRelease d a) s = Sys2Proof.Machine.execAttestRelease d a s := rfl
@[simp] theorem exec_meas (d : BitVec 6) (a : BitVec 6) (s : State) : exec (.meas d a) s = Sys2Proof.Machine.execMeas d a s := rfl
@[simp] theorem exec_migrSet (d : BitVec 6) (a : BitVec 6) (s : State) : exec (.migrSet d a) s = Sys2Proof.Machine.execMigrSet d a s := rfl
@[simp] theorem exec_migrSave (d : BitVec 6) (a : BitVec 6) (s : State) : exec (.migrSave d a) s = Sys2Proof.Machine.execMigrSave d a s := rfl
@[simp] theorem exec_migrLoad (d : BitVec 6) (a : BitVec 6) (s : State) : exec (.migrLoad d a) s = Sys2Proof.Machine.execMigrLoad d a s := rfl
@[simp] theorem exec_storeQueueDrain (team : Nat) (group : Nat) (s : State) : exec (.storeQueueDrain team group) s = Sys2Proof.Machine.execStoreQueueDrain team group s := rfl
@[simp] theorem exec_loadDataArrive (team : Nat) (group : Nat) (op : Nat) (sel : Nat) (s : State) : exec (.loadDataArrive team group op sel) s = Sys2Proof.Machine.execLoadDataArrive team group op sel s := rfl
@[simp] theorem exec_rendezvousClose (team : Nat) (idx : Nat) (s : State) : exec (.rendezvousClose team idx) s = Sys2Proof.Machine.execRendezvousClose team idx s := rfl
@[simp] theorem exec_contextSaveComplete (team : Nat) (s : State) : exec (.contextSaveComplete team) s = Sys2Proof.Machine.execContextSaveComplete team s := rfl
@[simp] theorem exec_teamRetire (team : Nat) (s : State) : exec (.teamRetire team) s = Sys2Proof.Machine.execTeamRetire team s := rfl
@[simp] theorem exec_storeApply (core : Nat) (idx : Nat) (s : State) : exec (.storeApply core idx) s = Sys2Proof.Machine.execStoreApply core idx s := rfl
@[simp] theorem exec_atomicApply (core : Nat) (idx : Nat) (s : State) : exec (.atomicApply core idx) s = Sys2Proof.Machine.execAtomicApply core idx s := rfl
@[simp] theorem exec_acczApply (core : Nat) (op : Nat) (s : State) : exec (.acczApply core op) s = Sys2Proof.Machine.execAcczApply core op s := rfl
@[simp] theorem exec_wavefrontComplete (core : Nat) (op : Nat) (s : State) : exec (.wavefrontComplete core op) s = Sys2Proof.Machine.execWavefrontComplete core op s := rfl
@[simp] theorem exec_copyComplete (op : Nat) (s : State) : exec (.copyComplete op) s = Sys2Proof.Machine.execCopyComplete op s := rfl
@[simp] theorem exec_cplComplete (op : Nat) (s : State) : exec (.cplComplete op) s = Sys2Proof.Machine.execCplComplete op s := rfl
@[simp] theorem exec_enqRecordCopy (idx : Nat) (s : State) : exec (.enqRecordCopy idx) s = Sys2Proof.Machine.execEnqRecordCopy idx s := rfl
@[simp] theorem exec_txCommit (idx : Nat) (held : Nat) (s : State) : exec (.txCommit idx held) s = Sys2Proof.Machine.execTxCommit idx held s := rfl
@[simp] theorem exec_iodbMark (idx : Nat) (s : State) : exec (.iodbMark idx) s = Sys2Proof.Machine.execIodbMark idx s := rfl
@[simp] theorem exec_doorbellWrite (idx : Nat) (s : State) : exec (.doorbellWrite idx) s = Sys2Proof.Machine.execDoorbellWrite idx s := rfl
@[simp] theorem exec_expanderWriteComplete (idx : Nat) (s : State) : exec (.expanderWriteComplete idx) s = Sys2Proof.Machine.execExpanderWriteComplete idx s := rfl
@[simp] theorem exec_scReservationGrant (line : Nat) (s : State) : exec (.scReservationGrant line) s = Sys2Proof.Machine.execScReservationGrant line s := rfl
@[simp] theorem exec_teamPlace (pid : Nat) (s : State) : exec (.teamPlace pid) s = Sys2Proof.Machine.execTeamPlace pid s := rfl
@[simp] theorem exec_scrubUnit (die : Nat) (s : State) : exec (.scrubUnit die) s = Sys2Proof.Machine.execScrubUnit die s := rfl
@[simp] theorem exec_pageWalkComplete (core : Nat) (fen : Nat) (va : Nat) (s : State) : exec (.pageWalkComplete core fen va) s = Sys2Proof.Machine.execPageWalkComplete core fen va s := rfl
@[simp] theorem exec_parkTimeout (idx : Nat) (s : State) : exec (.parkTimeout idx) s = Sys2Proof.Machine.execParkTimeout idx s := rfl
@[simp] theorem exec_scStampRollover (s : State) : exec (.scStampRollover) s = Sys2Proof.Machine.execScStampRollover s := rfl
@[simp] theorem exec_reorderFlushTimeout (pid : Nat) (idx : Nat) (s : State) : exec (.reorderFlushTimeout pid idx) s = Sys2Proof.Machine.execReorderFlushTimeout pid idx s := rfl
@[simp] theorem exec_parkThresholdSwap (team : Nat) (s : State) : exec (.parkThresholdSwap team) s = Sys2Proof.Machine.execParkThresholdSwap team s := rfl
@[simp] theorem exec_timeSliceExpiry (pid : Nat) (s : State) : exec (.timeSliceExpiry pid) s = Sys2Proof.Machine.execTimeSliceExpiry pid s := rfl
@[simp] theorem exec_portTrain (port : Nat) (value : Nat) (s : State) : exec (.portTrain port value) s = Sys2Proof.Machine.execPortTrain port value s := rfl
@[simp] theorem exec_groupBifurcate (grp : Nat) (value : Nat) (s : State) : exec (.groupBifurcate grp value) s = Sys2Proof.Machine.execGroupBifurcate grp value s := rfl
@[simp] theorem exec_linkPartnerDetect (port : Nat) (rate : Nat) (width : Nat) (flit : Nat) (s : State) : exec (.linkPartnerDetect port rate width flit) s = Sys2Proof.Machine.execLinkPartnerDetect port rate width flit s := rfl
@[simp] theorem exec_laneFailure (port : Nat) (width : Nat) (s : State) : exec (.laneFailure port width) s = Sys2Proof.Machine.execLaneFailure port width s := rfl
@[simp] theorem exec_deviceRemoval (port : Nat) (s : State) : exec (.deviceRemoval port) s = Sys2Proof.Machine.execDeviceRemoval port s := rfl
@[simp] theorem exec_deviceMemoryRequest (port : Nat) (rid : Nat) (pasid : Nat) (addr : Nat) (len : Nat) (data : Nat) (flags : Nat) (s : State) : exec (.deviceMemoryRequest port rid pasid addr len data flags) s = Sys2Proof.Machine.execDeviceMemoryRequest port rid pasid addr len data flags s := rfl
@[simp] theorem exec_atsTranslationRequest (port : Nat) (rid : Nat) (pasid : Nat) (addr : Nat) (s : State) : exec (.atsTranslationRequest port rid pasid addr) s = Sys2Proof.Machine.execAtsTranslationRequest port rid pasid addr s := rfl
@[simp] theorem exec_atsInvalidateCompletion (fen : Nat) (s : State) : exec (.atsInvalidateCompletion fen) s = Sys2Proof.Machine.execAtsInvalidateCompletion fen s := rfl
@[simp] theorem exec_pageRequestMessage (port : Nat) (rid : Nat) (pasid : Nat) (addr : Nat) (acc : Nat) (prgi : Nat) (last : Nat) (s : State) : exec (.pageRequestMessage port rid pasid addr acc prgi last) s = Sys2Proof.Machine.execPageRequestMessage port rid pasid addr acc prgi last s := rfl
@[simp] theorem exec_msixMessage (port : Nat) (data : Nat) (addr : Nat) (s : State) : exec (.msixMessage port data addr) s = Sys2Proof.Machine.execMsixMessage port data addr s := rfl
@[simp] theorem exec_legacyInterruptMessage (port : Nat) (s : State) : exec (.legacyInterruptMessage port) s = Sys2Proof.Machine.execLegacyInterruptMessage port s := rfl
@[simp] theorem exec_ntbIncomingRequest (port : Nat) (addr : Nat) (len : Nat) (data : Nat) (flags : Nat) (s : State) : exec (.ntbIncomingRequest port addr len data flags) s = Sys2Proof.Machine.execNtbIncomingRequest port addr len data flags s := rfl
@[simp] theorem exec_cfgCompletion (idx : Nat) (status : Nat) (data : Nat) (s : State) : exec (.cfgCompletion idx status data) s = Sys2Proof.Machine.execCfgCompletion idx status data s := rfl
@[simp] theorem exec_cfgCompletionTimeout (idx : Nat) (s : State) : exec (.cfgCompletionTimeout idx) s = Sys2Proof.Machine.execCfgCompletionTimeout idx s := rfl
@[simp] theorem exec_qhLoad (handle : Nat) (s : State) : exec (.qhLoad handle) s = Sys2Proof.Machine.execQhLoad handle s := rfl
@[simp] theorem exec_qhRetire (handle : Nat) (s : State) : exec (.qhRetire handle) s = Sys2Proof.Machine.execQhRetire handle s := rfl
@[simp] theorem exec_remapWrite (entry : Nat) (word : Nat) (value : Nat) (s : State) : exec (.remapWrite entry word value) s = Sys2Proof.Machine.execRemapWrite entry word value s := rfl
@[simp] theorem exec_hostDoorbellWrite (fn : Nat) (s : State) : exec (.hostDoorbellWrite fn) s = Sys2Proof.Machine.execHostDoorbellWrite fn s := rfl
@[simp] theorem exec_featOk (lo : Nat) (hi : Nat) (s : State) : exec (.featOk lo hi) s = Sys2Proof.Machine.execFeatOk lo hi s := rfl
@[simp] theorem exec_functionLevelReset (fn : Nat) (s : State) : exec (.functionLevelReset fn) s = Sys2Proof.Machine.execFunctionLevelReset fn s := rfl
@[simp] theorem exec_dstQueueWrite (pid : Nat) (queue : Nat) (word : Nat) (value : Nat) (s : State) : exec (.dstQueueWrite pid queue word value) s = Sys2Proof.Machine.execDstQueueWrite pid queue word value s := rfl
@[simp] theorem exec_dstJbaseWrite (pid : Nat) (value : Nat) (s : State) : exec (.dstJbaseWrite pid value) s = Sys2Proof.Machine.execDstJbaseWrite pid value s := rfl
@[simp] theorem exec_dstFqbaseWrite (pid : Nat) (value : Nat) (s : State) : exec (.dstFqbaseWrite pid value) s = Sys2Proof.Machine.execDstFqbaseWrite pid value s := rfl
@[simp] theorem exec_dstFqrdWrite (pid : Nat) (value : Nat) (s : State) : exec (.dstFqrdWrite pid value) s = Sys2Proof.Machine.execDstFqrdWrite pid value s := rfl
@[simp] theorem exec_dstHoldClear (pid : Nat) (word : Nat) (value : Nat) (s : State) : exec (.dstHoldClear pid word value) s = Sys2Proof.Machine.execDstHoldClear pid word value s := rfl
@[simp] theorem exec_partitionMake (first : Nat) (size : Nat) (s : State) : exec (.partitionMake first size) s = Sys2Proof.Machine.execPartitionMake first size s := rfl
@[simp] theorem exec_partitionUnmake (first : Nat) (size : Nat) (s : State) : exec (.partitionUnmake first size) s = Sys2Proof.Machine.execPartitionUnmake first size s := rfl
@[simp] theorem exec_gateTableInvalidate (s : State) : exec (.gateTableInvalidate) s = Sys2Proof.Machine.execGateTableInvalidate s := rfl
@[simp] theorem exec_copyEngineAssign (engine : Nat) (value : Nat) (s : State) : exec (.copyEngineAssign engine value) s = Sys2Proof.Machine.execCopyEngineAssign engine value s := rfl
@[simp] theorem exec_copyEngineAssignEffect (engine : Nat) (s : State) : exec (.copyEngineAssignEffect engine) s = Sys2Proof.Machine.execCopyEngineAssignEffect engine s := rfl
@[simp] theorem exec_scrubResume (die : Nat) (s : State) : exec (.scrubResume die) s = Sys2Proof.Machine.execScrubResume die s := rfl
@[simp] theorem exec_fenMeasurementSave (fen : Nat) (s : State) : exec (.fenMeasurementSave fen) s = Sys2Proof.Machine.execFenMeasurementSave fen s := rfl
@[simp] theorem exec_systemCoreRestart (die : Nat) (s : State) : exec (.systemCoreRestart die) s = Sys2Proof.Machine.execSystemCoreRestart die s := rfl
@[simp] theorem exec_spareSubstitute (die : Nat) (core : Nat) (s : State) : exec (.spareSubstitute die core) s = Sys2Proof.Machine.execSpareSubstitute die core s := rfl
@[simp] theorem exec_coreRetire (die : Nat) (core : Nat) (s : State) : exec (.coreRetire die core) s = Sys2Proof.Machine.execCoreRetire die core s := rfl
@[simp] theorem exec_channelRetire (die : Nat) (slice : Nat) (ch : Nat) (s : State) : exec (.channelRetire die slice ch) s = Sys2Proof.Machine.execChannelRetire die slice ch s := rfl
@[simp] theorem exec_firmwareHandover (s : State) : exec (.firmwareHandover) s = Sys2Proof.Machine.execFirmwareHandover s := rfl
@[simp] theorem exec_powerModeWrite (value : Nat) (s : State) : exec (.powerModeWrite value) s = Sys2Proof.Machine.execPowerModeWrite value s := rfl
@[simp] theorem exec_powerModeEffect (s : State) : exec (.powerModeEffect) s = Sys2Proof.Machine.execPowerModeEffect s := rfl
@[simp] theorem exec_partitionGate (pid : Nat) (s : State) : exec (.partitionGate pid) s = Sys2Proof.Machine.execPartitionGate pid s := rfl
@[simp] theorem exec_partitionUngate (pid : Nat) (s : State) : exec (.partitionUngate pid) s = Sys2Proof.Machine.execPartitionUngate pid s := rfl
@[simp] theorem exec_mclogPop (die : Nat) (s : State) : exec (.mclogPop die) s = Sys2Proof.Machine.execMclogPop die s := rfl
@[simp] theorem exec_splitEffect (core : Nat) (s : State) : exec (.splitEffect core) s = Sys2Proof.Machine.execSplitEffect core s := rfl
@[simp] theorem exec_timecmpEvent (die : Nat) (s : State) : exec (.timecmpEvent die) s = Sys2Proof.Machine.execTimecmpEvent die s := rfl
@[simp] theorem exec_powerCapEngage (s : State) : exec (.powerCapEngage) s = Sys2Proof.Machine.execPowerCapEngage s := rfl
@[simp] theorem exec_powerCapRelease (s : State) : exec (.powerCapRelease) s = Sys2Proof.Machine.execPowerCapRelease s := rfl
@[simp] theorem exec_thermalCap (die : Nat) (s : State) : exec (.thermalCap die) s = Sys2Proof.Machine.execThermalCap die s := rfl
@[simp] theorem exec_thermalTrip (die : Nat) (s : State) : exec (.thermalTrip die) s = Sys2Proof.Machine.execThermalTrip die s := rfl
@[simp] theorem exec_thermalRecovery (s : State) : exec (.thermalRecovery) s = Sys2Proof.Machine.execThermalRecovery s := rfl
@[simp] theorem exec_thermalShutdown (die : Nat) (s : State) : exec (.thermalShutdown die) s = Sys2Proof.Machine.execThermalShutdown die s := rfl
@[simp] theorem exec_coreUncorrectableError (core : Nat) (intact : Nat) (s : State) : exec (.coreUncorrectableError core intact) s = Sys2Proof.Machine.execCoreUncorrectableError core intact s := rfl
@[simp] theorem exec_linkDataLoss (link : Nat) (intact : List Nat) (lost : List Nat) (s : State) : exec (.linkDataLoss link intact lost) s = Sys2Proof.Machine.execLinkDataLoss link intact lost s := rfl
@[simp] theorem exec_coldReset (s : State) : exec (.coldReset) s = Sys2Proof.Machine.execColdReset s := rfl
@[simp] theorem exec_warmReset (s : State) : exec (.warmReset) s = Sys2Proof.Machine.execWarmReset s := rfl
@[simp] theorem exec_registerWrite (pa : Nat) (value : Nat) (s : State) : exec (.registerWrite pa value) s = Sys2Proof.Machine.execRegisterWrite pa value s := rfl
@[simp] theorem exec_deviceReadCompletionTimeout (team : Nat) (group : Nat) (op : Nat) (s : State) : exec (.deviceReadCompletionTimeout team group op) s = Sys2Proof.Machine.execDeviceReadCompletionTimeout team group op s := rfl

end Sys2Proof.Machine
end

