-- ==== Sys2Proof/Laws/Issue.lean ====
section
/-!
SUPPORT. What `issue` answers when a word may issue: everything else about a word is its own effect.
-/
namespace Sys2Proof.Machine

/-- Aborting no lane changes nothing. -/
theorem Group.abortLanes_none (g : Group) (m : W32) (cause detail : Nat) (h : m &&& g.txOpen = 0) :
    g.abortLanes m cause detail = g := by
  have : lanesOf 0#32 = [] := by decide
  simp [Group.abortLanes, h, this]

/-- A context whose word aborts no lane is its own after R201. -/
theorem Ctx.txAbort_self (c : Ctx) (w : Word) (h : txAborts w.op = true → c.active &&& c.grp.txOpen = 0) :
    c.txAbort w = c := by
  unfold Ctx.txAbort
  split_ifs with h1
  · rw [Group.abortLanes_none _ _ _ _ (h h1)]
  · rfl

/-- The issuer named by `cur` is found in the machine. -/
theorem State.ctx_some (s : State) (c : Ctx) (h : s.ctx = some c) :
    s.teams.find c.ti = some c.team ∧ c.team.groups.find c.gi = some c.grp ∧ c.grp.entries.find c.ei = some c.ent
      ∧ s.cur = (c.ti, c.gi, c.ei) := by
  unfold State.ctx at h
  rcases hc : s.cur with ⟨a, b, e⟩
  simp only [hc] at h
  split at h <;> try contradiction
  split at h <;> try contradiction
  split at h <;> try contradiction
  cases h
  exact ⟨by assumption, by assumption, by assumption, rfl⟩

theorem State.ctx_team (s : State) (c : Ctx) (h : s.ctx = some c) : s.team c.ti = c.team := by
  simp [State.team, SMap.get, (s.ctx_some c h).1]

theorem State.ctx_group (s : State) (c : Ctx) (h : s.ctx = some c) : s.group c.ti c.gi = c.grp := by
  simp [State.group, s.ctx_team c h, Team.group, SMap.get, (s.ctx_some c h).2.1]

/-- Writing back the issuing group changes nothing. -/
theorem State.setGroup_self (s : State) (c : Ctx) (h : s.ctx = some c) : s.setGroup c.ti c.gi c.grp = s := by
  have h1 := s.ctx_some c h
  have h2 : c.team.setGroup c.gi c.grp = c.team := by
    simp [Team.setGroup, SMap.ins_find _ _ _ h1.2.1]
  simp [State.setGroup, s.ctx_team c h, h2, State.setTeam, SMap.ins_find _ _ _ h1.1]

/-- A word that may issue does not find Active() empty (R56). -/
theorem Ctx.MayIssue.full {c : Ctx} {s : State} {op : Nat} {vs pairs ss : List Nat} (h : c.MayIssue s op vs pairs ss)
    (w : Word) (hw : w.op = op) : c.emptyFor w = false := by
  have := h.lane
  subst hw
  unfold Ctx.emptyFor
  cases hg : guardedOp w.op <;> simp_all

/-- Every check of R30 up to stage 4 passes for a word that may issue. -/
theorem Ctx.check_go (c : Ctx) (s : State) (w : Word) (vs pairs ss : List Nat)
    (hv : w.vs = vs) (hp : w.pairs c = pairs) (hs : w.ss = ss)
    (h : c.MayIssue s w.op vs pairs ss) (legal : w.legal = true) (pre : w.pre c s = .ok ())
    (lanes : w.lanesOk c s = .ok ()) (ready : w.ready c s = true) (engine : w.engineOk c s = .ok ()) : c.check w s = .go := by
  subst hv hp hs
  have h1 : c.stage1 w = .ok () := by
    have hm := h.mode
    have hb : w.vs.all (vOk c.budget) = true := by rw [List.all_eq_true]; exact h.budget
    unfold Ctx.stage1
    rw [h.body]
    simp [legal, hb]
    exact hm
  have h2 : (w.ss.any fun n => c.grp.tokens.contains n) = false := by
    rw [List.any_eq_false]; intro n hn; rw [h.ready n hn]; exact Bool.false_ne_true
  have hf := h.flag
  have h3 : c.flagOf w.op ≠ some none := by
    unfold Ctx.flagOf
    split_ifs with ha hb hc hd <;> simp_all [Ctx.flagFree]
  have h4 : c.stage2 w s = .ok () := by
    unfold Ctx.stage2
    rw [if_neg h3]
    rcases h.gate with hg | hg <;> simp [hg, pre]
  have h0 : c.emptyFor w = false := h.full w rfl
  have h5 : c.idles w = false := by simp [Ctx.idles, h0]
  have h6 : c.stage34 w s = .ok () := by
    have : ((w.pairs c).any fun n => n ≠ 127 ∧ n % 2 = 1) = false := by
      rw [List.any_eq_false]; intro n hn; rcases h.even n hn with h | h <;> simp [h]
    unfold Ctx.stage34
    rw [this, lanes]
    rcases h.gate with hg | ⟨-, g2, g3, g4, g5⟩
    · simp [hg, engine]
    · have : w.ss.any (within 8 61) = false := by rw [List.any_eq_false]; intro n hn; simp [g5 n hn]
      simp [this, g2, g3, g4, engine]
  have h7 : c.flagFull w = false := by
    unfold Ctx.flagFull Ctx.flagOf
    split_ifs with ha hb hc hd <;> simp_all [Ctx.flagFree]
  unfold Ctx.check
  rw [h.free, h7, h1]
  simp only [Bool.or_self, Bool.false_eq_true, if_false, h2, h4, h5, h6, ite_self, ready, if_true]

/-- Up to stage 1 only a word's own fields decide, for one that may issue (R30, R40, R48, R70). -/
theorem Ctx.check_own (c : Ctx) (s : State) (w : Word) (vs pairs ss : List Nat)
    (hv : w.vs = vs) (hs : w.ss = ss) (h : c.MayIssue s w.op vs pairs ss) :
    c.check w s = if w.legal = false then .fault { cause := 0x01 } else match w.pre c s with
      | .error f => .fault f
      | .ok () => match (if w.soft then .ok () else c.stage34 w s) with
        | .error f => .fault f
        | .ok () => if w.ready c s then .go else .stall := by
  subst hv hs
  have h1 : c.stage1 w = if w.legal = false then .error { cause := 0x01 } else .ok () := by
    have hm := h.mode
    have hb : w.vs.all (vOk c.budget) = true := by rw [List.all_eq_true]; exact h.budget
    unfold Ctx.stage1
    rw [h.body]
    cases hl : w.legal
    · simp; exact hm
    · simp [hb]; exact hm
  have h2 : (w.ss.any fun n => c.grp.tokens.contains n) = false := by
    rw [List.any_eq_false]; intro n hn; rw [h.ready n hn]; exact Bool.false_ne_true
  have hf := h.flag
  have h3 : c.flagOf w.op ≠ some none := by
    unfold Ctx.flagOf
    split_ifs with ha hb hc hd <;> simp_all [Ctx.flagFree]
  have h4 : c.stage2 w s = w.pre c s := by
    unfold Ctx.stage2
    rw [if_neg h3]
    rcases h.gate with hg | hg <;> simp [hg]
  have h5 : c.idles w = false := by simp [Ctx.idles, h.full w rfl]
  have h7 : c.flagFull w = false := by
    unfold Ctx.flagFull Ctx.flagOf
    split_ifs with ha hb hc hd <;> simp_all [Ctx.flagFree]
  unfold Ctx.check
  rw [h.free, h7, h1]
  cases hl : w.legal
  · simp
  · simp only [Bool.or_self, Bool.false_eq_true, if_false, h2, h4, h5, reduceCtorEq]
    all_goals cases w.pre c s <;> rfl

/-- An ill-formed word raises FLT_ILLEGAL_OP (R40). -/
theorem issue_illegal (w : Word) (act : Ctx → State → Res) (s : State) (c : Ctx) (vs pairs ss : List Nat)
    (hv : w.vs = vs) (hs : w.ss = ss) (h : c.MayIssue s w.op vs pairs ss) (legal : w.legal = false) :
    issue w act s = .next (s.takeFault c.ti c.gi c.ei { cause := 0x01 }) := by
  unfold issue
  simp [h.issuer, c.check_own s w vs pairs ss hv hs h, legal]

/-- A word whose own check of stage 2 fails raises that check's fault (R30). -/
theorem issue_pre (w : Word) (act : Ctx → State → Res) (s : State) (c : Ctx) (f : Flt) (vs pairs ss : List Nat)
    (hv : w.vs = vs) (hs : w.ss = ss) (h : c.MayIssue s w.op vs pairs ss) (legal : w.legal = true)
    (pre : w.pre c s = .error f) : issue w act s = .next (s.takeFault c.ti c.gi c.ei f) := by
  unfold issue
  simp [h.issuer, c.check_own s w vs pairs ss hv hs h, legal, pre]

/-- So does one whose own check of stage 3 fails. -/
theorem issue_lanes (w : Word) (act : Ctx → State → Res) (s : State) (c : Ctx) (f : Flt) (vs pairs ss : List Nat)
    (hv : w.vs = vs) (hp : w.pairs c = pairs) (hs : w.ss = ss) (h : c.MayIssue s w.op vs pairs ss) (legal : w.legal = true)
    (pre : w.pre c s = .ok ()) (lanes : w.lanesOk c s = .error f) (soft : w.soft = false := by rfl) :
    issue w act s = .next (s.takeFault c.ti c.gi c.ei f) := by
  subst hp
  have h3 : c.stage34 w s = .error f := by
    have : ((w.pairs c).any fun n => n ≠ 127 ∧ n % 2 = 1) = false := by
      rw [List.any_eq_false]; intro n hn; rcases h.even n hn with h | h <;> simp [h]
    unfold Ctx.stage34
    rw [this, lanes]
    simp
  unfold issue
  simp [h.issuer, c.check_own s w vs (w.pairs c) ss hv hs h, legal, pre, h3, soft]

/-- A word that passes its checks waits, and changes nothing, until it is ready (R70). -/
theorem issue_wait (w : Word) (act : Ctx → State → Res) (s : State) (c : Ctx) (vs pairs ss : List Nat)
    (hv : w.vs = vs) (hs : w.ss = ss) (h : c.MayIssue s w.op vs pairs ss) (legal : w.legal = true)
    (pre : w.pre c s = .ok ()) (lanes : c.stage34 w s = .ok ()) (ready : w.ready c s = false) :
    issue w act s = .next s := by
  unfold issue
  simp [h.issuer, c.check_own s w vs pairs ss hv hs h, legal, pre, lanes, ready]

/-- A word that may issue does its own effect, and nothing else. -/
theorem issue_go (w : Word) (act : Ctx → State → Res) (s : State) (c : Ctx) (vs pairs ss : List Nat)
    (hv : w.vs = vs) (hp : w.pairs c = pairs) (hs : w.ss = ss)
    (h : c.MayIssue s w.op vs pairs ss) (legal : w.legal = true) (pre : w.pre c s = .ok ())
    (lanes : w.lanesOk c s = .ok ()) (ready : w.ready c s = true) (engine : w.engineOk c s = .ok () := by rfl) :
    issue w act s = .next ((act c s).state s c w.op) := by
  have hc := c.check_go s w vs pairs ss hv hp hs h legal pre lanes ready engine
  have ha := c.txAbort_self w h.tx
  have hi : c.idles w = false := by simp [Ctx.idles, h.full w rfl]
  unfold issue
  rw [h.issuer]
  simp only [hc, ha, hi, s.setGroup_self c h.issuer, ite_self, Bool.false_eq_true, if_false]

/-- A word whose effect is on its group. -/
theorem issueG_go (w : Word) (act : Ctx → Except Flt Group) (s : State) (c : Ctx) (g : Group) (vs pairs ss : List Nat)
    (hv : w.vs = vs) (hp : w.pairs c = pairs) (hs : w.ss = ss)
    (h : c.MayIssue s w.op vs pairs ss) (legal : w.legal = true) (pre : w.pre c s = .ok ())
    (lanes : w.lanesOk c s = .ok ()) (ready : w.ready c s = true) (hg : act c = .ok g)
    (engine : w.engineOk c s = .ok () := by rfl) : issueG w act s = .next (s.after c w.op g) := by
  unfold issueG
  rw [issue_go w _ s c vs pairs ss hv hp hs h legal pre lanes ready engine]
  simp [hg, Res.state, State.retire, State.after]

end Sys2Proof.Machine
end

