-- ==== Sys2Proof/Laws/PerInstr.lean ====
section
/-!
SUPPORT. Statements about every instruction as syntax, one lemma per constructor: the word of an instruction fits in 32
bits (R38).
-/
namespace Sys2Proof.Laws

/-- The bits of a b operand lie below bit 23. -/
theorem src_bits_lt (b : Src) : b.bits < 2 ^ 23 ∧ b.bits % 2 ^ 21 < 2 ^ 7 := by
  cases b <;> rename_i n <;> have := n.isLt <;> simp only [Src.bits] <;> omega

/-- The bits of a memory operand lie below bit 16. -/
theorem mem_bits_lt (m : Mem) : m.bits < 2 ^ 16 := by
  have := m.a.isLt; have := m.s.isLt; have := m.sc.isLt; simp only [Mem.bits]; omega

/-- A condition's number is below 16. -/
theorem cc_num_lt (c : Cc) : c.num < 16 := by cases c <;> decide

namespace Words

/-- The word of an instruction fits in 32 bits. -/
def Statement (i : Instr) : Prop := ∀ w, encode i = some w → w < 2 ^ 32

theorem clauseHeader (w : BitVec 12) (a : BitVec 4) (b : BitVec 4) (n : BitVec 4) (y : BitVec 1) (c : BitVec 1) : Statement (.clauseHeader w a b n y c) := by
  intro w' h; cases h; have := w.isLt; have := a.isLt; have := b.isLt; have := n.isLt; have := y.isLt; have := c.isLt
  simp only [putF]; omega
theorem nop (i : BitVec 23) : Statement (.nop i) := by
  intro w' h; cases h; have := i.isLt
  simp only [putF]; omega
theorem setm (m : BitVec 23) : Statement (.setm m) := by
  intro w' h; cases h; have := m.isLt
  simp only [putF]; omega
theorem gets (d : BitVec 6) (i : BitVec 9) : Statement (.gets d i) := by
  intro w' h; cases h; have := d.isLt; have := i.isLt
  simp only [putF]; omega
theorem getv (d : BitVec 7) (i : BitVec 9) : Statement (.getv d i) := by
  intro w' h; cases h; have := d.isLt; have := i.isLt
  simp only [putF]; omega
theorem br (h : BitVec 2) (q : BitVec 3) (n : BitVec 1) (o : BitVec 17) : Statement (.br h q n o) := by
  intro w' h; cases h; have := h.isLt; have := q.isLt; have := n.isLt; have := o.isLt
  simp only [putF]; omega
theorem jmp (hx : BitVec 6) (o : BitVec 17) : Statement (.jmp hx o) := by
  intro w' h; cases h; have := hx.isLt; have := o.isLt
  simp only [putF]; omega
theorem jr (a : BitVec 6) : Statement (.jr a) := by
  intro w' h; cases h; have := a.isLt
  simp only [putF]; omega
theorem call (hx : BitVec 6) (o : BitVec 17) : Statement (.call hx o) := by
  intro w' h; cases h; have := hx.isLt; have := o.isLt
  simp only [putF]; omega
theorem ret (a : BitVec 6) : Statement (.ret a) := by
  intro w' h; cases h; have := a.isLt
  simp only [putF]; omega
theorem recon (o : BitVec 17) : Statement (.recon o) := by
  intro w' h; cases h; have := o.isLt
  simp only [putF]; omega
theorem join : Statement .join := by intro w h; cases h; decide
theorem loop (l : BitVec 2) (c : BitVec 1) (n : BitVec 10) (e : BitVec 10) : Statement (.loop l c n e) := by
  intro w' h; cases h; have := l.isLt; have := c.isLt; have := n.isLt; have := e.isLt
  simp only [putF]; omega
theorem lbrk (h : BitVec 2) (q : BitVec 3) (n : BitVec 1) (o : BitVec 17) : Statement (.lbrk h q n o) := by
  intro w' h; cases h; have := h.isLt; have := q.isLt; have := n.isLt; have := o.isLt
  simp only [putF]; omega
theorem exit : Statement .exit := by intro w h; cases h; decide
theorem yield : Statement .yield := by intro w h; cases h; decide
theorem wait (f : BitVec 12) : Statement (.wait f) := by
  intro w' h; cases h; have := f.isLt
  simp only [putF]; omega
theorem trap (n : BitVec 16) : Statement (.trap n) := by
  intro w' h; cases h; have := n.isLt
  simp only [putF]; omega
theorem sys (n : BitVec 16) : Statement (.sys n) := by
  intro w' h; cases h; have := n.isLt
  simp only [putF]; omega
theorem fbpt (n : BitVec 6) : Statement (.fbpt n) := by
  intro w' h; cases h; have := n.isLt
  simp only [putF]; omega
theorem eret : Statement .eret := by intro w h; cases h; decide
theorem halt : Statement .halt := by intro w h; cases h; decide
theorem srd (d : BitVec 6) (r : BitVec 9) : Statement (.srd d r) := by
  intro w' h; cases h; have := d.isLt; have := r.isLt
  simp only [putF]; omega
theorem swr (a : BitVec 6) (r : BitVec 9) : Statement (.swr a r) := by
  intro w' h; cases h; have := a.isLt; have := r.isLt
  simp only [putF]; omega
theorem sadd (b : Src) (d : BitVec 6) (a : BitVec 6) : Statement (.sadd b d a) := by
  intro w' h; cases h; have := src_bits_lt b; have := d.isLt; have := a.isLt
  simp only [putF, Src.put]; omega
theorem ssub (b : Src) (d : BitVec 6) (a : BitVec 6) : Statement (.ssub b d a) := by
  intro w' h; cases h; have := src_bits_lt b; have := d.isLt; have := a.isLt
  simp only [putF, Src.put]; omega
theorem smul (b : Src) (d : BitVec 6) (a : BitVec 6) : Statement (.smul b d a) := by
  intro w' h; cases h; have := src_bits_lt b; have := d.isLt; have := a.isLt
  simp only [putF, Src.put]; omega
theorem smulh (b : Src) (d : BitVec 6) (a : BitVec 6) : Statement (.smulh b d a) := by
  intro w' h; cases h; have := src_bits_lt b; have := d.isLt; have := a.isLt
  simp only [putF, Src.put]; omega
theorem sand (b : Src) (d : BitVec 6) (a : BitVec 6) : Statement (.sand b d a) := by
  intro w' h; cases h; have := src_bits_lt b; have := d.isLt; have := a.isLt
  simp only [putF, Src.put]; omega
theorem sor (b : Src) (d : BitVec 6) (a : BitVec 6) : Statement (.sor b d a) := by
  intro w' h; cases h; have := src_bits_lt b; have := d.isLt; have := a.isLt
  simp only [putF, Src.put]; omega
theorem sxor (b : Src) (d : BitVec 6) (a : BitVec 6) : Statement (.sxor b d a) := by
  intro w' h; cases h; have := src_bits_lt b; have := d.isLt; have := a.isLt
  simp only [putF, Src.put]; omega
theorem sshl (b : Src) (d : BitVec 6) (a : BitVec 6) : Statement (.sshl b d a) := by
  intro w' h; cases h; have := src_bits_lt b; have := d.isLt; have := a.isLt
  simp only [putF, Src.put]; omega
theorem sshr (b : Src) (d : BitVec 6) (a : BitVec 6) : Statement (.sshr b d a) := by
  intro w' h; cases h; have := src_bits_lt b; have := d.isLt; have := a.isLt
  simp only [putF, Src.put]; omega
theorem ssra (b : Src) (d : BitVec 6) (a : BitVec 6) : Statement (.ssra b d a) := by
  intro w' h; cases h; have := src_bits_lt b; have := d.isLt; have := a.isLt
  simp only [putF, Src.put]; omega
theorem smin (b : Src) (d : BitVec 6) (a : BitVec 6) : Statement (.smin b d a) := by
  intro w' h; cases h; have := src_bits_lt b; have := d.isLt; have := a.isLt
  simp only [putF, Src.put]; omega
theorem smax (b : Src) (d : BitVec 6) (a : BitVec 6) : Statement (.smax b d a) := by
  intro w' h; cases h; have := src_bits_lt b; have := d.isLt; have := a.isLt
  simp only [putF, Src.put]; omega
theorem scmp (b : Src) (c : Cc) (p : BitVec 3) (a : BitVec 6) : Statement (.scmp b c p a) := by
  intro w' h; cases h; have := src_bits_lt b; have := cc_num_lt c; have := p.isLt; have := a.isLt
  simp only [putF, Src.put, Cc.put]; omega
theorem ssel (b : Src) (d : BitVec 6) (a : BitVec 6) : Statement (.ssel b d a) := by
  intro w' h; cases h; have := src_bits_lt b; have := d.isLt; have := a.isLt
  simp only [putF, Src.put]; omega
theorem smov (b : Src) (d : BitVec 6) : Statement (.smov b d) := by
  intro w' h; cases h; have := src_bits_lt b; have := d.isLt
  simp only [putF, Src.put]; omega
theorem smovi (d : BitVec 6) (i : BitVec 16) : Statement (.smovi d i) := by
  intro w' h; cases h; have := d.isLt; have := i.isLt
  simp only [putF]; omega
theorem smovh (d : BitVec 6) (i : BitVec 16) : Statement (.smovh d i) := by
  intro w' h; cases h; have := d.isLt; have := i.isLt
  simp only [putF]; omega
theorem smovx (d : BitVec 6) (i : BitVec 16) : Statement (.smovx d i) := by
  intro w' h; cases h; have := d.isLt; have := i.isLt
  simp only [putF]; omega
theorem smovy (d : BitVec 6) (i : BitVec 16) : Statement (.smovy d i) := by
  intro w' h; cases h; have := d.isLt; have := i.isLt
  simp only [putF]; omega
theorem sclz (d : BitVec 6) (a : BitVec 6) : Statement (.sclz d a) := by
  intro w' h; cases h; have := d.isLt; have := a.isLt
  simp only [putF]; omega
theorem spop (d : BitVec 6) (a : BitVec 6) : Statement (.spop d a) := by
  intro w' h; cases h; have := d.isLt; have := a.isLt
  simp only [putF]; omega
theorem sld (d : BitVec 6) (s : BitVec 6) : Statement (.sld d s) := by
  intro w' h; cases h; have := d.isLt; have := s.isLt
  simp only [putF]; omega
theorem sst (d : BitVec 6) (s : BitVec 6) : Statement (.sst d s) := by
  intro w' h; cases h; have := d.isLt; have := s.isLt
  simp only [putF]; omega
theorem pand (d : BitVec 3) (a : BitVec 3) (b : BitVec 3) : Statement (.pand d a b) := by
  intro w' h; cases h; have := d.isLt; have := a.isLt; have := b.isLt
  simp only [putF]; omega
theorem por (d : BitVec 3) (a : BitVec 3) (b : BitVec 3) : Statement (.por d a b) := by
  intro w' h; cases h; have := d.isLt; have := a.isLt; have := b.isLt
  simp only [putF]; omega
theorem pxor (d : BitVec 3) (a : BitVec 3) (b : BitVec 3) : Statement (.pxor d a b) := by
  intro w' h; cases h; have := d.isLt; have := a.isLt; have := b.isLt
  simp only [putF]; omega
theorem pnot (d : BitVec 3) (a : BitVec 3) : Statement (.pnot d a) := by
  intro w' h; cases h; have := d.isLt; have := a.isLt
  simp only [putF]; omega
theorem pany (d : BitVec 6) (a : BitVec 3) : Statement (.pany d a) := by
  intro w' h; cases h; have := d.isLt; have := a.isLt
  simp only [putF]; omega
theorem pall (d : BitVec 6) (a : BitVec 3) : Statement (.pall d a) := by
  intro w' h; cases h; have := d.isLt; have := a.isLt
  simp only [putF]; omega
theorem pmov (b : Src) (d : BitVec 3) : Statement (.pmov b d) := by
  intro w' h; cases h; have := src_bits_lt b; have := d.isLt
  simp only [putF, Src.put]; omega
theorem vadd (b : Src) (d : BitVec 7) (a : BitVec 7) : Statement (.vadd b d a) := by
  intro w' h; cases h; have := src_bits_lt b; have := d.isLt; have := a.isLt
  simp only [putF, Src.put]; omega
theorem vsub (b : Src) (d : BitVec 7) (a : BitVec 7) : Statement (.vsub b d a) := by
  intro w' h; cases h; have := src_bits_lt b; have := d.isLt; have := a.isLt
  simp only [putF, Src.put]; omega
theorem vmul (b : Src) (d : BitVec 7) (a : BitVec 7) : Statement (.vmul b d a) := by
  intro w' h; cases h; have := src_bits_lt b; have := d.isLt; have := a.isLt
  simp only [putF, Src.put]; omega
theorem vmulh (b : Src) (d : BitVec 7) (a : BitVec 7) : Statement (.vmulh b d a) := by
  intro w' h; cases h; have := src_bits_lt b; have := d.isLt; have := a.isLt
  simp only [putF, Src.put]; omega
theorem vmad (b : Src) (d : BitVec 7) (a : BitVec 7) : Statement (.vmad b d a) := by
  intro w' h; cases h; have := src_bits_lt b; have := d.isLt; have := a.isLt
  simp only [putF, Src.put]; omega
theorem vdiv (b : Src) (d : BitVec 7) (a : BitVec 7) : Statement (.vdiv b d a) := by
  intro w' h; cases h; have := src_bits_lt b; have := d.isLt; have := a.isLt
  simp only [putF, Src.put]; omega
theorem vrem (b : Src) (d : BitVec 7) (a : BitVec 7) : Statement (.vrem b d a) := by
  intro w' h; cases h; have := src_bits_lt b; have := d.isLt; have := a.isLt
  simp only [putF, Src.put]; omega
theorem vabs (d : BitVec 7) (a : BitVec 7) : Statement (.vabs d a) := by
  intro w' h; cases h; have := d.isLt; have := a.isLt
  simp only [putF]; omega
theorem vneg (d : BitVec 7) (a : BitVec 7) : Statement (.vneg d a) := by
  intro w' h; cases h; have := d.isLt; have := a.isLt
  simp only [putF]; omega
theorem vmin (b : Src) (d : BitVec 7) (a : BitVec 7) : Statement (.vmin b d a) := by
  intro w' h; cases h; have := src_bits_lt b; have := d.isLt; have := a.isLt
  simp only [putF, Src.put]; omega
theorem vmax (b : Src) (d : BitVec 7) (a : BitVec 7) : Statement (.vmax b d a) := by
  intro w' h; cases h; have := src_bits_lt b; have := d.isLt; have := a.isLt
  simp only [putF, Src.put]; omega
theorem vand (b : Src) (d : BitVec 7) (a : BitVec 7) : Statement (.vand b d a) := by
  intro w' h; cases h; have := src_bits_lt b; have := d.isLt; have := a.isLt
  simp only [putF, Src.put]; omega
theorem vor (b : Src) (d : BitVec 7) (a : BitVec 7) : Statement (.vor b d a) := by
  intro w' h; cases h; have := src_bits_lt b; have := d.isLt; have := a.isLt
  simp only [putF, Src.put]; omega
theorem vxor (b : Src) (d : BitVec 7) (a : BitVec 7) : Statement (.vxor b d a) := by
  intro w' h; cases h; have := src_bits_lt b; have := d.isLt; have := a.isLt
  simp only [putF, Src.put]; omega
theorem vnot (d : BitVec 7) (a : BitVec 7) : Statement (.vnot d a) := by
  intro w' h; cases h; have := d.isLt; have := a.isLt
  simp only [putF]; omega
theorem vshl (b : Src) (d : BitVec 7) (a : BitVec 7) : Statement (.vshl b d a) := by
  intro w' h; cases h; have := src_bits_lt b; have := d.isLt; have := a.isLt
  simp only [putF, Src.put]; omega
theorem vshr (b : Src) (d : BitVec 7) (a : BitVec 7) : Statement (.vshr b d a) := by
  intro w' h; cases h; have := src_bits_lt b; have := d.isLt; have := a.isLt
  simp only [putF, Src.put]; omega
theorem vsra (b : Src) (d : BitVec 7) (a : BitVec 7) : Statement (.vsra b d a) := by
  intro w' h; cases h; have := src_bits_lt b; have := d.isLt; have := a.isLt
  simp only [putF, Src.put]; omega
theorem vclz (d : BitVec 7) (a : BitVec 7) : Statement (.vclz d a) := by
  intro w' h; cases h; have := d.isLt; have := a.isLt
  simp only [putF]; omega
theorem vpop (d : BitVec 7) (a : BitVec 7) : Statement (.vpop d a) := by
  intro w' h; cases h; have := d.isLt; have := a.isLt
  simp only [putF]; omega
theorem vbrev (d : BitVec 7) (a : BitVec 7) : Statement (.vbrev d a) := by
  intro w' h; cases h; have := d.isLt; have := a.isLt
  simp only [putF]; omega
theorem vbfx (b : Src) (d : BitVec 7) (a : BitVec 7) : Statement (.vbfx b d a) := by
  intro w' h; cases h; have := src_bits_lt b; have := d.isLt; have := a.isLt
  simp only [putF, Src.put]; omega
theorem vbfi (b : Src) (d : BitVec 7) (a : BitVec 7) : Statement (.vbfi b d a) := by
  intro w' h; cases h; have := src_bits_lt b; have := d.isLt; have := a.isLt
  simp only [putF, Src.put]; omega
theorem vsel (b : Src) (d : BitVec 7) (a : BitVec 7) : Statement (.vsel b d a) := by
  intro w' h; cases h; have := src_bits_lt b; have := d.isLt; have := a.isLt
  simp only [putF, Src.put]; omega
theorem vcmp (b : Src) (c : Cc) (p : BitVec 3) (a : BitVec 7) : Statement (.vcmp b c p a) := by
  intro w' h; cases h; have := src_bits_lt b; have := cc_num_lt c; have := p.isLt; have := a.isLt
  simp only [putF, Src.put, Cc.put]; omega
theorem vmov (b : Src) (d : BitVec 7) : Statement (.vmov b d) := by
  intro w' h; cases h; have := src_bits_lt b; have := d.isLt
  simp only [putF, Src.put]; omega
theorem vmovi (d : BitVec 7) (i : BitVec 16) : Statement (.vmovi d i) := by
  intro w' h; cases h; have := d.isLt; have := i.isLt
  simp only [putF]; omega
theorem vmovh (d : BitVec 7) (i : BitVec 16) : Statement (.vmovh d i) := by
  intro w' h; cases h; have := d.isLt; have := i.isLt
  simp only [putF]; omega
theorem vfadd (b : Src) (d : BitVec 7) (a : BitVec 7) : Statement (.vfadd b d a) := by
  intro w' h; cases h; have := src_bits_lt b; have := d.isLt; have := a.isLt
  simp only [putF, Src.put]; omega
theorem vfsub (b : Src) (d : BitVec 7) (a : BitVec 7) : Statement (.vfsub b d a) := by
  intro w' h; cases h; have := src_bits_lt b; have := d.isLt; have := a.isLt
  simp only [putF, Src.put]; omega
theorem vfmul (b : Src) (d : BitVec 7) (a : BitVec 7) : Statement (.vfmul b d a) := by
  intro w' h; cases h; have := src_bits_lt b; have := d.isLt; have := a.isLt
  simp only [putF, Src.put]; omega
theorem vfma (b : Src) (d : BitVec 7) (a : BitVec 7) : Statement (.vfma b d a) := by
  intro w' h; cases h; have := src_bits_lt b; have := d.isLt; have := a.isLt
  simp only [putF, Src.put]; omega
theorem vfmin (b : Src) (d : BitVec 7) (a : BitVec 7) : Statement (.vfmin b d a) := by
  intro w' h; cases h; have := src_bits_lt b; have := d.isLt; have := a.isLt
  simp only [putF, Src.put]; omega
theorem vfmax (b : Src) (d : BitVec 7) (a : BitVec 7) : Statement (.vfmax b d a) := by
  intro w' h; cases h; have := src_bits_lt b; have := d.isLt; have := a.isLt
  simp only [putF, Src.put]; omega
theorem vfcmp (b : Src) (c : Cc) (p : BitVec 3) (a : BitVec 7) : Statement (.vfcmp b c p a) := by
  intro w' h; cases h; have := src_bits_lt b; have := cc_num_lt c; have := p.isLt; have := a.isLt
  simp only [putF, Src.put, Cc.put]; omega
theorem vfclass (d : BitVec 7) (a : BitVec 7) : Statement (.vfclass d a) := by
  intro w' h; cases h; have := d.isLt; have := a.isLt
  simp only [putF]; omega
theorem vfrnd (d : BitVec 7) (a : BitVec 7) : Statement (.vfrnd d a) := by
  intro w' h; cases h; have := d.isLt; have := a.isLt
  simp only [putF]; omega
theorem vrcp (d : BitVec 7) (a : BitVec 7) : Statement (.vrcp d a) := by
  intro w' h; cases h; have := d.isLt; have := a.isLt
  simp only [putF]; omega
theorem vrsq (d : BitVec 7) (a : BitVec 7) : Statement (.vrsq d a) := by
  intro w' h; cases h; have := d.isLt; have := a.isLt
  simp only [putF]; omega
theorem vsqrt (d : BitVec 7) (a : BitVec 7) : Statement (.vsqrt d a) := by
  intro w' h; cases h; have := d.isLt; have := a.isLt
  simp only [putF]; omega
theorem vexp2 (d : BitVec 7) (a : BitVec 7) : Statement (.vexp2 d a) := by
  intro w' h; cases h; have := d.isLt; have := a.isLt
  simp only [putF]; omega
theorem vlog2 (d : BitVec 7) (a : BitVec 7) : Statement (.vlog2 d a) := by
  intro w' h; cases h; have := d.isLt; have := a.isLt
  simp only [putF]; omega
theorem vsin (d : BitVec 7) (a : BitVec 7) : Statement (.vsin d a) := by
  intro w' h; cases h; have := d.isLt; have := a.isLt
  simp only [putF]; omega
theorem vcos (d : BitVec 7) (a : BitVec 7) : Statement (.vcos d a) := by
  intro w' h; cases h; have := d.isLt; have := a.isLt
  simp only [putF]; omega
theorem vtanh (d : BitVec 7) (a : BitVec 7) : Statement (.vtanh d a) := by
  intro w' h; cases h; have := d.isLt; have := a.isLt
  simp only [putF]; omega
theorem vsigm (d : BitVec 7) (a : BitVec 7) : Statement (.vsigm d a) := by
  intro w' h; cases h; have := d.isLt; have := a.isLt
  simp only [putF]; omega
theorem vfdiv (b : Src) (d : BitVec 7) (a : BitVec 7) : Statement (.vfdiv b d a) := by
  intro w' h; cases h; have := src_bits_lt b; have := d.isLt; have := a.isLt
  simp only [putF, Src.put]; omega
theorem vcvt (d : BitVec 7) (a : BitVec 7) (e : BitVec 3) (f : BitVec 3) : Statement (.vcvt d a e f) := by
  intro w' h; cases h; have := d.isLt; have := a.isLt; have := e.isLt; have := f.isLt
  simp only [putF]; omega
theorem vpack (d : BitVec 7) (a : BitVec 7) (b : BitVec 7) : Statement (.vpack d a b) := by
  intro w' h; cases h; have := d.isLt; have := a.isLt; have := b.isLt
  simp only [putF]; omega
theorem vunpack (d : BitVec 7) (a : BitVec 7) (b : BitVec 7) : Statement (.vunpack d a b) := by
  intro w' h; cases h; have := d.isLt; have := a.isLt; have := b.isLt
  simp only [putF]; omega
theorem cbld (a : BitVec 6) : Statement (.cbld a) := by
  intro w' h; cases h; have := a.isLt
  simp only [putF]; omega
theorem cbst (d : BitVec 6) : Statement (.cbst d) := by
  intro w' h; cases h; have := d.isLt
  simp only [putF]; omega
theorem vcbq (d : BitVec 7) (a : BitVec 7) (e : BitVec 3) (f : BitVec 3) : Statement (.vcbq d a e f) := by
  intro w' h; cases h; have := d.isLt; have := a.isLt; have := e.isLt; have := f.isLt
  simp only [putF]; omega
theorem vshf (b : Src) (d : BitVec 7) (a : BitVec 7) : Statement (.vshf b d a) := by
  intro w' h; cases h; have := src_bits_lt b; have := d.isLt; have := a.isLt
  simp only [putF, Src.put]; omega
theorem vrot (b : Src) (d : BitVec 7) (a : BitVec 7) : Statement (.vrot b d a) := by
  intro w' h; cases h; have := src_bits_lt b; have := d.isLt; have := a.isLt
  simp only [putF, Src.put]; omega
theorem vbcst (d : BitVec 7) (a : BitVec 7) : Statement (.vbcst d a) := by
  intro w' h; cases h; have := d.isLt; have := a.isLt
  simp only [putF]; omega
theorem vrd (b : Src) (d : BitVec 7) (a : BitVec 7) : Statement (.vrd b d a) := by
  intro w' h; cases h; have := src_bits_lt b; have := d.isLt; have := a.isLt
  simp only [putF, Src.put]; omega
theorem vred (d : BitVec 7) (a : BitVec 7) (o : BitVec 3) : Statement (.vred d a o) := by
  intro w' h; cases h; have := d.isLt; have := a.isLt; have := o.isLt
  simp only [putF]; omega
theorem vscan (d : BitVec 7) (a : BitVec 7) (o : BitVec 3) : Statement (.vscan d a o) := by
  intro w' h; cases h; have := d.isLt; have := a.isLt; have := o.isLt
  simp only [putF]; omega
theorem vball (d : BitVec 7) (b : BitVec 3) : Statement (.vball d b) := by
  intro w' h; cases h; have := d.isLt; have := b.isLt
  simp only [putF]; omega
theorem vmatch (d : BitVec 7) (a : BitVec 7) : Statement (.vmatch d a) := by
  intro w' h; cases h; have := d.isLt; have := a.isLt
  simp only [putF]; omega
theorem vrnd (d : BitVec 7) : Statement (.vrnd d) := by
  intro w' h; cases h; have := d.isLt
  simp only [putF]; omega
theorem vseed (b : Src) (a : BitVec 7) : Statement (.vseed b a) := by
  intro w' h; cases h; have := src_bits_lt b; have := a.isLt
  simp only [putF, Src.put]; omega
theorem ldb (d : BitVec 7) (m : Mem) : Statement (.ldb d m) := by
  intro w' h; cases h; have := d.isLt; have := mem_bits_lt m
  simp only [putF, Mem.put]; omega
theorem ldh (d : BitVec 7) (m : Mem) : Statement (.ldh d m) := by
  intro w' h; cases h; have := d.isLt; have := mem_bits_lt m
  simp only [putF, Mem.put]; omega
theorem ldw (d : BitVec 7) (m : Mem) : Statement (.ldw d m) := by
  intro w' h; cases h; have := d.isLt; have := mem_bits_lt m
  simp only [putF, Mem.put]; omega
theorem ldd (d : BitVec 7) (m : Mem) : Statement (.ldd d m) := by
  intro w' h; cases h; have := d.isLt; have := mem_bits_lt m
  simp only [putF, Mem.put]; omega
theorem ldq (d : BitVec 7) (m : Mem) : Statement (.ldq d m) := by
  intro w' h; cases h; have := d.isLt; have := mem_bits_lt m
  simp only [putF, Mem.put]; omega
theorem stb (d : BitVec 7) (m : Mem) : Statement (.stb d m) := by
  intro w' h; cases h; have := d.isLt; have := mem_bits_lt m
  simp only [putF, Mem.put]; omega
theorem sth (d : BitVec 7) (m : Mem) : Statement (.sth d m) := by
  intro w' h; cases h; have := d.isLt; have := mem_bits_lt m
  simp only [putF, Mem.put]; omega
theorem stw (d : BitVec 7) (m : Mem) : Statement (.stw d m) := by
  intro w' h; cases h; have := d.isLt; have := mem_bits_lt m
  simp only [putF, Mem.put]; omega
theorem std (d : BitVec 7) (m : Mem) : Statement (.std d m) := by
  intro w' h; cases h; have := d.isLt; have := mem_bits_lt m
  simp only [putF, Mem.put]; omega
theorem stq (d : BitVec 7) (m : Mem) : Statement (.stq d m) := by
  intro w' h; cases h; have := d.isLt; have := mem_bits_lt m
  simp only [putF, Mem.put]; omega
theorem ldf (d : BitVec 7) (m : Mem) : Statement (.ldf d m) := by
  intro w' h; cases h; have := d.isLt; have := mem_bits_lt m
  simp only [putF, Mem.put]; omega
theorem stf (d : BitVec 7) (m : Mem) : Statement (.stf d m) := by
  intro w' h; cases h; have := d.isLt; have := mem_bits_lt m
  simp only [putF, Mem.put]; omega
theorem ldsw (d : BitVec 7) (m : Mem) : Statement (.ldsw d m) := by
  intro w' h; cases h; have := d.isLt; have := mem_bits_lt m
  simp only [putF, Mem.put]; omega
theorem ldsd (d : BitVec 7) (m : Mem) : Statement (.ldsd d m) := by
  intro w' h; cases h; have := d.isLt; have := mem_bits_lt m
  simp only [putF, Mem.put]; omega
theorem ldsq (d : BitVec 7) (m : Mem) : Statement (.ldsq d m) := by
  intro w' h; cases h; have := d.isLt; have := mem_bits_lt m
  simp only [putF, Mem.put]; omega
theorem stsw (d : BitVec 7) (m : Mem) : Statement (.stsw d m) := by
  intro w' h; cases h; have := d.isLt; have := mem_bits_lt m
  simp only [putF, Mem.put]; omega
theorem stsd (d : BitVec 7) (m : Mem) : Statement (.stsd d m) := by
  intro w' h; cases h; have := d.isLt; have := mem_bits_lt m
  simp only [putF, Mem.put]; omega
theorem stsq (d : BitVec 7) (m : Mem) : Statement (.stsq d m) := by
  intro w' h; cases h; have := d.isLt; have := mem_bits_lt m
  simp only [putF, Mem.put]; omega
theorem lda (d : BitVec 7) (m : Mem) : Statement (.lda d m) := by
  intro w' h; cases h; have := d.isLt; have := mem_bits_lt m
  simp only [putF, Mem.put]; omega
theorem stl (d : BitVec 7) (m : Mem) : Statement (.stl d m) := by
  intro w' h; cases h; have := d.isLt; have := mem_bits_lt m
  simp only [putF, Mem.put]; omega
theorem ldsc (d : BitVec 7) (m : Mem) : Statement (.ldsc d m) := by
  intro w' h; cases h; have := d.isLt; have := mem_bits_lt m
  simp only [putF, Mem.put]; omega
theorem stsc (d : BitVec 7) (m : Mem) : Statement (.stsc d m) := by
  intro w' h; cases h; have := d.isLt; have := mem_bits_lt m
  simp only [putF, Mem.put]; omega
theorem ldnx (d : BitVec 7) (m : Mem) : Statement (.ldnx d m) := by
  intro w' h; cases h; have := d.isLt; have := mem_bits_lt m
  simp only [putF, Mem.put]; omega
theorem stnx (d : BitVec 7) (m : Mem) : Statement (.stnx d m) := by
  intro w' h; cases h; have := d.isLt; have := mem_bits_lt m
  simp only [putF, Mem.put]; omega
theorem pref (h : BitVec 2) (m : Mem) : Statement (.pref h m) := by
  intro w' h; cases h; have := h.isLt; have := mem_bits_lt m
  simp only [putF, Mem.put]; omega
theorem fence (k : BitVec 2) (s : BitVec 3) : Statement (.fence k s) := by
  intro w' h; cases h; have := k.isLt; have := s.isLt
  simp only [putF]; omega
theorem flush (m : Mem) : Statement (.flush m) := by
  intro w' h; cases h; have := mem_bits_lt m
  simp only [Mem.put]; omega
theorem inv (m : Mem) : Statement (.inv m) := by
  intro w' h; cases h; have := mem_bits_lt m
  simp only [Mem.put]; omega
theorem xlat (d : BitVec 7) (m : Mem) : Statement (.xlat d m) := by
  intro w' h; cases h; have := d.isLt; have := mem_bits_lt m
  simp only [putF, Mem.put]; omega
theorem tlbiPage (s : BitVec 6) : Statement (.tlbiPage s) := by
  intro w' h; cases h; have := s.isLt
  simp only [putF]; omega
theorem tlbiFen (s : BitVec 6) : Statement (.tlbiFen s) := by
  intro w' h; cases h; have := s.isLt
  simp only [putF]; omega
theorem tlbiAll (s : BitVec 6) : Statement (.tlbiAll s) := by
  intro w' h; cases h; have := s.isLt
  simp only [putF]; omega
theorem aadd (b : Src) (d : BitVec 7) (a : BitVec 7) : Statement (.aadd b d a) := by
  intro w' h; cases h; have := src_bits_lt b; have := d.isLt; have := a.isLt
  simp only [putF, Src.put]; omega
theorem aand (b : Src) (d : BitVec 7) (a : BitVec 7) : Statement (.aand b d a) := by
  intro w' h; cases h; have := src_bits_lt b; have := d.isLt; have := a.isLt
  simp only [putF, Src.put]; omega
theorem aor (b : Src) (d : BitVec 7) (a : BitVec 7) : Statement (.aor b d a) := by
  intro w' h; cases h; have := src_bits_lt b; have := d.isLt; have := a.isLt
  simp only [putF, Src.put]; omega
theorem axor (b : Src) (d : BitVec 7) (a : BitVec 7) : Statement (.axor b d a) := by
  intro w' h; cases h; have := src_bits_lt b; have := d.isLt; have := a.isLt
  simp only [putF, Src.put]; omega
theorem amin (b : Src) (d : BitVec 7) (a : BitVec 7) : Statement (.amin b d a) := by
  intro w' h; cases h; have := src_bits_lt b; have := d.isLt; have := a.isLt
  simp only [putF, Src.put]; omega
theorem amax (b : Src) (d : BitVec 7) (a : BitVec 7) : Statement (.amax b d a) := by
  intro w' h; cases h; have := src_bits_lt b; have := d.isLt; have := a.isLt
  simp only [putF, Src.put]; omega
theorem axchg (b : Src) (d : BitVec 7) (a : BitVec 7) : Statement (.axchg b d a) := by
  intro w' h; cases h; have := src_bits_lt b; have := d.isLt; have := a.isLt
  simp only [putF, Src.put]; omega
theorem ainc (b : Src) (d : BitVec 7) (a : BitVec 7) : Statement (.ainc b d a) := by
  intro w' h; cases h; have := src_bits_lt b; have := d.isLt; have := a.isLt
  simp only [putF, Src.put]; omega
theorem afadd (b : Src) (d : BitVec 7) (a : BitVec 7) : Statement (.afadd b d a) := by
  intro w' h; cases h; have := src_bits_lt b; have := d.isLt; have := a.isLt
  simp only [putF, Src.put]; omega
theorem acas (b : Src) (d : BitVec 7) (a : BitVec 7) : Statement (.acas b d a) := by
  intro w' h; cases h; have := src_bits_lt b; have := d.isLt; have := a.isLt
  simp only [putF, Src.put]; omega
theorem park (b : Src) (c : Cc) (p : BitVec 3) (a : BitVec 7) : Statement (.park b c p a) := by
  intro w' h; cases h; have := src_bits_lt b; have := cc_num_lt c; have := p.isLt; have := a.isLt
  simp only [putF, Src.put, Cc.put]; omega
theorem parkt (b : BitVec 6) : Statement (.parkt b) := by
  intro w' h; cases h; have := b.isLt
  simp only [putF]; omega
theorem txb : Statement .txb := by intro w h; cases h; decide
theorem txe (p : BitVec 3) (c : BitVec 7) : Statement (.txe p c) := by
  intro w' h; cases h; have := p.isLt; have := c.isLt
  simp only [putF]; omega
theorem txa (i : BitVec 8) : Statement (.txa i) := by
  intro w' h; cases h; have := i.isLt
  simp only [putF]; omega
theorem txr (d : BitVec 7) : Statement (.txr d) := by
  intro w' h; cases h; have := d.isLt
  simp only [putF]; omega
theorem txq (d : BitVec 7) : Statement (.txq d) := by
  intro w' h; cases h; have := d.isLt
  simp only [putF]; omega
theorem mcfg (i : BitVec 21) : Statement (.mcfg i) := by
  intro w' h; cases h; have := i.isLt
  simp only [putF]; omega
theorem mgang (b : BitVec 6) : Statement (.mgang b) := by
  intro w' h; cases h; have := b.isLt
  simp only [putF]; omega
theorem mma (r : BitVec 1) (c : BitVec 6) (a : BitVec 7) (s : BitVec 6) (z : BitVec 1) : Statement (.mma r c a s z) := by
  intro w' h; cases h; have := r.isLt; have := c.isLt; have := a.isLt; have := s.isLt; have := z.isLt
  simp only [putF]; omega
theorem mmas (r : BitVec 1) (c : BitVec 6) (a : BitVec 7) (s : BitVec 6) (t : BitVec 1) (z : BitVec 1) : Statement (.mmas r c a s t z) := by
  intro w' h; cases h; have := r.isLt; have := c.isLt; have := a.isLt; have := s.isLt; have := t.isLt; have := z.isLt
  simp only [putF]; omega
theorem mmaw (r : BitVec 1) (c : BitVec 6) (a : BitVec 7) (s : BitVec 6) (z : BitVec 1) : Statement (.mmaw r c a s z) := by
  intro w' h; cases h; have := r.isLt; have := c.isLt; have := a.isLt; have := s.isLt; have := z.isLt
  simp only [putF]; omega
theorem mcomp (d : BitVec 7) (a : BitVec 7) (n : BitVec 3) (t : BitVec 1) : Statement (.mcomp d a n t) := by
  intro w' h; cases h; have := d.isLt; have := a.isLt; have := n.isLt; have := t.isLt
  simp only [putF]; omega
theorem ldga (d : BitVec 7) (m : Mem) : Statement (.ldga d m) := by
  intro w' h; cases h; have := d.isLt; have := mem_bits_lt m
  simp only [putF, Mem.put]; omega
theorem accld (c : BitVec 6) (a : BitVec 7) (p : BitVec 2) : Statement (.accld c a p) := by
  intro w' h; cases h; have := c.isLt; have := a.isLt; have := p.isLt
  simp only [putF]; omega
theorem accz (c : BitVec 6) : Statement (.accz c) := by
  intro w' h; cases h; have := c.isLt
  simp only [putF]; omega
theorem mstat (d : BitVec 6) (s : BitVec 9) : Statement (.mstat d s) := by
  intro w' h; cases h; have := d.isLt; have := s.isLt
  simp only [putF]; omega
theorem cpt (t : BitVec 6) (l : BitVec 6) (c : BitVec 6) (b : BitVec 4) (r : BitVec 1) : Statement (.cpt t l c b r) := by
  intro w' h; cases h; have := t.isLt; have := l.isLt; have := c.isLt; have := b.isLt; have := r.isLt
  simp only [putF]; omega
theorem cpx (t : BitVec 6) (l : BitVec 6) (c : BitVec 6) (m : BitVec 5) : Statement (.cpx t l c m) := by
  intro w' h; cases h; have := t.isLt; have := l.isLt; have := c.isLt; have := m.isLt
  simp only [putF]; omega
theorem cpl (b : Src) (d : BitVec 7) (a : BitVec 7) : Statement (.cpl b d a) := by
  intro w' h; cases h; have := src_bits_lt b; have := d.isLt; have := a.isLt
  simp only [putF, Src.put]; omega
theorem cpg (d : BitVec 6) (s : BitVec 7) : Statement (.cpg d s) := by
  intro w' h; cases h; have := d.isLt; have := s.isLt
  simp only [putF]; omega
theorem cpf : Statement .cpf := by intro w h; cases h; decide
theorem qcfg (n : BitVec 3) (b : BitVec 6) : Statement (.qcfg n b) := by
  intro w' h; cases h; have := n.isLt; have := b.isLt
  simp only [putF]; omega
theorem qpushRes (d : BitVec 6) (n : BitVec 3) : Statement (.qpushRes d n) := by
  intro w' h; cases h; have := d.isLt; have := n.isLt
  simp only [putF]; omega
theorem qpushPub (n : BitVec 3) : Statement (.qpushPub n) := by
  intro w' h; cases h; have := n.isLt
  simp only [putF]; omega
theorem qfree (n : BitVec 3) : Statement (.qfree n) := by
  intro w' h; cases h; have := n.isLt
  simp only [putF]; omega
theorem qpop (d : BitVec 6) (n : BitVec 3) : Statement (.qpop d n) := by
  intro w' h; cases h; have := d.isLt; have := n.isLt
  simp only [putF]; omega
theorem binit (b : Src) (n : BitVec 4) : Statement (.binit b n) := by
  intro w' h; cases h; have := src_bits_lt b; have := n.isLt
  simp only [putF, Src.put]; omega
theorem barv (d : BitVec 6) (n : BitVec 4) : Statement (.barv d n) := by
  intro w' h; cases h; have := d.isLt; have := n.isLt
  simp only [putF]; omega
theorem bexp (b : Src) (n : BitVec 4) : Statement (.bexp b n) := by
  intro w' h; cases h; have := src_bits_lt b; have := n.isLt
  simp only [putF, Src.put]; omega
theorem bwait (b : Src) (n : BitVec 4) : Statement (.bwait b n) := by
  intro w' h; cases h; have := src_bits_lt b; have := n.isLt
  simp only [putF, Src.put]; omega
theorem btest (b : Src) (p : BitVec 3) (n : BitVec 4) : Statement (.btest b p n) := by
  intro w' h; cases h; have := src_bits_lt b; have := p.isLt; have := n.isLt
  simp only [putF, Src.put]; omega
theorem iodb (b : Src) (a : BitVec 6) : Statement (.iodb b a) := by
  intro w' h; cases h; have := src_bits_lt b; have := a.isLt
  simp only [putF, Src.put]; omega
theorem iodbCq (b : Src) (a : BitVec 6) : Statement (.iodbCq b a) := by
  intro w' h; cases h; have := src_bits_lt b; have := a.isLt
  simp only [putF, Src.put]; omega
theorem iobind (a : BitVec 6) (n : BitVec 4) : Statement (.iobind a n) := by
  intro w' h; cases h; have := a.isLt; have := n.isLt
  simp only [putF]; omega
theorem iounb (a : BitVec 6) : Statement (.iounb a) := by
  intro w' h; cases h; have := a.isLt
  simp only [putF]; omega
theorem prqpop (d : BitVec 6) : Statement (.prqpop d) := by
  intro w' h; cases h; have := d.isLt
  simp only [putF]; omega
theorem prqack (a : BitVec 6) (c : BitVec 2) : Statement (.prqack a c) := by
  intro w' h; cases h; have := a.isLt; have := c.isLt
  simp only [putF]; omega
theorem cfgrd (d : BitVec 6) (a : BitVec 6) : Statement (.cfgrd d a) := by
  intro w' h; cases h; have := d.isLt; have := a.isLt
  simp only [putF]; omega
theorem cfgwr (d : BitVec 6) (a : BitVec 6) (b : BitVec 6) : Statement (.cfgwr d a b) := by
  intro w' h; cases h; have := d.isLt; have := a.isLt; have := b.isLt
  simp only [putF]; omega
theorem ntbmap (a : BitVec 6) : Statement (.ntbmap a) := by
  intro w' h; cases h; have := a.isLt
  simp only [putF]; omega
theorem enq (b : Src) (p : BitVec 3) (a : BitVec 7) : Statement (.enq b p a) := by
  intro w' h; cases h; have := src_bits_lt b; have := p.isLt; have := a.isLt
  simp only [putF, Src.put]; omega
theorem rsub (d : BitVec 7) (a : BitVec 7) (b : BitVec 6) : Statement (.rsub d a b) := by
  intro w' h; cases h; have := d.isLt; have := a.isLt; have := b.isLt
  simp only [putF]; omega
theorem launch (d : BitVec 6) (a : BitVec 6) (n : BitVec 7) : Statement (.launch d a n) := by
  intro w' h; cases h; have := d.isLt; have := a.isLt; have := n.isLt
  simp only [putF]; omega
theorem preempt (d : BitVec 6) (a : BitVec 6) : Statement (.preempt d a) := by
  intro w' h; cases h; have := d.isLt; have := a.isLt
  simp only [putF]; omega
theorem resumeRestart (d : BitVec 6) (a : BitVec 6) : Statement (.resumeRestart d a) := by
  intro w' h; cases h; have := d.isLt; have := a.isLt
  simp only [putF]; omega
theorem resumeSkip (d : BitVec 6) (a : BitVec 6) : Statement (.resumeSkip d a) := by
  intro w' h; cases h; have := d.isLt; have := a.isLt
  simp only [putF]; omega
theorem resumeSkipArgs (d : BitVec 6) (a : BitVec 6) : Statement (.resumeSkipArgs d a) := by
  intro w' h; cases h; have := d.isLt; have := a.isLt
  simp only [putF]; omega
theorem resumeEnd (d : BitVec 6) (a : BitVec 6) : Statement (.resumeEnd d a) := by
  intro w' h; cases h; have := d.isLt; have := a.isLt
  simp only [putF]; omega
theorem lend (d : BitVec 6) (a : BitVec 6) : Statement (.lend d a) := by
  intro w' h; cases h; have := d.isLt; have := a.isLt
  simp only [putF]; omega
theorem reclaim (d : BitVec 6) (a : BitVec 6) : Statement (.reclaim d a) := by
  intro w' h; cases h; have := d.isLt; have := a.isLt
  simp only [putF]; omega
theorem gcallImm (p : BitVec 3) (n : BitVec 7) : Statement (.gcallImm p n) := by
  intro w' h; cases h; have := p.isLt; have := n.isLt
  simp only [putF]; omega
theorem gcallReg (p : BitVec 3) (b : BitVec 6) : Statement (.gcallReg p b) := by
  intro w' h; cases h; have := p.isLt; have := b.isLt
  simp only [putF]; omega
theorem gret : Statement .gret := by intro w h; cases h; decide
theorem kslot (d : BitVec 6) (a : BitVec 6) : Statement (.kslot d a) := by
  intro w' h; cases h; have := d.isLt; have := a.isLt
  simp only [putF]; omega
theorem kzero (d : BitVec 6) (a : BitVec 6) : Statement (.kzero d a) := by
  intro w' h; cases h; have := d.isLt; have := a.isLt
  simp only [putF]; omega
theorem scrub (d : BitVec 6) (a : BitVec 6) : Statement (.scrub d a) := by
  intro w' h; cases h; have := d.isLt; have := a.isLt
  simp only [putF]; omega
theorem wlatch (d : BitVec 6) (a : BitVec 6) : Statement (.wlatch d a) := by
  intro w' h; cases h; have := d.isLt; have := a.isLt
  simp only [putF]; omega
theorem fset (d : BitVec 6) (a : BitVec 6) : Statement (.fset d a) := by
  intro w' h; cases h; have := d.isLt; have := a.isLt
  simp only [putF]; omega
theorem attestEvidence (d : BitVec 6) (a : BitVec 6) : Statement (.attestEvidence d a) := by
  intro w' h; cases h; have := d.isLt; have := a.isLt
  simp only [putF]; omega
theorem attestEphemeral (d : BitVec 6) (a : BitVec 6) : Statement (.attestEphemeral d a) := by
  intro w' h; cases h; have := d.isLt; have := a.isLt
  simp only [putF]; omega
theorem attestRelease (d : BitVec 6) (a : BitVec 6) : Statement (.attestRelease d a) := by
  intro w' h; cases h; have := d.isLt; have := a.isLt
  simp only [putF]; omega
theorem meas (d : BitVec 6) (a : BitVec 6) : Statement (.meas d a) := by
  intro w' h; cases h; have := d.isLt; have := a.isLt
  simp only [putF]; omega
theorem migrSet (d : BitVec 6) (a : BitVec 6) : Statement (.migrSet d a) := by
  intro w' h; cases h; have := d.isLt; have := a.isLt
  simp only [putF]; omega
theorem migrSave (d : BitVec 6) (a : BitVec 6) : Statement (.migrSave d a) := by
  intro w' h; cases h; have := d.isLt; have := a.isLt
  simp only [putF]; omega
theorem migrLoad (d : BitVec 6) (a : BitVec 6) : Statement (.migrLoad d a) := by
  intro w' h; cases h; have := d.isLt; have := a.isLt
  simp only [putF]; omega
theorem storeQueueDrain (team group : Nat) : Statement (.storeQueueDrain team group) := by intro w h; cases h
theorem loadDataArrive (team group op sel : Nat) : Statement (.loadDataArrive team group op sel) := by intro w h; cases h
theorem rendezvousClose (team idx : Nat) : Statement (.rendezvousClose team idx) := by intro w h; cases h
theorem contextSaveComplete (team : Nat) : Statement (.contextSaveComplete team) := by intro w h; cases h
theorem teamRetire (team : Nat) : Statement (.teamRetire team) := by intro w h; cases h
theorem storeApply (core idx : Nat) : Statement (.storeApply core idx) := by intro w h; cases h
theorem atomicApply (core idx : Nat) : Statement (.atomicApply core idx) := by intro w h; cases h
theorem acczApply (core op : Nat) : Statement (.acczApply core op) := by intro w h; cases h
theorem wavefrontComplete (core op : Nat) : Statement (.wavefrontComplete core op) := by intro w h; cases h
theorem copyComplete (op : Nat) : Statement (.copyComplete op) := by intro w h; cases h
theorem cplComplete (op : Nat) : Statement (.cplComplete op) := by intro w h; cases h
theorem enqRecordCopy (idx : Nat) : Statement (.enqRecordCopy idx) := by intro w h; cases h
theorem txCommit (idx held : Nat) : Statement (.txCommit idx held) := by intro w h; cases h
theorem iodbMark (idx : Nat) : Statement (.iodbMark idx) := by intro w h; cases h
theorem doorbellWrite (idx : Nat) : Statement (.doorbellWrite idx) := by intro w h; cases h
theorem expanderWriteComplete (idx : Nat) : Statement (.expanderWriteComplete idx) := by intro w h; cases h
theorem scReservationGrant (line : Nat) : Statement (.scReservationGrant line) := by intro w h; cases h
theorem teamPlace (pid : Nat) : Statement (.teamPlace pid) := by intro w h; cases h
theorem scrubUnit (die : Nat) : Statement (.scrubUnit die) := by intro w h; cases h
theorem pageWalkComplete (core fen va : Nat) : Statement (.pageWalkComplete core fen va) := by intro w h; cases h
theorem parkTimeout (idx : Nat) : Statement (.parkTimeout idx) := by intro w h; cases h
theorem scStampRollover  : Statement (.scStampRollover) := by intro w h; cases h
theorem reorderFlushTimeout (pid idx : Nat) : Statement (.reorderFlushTimeout pid idx) := by intro w h; cases h
theorem parkThresholdSwap (team : Nat) : Statement (.parkThresholdSwap team) := by intro w h; cases h
theorem timeSliceExpiry (pid : Nat) : Statement (.timeSliceExpiry pid) := by intro w h; cases h
theorem portTrain (port value : Nat) : Statement (.portTrain port value) := by intro w h; cases h
theorem groupBifurcate (grp value : Nat) : Statement (.groupBifurcate grp value) := by intro w h; cases h
theorem linkPartnerDetect (port rate width flit : Nat) : Statement (.linkPartnerDetect port rate width flit) := by intro w h; cases h
theorem laneFailure (port width : Nat) : Statement (.laneFailure port width) := by intro w h; cases h
theorem deviceRemoval (port : Nat) : Statement (.deviceRemoval port) := by intro w h; cases h
theorem deviceMemoryRequest (port rid pasid addr len data flags : Nat) : Statement (.deviceMemoryRequest port rid pasid addr len data flags) := by intro w h; cases h
theorem atsTranslationRequest (port rid pasid addr : Nat) : Statement (.atsTranslationRequest port rid pasid addr) := by intro w h; cases h
theorem atsInvalidateCompletion (fen : Nat) : Statement (.atsInvalidateCompletion fen) := by intro w h; cases h
theorem pageRequestMessage (port rid pasid addr acc prgi last : Nat) : Statement (.pageRequestMessage port rid pasid addr acc prgi last) := by intro w h; cases h
theorem msixMessage (port data addr : Nat) : Statement (.msixMessage port data addr) := by intro w h; cases h
theorem legacyInterruptMessage (port : Nat) : Statement (.legacyInterruptMessage port) := by intro w h; cases h
theorem ntbIncomingRequest (port addr len data flags : Nat) : Statement (.ntbIncomingRequest port addr len data flags) := by intro w h; cases h
theorem cfgCompletion (idx status data : Nat) : Statement (.cfgCompletion idx status data) := by intro w h; cases h
theorem cfgCompletionTimeout (idx : Nat) : Statement (.cfgCompletionTimeout idx) := by intro w h; cases h
theorem qhLoad (handle : Nat) : Statement (.qhLoad handle) := by intro w h; cases h
theorem qhRetire (handle : Nat) : Statement (.qhRetire handle) := by intro w h; cases h
theorem remapWrite (entry word value : Nat) : Statement (.remapWrite entry word value) := by intro w h; cases h
theorem hostDoorbellWrite (fn : Nat) : Statement (.hostDoorbellWrite fn) := by intro w h; cases h
theorem featOk (lo hi : Nat) : Statement (.featOk lo hi) := by intro w h; cases h
theorem functionLevelReset (fn : Nat) : Statement (.functionLevelReset fn) := by intro w h; cases h
theorem dstQueueWrite (pid queue word value : Nat) : Statement (.dstQueueWrite pid queue word value) := by intro w h; cases h
theorem dstJbaseWrite (pid value : Nat) : Statement (.dstJbaseWrite pid value) := by intro w h; cases h
theorem dstFqbaseWrite (pid value : Nat) : Statement (.dstFqbaseWrite pid value) := by intro w h; cases h
theorem dstFqrdWrite (pid value : Nat) : Statement (.dstFqrdWrite pid value) := by intro w h; cases h
theorem dstHoldClear (pid word value : Nat) : Statement (.dstHoldClear pid word value) := by intro w h; cases h
theorem partitionMake (first size : Nat) : Statement (.partitionMake first size) := by intro w h; cases h
theorem partitionUnmake (first size : Nat) : Statement (.partitionUnmake first size) := by intro w h; cases h
theorem gateTableInvalidate  : Statement (.gateTableInvalidate) := by intro w h; cases h
theorem copyEngineAssign (engine value : Nat) : Statement (.copyEngineAssign engine value) := by intro w h; cases h
theorem copyEngineAssignEffect (engine : Nat) : Statement (.copyEngineAssignEffect engine) := by intro w h; cases h
theorem scrubResume (die : Nat) : Statement (.scrubResume die) := by intro w h; cases h
theorem fenMeasurementSave (fen : Nat) : Statement (.fenMeasurementSave fen) := by intro w h; cases h
theorem systemCoreRestart (die : Nat) : Statement (.systemCoreRestart die) := by intro w h; cases h
theorem spareSubstitute (die core : Nat) : Statement (.spareSubstitute die core) := by intro w h; cases h
theorem coreRetire (die core : Nat) : Statement (.coreRetire die core) := by intro w h; cases h
theorem channelRetire (die slice ch : Nat) : Statement (.channelRetire die slice ch) := by intro w h; cases h
theorem firmwareHandover  : Statement (.firmwareHandover) := by intro w h; cases h
theorem powerModeWrite (value : Nat) : Statement (.powerModeWrite value) := by intro w h; cases h
theorem powerModeEffect  : Statement (.powerModeEffect) := by intro w h; cases h
theorem partitionGate (pid : Nat) : Statement (.partitionGate pid) := by intro w h; cases h
theorem partitionUngate (pid : Nat) : Statement (.partitionUngate pid) := by intro w h; cases h
theorem mclogPop (die : Nat) : Statement (.mclogPop die) := by intro w h; cases h
theorem splitEffect (core : Nat) : Statement (.splitEffect core) := by intro w h; cases h
theorem timecmpEvent (die : Nat) : Statement (.timecmpEvent die) := by intro w h; cases h
theorem powerCapEngage  : Statement (.powerCapEngage) := by intro w h; cases h
theorem powerCapRelease  : Statement (.powerCapRelease) := by intro w h; cases h
theorem thermalCap (die : Nat) : Statement (.thermalCap die) := by intro w h; cases h
theorem thermalTrip (die : Nat) : Statement (.thermalTrip die) := by intro w h; cases h
theorem thermalRecovery  : Statement (.thermalRecovery) := by intro w h; cases h
theorem thermalShutdown (die : Nat) : Statement (.thermalShutdown die) := by intro w h; cases h
theorem coreUncorrectableError (core intact : Nat) : Statement (.coreUncorrectableError core intact) := by intro w h; cases h
theorem linkDataLoss (link : Nat) (intact : List Nat) (lost : List Nat) : Statement (.linkDataLoss link intact lost) := by intro w h; cases h
theorem coldReset  : Statement (.coldReset) := by intro w h; cases h
theorem warmReset  : Statement (.warmReset) := by intro w h; cases h
theorem registerWrite (pa value : Nat) : Statement (.registerWrite pa value) := by intro w h; cases h
theorem deviceReadCompletionTimeout (team group op : Nat) : Statement (.deviceReadCompletionTimeout team group op) := by intro w h; cases h

end Words
end Sys2Proof.Laws
end

