-- ==== Sys2Proof/Laws/Words.lean ====
section
/-!
SUPPORT. What each word declares to the issue engine, constructor by constructor: with these the checks before a word's own
effect need no unfolding of its meaning.
-/
namespace Sys2Proof.Machine

/-- A word goes through the issue engine with what `Word.declares` says of it. -/
def Declared (c : Ctx) (s : State) (i : Instr) : Prop :=
  s.ctx = some c → ∃ (x : Word) (act : Ctx → State → Res), exec i s = issue x act s ∧ x.declares c s i

theorem State.issuingTy_eq (s : State) (c : Ctx) (h : s.ctx = some c) : s.issuingTy = c.ty := by simp [State.issuingTy, h]

theorem State.issuer_eq (s : State) (c : Ctx) (h : s.ctx = some c) (b : Bool) (f : Ctx → Bool) :
    (b && s.issuer f) = (b && f c) := by simp [State.issuer, h]

/-- What a word declares, part by part: a check is that of its own rule, or passes. -/
theorem Word.declares_of {x : Word} {c : Ctx} {s : State} {i : Instr} (vs : x.vs = (namedRegs c i).vs)
    (ss : x.ss = (namedRegs c i).ss) (pairs : x.pairs c = (namedRegs c i).pairs)
    (legal : x.legal = (wellFormed i && fieldsFit c i)) (pre : ownCheck x.op = true ∨ x.pre c s = .ok ())
    (lanes : ownLanes x.op = true ∨ x.lanesOk c s = quadCheck c i) (ready : ownReady x.op = true ∨ x.ready c s = true)
    (engine : x.op = 0x1B0 ∨ x.engineOk c s = .ok ())
    (always : x.always c = (decide (x.op = 0x1C0) || (within 0x162 0x164 x.op && decide (c.gang ≠ []))))
    (soft : x.soft = decide (x.op = 0x128)) : x.declares c s i := by
  refine ⟨vs, ss, pairs, legal, fun h => ?_, fun h => ?_, fun h => ?_, fun h => ?_, ?_, ?_⟩
  · simpa [h] using pre
  · simpa [h] using lanes
  · simpa [h] using ready
  · simpa [h] using engine
  · simp [always]
  · simp [soft]

theorem declares_nop (c : Ctx) (s : State) (i : BitVec 23) : Declared c s (.nop i) := by
  intro _; rw [exec_nop]; delta execNop issueG
  exact ⟨_, _, rfl, Word.declares_of rfl rfl rfl (Bool.and_true _).symm (.inr rfl) (.inr rfl) (.inr rfl) (.inr rfl) rfl rfl⟩

theorem declares_setm (c : Ctx) (s : State) (m : BitVec 23) : Declared c s (.setm m) := by
  intro _; rw [exec_setm]; delta execSetm issueG
  exact ⟨_, _, rfl, Word.declares_of rfl rfl rfl (Bool.and_true _).symm (.inl rfl) (.inr rfl) (.inr rfl) (.inr rfl) rfl rfl⟩

theorem declares_gets (c : Ctx) (s : State) (d : BitVec 6) (i : BitVec 9) : Declared c s (.gets d i) := by
  intro _; rw [exec_gets]; delta execGets
  exact ⟨_, _, rfl, Word.declares_of rfl rfl rfl (Bool.and_true _).symm (.inr rfl) (.inr rfl) (.inr rfl) (.inr rfl) rfl rfl⟩

theorem declares_getv (c : Ctx) (s : State) (d : BitVec 7) (i : BitVec 9) : Declared c s (.getv d i) := by
  intro _; rw [exec_getv]; delta execGetv
  exact ⟨_, _, rfl, Word.declares_of rfl rfl rfl (Bool.and_true _).symm (.inr rfl) (.inr rfl) (.inr rfl) (.inr rfl) rfl rfl⟩

theorem declares_br (c : Ctx) (s : State) (h' : BitVec 2) (q : BitVec 3) (n : BitVec 1) (o : BitVec 17) : Declared c s (.br h' q n o) := by
  intro _; rw [exec_br]; delta execBr
  exact ⟨_, _, rfl, Word.declares_of rfl rfl rfl (Bool.and_true _).symm (.inr rfl) (.inr rfl) (.inr rfl) (.inr rfl) rfl rfl⟩

theorem declares_jmp (c : Ctx) (s : State) (hx : BitVec 6) (o : BitVec 17) : Declared c s (.jmp hx o) := by
  intro _; rw [exec_jmp]; delta execJmp transferWord
  exact ⟨_, _, rfl, Word.declares_of rfl rfl rfl (Bool.and_true _).symm (.inl rfl) (.inr rfl) (.inr rfl) (.inr rfl) rfl rfl⟩

theorem declares_jr (c : Ctx) (s : State) (a : BitVec 6) : Declared c s (.jr a) := by
  intro _; rw [exec_jr]; delta execJr transferWord
  exact ⟨_, _, rfl, Word.declares_of rfl rfl rfl (Bool.and_true _).symm (.inl rfl) (.inr rfl) (.inr rfl) (.inr rfl) rfl rfl⟩

theorem declares_call (c : Ctx) (s : State) (hx : BitVec 6) (o : BitVec 17) : Declared c s (.call hx o) := by
  intro _; rw [exec_call]; delta execCall transferWord
  exact ⟨_, _, rfl, Word.declares_of rfl rfl rfl (Bool.and_true _).symm (.inl rfl) (.inr rfl) (.inr rfl) (.inr rfl) rfl rfl⟩

theorem declares_ret (c : Ctx) (s : State) (a : BitVec 6) : Declared c s (.ret a) := by
  intro _; rw [exec_ret]; delta execRet transferWord
  exact ⟨_, _, rfl, Word.declares_of rfl rfl rfl (Bool.and_true _).symm (.inl rfl) (.inr rfl) (.inr rfl) (.inr rfl) rfl rfl⟩

theorem declares_recon (c : Ctx) (s : State) (o : BitVec 17) : Declared c s (.recon o) := by
  intro _; rw [exec_recon]; delta execRecon
  exact ⟨_, _, rfl, Word.declares_of rfl rfl rfl (Bool.and_true _).symm (.inr rfl) (.inr rfl) (.inr rfl) (.inr rfl) rfl rfl⟩

theorem declares_join (c : Ctx) (s : State) : Declared c s (.join) := by
  intro _; rw [exec_join]; delta execJoin
  exact ⟨_, _, rfl, Word.declares_of rfl rfl rfl (Bool.and_true _).symm (.inr rfl) (.inr rfl) (.inr rfl) (.inr rfl) rfl rfl⟩

theorem declares_loop (c : Ctx) (s : State) (l : BitVec 2) (c' : BitVec 1) (n : BitVec 10) (e : BitVec 10) : Declared c s (.loop l c' n e) := by
  intro h; rw [exec_loop]; delta execLoop
  exact ⟨_, _, rfl, Word.declares_of rfl rfl rfl (s.issuer_eq c h _ _) (.inl rfl) (.inr rfl) (.inr rfl) (.inr rfl) rfl rfl⟩

theorem declares_lbrk (c : Ctx) (s : State) (h' : BitVec 2) (q : BitVec 3) (n : BitVec 1) (o : BitVec 17) : Declared c s (.lbrk h' q n o) := by
  intro _; rw [exec_lbrk]; delta execLbrk
  exact ⟨_, _, rfl, Word.declares_of rfl rfl rfl (Bool.and_true _).symm (.inr rfl) (.inr rfl) (.inr rfl) (.inr rfl) rfl rfl⟩

theorem declares_exit (c : Ctx) (s : State) : Declared c s (.exit) := by
  intro _; rw [exec_exit]; delta execExit
  exact ⟨_, _, rfl, Word.declares_of rfl rfl rfl (Bool.and_true _).symm (.inr rfl) (.inr rfl) (.inr rfl) (.inr rfl) rfl rfl⟩

theorem declares_yield (c : Ctx) (s : State) : Declared c s (.yield) := by
  intro _; rw [exec_yield]; delta execYield issueG
  exact ⟨_, _, rfl, Word.declares_of rfl rfl rfl (Bool.and_true _).symm (.inr rfl) (.inr rfl) (.inr rfl) (.inr rfl) rfl rfl⟩

theorem declares_wait (c : Ctx) (s : State) (f : BitVec 12) : Declared c s (.wait f) := by
  intro _; rw [exec_wait]; delta execWait
  exact ⟨_, _, rfl, Word.declares_of rfl rfl rfl (Bool.and_true _).symm (.inr rfl) (.inr rfl) (.inr rfl) (.inr rfl) rfl rfl⟩

theorem declares_trap (c : Ctx) (s : State) (n : BitVec 16) : Declared c s (.trap n) := by
  intro _; rw [exec_trap]; delta execTrap trapWord
  exact ⟨_, _, rfl, Word.declares_of rfl rfl rfl (Bool.and_true _).symm (.inr rfl) (.inr rfl) (.inr rfl) (.inr rfl) rfl rfl⟩

theorem declares_sys (c : Ctx) (s : State) (n : BitVec 16) : Declared c s (.sys n) := by
  intro _; rw [exec_sys]; delta execSys trapWord
  exact ⟨_, _, rfl, Word.declares_of rfl rfl rfl (Bool.and_true _).symm (.inr rfl) (.inr rfl) (.inr rfl) (.inr rfl) rfl rfl⟩

theorem declares_fbpt (c : Ctx) (s : State) (n : BitVec 6) : Declared c s (.fbpt n) := by
  intro _; rw [exec_fbpt]; delta execFbpt
  exact ⟨_, _, rfl, Word.declares_of rfl rfl rfl (Bool.and_true _).symm (.inl rfl) (.inr rfl) (.inr rfl) (.inr rfl) rfl rfl⟩

theorem declares_eret (c : Ctx) (s : State) : Declared c s (.eret) := by
  intro _; rw [exec_eret]; delta execEret
  exact ⟨_, _, rfl, Word.declares_of rfl rfl rfl (Bool.and_true _).symm (.inr rfl) (.inr rfl) (.inr rfl) (.inr rfl) rfl rfl⟩

theorem declares_halt (c : Ctx) (s : State) : Declared c s (.halt) := by
  intro _; rw [exec_halt]; delta execHalt
  exact ⟨_, _, rfl, Word.declares_of rfl rfl rfl (Bool.and_true _).symm (.inr rfl) (.inr rfl) (.inr rfl) (.inr rfl) rfl rfl⟩

theorem declares_srd (c : Ctx) (s : State) (d : BitVec 6) (r : BitVec 9) : Declared c s (.srd d r) := by
  intro _; rw [exec_srd]; delta execSrd
  exact ⟨_, _, rfl, Word.declares_of rfl rfl rfl (Bool.and_true _).symm (.inl rfl) (.inr rfl) (.inr rfl) (.inr rfl) rfl rfl⟩

theorem declares_swr (c : Ctx) (s : State) (a : BitVec 6) (r : BitVec 9) : Declared c s (.swr a r) := by
  intro _; rw [exec_swr]; delta execSwr
  exact ⟨_, _, rfl, Word.declares_of rfl rfl rfl (Bool.and_true _).symm (.inl rfl) (.inr rfl) (.inr rfl) (.inr rfl) rfl rfl⟩

theorem declares_sadd (c : Ctx) (s : State) (b : Src) (d : BitVec 6) (a : BitVec 6) : Declared c s (.sadd b d a) := by
  intro _; rw [exec_sadd]; delta execSadd uni2 issueG
  exact ⟨_, _, rfl, Word.declares_of rfl rfl rfl (Bool.and_true _).symm (.inr rfl) (.inr rfl) (.inr rfl) (.inr rfl) rfl rfl⟩

theorem declares_ssub (c : Ctx) (s : State) (b : Src) (d : BitVec 6) (a : BitVec 6) : Declared c s (.ssub b d a) := by
  intro _; rw [exec_ssub]; delta execSsub uni2 issueG
  exact ⟨_, _, rfl, Word.declares_of rfl rfl rfl (Bool.and_true _).symm (.inr rfl) (.inr rfl) (.inr rfl) (.inr rfl) rfl rfl⟩

theorem declares_smul (c : Ctx) (s : State) (b : Src) (d : BitVec 6) (a : BitVec 6) : Declared c s (.smul b d a) := by
  intro _; rw [exec_smul]; delta execSmul uni2 issueG
  exact ⟨_, _, rfl, Word.declares_of rfl rfl rfl (Bool.and_true _).symm (.inr rfl) (.inr rfl) (.inr rfl) (.inr rfl) rfl rfl⟩

theorem declares_smulh (c : Ctx) (s : State) (b : Src) (d : BitVec 6) (a : BitVec 6) : Declared c s (.smulh b d a) := by
  intro _; rw [exec_smulh]; delta execSmulh uni2 issueG
  exact ⟨_, _, rfl, Word.declares_of rfl rfl rfl (Bool.and_true _).symm (.inr rfl) (.inr rfl) (.inr rfl) (.inr rfl) rfl rfl⟩

theorem declares_sand (c : Ctx) (s : State) (b : Src) (d : BitVec 6) (a : BitVec 6) : Declared c s (.sand b d a) := by
  intro _; rw [exec_sand]; delta execSand uni2 issueG
  exact ⟨_, _, rfl, Word.declares_of rfl rfl rfl (Bool.and_true _).symm (.inr rfl) (.inr rfl) (.inr rfl) (.inr rfl) rfl rfl⟩

theorem declares_sor (c : Ctx) (s : State) (b : Src) (d : BitVec 6) (a : BitVec 6) : Declared c s (.sor b d a) := by
  intro _; rw [exec_sor]; delta execSor uni2 issueG
  exact ⟨_, _, rfl, Word.declares_of rfl rfl rfl (Bool.and_true _).symm (.inr rfl) (.inr rfl) (.inr rfl) (.inr rfl) rfl rfl⟩

theorem declares_sxor (c : Ctx) (s : State) (b : Src) (d : BitVec 6) (a : BitVec 6) : Declared c s (.sxor b d a) := by
  intro _; rw [exec_sxor]; delta execSxor uni2 issueG
  exact ⟨_, _, rfl, Word.declares_of rfl rfl rfl (Bool.and_true _).symm (.inr rfl) (.inr rfl) (.inr rfl) (.inr rfl) rfl rfl⟩

theorem declares_sshl (c : Ctx) (s : State) (b : Src) (d : BitVec 6) (a : BitVec 6) : Declared c s (.sshl b d a) := by
  intro _; rw [exec_sshl]; delta execSshl uni2 issueG
  exact ⟨_, _, rfl, Word.declares_of rfl rfl rfl (Bool.and_true _).symm (.inr rfl) (.inr rfl) (.inr rfl) (.inr rfl) rfl rfl⟩

theorem declares_sshr (c : Ctx) (s : State) (b : Src) (d : BitVec 6) (a : BitVec 6) : Declared c s (.sshr b d a) := by
  intro _; rw [exec_sshr]; delta execSshr uni2 issueG
  exact ⟨_, _, rfl, Word.declares_of rfl rfl rfl (Bool.and_true _).symm (.inr rfl) (.inr rfl) (.inr rfl) (.inr rfl) rfl rfl⟩

theorem declares_ssra (c : Ctx) (s : State) (b : Src) (d : BitVec 6) (a : BitVec 6) : Declared c s (.ssra b d a) := by
  intro _; rw [exec_ssra]; delta execSsra uni2 issueG
  exact ⟨_, _, rfl, Word.declares_of rfl rfl rfl (Bool.and_true _).symm (.inr rfl) (.inr rfl) (.inr rfl) (.inr rfl) rfl rfl⟩

theorem declares_smin (c : Ctx) (s : State) (b : Src) (d : BitVec 6) (a : BitVec 6) : Declared c s (.smin b d a) := by
  intro _; rw [exec_smin]; delta execSmin uni2 issueG
  exact ⟨_, _, rfl, Word.declares_of rfl rfl rfl (Bool.and_true _).symm (.inr rfl) (.inr rfl) (.inr rfl) (.inr rfl) rfl rfl⟩

theorem declares_smax (c : Ctx) (s : State) (b : Src) (d : BitVec 6) (a : BitVec 6) : Declared c s (.smax b d a) := by
  intro _; rw [exec_smax]; delta execSmax uni2 issueG
  exact ⟨_, _, rfl, Word.declares_of rfl rfl rfl (Bool.and_true _).symm (.inr rfl) (.inr rfl) (.inr rfl) (.inr rfl) rfl rfl⟩

theorem declares_scmp (c : Ctx) (s : State) (b : Src) (c' : Cc) (p : BitVec 3) (a : BitVec 6) : Declared c s (.scmp b c' p a) := by
  intro _; rw [exec_scmp]; delta execScmp issueG
  exact ⟨_, _, rfl, Word.declares_of rfl rfl rfl (Bool.and_true _).symm (.inr rfl) (.inr rfl) (.inr rfl) (.inr rfl) rfl rfl⟩

theorem declares_ssel (c : Ctx) (s : State) (b : Src) (d : BitVec 6) (a : BitVec 6) : Declared c s (.ssel b d a) := by
  intro _; rw [exec_ssel]; delta execSsel issueG
  exact ⟨_, _, rfl, Word.declares_of rfl rfl rfl (Bool.and_true _).symm (.inr rfl) (.inr rfl) (.inr rfl) (.inr rfl) rfl rfl⟩

theorem declares_smov (c : Ctx) (s : State) (b : Src) (d : BitVec 6) : Declared c s (.smov b d) := by
  intro _; rw [exec_smov]; delta execSmov issueG
  exact ⟨_, _, rfl, Word.declares_of rfl rfl rfl (Bool.and_true _).symm (.inr rfl) (.inr rfl) (.inr rfl) (.inr rfl) rfl rfl⟩

theorem declares_smovi (c : Ctx) (s : State) (d : BitVec 6) (i : BitVec 16) : Declared c s (.smovi d i) := by
  intro _; rw [exec_smovi]; delta execSmovi issueG
  exact ⟨_, _, rfl, Word.declares_of rfl rfl rfl (Bool.and_true _).symm (.inr rfl) (.inr rfl) (.inr rfl) (.inr rfl) rfl rfl⟩

theorem declares_smovh (c : Ctx) (s : State) (d : BitVec 6) (i : BitVec 16) : Declared c s (.smovh d i) := by
  intro _; rw [exec_smovh]; delta execSmovh issueG
  exact ⟨_, _, rfl, Word.declares_of rfl rfl rfl (Bool.and_true _).symm (.inr rfl) (.inr rfl) (.inr rfl) (.inr rfl) rfl rfl⟩

theorem declares_smovx (c : Ctx) (s : State) (d : BitVec 6) (i : BitVec 16) : Declared c s (.smovx d i) := by
  intro _; rw [exec_smovx]; delta execSmovx issueG
  exact ⟨_, _, rfl, Word.declares_of rfl rfl rfl (Bool.and_true _).symm (.inr rfl) (.inr rfl) (.inr rfl) (.inr rfl) rfl rfl⟩

theorem declares_smovy (c : Ctx) (s : State) (d : BitVec 6) (i : BitVec 16) : Declared c s (.smovy d i) := by
  intro _; rw [exec_smovy]; delta execSmovy issueG
  exact ⟨_, _, rfl, Word.declares_of rfl rfl rfl (Bool.and_true _).symm (.inr rfl) (.inr rfl) (.inr rfl) (.inr rfl) rfl rfl⟩

theorem declares_sclz (c : Ctx) (s : State) (d : BitVec 6) (a : BitVec 6) : Declared c s (.sclz d a) := by
  intro _; rw [exec_sclz]; delta execSclz issueG
  exact ⟨_, _, rfl, Word.declares_of rfl rfl rfl (Bool.and_true _).symm (.inr rfl) (.inr rfl) (.inr rfl) (.inr rfl) rfl rfl⟩

theorem declares_spop (c : Ctx) (s : State) (d : BitVec 6) (a : BitVec 6) : Declared c s (.spop d a) := by
  intro _; rw [exec_spop]; delta execSpop issueG
  exact ⟨_, _, rfl, Word.declares_of rfl rfl rfl (Bool.and_true _).symm (.inr rfl) (.inr rfl) (.inr rfl) (.inr rfl) rfl rfl⟩

theorem declares_sld (c : Ctx) (s : State) (d : BitVec 6) (s' : BitVec 6) : Declared c s (.sld d s') := by
  intro _; rw [exec_sld]; delta execSld
  exact ⟨_, _, rfl, Word.declares_of rfl rfl rfl (Bool.and_true _).symm (.inr rfl) (.inr rfl) (.inr rfl) (.inr rfl) rfl rfl⟩

theorem declares_sst (c : Ctx) (s : State) (d : BitVec 6) (s' : BitVec 6) : Declared c s (.sst d s') := by
  intro _; rw [exec_sst]; delta execSst
  exact ⟨_, _, rfl, Word.declares_of rfl rfl rfl (Bool.and_true _).symm (.inr rfl) (.inr rfl) (.inr rfl) (.inr rfl) rfl rfl⟩

theorem declares_pand (c : Ctx) (s : State) (d : BitVec 3) (a : BitVec 3) (b : BitVec 3) : Declared c s (.pand d a b) := by
  intro _; rw [exec_pand]; delta execPand predW issueG
  exact ⟨_, _, rfl, Word.declares_of rfl rfl rfl (Bool.and_true _).symm (.inr rfl) (.inr rfl) (.inr rfl) (.inr rfl) rfl rfl⟩

theorem declares_por (c : Ctx) (s : State) (d : BitVec 3) (a : BitVec 3) (b : BitVec 3) : Declared c s (.por d a b) := by
  intro _; rw [exec_por]; delta execPor predW issueG
  exact ⟨_, _, rfl, Word.declares_of rfl rfl rfl (Bool.and_true _).symm (.inr rfl) (.inr rfl) (.inr rfl) (.inr rfl) rfl rfl⟩

theorem declares_pxor (c : Ctx) (s : State) (d : BitVec 3) (a : BitVec 3) (b : BitVec 3) : Declared c s (.pxor d a b) := by
  intro _; rw [exec_pxor]; delta execPxor predW issueG
  exact ⟨_, _, rfl, Word.declares_of rfl rfl rfl (Bool.and_true _).symm (.inr rfl) (.inr rfl) (.inr rfl) (.inr rfl) rfl rfl⟩

theorem declares_pnot (c : Ctx) (s : State) (d : BitVec 3) (a : BitVec 3) : Declared c s (.pnot d a) := by
  intro _; rw [exec_pnot]; delta execPnot predW issueG
  exact ⟨_, _, rfl, Word.declares_of rfl rfl rfl (Bool.and_true _).symm (.inr rfl) (.inr rfl) (.inr rfl) (.inr rfl) rfl rfl⟩

theorem declares_pany (c : Ctx) (s : State) (d : BitVec 6) (a : BitVec 3) : Declared c s (.pany d a) := by
  intro _; rw [exec_pany]; delta execPany issueG
  exact ⟨_, _, rfl, Word.declares_of rfl rfl rfl (Bool.and_true _).symm (.inr rfl) (.inr rfl) (.inr rfl) (.inr rfl) rfl rfl⟩

theorem declares_pall (c : Ctx) (s : State) (d : BitVec 6) (a : BitVec 3) : Declared c s (.pall d a) := by
  intro _; rw [exec_pall]; delta execPall issueG
  exact ⟨_, _, rfl, Word.declares_of rfl rfl rfl (Bool.and_true _).symm (.inr rfl) (.inr rfl) (.inr rfl) (.inr rfl) rfl rfl⟩

theorem declares_pmov (c : Ctx) (s : State) (b : Src) (d : BitVec 3) : Declared c s (.pmov b d) := by
  intro _; rw [exec_pmov]; delta execPmov issueG
  exact ⟨_, _, rfl, Word.declares_of rfl rfl rfl (Bool.and_true _).symm (.inr rfl) (.inr rfl) (.inr rfl) (.inr rfl) rfl rfl⟩

theorem declares_vadd (c : Ctx) (s : State) (b : Src) (d : BitVec 7) (a : BitVec 7) : Declared c s (.vadd b d a) := by
  intro _; rw [exec_vadd]; delta execVadd vec issueG
  exact ⟨_, _, rfl, Word.declares_of rfl rfl rfl (Bool.and_true _).symm (.inl rfl) (.inr rfl) (.inr rfl) (.inr rfl) rfl rfl⟩

theorem declares_vsub (c : Ctx) (s : State) (b : Src) (d : BitVec 7) (a : BitVec 7) : Declared c s (.vsub b d a) := by
  intro _; rw [exec_vsub]; delta execVsub vec issueG
  exact ⟨_, _, rfl, Word.declares_of rfl rfl rfl (Bool.and_true _).symm (.inl rfl) (.inr rfl) (.inr rfl) (.inr rfl) rfl rfl⟩

theorem declares_vmul (c : Ctx) (s : State) (b : Src) (d : BitVec 7) (a : BitVec 7) : Declared c s (.vmul b d a) := by
  intro _; rw [exec_vmul]; delta execVmul vec issueG
  exact ⟨_, _, rfl, Word.declares_of rfl rfl rfl (Bool.and_true _).symm (.inl rfl) (.inr rfl) (.inr rfl) (.inr rfl) rfl rfl⟩

theorem declares_vmulh (c : Ctx) (s : State) (b : Src) (d : BitVec 7) (a : BitVec 7) : Declared c s (.vmulh b d a) := by
  intro _; rw [exec_vmulh]; delta execVmulh vec issueG
  exact ⟨_, _, rfl, Word.declares_of rfl rfl rfl (Bool.and_true _).symm (.inl rfl) (.inr rfl) (.inr rfl) (.inr rfl) rfl rfl⟩

theorem declares_vmad (c : Ctx) (s : State) (b : Src) (d : BitVec 7) (a : BitVec 7) : Declared c s (.vmad b d a) := by
  intro _; rw [exec_vmad]; delta execVmad vec issueG
  exact ⟨_, _, rfl, Word.declares_of rfl rfl rfl (Bool.and_true _).symm (.inl rfl) (.inr rfl) (.inr rfl) (.inr rfl) rfl rfl⟩

theorem declares_vdiv (c : Ctx) (s : State) (b : Src) (d : BitVec 7) (a : BitVec 7) : Declared c s (.vdiv b d a) := by
  intro _; rw [exec_vdiv]; delta execVdiv vec issueG
  exact ⟨_, _, rfl, Word.declares_of rfl rfl rfl (Bool.and_true _).symm (.inl rfl) (.inr rfl) (.inr rfl) (.inr rfl) rfl rfl⟩

theorem declares_vrem (c : Ctx) (s : State) (b : Src) (d : BitVec 7) (a : BitVec 7) : Declared c s (.vrem b d a) := by
  intro _; rw [exec_vrem]; delta execVrem vec issueG
  exact ⟨_, _, rfl, Word.declares_of rfl rfl rfl (Bool.and_true _).symm (.inl rfl) (.inr rfl) (.inr rfl) (.inr rfl) rfl rfl⟩

theorem declares_vabs (c : Ctx) (s : State) (d : BitVec 7) (a : BitVec 7) : Declared c s (.vabs d a) := by
  intro _; rw [exec_vabs]; delta execVabs vec1 issueG
  exact ⟨_, _, rfl, Word.declares_of rfl rfl rfl (Bool.and_true _).symm (.inl rfl) (.inr rfl) (.inr rfl) (.inr rfl) rfl rfl⟩

theorem declares_vneg (c : Ctx) (s : State) (d : BitVec 7) (a : BitVec 7) : Declared c s (.vneg d a) := by
  intro _; rw [exec_vneg]; delta execVneg vec1 issueG
  exact ⟨_, _, rfl, Word.declares_of rfl rfl rfl (Bool.and_true _).symm (.inl rfl) (.inr rfl) (.inr rfl) (.inr rfl) rfl rfl⟩

theorem declares_vmin (c : Ctx) (s : State) (b : Src) (d : BitVec 7) (a : BitVec 7) : Declared c s (.vmin b d a) := by
  intro _; rw [exec_vmin]; delta execVmin vec issueG
  exact ⟨_, _, rfl, Word.declares_of rfl rfl rfl (Bool.and_true _).symm (.inl rfl) (.inr rfl) (.inr rfl) (.inr rfl) rfl rfl⟩

theorem declares_vmax (c : Ctx) (s : State) (b : Src) (d : BitVec 7) (a : BitVec 7) : Declared c s (.vmax b d a) := by
  intro _; rw [exec_vmax]; delta execVmax vec issueG
  exact ⟨_, _, rfl, Word.declares_of rfl rfl rfl (Bool.and_true _).symm (.inl rfl) (.inr rfl) (.inr rfl) (.inr rfl) rfl rfl⟩

theorem declares_vand (c : Ctx) (s : State) (b : Src) (d : BitVec 7) (a : BitVec 7) : Declared c s (.vand b d a) := by
  intro _; rw [exec_vand]; delta execVand vecRaw issueG
  exact ⟨_, _, rfl, Word.declares_of rfl rfl rfl (Bool.and_true _).symm (.inl rfl) (.inr rfl) (.inr rfl) (.inr rfl) rfl rfl⟩

theorem declares_vor (c : Ctx) (s : State) (b : Src) (d : BitVec 7) (a : BitVec 7) : Declared c s (.vor b d a) := by
  intro _; rw [exec_vor]; delta execVor vecRaw issueG
  exact ⟨_, _, rfl, Word.declares_of rfl rfl rfl (Bool.and_true _).symm (.inl rfl) (.inr rfl) (.inr rfl) (.inr rfl) rfl rfl⟩

theorem declares_vxor (c : Ctx) (s : State) (b : Src) (d : BitVec 7) (a : BitVec 7) : Declared c s (.vxor b d a) := by
  intro _; rw [exec_vxor]; delta execVxor vecRaw issueG
  exact ⟨_, _, rfl, Word.declares_of rfl rfl rfl (Bool.and_true _).symm (.inl rfl) (.inr rfl) (.inr rfl) (.inr rfl) rfl rfl⟩

theorem declares_vnot (c : Ctx) (s : State) (d : BitVec 7) (a : BitVec 7) : Declared c s (.vnot d a) := by
  intro _; rw [exec_vnot]; delta execVnot vecRaw issueG
  exact ⟨_, _, rfl, Word.declares_of rfl rfl rfl (Bool.and_true _).symm (.inl rfl) (.inr rfl) (.inr rfl) (.inr rfl) rfl rfl⟩

theorem declares_vshl (c : Ctx) (s : State) (b : Src) (d : BitVec 7) (a : BitVec 7) : Declared c s (.vshl b d a) := by
  intro _; rw [exec_vshl]; delta execVshl vec issueG
  exact ⟨_, _, rfl, Word.declares_of rfl rfl rfl (Bool.and_true _).symm (.inl rfl) (.inr rfl) (.inr rfl) (.inr rfl) rfl rfl⟩

theorem declares_vshr (c : Ctx) (s : State) (b : Src) (d : BitVec 7) (a : BitVec 7) : Declared c s (.vshr b d a) := by
  intro _; rw [exec_vshr]; delta execVshr vec issueG
  exact ⟨_, _, rfl, Word.declares_of rfl rfl rfl (Bool.and_true _).symm (.inl rfl) (.inr rfl) (.inr rfl) (.inr rfl) rfl rfl⟩

theorem declares_vsra (c : Ctx) (s : State) (b : Src) (d : BitVec 7) (a : BitVec 7) : Declared c s (.vsra b d a) := by
  intro _; rw [exec_vsra]; delta execVsra vec issueG
  exact ⟨_, _, rfl, Word.declares_of rfl rfl rfl (Bool.and_true _).symm (.inl rfl) (.inr rfl) (.inr rfl) (.inr rfl) rfl rfl⟩

theorem declares_vclz (c : Ctx) (s : State) (d : BitVec 7) (a : BitVec 7) : Declared c s (.vclz d a) := by
  intro _; rw [exec_vclz]; delta execVclz vec1 issueG
  exact ⟨_, _, rfl, Word.declares_of rfl rfl rfl (Bool.and_true _).symm (.inl rfl) (.inr rfl) (.inr rfl) (.inr rfl) rfl rfl⟩

theorem declares_vpop (c : Ctx) (s : State) (d : BitVec 7) (a : BitVec 7) : Declared c s (.vpop d a) := by
  intro _; rw [exec_vpop]; delta execVpop vec1 issueG
  exact ⟨_, _, rfl, Word.declares_of rfl rfl rfl (Bool.and_true _).symm (.inl rfl) (.inr rfl) (.inr rfl) (.inr rfl) rfl rfl⟩

theorem declares_vbrev (c : Ctx) (s : State) (d : BitVec 7) (a : BitVec 7) : Declared c s (.vbrev d a) := by
  intro _; rw [exec_vbrev]; delta execVbrev vec1 issueG
  exact ⟨_, _, rfl, Word.declares_of rfl rfl rfl (Bool.and_true _).symm (.inl rfl) (.inr rfl) (.inr rfl) (.inr rfl) rfl rfl⟩

theorem declares_vbfx (c : Ctx) (s : State) (b : Src) (d : BitVec 7) (a : BitVec 7) : Declared c s (.vbfx b d a) := by
  intro _; rw [exec_vbfx]; delta execVbfx vec issueG
  exact ⟨_, _, rfl, Word.declares_of rfl rfl rfl (Bool.and_true _).symm (.inl rfl) (.inr rfl) (.inr rfl) (.inr rfl) rfl rfl⟩

theorem declares_vbfi (c : Ctx) (s : State) (b : Src) (d : BitVec 7) (a : BitVec 7) : Declared c s (.vbfi b d a) := by
  intro _; rw [exec_vbfi]; delta execVbfi vec issueG
  exact ⟨_, _, rfl, Word.declares_of rfl rfl rfl (Bool.and_true _).symm (.inl rfl) (.inr rfl) (.inr rfl) (.inr rfl) rfl rfl⟩

theorem declares_vsel (c : Ctx) (s : State) (b : Src) (d : BitVec 7) (a : BitVec 7) : Declared c s (.vsel b d a) := by
  intro _; rw [exec_vsel]; delta execVsel vecRaw issueG
  exact ⟨_, _, rfl, Word.declares_of rfl rfl rfl (Bool.and_true _).symm (.inl rfl) (.inr rfl) (.inr rfl) (.inr rfl) rfl rfl⟩

theorem declares_vcmp (c : Ctx) (s : State) (b : Src) (c' : Cc) (p : BitVec 3) (a : BitVec 7) : Declared c s (.vcmp b c' p a) := by
  intro _; rw [exec_vcmp]; delta execVcmp vecCmp issueG
  exact ⟨_, _, rfl, Word.declares_of rfl rfl rfl (Bool.and_true _).symm (.inl rfl) (.inr rfl) (.inr rfl) (.inr rfl) rfl rfl⟩

theorem declares_vmov (c : Ctx) (s : State) (b : Src) (d : BitVec 7) : Declared c s (.vmov b d) := by
  intro _; rw [exec_vmov]; delta execVmov vecRaw issueG
  exact ⟨_, _, rfl, Word.declares_of rfl rfl rfl (Bool.and_true _).symm (.inl rfl) (.inr rfl) (.inr rfl) (.inr rfl) rfl rfl⟩

theorem declares_vmovi (c : Ctx) (s : State) (d : BitVec 7) (i : BitVec 16) : Declared c s (.vmovi d i) := by
  intro _; rw [exec_vmovi]; delta execVmovi issueG
  exact ⟨_, _, rfl, Word.declares_of rfl rfl rfl (Bool.and_true _).symm (.inl rfl) (.inr rfl) (.inr rfl) (.inr rfl) rfl rfl⟩

theorem declares_vmovh (c : Ctx) (s : State) (d : BitVec 7) (i : BitVec 16) : Declared c s (.vmovh d i) := by
  intro _; rw [exec_vmovh]; delta execVmovh issueG
  exact ⟨_, _, rfl, Word.declares_of rfl rfl rfl (Bool.and_true _).symm (.inl rfl) (.inr rfl) (.inr rfl) (.inr rfl) rfl rfl⟩

theorem declares_vfadd (c : Ctx) (s : State) (b : Src) (d : BitVec 7) (a : BitVec 7) : Declared c s (.vfadd b d a) := by
  intro _; rw [exec_vfadd]; delta execVfadd vec issueG
  exact ⟨_, _, rfl, Word.declares_of rfl rfl rfl (Bool.and_true _).symm (.inl rfl) (.inr rfl) (.inr rfl) (.inr rfl) rfl rfl⟩

theorem declares_vfsub (c : Ctx) (s : State) (b : Src) (d : BitVec 7) (a : BitVec 7) : Declared c s (.vfsub b d a) := by
  intro _; rw [exec_vfsub]; delta execVfsub vec issueG
  exact ⟨_, _, rfl, Word.declares_of rfl rfl rfl (Bool.and_true _).symm (.inl rfl) (.inr rfl) (.inr rfl) (.inr rfl) rfl rfl⟩

theorem declares_vfmul (c : Ctx) (s : State) (b : Src) (d : BitVec 7) (a : BitVec 7) : Declared c s (.vfmul b d a) := by
  intro _; rw [exec_vfmul]; delta execVfmul vec issueG
  exact ⟨_, _, rfl, Word.declares_of rfl rfl rfl (Bool.and_true _).symm (.inl rfl) (.inr rfl) (.inr rfl) (.inr rfl) rfl rfl⟩

theorem declares_vfma (c : Ctx) (s : State) (b : Src) (d : BitVec 7) (a : BitVec 7) : Declared c s (.vfma b d a) := by
  intro _; rw [exec_vfma]; delta execVfma vec issueG
  exact ⟨_, _, rfl, Word.declares_of rfl rfl rfl (Bool.and_true _).symm (.inl rfl) (.inr rfl) (.inr rfl) (.inr rfl) rfl rfl⟩

theorem declares_vfmin (c : Ctx) (s : State) (b : Src) (d : BitVec 7) (a : BitVec 7) : Declared c s (.vfmin b d a) := by
  intro _; rw [exec_vfmin]; delta execVfmin vec issueG
  exact ⟨_, _, rfl, Word.declares_of rfl rfl rfl (Bool.and_true _).symm (.inl rfl) (.inr rfl) (.inr rfl) (.inr rfl) rfl rfl⟩

theorem declares_vfmax (c : Ctx) (s : State) (b : Src) (d : BitVec 7) (a : BitVec 7) : Declared c s (.vfmax b d a) := by
  intro _; rw [exec_vfmax]; delta execVfmax vec issueG
  exact ⟨_, _, rfl, Word.declares_of rfl rfl rfl (Bool.and_true _).symm (.inl rfl) (.inr rfl) (.inr rfl) (.inr rfl) rfl rfl⟩

theorem declares_vfcmp (c : Ctx) (s : State) (b : Src) (c' : Cc) (p : BitVec 3) (a : BitVec 7) : Declared c s (.vfcmp b c' p a) := by
  intro _; rw [exec_vfcmp]; delta execVfcmp vecCmp issueG
  exact ⟨_, _, rfl, Word.declares_of rfl rfl rfl (Bool.and_true _).symm (.inl rfl) (.inr rfl) (.inr rfl) (.inr rfl) rfl rfl⟩

theorem declares_vfclass (c : Ctx) (s : State) (d : BitVec 7) (a : BitVec 7) : Declared c s (.vfclass d a) := by
  intro _; rw [exec_vfclass]; delta execVfclass vec1 issueG
  exact ⟨_, _, rfl, Word.declares_of rfl rfl rfl (Bool.and_true _).symm (.inl rfl) (.inr rfl) (.inr rfl) (.inr rfl) rfl rfl⟩

theorem declares_vfrnd (c : Ctx) (s : State) (d : BitVec 7) (a : BitVec 7) : Declared c s (.vfrnd d a) := by
  intro _; rw [exec_vfrnd]; delta execVfrnd vec1 issueG
  exact ⟨_, _, rfl, Word.declares_of rfl rfl rfl (Bool.and_true _).symm (.inl rfl) (.inr rfl) (.inr rfl) (.inr rfl) rfl rfl⟩

theorem declares_vrcp (c : Ctx) (s : State) (d : BitVec 7) (a : BitVec 7) : Declared c s (.vrcp d a) := by
  intro _; rw [exec_vrcp]; delta execVrcp vecSpecial issueG
  exact ⟨_, _, rfl, Word.declares_of rfl rfl rfl (Bool.and_true _).symm (.inl rfl) (.inr rfl) (.inr rfl) (.inr rfl) rfl rfl⟩

theorem declares_vrsq (c : Ctx) (s : State) (d : BitVec 7) (a : BitVec 7) : Declared c s (.vrsq d a) := by
  intro _; rw [exec_vrsq]; delta execVrsq vecSpecial issueG
  exact ⟨_, _, rfl, Word.declares_of rfl rfl rfl (Bool.and_true _).symm (.inl rfl) (.inr rfl) (.inr rfl) (.inr rfl) rfl rfl⟩

theorem declares_vsqrt (c : Ctx) (s : State) (d : BitVec 7) (a : BitVec 7) : Declared c s (.vsqrt d a) := by
  intro _; rw [exec_vsqrt]; delta execVsqrt vec1 issueG
  exact ⟨_, _, rfl, Word.declares_of rfl rfl rfl (Bool.and_true _).symm (.inl rfl) (.inr rfl) (.inr rfl) (.inr rfl) rfl rfl⟩

theorem declares_vexp2 (c : Ctx) (s : State) (d : BitVec 7) (a : BitVec 7) : Declared c s (.vexp2 d a) := by
  intro _; rw [exec_vexp2]; delta execVexp2 vecSpecial issueG
  exact ⟨_, _, rfl, Word.declares_of rfl rfl rfl (Bool.and_true _).symm (.inl rfl) (.inr rfl) (.inr rfl) (.inr rfl) rfl rfl⟩

theorem declares_vlog2 (c : Ctx) (s : State) (d : BitVec 7) (a : BitVec 7) : Declared c s (.vlog2 d a) := by
  intro _; rw [exec_vlog2]; delta execVlog2 vecSpecial issueG
  exact ⟨_, _, rfl, Word.declares_of rfl rfl rfl (Bool.and_true _).symm (.inl rfl) (.inr rfl) (.inr rfl) (.inr rfl) rfl rfl⟩

theorem declares_vsin (c : Ctx) (s : State) (d : BitVec 7) (a : BitVec 7) : Declared c s (.vsin d a) := by
  intro _; rw [exec_vsin]; delta execVsin vecSpecial issueG
  exact ⟨_, _, rfl, Word.declares_of rfl rfl rfl (Bool.and_true _).symm (.inl rfl) (.inr rfl) (.inr rfl) (.inr rfl) rfl rfl⟩

theorem declares_vcos (c : Ctx) (s : State) (d : BitVec 7) (a : BitVec 7) : Declared c s (.vcos d a) := by
  intro _; rw [exec_vcos]; delta execVcos vecSpecial issueG
  exact ⟨_, _, rfl, Word.declares_of rfl rfl rfl (Bool.and_true _).symm (.inl rfl) (.inr rfl) (.inr rfl) (.inr rfl) rfl rfl⟩

theorem declares_vtanh (c : Ctx) (s : State) (d : BitVec 7) (a : BitVec 7) : Declared c s (.vtanh d a) := by
  intro _; rw [exec_vtanh]; delta execVtanh vecSpecial issueG
  exact ⟨_, _, rfl, Word.declares_of rfl rfl rfl (Bool.and_true _).symm (.inl rfl) (.inr rfl) (.inr rfl) (.inr rfl) rfl rfl⟩

theorem declares_vsigm (c : Ctx) (s : State) (d : BitVec 7) (a : BitVec 7) : Declared c s (.vsigm d a) := by
  intro _; rw [exec_vsigm]; delta execVsigm vecSpecial issueG
  exact ⟨_, _, rfl, Word.declares_of rfl rfl rfl (Bool.and_true _).symm (.inl rfl) (.inr rfl) (.inr rfl) (.inr rfl) rfl rfl⟩

theorem declares_vfdiv (c : Ctx) (s : State) (b : Src) (d : BitVec 7) (a : BitVec 7) : Declared c s (.vfdiv b d a) := by
  intro _; rw [exec_vfdiv]; delta execVfdiv vec issueG
  exact ⟨_, _, rfl, Word.declares_of rfl rfl rfl (Bool.and_true _).symm (.inl rfl) (.inr rfl) (.inr rfl) (.inr rfl) rfl rfl⟩

theorem declares_vcvt (c : Ctx) (s : State) (d : BitVec 7) (a : BitVec 7) (e : BitVec 3) (f : BitVec 3) : Declared c s (.vcvt d a e f) := by
  intro _; rw [exec_vcvt]; delta execVcvt vecCvt issueG
  exact ⟨_, _, rfl, Word.declares_of rfl rfl rfl (Bool.and_true _).symm (.inl rfl) (.inr rfl) (.inr rfl) (.inr rfl) rfl rfl⟩

theorem declares_vpack (c : Ctx) (s : State) (d : BitVec 7) (a : BitVec 7) (b : BitVec 7) : Declared c s (.vpack d a b) := by
  intro _; rw [exec_vpack]; delta execVpack vecPack issueG
  exact ⟨_, _, rfl, Word.declares_of rfl rfl rfl (Bool.and_true _).symm (.inl rfl) (.inr rfl) (.inr rfl) (.inr rfl) rfl rfl⟩

theorem declares_vunpack (c : Ctx) (s : State) (d : BitVec 7) (a : BitVec 7) (b : BitVec 7) : Declared c s (.vunpack d a b) := by
  intro _; rw [exec_vunpack]; delta execVunpack vecPack issueG
  exact ⟨_, _, rfl, Word.declares_of rfl rfl rfl (Bool.and_true _).symm (.inl rfl) (.inr rfl) (.inr rfl) (.inr rfl) rfl rfl⟩

theorem declares_cbld (c : Ctx) (s : State) (a : BitVec 6) : Declared c s (.cbld a) := by
  intro _; rw [exec_cbld]; delta execCbld issueG
  exact ⟨_, _, rfl, Word.declares_of rfl rfl rfl (Bool.and_true _).symm (.inl rfl) (.inr rfl) (.inr rfl) (.inr rfl) rfl rfl⟩

theorem declares_cbst (c : Ctx) (s : State) (d : BitVec 6) : Declared c s (.cbst d) := by
  intro _; rw [exec_cbst]; delta execCbst issueG
  exact ⟨_, _, rfl, Word.declares_of rfl rfl rfl (Bool.and_true _).symm (.inl rfl) (.inr rfl) (.inr rfl) (.inr rfl) rfl rfl⟩

theorem declares_vcbq (c : Ctx) (s : State) (d : BitVec 7) (a : BitVec 7) (e : BitVec 3) (f : BitVec 3) : Declared c s (.vcbq d a e f) := by
  intro _; rw [exec_vcbq]; delta execVcbq vecCvt issueG
  exact ⟨_, _, rfl, Word.declares_of rfl rfl rfl (Bool.and_true _).symm (.inl rfl) (.inr rfl) (.inr rfl) (.inr rfl) rfl rfl⟩

theorem declares_vshf (c : Ctx) (s : State) (b : Src) (d : BitVec 7) (a : BitVec 7) : Declared c s (.vshf b d a) := by
  intro _; rw [exec_vshf]; delta execVshf vecMove issueG
  exact ⟨_, _, rfl, Word.declares_of rfl rfl rfl (Bool.and_true _).symm (.inl rfl) (.inr rfl) (.inr rfl) (.inr rfl) rfl rfl⟩

theorem declares_vrot (c : Ctx) (s : State) (b : Src) (d : BitVec 7) (a : BitVec 7) : Declared c s (.vrot b d a) := by
  intro _; rw [exec_vrot]; delta execVrot vecMove issueG
  exact ⟨_, _, rfl, Word.declares_of rfl rfl rfl (Bool.and_true _).symm (.inl rfl) (.inr rfl) (.inr rfl) (.inr rfl) rfl rfl⟩

theorem declares_vbcst (c : Ctx) (s : State) (d : BitVec 7) (a : BitVec 7) : Declared c s (.vbcst d a) := by
  intro _; rw [exec_vbcst]; delta execVbcst vecMove issueG
  exact ⟨_, _, rfl, Word.declares_of rfl rfl rfl (Bool.and_true _).symm (.inl rfl) (.inr rfl) (.inr rfl) (.inr rfl) rfl rfl⟩

theorem declares_vrd (c : Ctx) (s : State) (b : Src) (d : BitVec 7) (a : BitVec 7) : Declared c s (.vrd b d a) := by
  intro _; rw [exec_vrd]; delta execVrd vecMove issueG
  exact ⟨_, _, rfl, Word.declares_of rfl rfl rfl (Bool.and_true _).symm (.inl rfl) (.inr rfl) (.inr rfl) (.inr rfl) rfl rfl⟩

theorem declares_vred (c : Ctx) (s : State) (d : BitVec 7) (a : BitVec 7) (o : BitVec 3) : Declared c s (.vred d a o) := by
  intro _; rw [exec_vred]; delta execVred vecReduce issueG
  exact ⟨_, _, rfl, Word.declares_of rfl rfl rfl (Bool.and_true _).symm (.inl rfl) (.inr rfl) (.inr rfl) (.inr rfl) rfl rfl⟩

theorem declares_vscan (c : Ctx) (s : State) (d : BitVec 7) (a : BitVec 7) (o : BitVec 3) : Declared c s (.vscan d a o) := by
  intro _; rw [exec_vscan]; delta execVscan vecReduce issueG
  exact ⟨_, _, rfl, Word.declares_of rfl rfl rfl (Bool.and_true _).symm (.inl rfl) (.inr rfl) (.inr rfl) (.inr rfl) rfl rfl⟩

theorem declares_vball (c : Ctx) (s : State) (d : BitVec 7) (b : BitVec 3) : Declared c s (.vball d b) := by
  intro _; rw [exec_vball]; delta execVball issueG
  exact ⟨_, _, rfl, Word.declares_of rfl rfl rfl (Bool.and_true _).symm (.inr rfl) (.inr rfl) (.inr rfl) (.inr rfl) rfl rfl⟩

theorem declares_vmatch (c : Ctx) (s : State) (d : BitVec 7) (a : BitVec 7) : Declared c s (.vmatch d a) := by
  intro _; rw [exec_vmatch]; delta execVmatch issueG
  exact ⟨_, _, rfl, Word.declares_of rfl rfl rfl (Bool.and_true _).symm (.inl rfl) (.inr rfl) (.inr rfl) (.inr rfl) rfl rfl⟩

theorem declares_vrnd (c : Ctx) (s : State) (d : BitVec 7) : Declared c s (.vrnd d) := by
  intro _; rw [exec_vrnd]; delta execVrnd issueG
  exact ⟨_, _, rfl, Word.declares_of rfl rfl rfl (Bool.and_true _).symm (.inr rfl) (.inr rfl) (.inr rfl) (.inr rfl) rfl rfl⟩

theorem declares_vseed (c : Ctx) (s : State) (b : Src) (a : BitVec 7) : Declared c s (.vseed b a) := by
  intro _; rw [exec_vseed]; delta execVseed issueG
  exact ⟨_, _, rfl, Word.declares_of rfl rfl rfl (Bool.and_true _).symm (.inr rfl) (.inr rfl) (.inr rfl) (.inr rfl) rfl rfl⟩

theorem declares_ldb (c : Ctx) (s : State) (d : BitVec 7) (m : Mem) : Declared c s (.ldb d m) := by
  intro _; rw [exec_ldb]; delta execLdb loadWord
  exact ⟨_, _, rfl, Word.declares_of rfl rfl rfl (Bool.and_true _).symm (.inr rfl) (.inr rfl) (.inr rfl) (.inr rfl) rfl rfl⟩

theorem declares_ldh (c : Ctx) (s : State) (d : BitVec 7) (m : Mem) : Declared c s (.ldh d m) := by
  intro _; rw [exec_ldh]; delta execLdh loadWord
  exact ⟨_, _, rfl, Word.declares_of rfl rfl rfl (Bool.and_true _).symm (.inr rfl) (.inr rfl) (.inr rfl) (.inr rfl) rfl rfl⟩

theorem declares_ldw (c : Ctx) (s : State) (d : BitVec 7) (m : Mem) : Declared c s (.ldw d m) := by
  intro _; rw [exec_ldw]; delta execLdw loadWord
  exact ⟨_, _, rfl, Word.declares_of rfl rfl rfl (Bool.and_true _).symm (.inr rfl) (.inr rfl) (.inr rfl) (.inr rfl) rfl rfl⟩

theorem declares_ldd (c : Ctx) (s : State) (d : BitVec 7) (m : Mem) : Declared c s (.ldd d m) := by
  intro _; rw [exec_ldd]; delta execLdd loadWord
  exact ⟨_, _, rfl, Word.declares_of rfl rfl rfl (Bool.and_true _).symm (.inr rfl) (.inr rfl) (.inr rfl) (.inr rfl) rfl rfl⟩

theorem declares_ldq (c : Ctx) (s : State) (d : BitVec 7) (m : Mem) : Declared c s (.ldq d m) := by
  intro _; rw [exec_ldq]; delta execLdq loadWord
  exact ⟨_, _, rfl, Word.declares_of rfl rfl rfl (Bool.and_true _).symm (.inr rfl) (.inr (ite_congr (by simp) (fun _ => rfl) fun _ => rfl)) (.inr rfl) (.inr rfl) rfl rfl⟩

theorem declares_stb (c : Ctx) (s : State) (d : BitVec 7) (m : Mem) : Declared c s (.stb d m) := by
  intro _; rw [exec_stb]; delta execStb storeWord
  exact ⟨_, _, rfl, Word.declares_of rfl rfl rfl (Bool.and_true _).symm (.inr rfl) (.inr rfl) (.inr rfl) (.inr rfl) rfl rfl⟩

theorem declares_sth (c : Ctx) (s : State) (d : BitVec 7) (m : Mem) : Declared c s (.sth d m) := by
  intro _; rw [exec_sth]; delta execSth storeWord
  exact ⟨_, _, rfl, Word.declares_of rfl rfl rfl (Bool.and_true _).symm (.inr rfl) (.inr rfl) (.inr rfl) (.inr rfl) rfl rfl⟩

theorem declares_stw (c : Ctx) (s : State) (d : BitVec 7) (m : Mem) : Declared c s (.stw d m) := by
  intro _; rw [exec_stw]; delta execStw storeWord
  exact ⟨_, _, rfl, Word.declares_of rfl rfl rfl (Bool.and_true _).symm (.inr rfl) (.inr rfl) (.inr rfl) (.inr rfl) rfl rfl⟩

theorem declares_std (c : Ctx) (s : State) (d : BitVec 7) (m : Mem) : Declared c s (.std d m) := by
  intro _; rw [exec_std]; delta execStd storeWord
  exact ⟨_, _, rfl, Word.declares_of rfl rfl rfl (Bool.and_true _).symm (.inr rfl) (.inr rfl) (.inr rfl) (.inr rfl) rfl rfl⟩

theorem declares_stq (c : Ctx) (s : State) (d : BitVec 7) (m : Mem) : Declared c s (.stq d m) := by
  intro _; rw [exec_stq]; delta execStq storeWord
  exact ⟨_, _, rfl, Word.declares_of rfl rfl rfl (Bool.and_true _).symm (.inr rfl) (.inr (ite_congr (by simp) (fun _ => rfl) fun _ => rfl)) (.inr rfl) (.inr rfl) rfl rfl⟩

theorem declares_ldf (c : Ctx) (s : State) (d : BitVec 7) (m : Mem) : Declared c s (.ldf d m) := by
  intro _; rw [exec_ldf]; delta execLdf
  exact ⟨_, _, rfl, Word.declares_of rfl rfl rfl (Bool.and_true _).symm (.inr rfl) (.inr rfl) (.inr rfl) (.inr rfl) rfl rfl⟩

theorem declares_stf (c : Ctx) (s : State) (d : BitVec 7) (m : Mem) : Declared c s (.stf d m) := by
  intro _; rw [exec_stf]; delta execStf
  exact ⟨_, _, rfl, Word.declares_of rfl rfl rfl (Bool.and_true _).symm (.inr rfl) (.inr rfl) (.inr rfl) (.inr rfl) rfl rfl⟩

theorem declares_ldsw (c : Ctx) (s : State) (d : BitVec 7) (m : Mem) : Declared c s (.ldsw d m) := by
  intro _; rw [exec_ldsw]; delta execLdsw spadLoad
  exact ⟨_, _, rfl, Word.declares_of rfl rfl rfl (Bool.and_true _).symm (.inr rfl) (.inr rfl) (.inr rfl) (.inr rfl) rfl rfl⟩

theorem declares_ldsd (c : Ctx) (s : State) (d : BitVec 7) (m : Mem) : Declared c s (.ldsd d m) := by
  intro _; rw [exec_ldsd]; delta execLdsd spadLoad
  exact ⟨_, _, rfl, Word.declares_of rfl rfl rfl (Bool.and_true _).symm (.inr rfl) (.inr rfl) (.inr rfl) (.inr rfl) rfl rfl⟩

theorem declares_ldsq (c : Ctx) (s : State) (d : BitVec 7) (m : Mem) : Declared c s (.ldsq d m) := by
  intro _; rw [exec_ldsq]; delta execLdsq spadLoad
  exact ⟨_, _, rfl, Word.declares_of rfl rfl rfl (Bool.and_true _).symm (.inr rfl) (.inr (ite_congr (by simp) (fun _ => rfl) fun _ => rfl)) (.inr rfl) (.inr rfl) rfl rfl⟩

theorem declares_stsw (c : Ctx) (s : State) (d : BitVec 7) (m : Mem) : Declared c s (.stsw d m) := by
  intro _; rw [exec_stsw]; delta execStsw spadStore
  exact ⟨_, _, rfl, Word.declares_of rfl rfl rfl (Bool.and_true _).symm (.inr rfl) (.inr rfl) (.inr rfl) (.inr rfl) rfl rfl⟩

theorem declares_stsd (c : Ctx) (s : State) (d : BitVec 7) (m : Mem) : Declared c s (.stsd d m) := by
  intro _; rw [exec_stsd]; delta execStsd spadStore
  exact ⟨_, _, rfl, Word.declares_of rfl rfl rfl (Bool.and_true _).symm (.inr rfl) (.inr rfl) (.inr rfl) (.inr rfl) rfl rfl⟩

theorem declares_stsq (c : Ctx) (s : State) (d : BitVec 7) (m : Mem) : Declared c s (.stsq d m) := by
  intro _; rw [exec_stsq]; delta execStsq spadStore
  exact ⟨_, _, rfl, Word.declares_of rfl rfl rfl (Bool.and_true _).symm (.inr rfl) (.inr (ite_congr (by simp) (fun _ => rfl) fun _ => rfl)) (.inr rfl) (.inr rfl) rfl rfl⟩

theorem declares_lda (c : Ctx) (s : State) (d : BitVec 7) (m : Mem) : Declared c s (.lda d m) := by
  intro _; rw [exec_lda]; delta execLda
  exact ⟨_, _, rfl, Word.declares_of rfl rfl rfl (Bool.and_true _).symm (.inr rfl) (.inr (if_neg (by show ¬ ((if _ then 8 else 4) = 16 ∧ _); split <;> simp))) (.inr rfl) (.inr rfl) rfl rfl⟩

theorem declares_stl (c : Ctx) (s : State) (d : BitVec 7) (m : Mem) : Declared c s (.stl d m) := by
  intro _; rw [exec_stl]; delta execStl storeWord
  exact ⟨_, _, rfl, Word.declares_of rfl rfl rfl (Bool.and_true _).symm (.inr rfl) (.inr (if_neg (by show ¬ ((if _ then 8 else 4) = 16 ∧ _); split <;> simp))) (.inr rfl) (.inr rfl) rfl rfl⟩

theorem declares_ldsc (c : Ctx) (s : State) (d : BitVec 7) (m : Mem) : Declared c s (.ldsc d m) := by
  intro _; rw [exec_ldsc]; delta execLdsc
  exact ⟨_, _, rfl, Word.declares_of rfl rfl rfl (Bool.and_true _).symm (.inr rfl) (.inr (if_neg (by show ¬ ((if _ then 8 else 4) = 16 ∧ _); split <;> simp))) (.inr rfl) (.inr rfl) rfl rfl⟩

theorem declares_stsc (c : Ctx) (s : State) (d : BitVec 7) (m : Mem) : Declared c s (.stsc d m) := by
  intro _; rw [exec_stsc]; delta execStsc
  exact ⟨_, _, rfl, Word.declares_of rfl rfl rfl (Bool.and_true _).symm (.inr rfl) (.inr (if_neg (by show ¬ ((if _ then 8 else 4) = 16 ∧ _); split <;> simp))) (.inr rfl) (.inr rfl) rfl rfl⟩

theorem declares_ldnx (c : Ctx) (s : State) (d : BitVec 7) (m : Mem) : Declared c s (.ldnx d m) := by
  intro _; rw [exec_ldnx]; delta execLdnx loadWord
  exact ⟨_, _, rfl, Word.declares_of rfl rfl rfl (Bool.and_true _).symm (.inr rfl) (.inr (ite_congr (by simp) (fun _ => rfl) fun _ => rfl)) (.inr rfl) (.inr rfl) rfl rfl⟩

theorem declares_stnx (c : Ctx) (s : State) (d : BitVec 7) (m : Mem) : Declared c s (.stnx d m) := by
  intro _; rw [exec_stnx]; delta execStnx storeWord
  exact ⟨_, _, rfl, Word.declares_of rfl rfl rfl (Bool.and_true _).symm (.inr rfl) (.inr (ite_congr (by simp) (fun _ => rfl) fun _ => rfl)) (.inr rfl) (.inr rfl) rfl rfl⟩

theorem declares_pref (c : Ctx) (s : State) (h' : BitVec 2) (m : Mem) : Declared c s (.pref h' m) := by
  intro _; rw [exec_pref]; delta execPref
  exact ⟨_, _, rfl, Word.declares_of rfl rfl rfl (Bool.and_true _).symm (.inr rfl) (.inr rfl) (.inr rfl) (.inr rfl) rfl rfl⟩

theorem declares_fence (c : Ctx) (s : State) (k : BitVec 2) (s' : BitVec 3) : Declared c s (.fence k s') := by
  intro _; rw [exec_fence]; delta execFence
  exact ⟨_, _, rfl, Word.declares_of rfl rfl rfl (Bool.and_true _).symm (.inr rfl) (.inr rfl) (.inr rfl) (.inr rfl) rfl rfl⟩

theorem declares_flush (c : Ctx) (s : State) (m : Mem) : Declared c s (.flush m) := by
  intro _; rw [exec_flush]; delta execFlush
  exact ⟨_, _, rfl, Word.declares_of rfl rfl rfl (Bool.and_true _).symm (.inr rfl) (.inr rfl) (.inr rfl) (.inr rfl) rfl rfl⟩

theorem declares_inv (c : Ctx) (s : State) (m : Mem) : Declared c s (.inv m) := by
  intro _; rw [exec_inv]; delta execInv
  exact ⟨_, _, rfl, Word.declares_of rfl rfl rfl (Bool.and_true _).symm (.inr rfl) (.inr rfl) (.inr rfl) (.inr rfl) rfl rfl⟩

theorem declares_xlat (c : Ctx) (s : State) (d : BitVec 7) (m : Mem) : Declared c s (.xlat d m) := by
  intro _; rw [exec_xlat]; delta execXlat
  exact ⟨_, _, rfl, Word.declares_of rfl rfl rfl (Bool.and_true _).symm (.inr rfl) (.inr rfl) (.inr rfl) (.inr rfl) rfl rfl⟩

theorem declares_tlbiPage (c : Ctx) (s : State) (s' : BitVec 6) : Declared c s (.tlbiPage s') := by
  intro _; rw [exec_tlbiPage]; delta execTlbiPage tlbiWord
  exact ⟨_, _, rfl, Word.declares_of rfl rfl rfl (Bool.and_true _).symm (.inr rfl) (.inr rfl) (.inr rfl) (.inr rfl) rfl rfl⟩

theorem declares_tlbiFen (c : Ctx) (s : State) (s' : BitVec 6) : Declared c s (.tlbiFen s') := by
  intro _; rw [exec_tlbiFen]; delta execTlbiFen tlbiWord
  exact ⟨_, _, rfl, Word.declares_of rfl rfl rfl (Bool.and_true _).symm (.inr rfl) (.inr rfl) (.inr rfl) (.inr rfl) rfl rfl⟩

theorem declares_tlbiAll (c : Ctx) (s : State) (s' : BitVec 6) : Declared c s (.tlbiAll s') := by
  intro _; rw [exec_tlbiAll]; delta execTlbiAll tlbiWord
  exact ⟨_, _, rfl, Word.declares_of rfl rfl rfl (Bool.and_true _).symm (.inr rfl) (.inr rfl) (.inr rfl) (.inr rfl) rfl rfl⟩

theorem declares_aadd (c : Ctx) (s : State) (b : Src) (d : BitVec 7) (a : BitVec 7) : Declared c s (.aadd b d a) := by
  intro _; rw [exec_aadd]; delta execAadd atomWord
  exact ⟨_, _, rfl, Word.declares_of rfl rfl rfl (Bool.and_true _).symm (.inl rfl) (.inr rfl) (.inr rfl) (.inr rfl) rfl rfl⟩

theorem declares_aand (c : Ctx) (s : State) (b : Src) (d : BitVec 7) (a : BitVec 7) : Declared c s (.aand b d a) := by
  intro _; rw [exec_aand]; delta execAand atomWord
  exact ⟨_, _, rfl, Word.declares_of rfl rfl rfl (Bool.and_true _).symm (.inl rfl) (.inr rfl) (.inr rfl) (.inr rfl) rfl rfl⟩

theorem declares_aor (c : Ctx) (s : State) (b : Src) (d : BitVec 7) (a : BitVec 7) : Declared c s (.aor b d a) := by
  intro _; rw [exec_aor]; delta execAor atomWord
  exact ⟨_, _, rfl, Word.declares_of rfl rfl rfl (Bool.and_true _).symm (.inl rfl) (.inr rfl) (.inr rfl) (.inr rfl) rfl rfl⟩

theorem declares_axor (c : Ctx) (s : State) (b : Src) (d : BitVec 7) (a : BitVec 7) : Declared c s (.axor b d a) := by
  intro _; rw [exec_axor]; delta execAxor atomWord
  exact ⟨_, _, rfl, Word.declares_of rfl rfl rfl (Bool.and_true _).symm (.inl rfl) (.inr rfl) (.inr rfl) (.inr rfl) rfl rfl⟩

theorem declares_amin (c : Ctx) (s : State) (b : Src) (d : BitVec 7) (a : BitVec 7) : Declared c s (.amin b d a) := by
  intro _; rw [exec_amin]; delta execAmin atomWord
  exact ⟨_, _, rfl, Word.declares_of rfl rfl rfl (Bool.and_true _).symm (.inl rfl) (.inr rfl) (.inr rfl) (.inr rfl) rfl rfl⟩

theorem declares_amax (c : Ctx) (s : State) (b : Src) (d : BitVec 7) (a : BitVec 7) : Declared c s (.amax b d a) := by
  intro _; rw [exec_amax]; delta execAmax atomWord
  exact ⟨_, _, rfl, Word.declares_of rfl rfl rfl (Bool.and_true _).symm (.inl rfl) (.inr rfl) (.inr rfl) (.inr rfl) rfl rfl⟩

theorem declares_axchg (c : Ctx) (s : State) (b : Src) (d : BitVec 7) (a : BitVec 7) : Declared c s (.axchg b d a) := by
  intro _; rw [exec_axchg]; delta execAxchg atomWord
  exact ⟨_, _, rfl, Word.declares_of rfl rfl rfl (Bool.and_true _).symm (.inl rfl) (.inr rfl) (.inr rfl) (.inr rfl) rfl rfl⟩

theorem declares_ainc (c : Ctx) (s : State) (b : Src) (d : BitVec 7) (a : BitVec 7) : Declared c s (.ainc b d a) := by
  intro _; rw [exec_ainc]; delta execAinc atomWord
  exact ⟨_, _, rfl, Word.declares_of rfl rfl rfl (Bool.and_true _).symm (.inl rfl) (.inr rfl) (.inr rfl) (.inr rfl) rfl rfl⟩

theorem declares_afadd (c : Ctx) (s : State) (b : Src) (d : BitVec 7) (a : BitVec 7) : Declared c s (.afadd b d a) := by
  intro _; rw [exec_afadd]; delta execAfadd atomWord
  exact ⟨_, _, rfl, Word.declares_of rfl rfl rfl (Bool.and_true _).symm (.inl rfl) (.inr rfl) (.inr rfl) (.inr rfl) rfl rfl⟩

theorem declares_acas (c : Ctx) (s : State) (b : Src) (d : BitVec 7) (a : BitVec 7) : Declared c s (.acas b d a) := by
  intro _; rw [exec_acas]; delta execAcas atomWord
  exact ⟨_, _, rfl, Word.declares_of rfl rfl rfl (Bool.and_true _).symm (.inl rfl) (.inr rfl) (.inr rfl) (.inr rfl) rfl rfl⟩

theorem declares_park (c : Ctx) (s : State) (b : Src) (c' : Cc) (p : BitVec 3) (a : BitVec 7) : Declared c s (.park b c' p a) := by
  intro _; rw [exec_park]; delta execPark
  exact ⟨_, _, rfl, Word.declares_of rfl rfl rfl (Bool.and_true _).symm (.inl rfl) (.inr rfl) (.inr rfl) (.inr rfl) rfl rfl⟩

theorem declares_parkt (c : Ctx) (s : State) (b : BitVec 6) : Declared c s (.parkt b) := by
  intro _; rw [exec_parkt]; delta execParkt issueG
  exact ⟨_, _, rfl, Word.declares_of rfl rfl rfl (Bool.and_true _).symm (.inl rfl) (.inr rfl) (.inr rfl) (.inr rfl) rfl rfl⟩

theorem declares_txb (c : Ctx) (s : State) : Declared c s (.txb) := by
  intro _; rw [exec_txb]; delta execTxb
  exact ⟨_, _, rfl, Word.declares_of rfl rfl rfl (Bool.and_true _).symm (.inr rfl) (.inr rfl) (.inr rfl) (.inr rfl) rfl rfl⟩

theorem declares_txe (c : Ctx) (s : State) (p : BitVec 3) (c' : BitVec 7) : Declared c s (.txe p c') := by
  intro _; rw [exec_txe]; delta execTxe
  exact ⟨_, _, rfl, Word.declares_of rfl rfl rfl (Bool.and_true _).symm (.inr rfl) (.inr rfl) (.inr rfl) (.inr rfl) rfl rfl⟩

theorem declares_txa (c : Ctx) (s : State) (i : BitVec 8) : Declared c s (.txa i) := by
  intro _; rw [exec_txa]; delta execTxa issueG
  exact ⟨_, _, rfl, Word.declares_of rfl rfl rfl (Bool.and_true _).symm (.inr rfl) (.inr rfl) (.inr rfl) (.inr rfl) rfl rfl⟩

theorem declares_txr (c : Ctx) (s : State) (d : BitVec 7) : Declared c s (.txr d) := by
  intro _; rw [exec_txr]; delta execTxr
  exact ⟨_, _, rfl, Word.declares_of rfl rfl rfl (Bool.and_true _).symm (.inr rfl) (.inr rfl) (.inr rfl) (.inr rfl) rfl rfl⟩

theorem declares_txq (c : Ctx) (s : State) (d : BitVec 7) : Declared c s (.txq d) := by
  intro _; rw [exec_txq]; delta execTxq
  exact ⟨_, _, rfl, Word.declares_of rfl rfl rfl (Bool.and_true _).symm (.inr rfl) (.inr rfl) (.inr rfl) (.inr rfl) rfl rfl⟩

theorem declares_mcfg (c : Ctx) (s : State) (i : BitVec 21) : Declared c s (.mcfg i) := by
  intro _; rw [exec_mcfg]; delta execMcfg issueG
  exact ⟨_, _, rfl, Word.declares_of rfl rfl rfl (Bool.and_true _).symm (.inl rfl) (.inr rfl) (.inr rfl) (.inr rfl) rfl rfl⟩

theorem declares_mgang (c : Ctx) (s : State) (b : BitVec 6) : Declared c s (.mgang b) := by
  intro _; rw [exec_mgang]; delta execMgang
  exact ⟨_, _, rfl, Word.declares_of rfl rfl rfl (Bool.and_true _).symm (.inl rfl) (.inr rfl) (.inr rfl) (.inr rfl) rfl rfl⟩

theorem declares_mma (c : Ctx) (s : State) (r : BitVec 1) (c' : BitVec 6) (a : BitVec 7) (s' : BitVec 6) (z : BitVec 1) : Declared c s (.mma r c' a s' z) := by
  intro h; rw [exec_mma]; delta execMma matrixWord
  exact ⟨_, _, rfl, Word.declares_of (by rw [s.issuingTy_eq c h]; rfl) rfl rfl (Bool.and_true _).symm (.inl rfl) (.inl rfl) (.inl rfl) (.inr rfl) (by simp [within]) rfl⟩

theorem declares_mmas (c : Ctx) (s : State) (r : BitVec 1) (c' : BitVec 6) (a : BitVec 7) (s' : BitVec 6) (t : BitVec 1) (z : BitVec 1) : Declared c s (.mmas r c' a s' t z) := by
  intro h; rw [exec_mmas]; delta execMmas matrixWord
  exact ⟨_, _, rfl, Word.declares_of (by rw [s.issuingTy_eq c h]; rfl) rfl rfl (Bool.and_true _).symm (.inl rfl) (.inl rfl) (.inl rfl) (.inr rfl) (by simp [within]) rfl⟩

theorem declares_mmaw (c : Ctx) (s : State) (r : BitVec 1) (c' : BitVec 6) (a : BitVec 7) (s' : BitVec 6) (z : BitVec 1) : Declared c s (.mmaw r c' a s' z) := by
  intro h; rw [exec_mmaw]; delta execMmaw matrixWord
  exact ⟨_, _, rfl, Word.declares_of (by rw [s.issuingTy_eq c h]; rfl) rfl rfl (Bool.and_true _).symm (.inl rfl) (.inl rfl) (.inl rfl) (.inr rfl) (by simp [within]) rfl⟩

theorem declares_mcomp (c : Ctx) (s : State) (d : BitVec 7) (a : BitVec 7) (n : BitVec 3) (t : BitVec 1) : Declared c s (.mcomp d a n t) := by
  intro h; rw [exec_mcomp]; delta execMcomp issueG
  exact ⟨_, _, rfl, Word.declares_of (by rw [s.issuingTy_eq c h]; rfl) rfl rfl (Bool.and_true _).symm (.inl rfl) (.inr rfl) (.inr rfl) (.inr rfl) rfl rfl⟩

theorem declares_ldga (c : Ctx) (s : State) (d : BitVec 7) (m : Mem) : Declared c s (.ldga d m) := by
  intro _; rw [exec_ldga]; delta execLdga
  exact ⟨_, _, rfl, Word.declares_of rfl rfl rfl (Bool.and_true _).symm (.inl rfl) (.inr rfl) (.inr rfl) (.inr rfl) rfl rfl⟩

theorem declares_accld (c : Ctx) (s : State) (c' : BitVec 6) (a : BitVec 7) (p : BitVec 2) : Declared c s (.accld c' a p) := by
  intro _; rw [exec_accld]; delta execAccld
  exact ⟨_, _, rfl, Word.declares_of rfl rfl rfl (Bool.and_true _).symm (.inl rfl) (.inr rfl) (.inr rfl) (.inr rfl) rfl rfl⟩

theorem declares_accz (c : Ctx) (s : State) (c' : BitVec 6) : Declared c s (.accz c') := by
  intro _; rw [exec_accz]; delta execAccz
  exact ⟨_, _, rfl, Word.declares_of rfl rfl rfl (Bool.and_true _).symm (.inl rfl) (.inr rfl) (.inl rfl) (.inr rfl) rfl rfl⟩

theorem declares_mstat (c : Ctx) (s : State) (d : BitVec 6) (s' : BitVec 9) : Declared c s (.mstat d s') := by
  intro _; rw [exec_mstat]; delta execMstat
  exact ⟨_, _, rfl, Word.declares_of rfl rfl rfl (Bool.and_true _).symm (.inr rfl) (.inr rfl) (.inr rfl) (.inr rfl) rfl rfl⟩

theorem declares_cpt (c : Ctx) (s : State) (t : BitVec 6) (l : BitVec 6) (c' : BitVec 6) (b : BitVec 4) (r : BitVec 1) : Declared c s (.cpt t l c' b r) := by
  intro _; rw [exec_cpt]; delta execCpt
  exact ⟨_, _, rfl, Word.declares_of rfl rfl rfl (Bool.and_true _).symm (.inl rfl) (.inr rfl) (.inr rfl) (.inr rfl) rfl rfl⟩

theorem declares_cpx (c : Ctx) (s : State) (t : BitVec 6) (l : BitVec 6) (c' : BitVec 6) (m : BitVec 5) : Declared c s (.cpx t l c' m) := by
  intro _; rw [exec_cpx]; delta execCpx
  exact ⟨_, _, rfl, Word.declares_of rfl rfl rfl (Bool.and_true _).symm (.inl rfl) (.inr rfl) (.inr rfl) (.inr rfl) rfl rfl⟩

theorem declares_cpl (c : Ctx) (s : State) (b : Src) (d : BitVec 7) (a : BitVec 7) : Declared c s (.cpl b d a) := by
  intro _; rw [exec_cpl]; delta execCpl
  exact ⟨_, _, rfl, Word.declares_of rfl rfl rfl (Bool.and_true _).symm (.inr rfl) (.inl rfl) (.inl rfl) (.inr rfl) rfl rfl⟩

theorem declares_cpg (c : Ctx) (s : State) (d : BitVec 6) (s' : BitVec 7) : Declared c s (.cpg d s') := by
  intro _; rw [exec_cpg]; delta execCpg
  exact ⟨_, _, rfl, Word.declares_of rfl rfl rfl (Bool.and_true _).symm (.inr rfl) (.inr rfl) (.inr rfl) (.inr rfl) rfl rfl⟩

theorem declares_cpf (c : Ctx) (s : State) : Declared c s (.cpf) := by
  intro _; rw [exec_cpf]; delta execCpf
  exact ⟨_, _, rfl, Word.declares_of rfl rfl rfl (Bool.and_true _).symm (.inr rfl) (.inr rfl) (.inl rfl) (.inr rfl) rfl rfl⟩

theorem declares_qcfg (c : Ctx) (s : State) (n : BitVec 3) (b : BitVec 6) : Declared c s (.qcfg n b) := by
  intro _; rw [exec_qcfg]; delta execQcfg
  exact ⟨_, _, rfl, Word.declares_of rfl rfl rfl (Bool.and_true _).symm (.inl rfl) (.inr rfl) (.inr rfl) (.inr rfl) rfl rfl⟩

theorem declares_qpushRes (c : Ctx) (s : State) (d : BitVec 6) (n : BitVec 3) : Declared c s (.qpushRes d n) := by
  intro _; rw [exec_qpushRes]; delta execQpushRes
  exact ⟨_, _, rfl, Word.declares_of rfl rfl rfl (Bool.and_true _).symm (.inl rfl) (.inr rfl) (.inl rfl) (.inr rfl) rfl rfl⟩

theorem declares_qpushPub (c : Ctx) (s : State) (n : BitVec 3) : Declared c s (.qpushPub n) := by
  intro _; rw [exec_qpushPub]; delta execQpushPub
  exact ⟨_, _, rfl, Word.declares_of rfl rfl rfl (Bool.and_true _).symm (.inl rfl) (.inr rfl) (.inl rfl) (.inr rfl) rfl rfl⟩

theorem declares_qfree (c : Ctx) (s : State) (n : BitVec 3) : Declared c s (.qfree n) := by
  intro _; rw [exec_qfree]; delta execQfree
  exact ⟨_, _, rfl, Word.declares_of rfl rfl rfl (Bool.and_true _).symm (.inl rfl) (.inr rfl) (.inr rfl) (.inr rfl) rfl rfl⟩

theorem declares_qpop (c : Ctx) (s : State) (d : BitVec 6) (n : BitVec 3) : Declared c s (.qpop d n) := by
  intro _; rw [exec_qpop]; delta execQpop
  exact ⟨_, _, rfl, Word.declares_of rfl rfl rfl (Bool.and_true _).symm (.inl rfl) (.inr rfl) (.inr rfl) (.inr rfl) rfl rfl⟩

theorem declares_binit (c : Ctx) (s : State) (b : Src) (n : BitVec 4) : Declared c s (.binit b n) := by
  intro h; rw [exec_binit]; delta execBinit
  exact ⟨_, _, rfl, Word.declares_of rfl rfl rfl (s.issuer_eq c h (wellFormed (.binit b n)) fun c => n.toNat < c.team.nbar) (.inl rfl) (.inr rfl) (.inr rfl) (.inr rfl) rfl rfl⟩

theorem declares_barv (c : Ctx) (s : State) (d : BitVec 6) (n : BitVec 4) : Declared c s (.barv d n) := by
  intro h; rw [exec_barv]; delta execBarv
  exact ⟨_, _, rfl, Word.declares_of rfl rfl rfl (s.issuer_eq c h (wellFormed (.barv d n)) fun c => n.toNat < c.team.nbar) (.inl rfl) (.inr rfl) (.inl rfl) (.inr rfl) rfl rfl⟩

theorem declares_bexp (c : Ctx) (s : State) (b : Src) (n : BitVec 4) : Declared c s (.bexp b n) := by
  intro h; rw [exec_bexp]; delta execBexp
  exact ⟨_, _, rfl, Word.declares_of rfl rfl rfl (s.issuer_eq c h (wellFormed (.bexp b n)) fun c => n.toNat < c.team.nbar) (.inl rfl) (.inr rfl) (.inr rfl) (.inr rfl) rfl rfl⟩

theorem declares_bwait (c : Ctx) (s : State) (b : Src) (n : BitVec 4) : Declared c s (.bwait b n) := by
  intro h; rw [exec_bwait]; delta execBwait
  exact ⟨_, _, rfl, Word.declares_of rfl rfl rfl (s.issuer_eq c h (wellFormed (.bwait b n)) fun c => n.toNat < c.team.nbar) (.inl rfl) (.inr rfl) (.inr rfl) (.inr rfl) rfl rfl⟩

theorem declares_btest (c : Ctx) (s : State) (b : Src) (p : BitVec 3) (n : BitVec 4) : Declared c s (.btest b p n) := by
  intro h; rw [exec_btest]; delta execBtest
  exact ⟨_, _, rfl, Word.declares_of rfl rfl rfl (s.issuer_eq c h (wellFormed (.btest b p n)) fun c => n.toNat < c.team.nbar) (.inl rfl) (.inr rfl) (.inr rfl) (.inr rfl) rfl rfl⟩

theorem declares_iodb (c : Ctx) (s : State) (b : Src) (a : BitVec 6) : Declared c s (.iodb b a) := by
  intro _; rw [exec_iodb]; delta execIodb iodbWord
  exact ⟨_, _, rfl, Word.declares_of rfl rfl rfl (Bool.and_true _).symm (.inl rfl) (.inl rfl) (.inl rfl) (.inr rfl) rfl rfl⟩

theorem declares_iodbCq (c : Ctx) (s : State) (b : Src) (a : BitVec 6) : Declared c s (.iodbCq b a) := by
  intro _; rw [exec_iodbCq]; delta execIodbCq iodbWord
  exact ⟨_, _, rfl, Word.declares_of rfl rfl rfl (Bool.and_true _).symm (.inl rfl) (.inl rfl) (.inl rfl) (.inr rfl) rfl rfl⟩

theorem declares_iobind (c : Ctx) (s : State) (a : BitVec 6) (n : BitVec 4) : Declared c s (.iobind a n) := by
  intro h; rw [exec_iobind]; delta execIobind
  exact ⟨_, _, rfl, Word.declares_of rfl rfl rfl (s.issuer_eq c h (wellFormed (.iobind a n)) fun c => n.toNat < c.team.nbar) (.inl rfl) (.inl rfl) (.inr rfl) (.inr rfl) rfl rfl⟩

theorem declares_iounb (c : Ctx) (s : State) (a : BitVec 6) : Declared c s (.iounb a) := by
  intro _; rw [exec_iounb]; delta execIounb
  exact ⟨_, _, rfl, Word.declares_of rfl rfl rfl (Bool.and_true _).symm (.inl rfl) (.inl rfl) (.inr rfl) (.inr rfl) rfl rfl⟩

theorem declares_prqpop (c : Ctx) (s : State) (d : BitVec 6) : Declared c s (.prqpop d) := by
  intro _; rw [exec_prqpop]; delta execPrqpop
  exact ⟨_, _, rfl, Word.declares_of rfl rfl rfl (Bool.and_true _).symm (.inl rfl) (.inr rfl) (.inr rfl) (.inr rfl) rfl rfl⟩

theorem declares_prqack (c : Ctx) (s : State) (a : BitVec 6) (c' : BitVec 2) : Declared c s (.prqack a c') := by
  intro _; rw [exec_prqack]; delta execPrqack
  exact ⟨_, _, rfl, Word.declares_of rfl rfl rfl (Bool.and_true _).symm (.inl rfl) (.inr rfl) (.inl rfl) (.inr rfl) rfl rfl⟩

theorem declares_cfgrd (c : Ctx) (s : State) (d : BitVec 6) (a : BitVec 6) : Declared c s (.cfgrd d a) := by
  intro _; rw [exec_cfgrd]; delta execCfgrd
  exact ⟨_, _, rfl, Word.declares_of rfl rfl rfl (Bool.and_true _).symm (.inl rfl) (.inr rfl) (.inr rfl) (.inr rfl) rfl rfl⟩

theorem declares_cfgwr (c : Ctx) (s : State) (d : BitVec 6) (a : BitVec 6) (b : BitVec 6) : Declared c s (.cfgwr d a b) := by
  intro _; rw [exec_cfgwr]; delta execCfgwr
  exact ⟨_, _, rfl, Word.declares_of rfl rfl rfl (Bool.and_true _).symm (.inl rfl) (.inr rfl) (.inr rfl) (.inr rfl) rfl rfl⟩

theorem declares_ntbmap (c : Ctx) (s : State) (a : BitVec 6) : Declared c s (.ntbmap a) := by
  intro _; rw [exec_ntbmap]; delta execNtbmap
  exact ⟨_, _, rfl, Word.declares_of rfl rfl rfl (Bool.and_true _).symm (.inl rfl) (.inr rfl) (.inl rfl) (.inr rfl) rfl rfl⟩

theorem declares_enq (c : Ctx) (s : State) (b : Src) (p : BitVec 3) (a : BitVec 7) : Declared c s (.enq b p a) := by
  intro _; rw [exec_enq]; delta execEnq
  exact ⟨_, _, rfl, Word.declares_of rfl rfl rfl (Bool.and_true _).symm (.inl rfl) (.inr rfl) (.inr rfl) (.inl rfl) rfl rfl⟩

theorem declares_rsub (c : Ctx) (s : State) (d : BitVec 7) (a : BitVec 7) (b : BitVec 6) : Declared c s (.rsub d a b) := by
  intro _; rw [exec_rsub]; delta execRsub
  exact ⟨_, _, rfl, Word.declares_of rfl rfl rfl (Bool.and_true _).symm (.inr rfl) (.inr rfl) (.inl rfl) (.inr rfl) rfl rfl⟩

theorem declares_launch (c : Ctx) (s : State) (d : BitVec 6) (a : BitVec 6) (n : BitVec 7) : Declared c s (.launch d a n) := by
  intro _; rw [exec_launch]; delta execLaunch
  exact ⟨_, _, rfl, Word.declares_of rfl rfl rfl (Bool.and_true _).symm (.inl rfl) (.inr rfl) (.inl rfl) (.inr rfl) rfl rfl⟩

theorem declares_preempt (c : Ctx) (s : State) (d : BitVec 6) (a : BitVec 6) : Declared c s (.preempt d a) := by
  intro _; rw [exec_preempt]; delta execPreempt
  exact ⟨_, _, rfl, Word.declares_of rfl rfl rfl (Bool.and_true _).symm (.inl rfl) (.inr rfl) (.inr rfl) (.inr rfl) rfl rfl⟩

theorem declares_resumeRestart (c : Ctx) (s : State) (d : BitVec 6) (a : BitVec 6) : Declared c s (.resumeRestart d a) := by
  intro _; rw [exec_resumeRestart]; delta execResumeRestart resumeWord
  exact ⟨_, _, rfl, Word.declares_of rfl rfl rfl (Bool.and_true _).symm (.inl rfl) (.inr rfl) (.inr rfl) (.inr rfl) rfl rfl⟩

theorem declares_resumeSkip (c : Ctx) (s : State) (d : BitVec 6) (a : BitVec 6) : Declared c s (.resumeSkip d a) := by
  intro _; rw [exec_resumeSkip]; delta execResumeSkip resumeWord
  exact ⟨_, _, rfl, Word.declares_of rfl rfl rfl (Bool.and_true _).symm (.inl rfl) (.inr rfl) (.inr rfl) (.inr rfl) rfl rfl⟩

theorem declares_resumeSkipArgs (c : Ctx) (s : State) (d : BitVec 6) (a : BitVec 6) : Declared c s (.resumeSkipArgs d a) := by
  intro _; rw [exec_resumeSkipArgs]; delta execResumeSkipArgs resumeWord
  exact ⟨_, _, rfl, Word.declares_of rfl rfl rfl (Bool.and_true _).symm (.inl rfl) (.inr rfl) (.inr rfl) (.inr rfl) rfl rfl⟩

theorem declares_resumeEnd (c : Ctx) (s : State) (d : BitVec 6) (a : BitVec 6) : Declared c s (.resumeEnd d a) := by
  intro _; rw [exec_resumeEnd]; delta execResumeEnd resumeWord
  exact ⟨_, _, rfl, Word.declares_of rfl rfl rfl (Bool.and_true _).symm (.inl rfl) (.inr rfl) (.inr rfl) (.inr rfl) rfl rfl⟩

theorem declares_lend (c : Ctx) (s : State) (d : BitVec 6) (a : BitVec 6) : Declared c s (.lend d a) := by
  intro _; rw [exec_lend]; delta execLend
  exact ⟨_, _, rfl, Word.declares_of rfl rfl rfl (Bool.and_true _).symm (.inl rfl) (.inr rfl) (.inr rfl) (.inr rfl) rfl rfl⟩

theorem declares_reclaim (c : Ctx) (s : State) (d : BitVec 6) (a : BitVec 6) : Declared c s (.reclaim d a) := by
  intro _; rw [exec_reclaim]; delta execReclaim
  exact ⟨_, _, rfl, Word.declares_of rfl rfl rfl (Bool.and_true _).symm (.inl rfl) (.inr rfl) (.inr rfl) (.inr rfl) rfl rfl⟩

theorem declares_gcallImm (c : Ctx) (s : State) (p : BitVec 3) (n : BitVec 7) : Declared c s (.gcallImm p n) := by
  intro _; rw [exec_gcallImm]; delta execGcallImm gcallWord
  exact ⟨_, _, rfl, Word.declares_of rfl rfl rfl (Bool.and_true _).symm (.inl rfl) (.inr rfl) (.inl rfl) (.inr rfl) rfl rfl⟩

theorem declares_gcallReg (c : Ctx) (s : State) (p : BitVec 3) (b : BitVec 6) : Declared c s (.gcallReg p b) := by
  intro _; rw [exec_gcallReg]; delta execGcallReg gcallWord
  exact ⟨_, _, rfl, Word.declares_of rfl rfl rfl (Bool.and_true _).symm (.inl rfl) (.inr rfl) (.inl rfl) (.inr rfl) rfl rfl⟩

theorem declares_gret (c : Ctx) (s : State) : Declared c s (.gret) := by
  intro _; rw [exec_gret]; delta execGret
  exact ⟨_, _, rfl, Word.declares_of rfl rfl rfl (Bool.and_true _).symm (.inl rfl) (.inr rfl) (.inl rfl) (.inr rfl) rfl rfl⟩

theorem declares_kslot (c : Ctx) (s : State) (d : BitVec 6) (a : BitVec 6) : Declared c s (.kslot d a) := by
  intro _; rw [exec_kslot]; delta execKslot
  exact ⟨_, _, rfl, Word.declares_of rfl rfl rfl (Bool.and_true _).symm (.inl rfl) (.inr rfl) (.inl rfl) (.inr rfl) rfl rfl⟩

theorem declares_kzero (c : Ctx) (s : State) (d : BitVec 6) (a : BitVec 6) : Declared c s (.kzero d a) := by
  intro _; rw [exec_kzero]; delta execKzero
  exact ⟨_, _, rfl, Word.declares_of rfl rfl rfl (Bool.and_true _).symm (.inl rfl) (.inr rfl) (.inl rfl) (.inr rfl) rfl rfl⟩

theorem declares_scrub (c : Ctx) (s : State) (d : BitVec 6) (a : BitVec 6) : Declared c s (.scrub d a) := by
  intro _; rw [exec_scrub]; delta execScrub
  exact ⟨_, _, rfl, Word.declares_of rfl rfl rfl (Bool.and_true _).symm (.inl rfl) (.inr rfl) (.inl rfl) (.inr rfl) rfl rfl⟩

theorem declares_wlatch (c : Ctx) (s : State) (d : BitVec 6) (a : BitVec 6) : Declared c s (.wlatch d a) := by
  intro _; rw [exec_wlatch]; delta execWlatch
  exact ⟨_, _, rfl, Word.declares_of rfl rfl rfl (Bool.and_true _).symm (.inl rfl) (.inr rfl) (.inl rfl) (.inr rfl) rfl rfl⟩

theorem declares_fset (c : Ctx) (s : State) (d : BitVec 6) (a : BitVec 6) : Declared c s (.fset d a) := by
  intro _; rw [exec_fset]; delta execFset
  exact ⟨_, _, rfl, Word.declares_of rfl rfl rfl (Bool.and_true _).symm (.inl rfl) (.inr rfl) (.inl rfl) (.inr rfl) rfl rfl⟩

theorem declares_attestEvidence (c : Ctx) (s : State) (d : BitVec 6) (a : BitVec 6) : Declared c s (.attestEvidence d a) := by
  intro _; rw [exec_attestEvidence]; delta execAttestEvidence attestWord
  exact ⟨_, _, rfl, Word.declares_of rfl rfl rfl (Bool.and_true _).symm (.inl rfl) (.inr rfl) (.inl rfl) (.inr rfl) rfl rfl⟩

theorem declares_attestEphemeral (c : Ctx) (s : State) (d : BitVec 6) (a : BitVec 6) : Declared c s (.attestEphemeral d a) := by
  intro _; rw [exec_attestEphemeral]; delta execAttestEphemeral attestWord
  exact ⟨_, _, rfl, Word.declares_of rfl rfl rfl (Bool.and_true _).symm (.inl rfl) (.inr rfl) (.inl rfl) (.inr rfl) rfl rfl⟩

theorem declares_attestRelease (c : Ctx) (s : State) (d : BitVec 6) (a : BitVec 6) : Declared c s (.attestRelease d a) := by
  intro _; rw [exec_attestRelease]; delta execAttestRelease attestWord
  exact ⟨_, _, rfl, Word.declares_of rfl rfl rfl (Bool.and_true _).symm (.inl rfl) (.inr rfl) (.inl rfl) (.inr rfl) rfl rfl⟩

theorem declares_meas (c : Ctx) (s : State) (d : BitVec 6) (a : BitVec 6) : Declared c s (.meas d a) := by
  intro _; rw [exec_meas]; delta execMeas
  exact ⟨_, _, rfl, Word.declares_of rfl rfl rfl (Bool.and_true _).symm (.inl rfl) (.inr rfl) (.inl rfl) (.inr rfl) rfl rfl⟩

theorem declares_migrSet (c : Ctx) (s : State) (d : BitVec 6) (a : BitVec 6) : Declared c s (.migrSet d a) := by
  intro _; rw [exec_migrSet]; delta execMigrSet migrWord
  exact ⟨_, _, rfl, Word.declares_of rfl rfl rfl (Bool.and_true _).symm (.inl rfl) (.inr rfl) (.inl rfl) (.inr rfl) rfl rfl⟩

theorem declares_migrSave (c : Ctx) (s : State) (d : BitVec 6) (a : BitVec 6) : Declared c s (.migrSave d a) := by
  intro _; rw [exec_migrSave]; delta execMigrSave migrWord
  exact ⟨_, _, rfl, Word.declares_of rfl rfl rfl (Bool.and_true _).symm (.inl rfl) (.inr rfl) (.inl rfl) (.inr rfl) rfl rfl⟩

theorem declares_migrLoad (c : Ctx) (s : State) (d : BitVec 6) (a : BitVec 6) : Declared c s (.migrLoad d a) := by
  intro _; rw [exec_migrLoad]; delta execMigrLoad migrWord
  exact ⟨_, _, rfl, Word.declares_of rfl rfl rfl (Bool.and_true _).symm (.inl rfl) (.inr rfl) (.inl rfl) (.inr rfl) rfl rfl⟩

end Sys2Proof.Machine
end

