-- ==== Sys2Proof/Tests/Slice0.lean ====
section
/-!
SUPPORT. Tests: ill-formed terms that WellFormed refuses, words written out from the spec's encodings, machines that meet
the hypotheses of the statements, and results that the spec's rules give.
-/
namespace Sys2Proof.Tests
open Sys2Proof.Machine
-- one proof at a time: the evaluations below need memory, not threads
set_option Elab.async false

/-! ## Machines to test on -/

/-- A machine whose next word may issue: the loaded system team, changed as a test needs. -/
def mach (fs : State → State) (ft : Team → Team) (fg : Group → Group) : State :=
  let s := State.reset.loadWord 0
  fs { s.setTeam 0 ((ft (s.team 0)).setGroup 0 (fg (s.group 0 0))) with agenda := [], guard := { s.guard with msbase := 2 ^ 40 } }

/-- The splinter that issues on such a machine. -/
def issuer (s : State) : Ctx :=
  s.ctx.getD { ti := 0, gi := 0, ei := 0, team := Team.blank, grp := Group.blank, ent := newSplinter 0 noFrame 0 0 }

/-- The hypotheses of `MayIssue`, evaluated. -/
def may (c : Ctx) (s : State) (op : Nat) (vs pairs ss : List Nat) : Bool :=
  decide (s.ctx = some c ∧ c.stalled s = false ∧ c.ent.mid = true ∧ (privileged op = true → c.team.system = true) ∧
    (∀ n ∈ vs, vOk c.budget n = true) ∧ (∀ n ∈ pairs, n = 127 ∨ n % 2 = 0) ∧ (∀ n ∈ ss, c.grp.tokens.contains n = false) ∧
    (flagA op = true → c.ent.cseta ≠ 0 ∧ c.grp.flag (c.ent.cseta.toNat - 1) ≠ 63) ∧
    (flagB op = true → c.ent.csetb ≠ 0 ∧ c.grp.flag (c.ent.csetb.toNat - 1) ≠ 63) ∧
    (c.grp.gate = none ∨
      (gateOp op = false ∧ spadOp op = false ∧ barOp op = false ∧ op ≠ 0x1A1 ∧ ∀ n ∈ ss, within 8 61 n = false)) ∧
    (guardedOp op = true → c.acting op ≠ 0) ∧ (txAborts op = true → c.active &&& c.grp.txOpen = 0))

theorem may_iff {c : Ctx} {s : State} {op : Nat} {vs pairs ss : List Nat} :
    c.MayIssue s op vs pairs ss ↔ may c s op vs pairs ss = true := by
  unfold may
  rw [decide_eq_true_eq]
  constructor
  · intro h
    refine ⟨h.issuer, h.free, h.body, h.mode, h.budget, h.even, h.ready, ?_⟩
    exact ⟨h.flag.1, h.flag.2, h.gate, h.lane, h.tx⟩
  · rintro ⟨hi, hf, hb, hm, hv, he, hr, ha, hz⟩
    obtain ⟨hz, hg, hl, ht⟩ := hz
    constructor <;> first | assumption | exact And.intro ha hz

/-- A header stands at an address, evaluated. -/
def header (s : State) (c : Ctx) (a : BitVec 57) : Bool :=
  match s.fetchWord c.team.core c.grp.port c.fen a.toNat with
  | .ok w => w / 2 ^ 28 = 15
  | .error cause => cause ≠ 0x02

theorem header_iff {s : State} {c : Ctx} {a : BitVec 57} : headerAt s c a ↔ header s c a = true := by
  unfold headerAt header
  cases s.fetchWord c.team.core c.grp.port c.fen a.toNat <;> simp

def s0 : State := mach id id id
def c0 : Ctx := issuer s0

/-- The same team on a user core, whose faults end it. -/
def su : State := mach id (fun t => { t with system := false, core := 0, onf := true }) id
def cu : Ctx := issuer su

/-- The only splinter of a group, changed. -/
def entry (f : Splinter → Splinter) (g : Group) : Group := { g with entries := g.entries.map fun e => (e.1, f e.2) }

/-- Only lanes 0 and 31 live. -/
def few : Group → Group := entry fun e => { e with mask := 0x80000001 }

theorem test_witness_uniform :
    c0.MayIssue s0 0x020 [] [] [62, 63] ∧ c0.MayIssue s0 0x032 [] [] [62] ∧ c0.MayIssue s0 0x02C [] [] [63, 63] ∧
    (uniTwo (.sadd (.imm 127) 62 63)).isSome = true ∧ wellFormed (.sadd (.imm 127) 62 63) = true ∧
    (uniOne c0.grp (.smovy 62 0xFFFF)).isSome = true ∧ wellFormed (.smovy 62 0xFFFF) = true ∧
    wellFormed (.scmp (.s 63) .ge 7 63) = true := by
  simp only [may_iff]
  decide +kernel

/-! ## What WellFormed refuses: a term for each check -/

theorem test_ill_formed_operands :
    Src.okVec (.s 64) = false ∧ Src.okVec (.p 0) = false ∧ Src.okUni (.v 0) = false ∧ Src.okUni (.s 64) = false ∧
    Src.okUni (.p 1) = false ∧ Src.okReg (.imm 0) = false ∧ Src.okReg (.s 64) = false ∧ Src.okReg (.p 0) = false ∧
    Src.okAny (.p 8) = false ∧ Src.okAny (.s 64) = false ∧ Src.okPhase (.v 1) = false ∧ Src.okPhase (.imm 0) = false ∧
    Src.okPhase (.s 64) = false ∧ Mem.ok ⟨0, 0, 5⟩ = false ∧ Mem.ok ⟨0, 0, 6⟩ = false ∧ Mem.ok ⟨0, 62, 7⟩ = false ∧
    Mem.okSpad ⟨0, 63, 7⟩ = false := by decide

theorem test_ill_formed_control :
    wellFormed (.clauseHeader 0 13 0 0 0 0) = false ∧ wellFormed (.clauseHeader 0 0 15 0 0 0) = false ∧
    wellFormed (.gets 0 0) = false ∧ wellFormed (.gets 0 25) = false ∧ wellFormed (.getv 0 0x13) = false ∧
    wellFormed (.loop 3 1 1 1) = false ∧ wellFormed (.loop 0 0 64 1) = false ∧ wellFormed (.loop 0 1 1 0) = false ∧
    wellFormed (.loop 0 1 1 257) = false := by decide

theorem test_ill_formed_uniform_and_vector :
    wellFormed (.sadd (.v 0) 0 0) = false ∧ wellFormed (.scmp (.p 0) .eq 0 0) = false ∧
    wellFormed (.smov (.v 1) 0) = false ∧ wellFormed (.pmov (.p 8) 0) = false ∧ wellFormed (.vadd (.p 0) 0 0) = false ∧
    wellFormed (.vcmp (.s 64) .eq 0 0) = false ∧ wellFormed (.vbfx (.imm 3) 0 0) = false ∧
    wellFormed (.vfma (.p 7) 0 0) = false ∧ wellFormed (.vshf (.p 0) 0 0) = false ∧ wellFormed (.vrot (.v 0) 0 0) = false ∧
    wellFormed (.vrd (.v 0) 0 0) = false ∧ wellFormed (.vred 0 0 6) = false ∧ wellFormed (.vscan 0 0 7) = false ∧
    wellFormed (.vseed (.p 0) 0) = false ∧ wellFormed (.cbld 61) = false ∧ wellFormed (.cbst 61) = false := by decide

theorem test_ill_formed_memory :
    wellFormed (.ldw 0 ⟨0, 0, 5⟩) = false ∧ wellFormed (.stf 0 ⟨0, 1, 7⟩) = false ∧
    wellFormed (.ldsw 0 ⟨0, 63, 7⟩) = false ∧ wellFormed (.pref 3 ⟨0, 0, 0⟩) = false ∧ wellFormed (.fence 3 0) = false ∧
    wellFormed (.fence 0 5) = false ∧ wellFormed (.xlat 0 ⟨0, 0, 6⟩) = false ∧ wellFormed (.aadd (.p 0) 0 0) = false ∧
    wellFormed (.park (.s 64) .eq 0 0) = false := by decide

theorem test_ill_formed_engines :
    wellFormed (.ldga 0 ⟨0, 0, 5⟩) = false ∧ wellFormed (.mstat 0 6) = false ∧ wellFormed (.cpt 0 0 62 0 0) = false ∧
    wellFormed (.cpx 0 0 63 0) = false ∧ wellFormed (.cpl (.p 0) 0 0) = false ∧ wellFormed (.cpg 0 3) = false ∧
    wellFormed (.cpg 0 16) = false ∧ wellFormed (.binit (.v 0) 0) = false ∧ wellFormed (.bexp (.p 0) 0) = false ∧
    wellFormed (.bwait (.v 1) 0) = false ∧ wellFormed (.btest (.imm 0) 0 0) = false ∧
    wellFormed (.iodb (.p 0) 0) = false ∧ wellFormed (.prqpop 61) = false ∧ wellFormed (.prqack 0 3) = false ∧
    wellFormed (.ntbmap 61) = false := by decide

theorem test_ill_formed_system :
    wellFormed (.enq (.v 0) 0 0) = false ∧ wellFormed (.launch 0 0 0) = false ∧ wellFormed (.launch 0 0 64) = false ∧
    wellFormed (.resumeRestart 0 62) = false ∧ wellFormed (.resumeSkip 0 62) = false ∧
    wellFormed (.resumeSkipArgs 0 54) = false ∧ wellFormed (.resumeEnd 0 63) = false ∧
    wellFormed (.gcallImm 0 64) = false ∧ wellFormed (.scrub 0 62) = false ∧ wellFormed (.fset 0 62) = false ∧
    wellFormed (.attestEvidence 0 62) = false ∧ wellFormed (.attestEphemeral 0 62) = false ∧
    wellFormed (.attestRelease 0 62) = false ∧ wellFormed (.meas 0 57) = false ∧ wellFormed (.migrSet 0 61) = false ∧
    wellFormed (.migrSave 0 61) = false ∧ wellFormed (.migrLoad 0 61) = false ∧ wellFormed .coldReset = false := by decide

/-! ## Words that the spec itself gives an encoding for -/

theorem test_decode_clause_example :
    decodeWord 0xF0001010 = some (.clauseHeader 0 1 0 1 0 0) ∧ decodeWord 0x81040E12 = some (.ldw 4 ⟨7, 2, 2⟩) ∧
    decodeWord 0x2040C0FB = some (.vadd (.imm 0x7B) 3 1) ∧ decodeWord 0xF0010020 = some (.clauseHeader 1 0 0 2 0 0) ∧
    decodeWord 0x00898002 = some (.setm 0x098002) ∧ decodeWord 0x20014203 = some (.vadd (.v 3) 5 4) ∧
    decodeWord 0x0229FFFA = some (.br 1 2 0 0x1FFFA) := by decide

theorem test_decode_control :
    decodeWord 0x05000000 = some .join ∧ decodeWord 0x06800000 = some .exit ∧
    decodeWord 0x05902805 = some (.loop 0 1 10 5) ∧ decodeWord 0x06040002 = some (.lbrk 0 1 0 2) ∧
    decodeWord 0x07800005 = some (.wait 5) ∧ decodeWord 0x01800000 = some (.getv 0 0) ∧
    decodeWord 0x01010017 = some (.gets 1 0x17) ∧ decodeWord 0x0B000B84 = some (.swr 5 0x184) ∧
    decodeWord 0x0A840190 = some (.srd 4 0x190) := by decide

theorem test_decode_uniform :
    decodeWord 0x1040C088 = some (.sadd (.imm 8) 3 1) ∧ decodeWord 0x17811000 = some (.smovi 1 0x1000) ∧
    decodeWord 0x18810002 = some (.smovx 1 2) := by decide

theorem test_decode_vector :
    decodeWord 0x30018205 = some (.vfadd (.v 5) 6 4) ∧ decodeWord 0x40420088 = some (.vcvt 8 1 1 0) ∧
    decodeWord 0x41800200 = some (.cbld 4) ∧ decodeWord 0x2D020000 = some (.vmovi 2 0) ∧
    decodeWord 0x31820103 = some (.vfma (.v 3) 8 2) ∧ decodeWord 0x4A414200 = some (.vred 5 4 0) ∧
    decodeWord 0x50024000 = some (.vrnd 9) := by decide

theorem test_decode_memory_and_sedge :
    decodeWord 0x88040430 = some (.ldf 4 ⟨2, 6, 0⟩) ∧ decodeWord 0xA5A0000B = some (.parkt 11) ∧
    decodeWord 0xB0040000 = some (.mcfg 0x40000) ∧ decodeWord 0xB1051021 = some (.mma 0 5 8 4 1) ∧
    decodeWord 0xB0A00008 = some (.mgang 8) ∧ decodeWord 0xB4010000 = some (.accz 1) ∧
    decodeWord 0xB3812003 = some (.accld 1 16 3) ∧ decodeWord 0xB3100210 = some (.ldga 16 ⟨1, 2, 0⟩) := by decide

theorem test_decode_copy_and_devices :
    decodeWord 0xC07E4980 = some (.cpt 63 9 12 0 0) ∧ decodeWord 0xC1004506 = some (.cpl (.v 6) 1 10) ∧
    decodeWord 0xC8400001 = some (.binit (.imm 1) 0) ∧ decodeWord 0xC88FC000 = some (.barv 63 0) ∧
    decodeWord 0xC9800000 = some (.bwait (.v 0) 0) ∧ decodeWord 0xC5850000 = some (.qpop 20 0) ∧
    decodeWord 0xD5050200 = some (.cfgrd 20 4) ∧ decodeWord 0xD00001BE = some (.iodb (.v 62) 3) ∧
    decodeWord 0xD000418C = some (.iodbCq (.v 12) 3) ∧ decodeWord 0xD0C00180 = some (.iobind 3 0) := by decide

theorem test_decode_distributor_and_fens :
    decodeWord 0xDC450201 = some (.launch 20 4 1) ∧ decodeWord 0xD8408203 = some (.enq (.imm 3) 2 4) ∧
    decodeWord 0xD8A1840C = some (.rsub 6 8 12) ∧ decodeWord 0xDD414301 = some (.resumeSkip 5 6) ∧
    decodeWord 0xDC80C100 = some (.preempt 3 2) ∧ decodeWord 0xE0404005 = some (.gcallImm 1 5) ∧
    decodeWord 0xE0800000 = some .gret ∧ decodeWord 0xE603C600 = some (.fset 15 12) := by decide

-- words of the families without a worked encoding, from R93, R94, R131, R138, R200, R204, R269, R346, R363, R370
theorem test_decode_written_out :
    decodeWord 0b000111100_00_0_000101_0000_110_0000000 = some (.pany 5 6) ∧
    decodeWord 0b001011000_01_0101_011_0000111_0001001 = some (.vcmp (.s 9) .ge 3 7) ∧
    decodeWord 0b010010000_10_0000010_0000011_0011111 = some (.vshf (.imm 31) 2 3) ∧
    decodeWord 0xA8000000 = some .txb ∧ decodeWord 0b101010010_000000000000000_00001001 = some (.txa 9) ∧
    decodeWord 0b110001000_01_0000000_0000_010_0001011 = some (.qcfg 2 11) ∧
    decodeWord 0b111000000_01_0000_001_0000000_0001001 = some (.gcallReg 1 9) ∧
    decodeWord 0b111001110_00_0_000111_0_001000_0000000 = some (.meas 7 8) ∧
    decodeWord 0b111001111_10_0_000111_0_001000_0000001 = some (.migrSave 7 8) ∧
    -- a nonzero unused field, and a reserved opcode, are refused
    decodeWord 0x05000001 = none ∧ decodeWord 0xF0000001 = none ∧ decodeWord 0x0F000000 = none := by decide

/-- Headers stand at 0x102008 and 0x102010. -/
def code (s : State) : State := s.writeBytes 0 0x102008 (bytesLE 8 0xF0000000 ++ bytesLE 8 0xF0000000)

def sb : State := mach code id (fun g => { g with p := [(0, 1)], s := [(1, 0x102008)] })
def cb : Ctx := issuer sb
/-- The same splinter inside a LOOP frame whose body is 0x102004 to 0x102008. -/
def loopFrame : Frame :=
  { rpc := 0x102000, kind := .loop, parent := noFrame, mask := BitVec.allOnes 32, arrived := 0, broke := 0, amode := 0
    len := 2, lc := 0, bmode := 0, dmid := false, dseta := 0, dsetb := 0, dleft := 0 }
def sl : State := mach code id (fun g => entry (fun e => { e with frame := 0 }) { g with
  p := [(0, 1)], frames := [(0, loopFrame)] })
def cl : Ctx := issuer sl
def sh : State := mach id id (entry fun e => { e with mid := false })
/-- A machine whose group has an operation in flight on `cf11`. -/
def sw : State := mach id id fun g => { g with cf := [(11, 1)] }
def shw : State := mach id id fun g => entry (fun e => { e with mid := false }) { g with cf := [(11, 1)] }
/-- A machine with a pending timer event. -/
def se : State := mach (fun s => s.modCore 192 fun k => { k with timecmp := 0, evmask := 1 }) id id
/-- A machine in its trap handler. -/
def sx : State := mach id id fun g => { g with trap := { g.trap with ecause := 1#64 <<< 25, lanes := BitVec.allOnes 32 } }
/-- A user team whose faults swap it out. -/
def sv : State := mach id (fun t => { t with system := false, core := 0, onf := false }) id
/-- A machine with a recipe table whose recipe 1 has an entry. -/
def sr : State := mach (fun s => s.writeBytes 0 0x4038 (bytesLE 8 0x102000)) (fun t => { t with rtab := 0x4000 }) id

theorem test_witness_predicate :
    c0.MayIssue s0 0x038 [] [] [] ∧ c0.MayIssue s0 0x03C [] [] [62] ∧ c0.MayIssue s0 0x03D [] [] [62] ∧
    (predResult c0.grp (.pand 7 6 7)).isSome = true ∧ wellFormed (.pmov (.p 7) 7) = true := by
  simp only [may_iff]
  decide +kernel

theorem test_witness_special :
    c0.MayIssue s0 0x002 [] [] [62] ∧ c0.MayIssue s0 0x003 [126] [] [] ∧ (specialValue c0 0 0x018).isSome = true ∧
    (specialValue c0 0 2).isSome = true ∧ (specialValue c0 0 0).isSome = true := by
  simp only [may_iff]
  decide +kernel

theorem test_witness_setm :
    c0.MayIssue s0 0x001 [] [] [] ∧ (0x1252 : BitVec 23).toNat % 32 = 0x12 ∧ (0x1253 : BitVec 23).toNat % 32 > 0x12 ∧
    (0x200042 : BitVec 23).toNat / 2 ^ 21 ≠ 0 := by
  simp only [may_iff]
  decide +kernel

theorem test_witness_header :
    wellFormed (.clauseHeader 0xFFF 12 0 15 1 0) = true ∧ sh.ctx = some (issuer sh) ∧ (issuer sh).stalled sh = false ∧
    (issuer sh).ent.mid = false ∧ ((issuer sh).grp.fuse 0 (issuer sh).ent).dueAt 0xFFF = none ∧
    (((issuer sh).grp.fuse 0 (issuer sh).ent).entries.find 0).isSome = true ∧
    ((issuer sh).grp.fuse 0 (issuer sh).ent).flagsZero 0xFFF = true ∧ shw.ctx = some (issuer shw) ∧
    (issuer shw).stalled shw = false ∧ (issuer shw).ent.mid = false ∧
    ((issuer shw).grp.fuse 0 (issuer shw).ent).flagsZero 0x800 = false := by decide +kernel

theorem test_witness_waiting :
    c0.MayIssue s0 0x000 [] [] [] ∧ c0.MayIssue s0 0x00E [] [] [] ∧ c0.MayIssue s0 0x00F [] [] [] ∧
    (issuer sw).MayIssue sw 0x00F [] [] [] ∧ c0.MayIssue s0 0x00D [] [] [] ∧ c0.MayIssue s0 0x014 [] [] [] ∧
    (issuer se).MayIssue se 0x014 [] [] [] ∧ c0.grp.flagsZero 0xFFF = true ∧ (issuer sw).grp.flagsZero 0x800 = false ∧
    (s0.core 192).evmask = 0 ∧ (se.core 192).timecmp.toNat ≤ se.now ∧ (se.core 192).evmask = 1 := by
  simp only [may_iff]
  decide +kernel

theorem test_witness_branch :
    cb.MayIssue sb 0x004 [] [] [] ∧ headerAt sb cb (targetFrom cb 2) ∧ condLanes cb 7 1 = 0 ∧
    condLanes cb 7 0 = cb.ent.mask ∧ condLanes cb 0 0 = 1 ∧ cb.grp.leavesLoop cb.ent (targetFrom cb 2) = false ∧
    cb.grp.freeEntry = some 1 := by
  simp only [may_iff, header_iff]
  decide +kernel

theorem test_witness_jump :
    cb.MayIssue sb 0x007 [] [] [] ∧ cb.MayIssue sb 0x006 [] [] [1] ∧ headerAt sb cb 0x102008 ∧
    (jumpWord cb (.call 63 2)).isSome = true ∧ (cb.grp.readS 1).setWidth 57 = 0x102008#57 ∧
    cb.grp.leavesLoop cb.ent 0x102008 = false := by
  simp only [may_iff, header_iff]
  decide +kernel

theorem test_witness_frames :
    cb.MayIssue sb 0x009 [] [] [] ∧ cb.MayIssue sb 0x00A [] [] [] ∧ cl.MayIssue sl 0x00A [] [] [] ∧
    cb.MayIssue sb 0x00B [] [] (loopRegs 0 2) ∧ cb.MayIssue sb 0x00B [] [] (loopRegs 1 1023) ∧
    cl.MayIssue sl 0x00C [] [] [] ∧ cb.grp.freeFrame = some 0 ∧ cb.grp.chain cb.ent = [] ∧
    (cl.grp.chain cl.ent).head? = some (0, loopFrame) ∧ cb.ent.cleft = 0 ∧ wellFormed (.loop 0 0 2 1) = true ∧
    cb.loopCheck sb 0 0x102004 0x102008 = none ∧ (cb.grp.readS 2) = 0 ∧ cl.grp.loopOf cl.ent = some (0, loopFrame) ∧
    targetFrom cl 2 = loopFrame.point ∧ condLanes cl 7 1 = 0 ∧ condLanes cl 0 0 = 1 := by
  simp only [may_iff]
  decide +kernel

theorem test_witness_traps :
    c0.MayIssue s0 0x010 [] [] [] ∧ c0.MayIssue s0 0x011 [] [] [] ∧ cu.MayIssue su 0x010 [] [] [] ∧
    (issuer sv).MayIssue sv 0x011 [] [] [] ∧ (issuer sx).MayIssue sx 0x013 [] [] [] ∧
    (issuer sx).MayIssue sx 0x010 [] [] [] ∧ c0.team.system = true ∧ c0.grp.exl = false ∧ c0.fen < 256 ∧ c0.gi < 32 ∧
    cu.team.system = false ∧ cu.team.onf = true ∧ (issuer sv).team.system = false ∧ (issuer sv).team.onf = false ∧
    (issuer sx).grp.exl = true ∧ (issuer sx).team.system = true := by
  simp only [may_iff]
  decide +kernel

theorem test_witness_system_registers :
    c0.MayIssue s0 0x015 [] [] [62] ∧ c0.MayIssue s0 0x016 [] [] [62] ∧ (issueReg s0 c0 0x000).isSome = true ∧
    (issueReg s0 c0 0x044).isSome = true ∧ (trapWritten c0.grp.trap 0 0x001).isSome = true ∧
    (trapWritten c0.grp.trap 0 0x00C).isSome = true ∧ (coreWritten (s0.core 192) 0 0 0x000).isSome = true ∧
    (coreWritten (s0.core 192) 0 0 0x042).isSome = true := by
  simp only [may_iff]
  decide +kernel

theorem test_witness_flashback :
    c0.MayIssue s0 0x012 [] [] [] ∧ (issuer sr).MayIssue sr 0x012 [] [] [] ∧ (s0.recipe c0.team 0).isNone = true ∧
    (sr.recipe (issuer sr).team 1).isSome = true := by
  simp only [may_iff]
  decide +kernel

/-! ### The vector engine -/

/-- A group in another mode. -/
def inMode (m : BitVec 23) : Group → Group := entry fun e => { e with mode := m }
/-- f32 with cty f32, without FX; f64; i8. -/
def sf : State := mach id id (inMode 0x14A)
def cf : Ctx := issuer sf
def sd : State := mach id id (inMode 0x04B)
/-- A machine whose even lanes are the active ones. -/
def sg : State := mach id id fun g => inMode 0x080042 { g with p := [(0, 0x55555555)] }
def cg : Ctx := issuer sg

theorem test_witness_elementwise :
    c0.MayIssue s0 0x040 [126, 127] [] [] ∧ cf.MayIssue sf 0x063 [0, 126] [] [63] ∧
    cf.MayIssue sf 0x040 [126, 127] [] [] ∧ (issuer sd).MayIssue sd 0x06B [126, 124] [126, 124] [] ∧
    cg.MayIssue sg 0x040 [126, 127] [] [] ∧ (elemWord c0.ent.mode (.vadd (.imm 127) 126 127)).isSome = true ∧
    wellFormed (.vadd (.imm 127) 126 127) = true ∧ tyInt c0.ty = true ∧
    (elemWord cf.ent.mode (.vfma (.s 63) 0 126)).isSome = true ∧ tyFloat cf.ty = true ∧ tyInt cf.ty = false ∧
    (elemWord (issuer sd).ent.mode (.vsqrt 126 124)).isSome = true ∧ tyPair (issuer sd).ty = true ∧ cg.active = 0x55555555 := by
  simp only [may_iff]
  decide +kernel

theorem test_witness_moves :
    c0.MayIssue s0 0x090 [126, 0] [] [] ∧ c0.MayIssue s0 0x059 [126, 126] [] [] ∧ c0.MayIssue s0 0x058 [0] [] [63] ∧
    cf.MayIssue sf 0x066 [126] [] [] ∧ c0.MayIssue s0 0x080 [126, 0] [] [] ∧ c0.MayIssue s0 0x094 [126, 0] [] [] ∧
    c0.MayIssue s0 0x095 [126, 0] [] [] ∧ c0.MayIssue s0 0x05A [126] [] [] ∧ c0.MayIssue s0 0x0A0 [126] [] [] ∧
    c0.MayIssue s0 0x083 [] [] (sRange 56 4) ∧ c0.MayIssue s0 0x084 [] [] (sRange 0 4) ∧
    (moveWord c0 (.vshf (.imm 31) 126 0)).isSome = true ∧ wellFormed (.vshf (.imm 31) 126 0) = true ∧
    (moveWord c0 (.vmov (.imm 1) 126)).isSome = true ∧ wellFormed (.vcmp (.s 63) .ge 6 0) = true ∧ tyInt c0.ty = true ∧
    wellFormed (.vfcmp (.imm 0) .ord 0 126) = true ∧ tyFloat cf.ty = true ∧ modeFX cf.ent.mode = false ∧
    (convertWord c0 (.vcvt 126 0 0 0)).isSome = true ∧ wellFormed (.vcvt 126 0 0 7) = true ∧ tyElems c0.ty = 1 ∧
    modeFX c0.ent.mode = false ∧ (maskWord c0 (.vmovi 126 0x8000)).isSome = true ∧
    (maskWord c0 (.vrnd 126)).isSome = true ∧ wellFormed (.cbld 56) = true ∧ wellFormed (.cbst 0) = true := by
  simp only [may_iff]
  decide +kernel

/-! ### Memory -/

/-- The lanes of an access pass their checks, and what they give meets `p`. -/
def lanesOk (s : State) (c : Ctx) (r : Rule) (ads : List (Nat × Nat)) (p : State → List (Nat × Nat × Xlate) → Bool) : Bool :=
  match s.checkLanes c r ads with
  | .ok (t, ls) => ls ≠ [] && p t ls
  | .error _ => false

/-- Every lane addresses 0x4000, and `s2` is 0x10. -/
def sm : State := mach id id fun g => few { g with s := [(1, 0x4000), (2, 0x10)] }
def cm : Ctx := issuer sm
def m1 : Mem := { a := 127, s := 1, sc := 0 }
/-- Lane l addresses 0x4000 + 8 l. -/
def sp : State := mach id id fun g => few { g with
  s := [(1, 0x4000), (2, 0x10)], v := (List.range 32).map fun l => (128 * l, BitVec.ofNat 32 (0x4000 + 8 * l)) }
def cp : Ctx := issuer sp

/-- What the statement about loads asks of the lanes. -/
def loadOk (s : State) (c : Ctx) (op n : Nat) (d : BitVec 7) (l1 : Bool) (ads : List (Nat × Nat)) : Bool :=
  lanesOk s c { op := op, bytes := n, r := true, w := false, kind := 1, tx := op ≠ 0x120 } ads fun s1 ls =>
    let c1 := c.refresh s1
    let a := ls.foldl (LoadAcc.lane c1 (c.loadSpec n d.toNat l1 (op ≠ 0x120 && op ≠ 0x124)) (op ≠ 0x120))
      { s := s1, writes := [], bads := [], devs := [], stall := false }
    s1 = s && !a.stall && !s1.acquirePending c1 && ls.all fun y => !c1.scOverlap y.2.2.pa n && isMemRegion y.2.2.pa &&
      decide (y.2.2.pa % n = 0) &&
      (((List.range n).mapM fun k => s.loadByte c (l1 && !y.2.2.nc) (y.2.2.pa + k)).map natLE).isSome

theorem test_witness_loads :
    cm.MayIssue sm 0x104 [124, 127] [] [1] ∧ cm.MayIssue sm 0x100 [127, 127] [] [1] ∧
    cm.MayIssue sm 0x120 [0, 127] [] [1] ∧ (loadForm cm (.ldq 124 m1)).isSome = true ∧ wellFormed (.ldq 124 m1) = true ∧
    loadOk sm cm 0x104 16 124 true (cm.addresses m1) = true ∧ (loadForm cm (.ldb 127 m1)).isSome = true ∧
    loadOk sm cm 0x100 1 127 true (cm.addresses m1) = true ∧ (loadForm cm (.lda 0 m1)).isSome = true ∧
    loadOk sm cm 0x120 4 0 false (cm.addresses m1) = true := by
  simp only [may_iff]
  decide +kernel

theorem test_witness_uniform_access :
    cm.MayIssue sm 0x035 [] [] [62, 1] ∧ cm.MayIssue sm 0x036 [] [] [62, 1] ∧ sm.storeMustWait cm = false ∧
    (match sm.chk cm { op := 0x035, bytes := 8, r := true, w := false, kind := 1 } false 0x4000 with
      | .ok x => isMemRegion x.pa && x.pa % 8 = 0 && !cm.scOverlap x.pa 8 &&
          (((List.range 8).mapM fun k => sm.loadByte cm (!x.nc) (x.pa + k)).map natLE).isSome
      | _ => false) = true ∧
    sm.acquirePending cm = false ∧
    (match sm.chk cm { op := 0x036, bytes := 8, r := false, w := true, kind := 2 } false 0x4000 with
      | .ok _ => true
      | _ => false) = true ∧
    (match sm.chk cm { op := 0x035, bytes := 8, r := true, w := false, kind := 1 } false 1 with
      | .bad cause _ _ => cause = 0x42
      | _ => false) = true := by
  simp only [may_iff]
  decide +kernel

/-- A machine that holds a deferred store failure. -/
def sdf : State := mach id id fun g => few { g with s := [(1, 0x4000)], deferred := [
  { at_ := .store, cause := 0x49, kind := 2, lanes := 1, addr := 0x4000, pa := 0x4000, op := 0 }] }

theorem test_witness_stores :
    cm.MayIssue sm 0x10C [124, 127] [] [1] ∧ cm.MayIssue sm 0x121 [0, 127] [] [1] ∧
    (issuer sdf).MayIssue sdf 0x121 [0, 127] [] [1] ∧ (storeForm cm (.stq 124 m1)).isSome = true ∧
    wellFormed (.stq 124 m1) = true ∧
    lanesOk sm cm { op := 0x10C, bytes := 16, r := false, w := true, kind := 2, tx := true } (cm.addresses m1)
      (fun s1 _ => s1 = sm && !s1.storeMustWait (cm.refresh s1)) = true ∧
    (storeForm cm (.stl 0 m1)).isSome = true ∧ cm.dueStore = none ∧
    lanesOk sm cm { op := 0x121, bytes := 4, r := false, w := true, kind := 2, tx := false } (cm.addresses m1)
      (fun s1 _ => s1 = sm && !s1.storeMustWait (cm.refresh s1)) = true ∧
    (issuer sdf).dueStore.isSome = true ∧
    lanesOk sdf (issuer sdf) { op := 0x121, bytes := 4, r := false, w := true, kind := 2, tx := false }
      ((issuer sdf).addresses m1) (fun s1 _ => s1 = sdf && !s1.storeMustWait (issuer sdf)) = true := by
  simp only [may_iff]
  decide +kernel

/-! ## Results that the rules give: one word on a small machine -/

/-- What a word leaves, and its group. -/
def after (i : Instr) (s : State) : State :=
  match exec i s with
  | .next t => t
  | _ => State.reset
def grpAfter (i : Instr) (s : State) : Group := (after i s).group 0 0

/-- Registers set on a group: `s` registers, lane 0's `v` registers. -/
def withS (l : List (Nat × W64)) (g : Group) : Group := l.foldl (fun h x => h.writeS x.1 x.2) g
def withV (l : List (Nat × W32)) (g : Group) : Group := l.foldl (fun h x => h.writeV 0 x.1 x.2) g
/-- The machine of a word test: mode, `s` registers, lane 0's `v` registers. -/
def on (m : BitVec 23) (ss : List (Nat × W64)) (vs : List (Nat × W32)) : State :=
  mach id id fun g => inMode m (withV vs (withS ss g))

-- R89: arithmetic modulo 2^64; B[5:0] is the shift count; signed high product
theorem test_sadd_wraps : (grpAfter (.sadd (.imm 1) 3 1) (on 0x42 [(1, BitVec.allOnes 64)] [])).readS 3 = 0 := by decide +kernel
theorem test_ssub_immediate : (grpAfter (.ssub (.imm 127) 3 1) (on 0x42 [(1, 5)] [])).readS 3 = 6 := by decide +kernel
theorem test_smulh_signed :
    (grpAfter (.smulh (.s 2) 3 1) (on 0x42 [(1, BitVec.allOnes 64), (2, 2)] [])).readS 3 = BitVec.allOnes 64 := by decide +kernel
theorem test_ssra_count : (grpAfter (.ssra (.s 2) 3 1) (on 0x42 [(1, 1#64 <<< 63), (2, 127)] [])).readS 3 = BitVec.allOnes 64 := by
  decide +kernel
theorem test_ssel_reads_destination :
    (grpAfter (.ssel (.s 2) 3 1) (on 0x42 [(1, 7), (2, 9)] [])).readS 3 = 9 ∧
    (grpAfter (.ssel (.s 2) 3 1) (on 0x42 [(1, 7), (2, 9), (3, 1)] [])).readS 3 = 7 := by decide +kernel
theorem test_s63_discards : (grpAfter (.smov (.imm 5) 63) s0).readS 63 = 0 := by decide +kernel
theorem test_sclz_of_zero : (grpAfter (.sclz 3 1) s0).readS 3 = 64 := by decide +kernel
-- R91, example 4
theorem test_smovi_smovx :
    (grpAfter (.smovi 1 0x1000) s0).readS 1 = 0x1000 ∧ (grpAfter (.smovi 1 0x8000) s0).readS 1 = 0xFFFFFFFFFFFF8000 ∧
    (grpAfter (.smovx 1 2) (on 0x42 [(1, 0x1000)] [])).readS 1 = 0x200001000 := by decide +kernel
-- R45, R90: lt is signed and ltu is unsigned
theorem test_scmp_signedness :
    (grpAfter (.scmp (.imm 0) .lt 1 1) (on 0x42 [(1, BitVec.allOnes 64)] [])).readP 0 1 = true ∧
    (grpAfter (.scmp (.imm 0) .ltu 1 1) (on 0x42 [(1, BitVec.allOnes 64)] [])).readP 0 1 = false := by decide +kernel
-- R53: a type above 0x12 is refused with the word's own cause
theorem test_setm_illegal : (grpAfter (.setm 0x13) s0).trap.ecause ≠ 0 ∧ (grpAfter (.setm 0x4B) s0).trap.ecause = 0 := by
  decide +kernel
-- R73: every lane takes the branch, and the splinter stands at the target's header
theorem test_br_target : ((grpAfter (.br 0 7 0 2) sb).entries.find 0).map (fun e => (e.pc, e.mid)) = some (0x102008, false) := by
  decide +kernel
-- R74: `call` links to the header after its clause
theorem test_call_link : (grpAfter (.call 0 2) sb).readS 62 = 0x102004 := by decide +kernel
-- R97, R105: on a system core `trap` saves the PC and the mode, and enters the handler
theorem test_trap_entry :
    let g := grpAfter (.trap 5) s0
    g.trap.epc = c0.ent.pc ∧ g.trap.emode = c0.ent.mode ∧ g.exl = true ∧ (g.trap.ecause.toNat % 256) = 0x0A ∧
    (g.entries.find 0).map (fun e => (e.mode, e.mid)) = some (0x42, false) := by decide +kernel
-- R105: `eret` restores PC and mode and clears EXL
theorem test_eret :
    let g := grpAfter .eret (mach id id fun g => { g with trap := { g.trap with
      epc := 0x102000, emode := 0x4B, ecause := 1#64 <<< 25, lanes := BitVec.allOnes 32 } })
    (g.entries.find 0).map (fun e => (e.pc, e.mode)) = some (0x102000, 0x4B) ∧ g.exl = false := by decide +kernel

-- R128 to R132: wrapping; bytes; division by zero; truncation towards zero
theorem test_vadd_wraps : (grpAfter (.vadd (.imm 1) 1 0) (on 0x42 [] [(0, 0xFFFFFFFF)])).readV 0 1 = 0 := by decide +kernel
theorem test_vadd_bytes : (grpAfter (.vadd (.v 2) 1 0) (on 0 [] [(0, 0x7F01FF00), (2, 0x01010101)])).readV 0 1 = 0x80020001 := by
  decide +kernel
theorem test_vdiv_by_zero :
    let g := grpAfter (.vdiv (.v 2) 1 0) (on 0x42 [] [(0, 7)])
    g.readV 0 1 = 0xFFFFFFFF ∧ g.fp ≠ 0 := by decide +kernel
theorem test_vdiv_truncates : (grpAfter (.vdiv (.imm 2) 1 0) (on 0x42 [] [(0, 0xFFFFFFF9)])).readV 0 1 = 0xFFFFFFFD := by decide +kernel
theorem test_vz_discards : (grpAfter (.vadd (.imm 1) 127 0) (on 0x42 [] [])).readV 0 127 = 0 := by decide +kernel
theorem test_vsra_sign : (grpAfter (.vsra (.imm 4) 1 0) (on 0x42 [] [(0, 0x80000000)])).readV 0 1 = 0xF8000000 := by decide +kernel
-- R129: n32 minimum is unsigned, i32 minimum signed
theorem test_vmin_signedness : (grpAfter (.vmin (.imm 1) 1 0) (on 0x42 [] [(0, 0xFFFFFFFF)])).readV 0 1 = 0xFFFFFFFF := by
  decide +kernel
-- R116, example 1: t8 addition, with NX
theorem test_vfadd_t8 :
    let g := grpAfter (.vfadd (.v 5) 6 4) (on 0x4E [] [(4, 0x81807E5A), (5, 0x01407E38)])
    g.readV 0 6 = 0x00807E60 ∧ g.fp = 0x10 := by decide +kernel
-- R123, example 2: 500 to e4m3 under SAT 0 and 1
theorem test_vcvt_e4m3 :
    (grpAfter (.vcvt 8 1 0 0) (on 0x18A [] [(1, 0x43FA0000)])).readV 0 8 = 0x7F ∧
    (grpAfter (.vcvt 8 1 0 0) (on 0x218A [] [(1, 0x43FA0000)])).readV 0 8 = 0x7E := by decide +kernel
-- R134: one rounding: (1 + 2^-12)^2 - 1 is exact before it rounds
theorem test_vfma_one_rounding :
    (grpAfter (.vfma (.v 3) 8 2) (on 0x14A [] [(2, 0x3F800800), (3, 0x3F800800), (8, 0xBF800000)])).readV 0 8 = 0x3A000400 := by
  decide +kernel
-- R142, example 6
theorem test_vrnd_example :
    let g := grpAfter (.vrnd 9) (mach id id fun g => g.setRng 0 (0x4#32 ++ 0x3#32 ++ 0x2#32 ++ 0x1#32))
    g.readV 0 9 = 0x80D ∧ g.rngOf 0 = 0x80D#32 ++ 0x4#32 ++ 0x3#32 ++ 0x2#32 := by decide +kernel
-- R138: lane 0 reads lane 1; a source outside MASK gives 0
theorem test_vrot : (grpAfter (.vrot (.imm 1) 2 1) (mach id id fun g => g.writeV 1 1 9)).readV 0 2 = 9 ∧
    (grpAfter (.vrot (.imm 1) 2 1) (mach id id fun g => few (g.writeV 1 1 9))).readV 0 2 = 0 := by decide +kernel
-- R139: 32 lanes of 1
theorem test_vred_add : (grpAfter (.vred 2 1 0) (mach id id fun g => { g with
    v := (List.range 32).map fun l => (128 * l + 1, 1#32) })).readV 5 2 = 32 := by decide +kernel
-- R155, R174: little-endian words
theorem test_scratchpad : ((grpAfter (.ldsw 1 ⟨127, 1, 0⟩) (mach id (fun t => { t with spad := (List.range 4).map fun k => (k, BitVec.ofNat 8 (k + 1)) })
    (withS [(1, 0)]))).readV 0 1 = 0x04030201) := by decide +kernel
-- R188: B[33:32] = 11 is refused
theorem test_parkt : (grpAfter (.parkt 1) (on 0x42 [(1, 0x3_0000_0000)] [])).trap.ecause ≠ 0 ∧
    (grpAfter (.parkt 1) (on 0x42 [(1, 0x1_0000_0005)] [])).hbc = 0x1_0000_0005 := by decide +kernel
-- R220: `mcfg` sets SCFG
theorem test_mcfg : (grpAfter (.mcfg 0x40000) s0).scfg = 0x40000 := by decide +kernel
-- R266: the register receives the phase that the arrival counts in
theorem test_barv : (grpAfter (.barv 5 1) (mach id (fun t => { t with nbar := 2, bars := [(1, { members := 2, arr := 1, phase := 0, xexp := 0, xarr := 0 })] }) id)).readS 5 = 0 := by
  decide +kernel
-- R351: a partition number that names none gives 4
theorem test_kslot_no_partition : (grpAfter (.kslot 5 1) (on 0x42 [(1, 0x2A0001)] [])).readS 5 = 4 := by decide +kernel

/-- The first GiB holds f32 elements (R148). -/
def sq : State := mach (fun s => s.writeBytes 0 0x113000 (bytesLE 8 (0x1F + 0x0A * 2 ^ 52))) id fun g => few { g with s := [(1, 0x4000)] }
def cq : Ctx := issuer sq
/-- The same under FX, where a lane holds a signaling NaN. -/
def sqx : State := mach (fun s => s.writeBytes 0 0x113000 (bytesLE 8 (0x1F + 0x08 * 2 ^ 52))) id fun g =>
  inMode 0x10014A <| few { g with s := [(1, 0x4000)], v := [(9, 0x7F800001)] }
def cqx : Ctx := issuer sqx

def fmtOk (s : State) (c : Ctx) (r : Rule) (m : Mem) (p : State → List (Nat × FmtAcc) → Bool) : Bool :=
  match s.checkFmt c r m with
  | .ok (t, ls) => ls ≠ [] && p t ls
  | .error _ => false

theorem test_witness_formatted :
    cq.MayIssue sq 0x110 [9, 127] [] [1] ∧ cq.MayIssue sq 0x111 [9, 127] [] [1] ∧ cqx.MayIssue sqx 0x111 [9, 127] [] [1] ∧
    wellFormed (.ldf 9 m1) = true ∧
    fmtOk sq cq { op := 0x110, bytes := 1, r := true, w := false, kind := 1, tx := true } m1 (fun s1 ls =>
      let f := ls.foldl (FmtLoad.lane (cq.refresh s1) 9 m1)
        { a := { s := s1, writes := [], bads := [], devs := [], stall := false }, flags := 0, traps := [] }
      !f.a.stall && !s1.acquirePending (cq.refresh s1) &&
        ls.all fun y => y.2.parts.all fun p => !(cq.refresh s1).scOverlap p.pa p.len) = true ∧
    wellFormed (.stf 9 m1) = true ∧ sq.storeMustWait cq = false ∧
    fmtOk sq cq { op := 0x111, bytes := 1, r := false, w := true, kind := 2, tx := true } m1 (fun s1 ls => s1 = sq &&
      (fpTrap (modeFX cq.ent.mode) (ls.map fun y => (y.1, ((elemsOf cq.ty (cq.grp.readOp cq.ty y.1 9)).map
        (fmtConvert cq.env cq.ty y.2.fmt)).map (·.2)))).isNone) = true ∧
    cq.active &&& cq.grp.txOpen = 0 ∧ sqx.storeMustWait cqx = false ∧ cqx.active &&& cqx.grp.txOpen = 0 ∧
    fmtOk sqx cqx { op := 0x111, bytes := 1, r := false, w := true, kind := 2, tx := true } m1 (fun s1 ls => s1 = sqx &&
      (fpTrap (modeFX cqx.ent.mode) (ls.map fun y => (y.1, ((elemsOf cqx.ty (cqx.grp.readOp cqx.ty y.1 9)).map
        (fmtConvert cqx.env cqx.ty y.2.fmt)).map (·.2)))).isSome) = true := by
  simp only [may_iff]
  decide +kernel

def spadOk (s : State) (c : Ctx) (op n : Nat) (w : Bool) (m : Mem) : Bool :=
  match s.checkSpad c op n w m with
  | .ok (t, ls) => t = s && ls ≠ []
  | .error _ => false

theorem test_witness_scratchpad :
    cm.MayIssue sm 0x116 [124, 127] [] [1] ∧ cm.MayIssue sm 0x118 [126, 127] [] [1] ∧
    (spadForm (.ldsq 124 m1)).isSome = true ∧ wellFormed (.ldsq 124 m1) = true ∧ spadOk sm cm 0x116 16 false m1 = true ∧
    (spadForm (.stsw 126 m1)).isSome = true ∧ wellFormed (.stsw 126 m1) = true ∧ spadOk sm cm 0x118 4 true m1 = true ∧
    cm.active &&& cm.grp.txOpen = 0 := by
  simp only [may_iff]
  decide +kernel

/-- The group's atomics are sent as SC accesses (R188). -/
def spo : State := mach id id fun g => few { g with
  v := (List.range 32).map fun l => (128 * l, BitVec.ofNat 32 (0x4000 + 8 * l)), hbc := 0x200000000 }
def cpo : Ctx := issuer spo
def hbk (op : Nat) : Rule := { op := op, bytes := 4, r := true, w := true, kind := 3 }

theorem test_witness_atomics :
    cp.MayIssue sp 0x149 [0, 126] [0] [] ∧ cpo.MayIssue spo 0x149 [0, 126] [0] [] ∧ cp.MayIssue sp 0x148 [0, 126] [0] [] ∧
    cm.MayIssue sm 0x122 [126, 127] [] [1] ∧ cm.MayIssue sm 0x123 [126, 127] [] [1] ∧ cp.active &&& cp.grp.txOpen = 0 ∧
    (atomForm (.acas (.imm 1) 126 0)).isSome = true ∧ wellFormed (.acas (.imm 1) 126 0) = true ∧ cp.ty = 2 ∧
    sp.storeMustWait cp = false ∧ lanesOk sp cp (hbk 0x149) (cp.pointers 0) (fun t _ => t = sp) = true ∧
    cp.grp.hbc.extractLsb' 32 2 = 0 ∧ spo.storeMustWait cpo = false ∧ cpo.grp.hbc.extractLsb' 32 2 = 2 ∧
    lanesOk spo cpo (hbk 0x149) (cpo.pointers 0) (fun t _ => t = spo) = true ∧ cp.ty ∉ [0x0A, 0x0B] ∧
    wellFormed (.ldsc 126 m1) = true ∧
    lanesOk sm cm { op := 0x122, bytes := 4, r := true, w := false, kind := 1 } (cm.addresses m1) (fun t _ => t = sm) = true ∧
    wellFormed (.stsc 126 m1) = true ∧ cm.dueStore = none ∧
    lanesOk sm cm { op := 0x123, bytes := 4, r := false, w := true, kind := 2 } (cm.addresses m1) (fun t _ => t = sm) = true := by
  simp only [may_iff]
  decide +kernel

/-- Region 0x1 (R148): the second GiB maps to it. -/
def sy : State := mach (fun s => s.writeBytes 0 0x113008 (bytesLE 8 (0x1F + 2 ^ 48 + 0x40000000 + 0x1F * 2 ^ 52))) id fun g =>
  few { g with s := [(1, 0x40000000)] }
def cy : Ctx := issuer sy

theorem test_witness_fences :
    c0.MayIssue s0 0x129 [] [] [] ∧ cm.MayIssue sm 0x128 [127] [] [1] ∧ cy.MayIssue sy 0x12A [127] [] [1] ∧
    cm.MayIssue sm 0x12B [127] [] [1] ∧ cm.MayIssue sm 0x130 [126, 127] [126] [1] ∧ c0.MayIssue s0 0x131 [] [] [62] ∧
    wellFormed (.fence 0 4) = true ∧ wellFormed (.fence 2 0) = true ∧ s0.storesAt 0 0 4 = true ∧
    s0.loadsBound 0 0 = true ∧ s0.throughDone 0 0 = true ∧ c0.dueStore = none ∧ wellFormed (.pref 2 m1) = true ∧
    wellFormed (.flush m1) = true ∧
    lanesOk sy cy (cacheRule 0x12A) (cy.addresses m1) (fun t ls => t = sy && ls.any fun y => regionOf y.2.2.pa = 1) = true ∧
    cy.grp.sq ++ (sy.core 192).cso = [] ∧ wellFormed (.inv m1) = true ∧
    lanesOk sm cm (cacheRule 0x12B) (cm.addresses m1) (fun t _ => t = sm) = true ∧ wellFormed (.xlat 126 m1) = true ∧
    (∀ l ∈ cm.lanes, (match sm.xlatOf 192 cm.grp.port (sm.core 192).xfen.toNat (cm.ea m1 l) with | .ok _ => true | _ => false) = true) := by
  simp only [may_iff]
  decide +kernel

theorem test_witness_park :
    c0.MayIssue s0 0x14B [] [] [1] ∧ cp.MayIssue sp 0x14B [] [] [2] ∧ cp.MayIssue sp 0x14A [0] [0] [] ∧
    (c0.grp.readS 1).extractLsb' 32 2 ≠ 3 ∧ (c0.grp.readS 1).extractLsb' 34 30 = 0 ∧
    wellFormed (.park (.imm 0) .eq 6 0) = true ∧ cp.ty = 2 ∧ cp.active &&& cp.grp.txOpen = 0 ∧
    lanesOk sp cp (hbk 0x14A) (cp.pointers 0) (fun t ls => t = sp && ls.all fun y =>
      (sp.lineErr cp.fen (y.2.2.pa / 64)).isNone && compareElem bankEnv .eq 2 (sp.readNat cp.fen y.2.2.pa 4) 0 &&
      !compareElem bankEnv .ne 2 (sp.readNat cp.fen y.2.2.pa 4) 0) = true ∧
    sp.acquirePending cp = false ∧ sp.mem.monitors.length + 2 ≤ 64 := by
  simp only [may_iff]
  decide +kernel

/-- A group with open transactions in every lane. -/
def st : State := mach id id fun g => { g with txBuf := true, tx := (List.range 32).map fun l => (l, { TxLane.none with state := .opened }) }
/-- A core whose four log buffers are in use (R199). -/
def sz : State := mach (fun s => s.setTeam 1 { s.team 0 with groups := (List.range 4).map fun g =>
  (g, { s.group 0 0 with txBuf := true }) }) id id

theorem test_witness_transactions :
    c0.MayIssue s0 0x150 [] [] [] ∧ (issuer sz).MayIssue sz 0x150 [] [] [] ∧ (issuer st).MayIssue st 0x152 [] [] [] ∧
    (issuer st).MayIssue st 0x153 [126] [] [] ∧ (issuer st).MayIssue st 0x154 [126] [] [] ∧
    (issuer st).MayIssue st 0x151 [126] [] [] ∧ c0.MayIssue s0 0x151 [126] [] [] ∧ s0.committing c0.ti c0.gi = false ∧
    (∀ l ∈ c0.lanes, (c0.grp.txLane l).state = .none) ∧ c0.lanes ≠ [] ∧ s0.buffersUsed 192 < 4 ∧
    (issuer sz).grp.txBuf = false ∧ 4 ≤ sz.buffersUsed 192 ∧ sz.committing (issuer sz).ti (issuer sz).gi = false ∧
    (issuer st).active &&& (issuer st).grp.txOpen ≠ 0 ∧ st.committing (issuer st).ti (issuer st).gi = false := by
  simp only [may_iff]
  decide +kernel

/-! ### Sedge and the copy engines -/

/-- A machine for `mma`: s5 = 0 is B's offset, types f16 by bf16, a gang of groups 0 and 1 in the second. -/
def sk : State := mach id id (inMode 0x128)
def ck : Ctx := issuer sk
def skg : State := mach id (fun t => { t with nc := 2, groups := t.groups ++ [(1, { Group.blank with
  entries := [(0, newSplinter 0x102000 noFrame 0x42 (BitVec.allOnes 32))] })] })
  fun g => inMode 0x128 { g with gang := 0x0000000000010002 }
def ckg : Ctx := issuer skg
def mx : Mx := { op := 0x162, ru := false, acc := 63, a := 120, s := 5, pat := false, z := true }

theorem test_witness_matrix :
    c0.MayIssue s0 0x162 (vRange 120 (fragRegs 0x162 c0.ty false)) [] [5] ∧
    ck.MayIssue sk 0x162 (vRange 118 (fragRegs 0x162 ck.ty false)) [] [5] ∧
    ckg.MayIssue skg 0x162 (vRange 118 (fragRegs 0x162 ckg.ty false)) [] [5] ∧
    (matrixForm (.mma 0 63 120 5 1)).isSome = true ∧ wellFormed (.mma 0 63 120 5 1) = true ∧
    sedgeTypes 0x162 c0.ty (modeCTY c0.ent.mode) = false ∧ (mx.pre ck).isOk = true ∧ (mx.metaOk ck).isOk = true ∧
    ck.sedgeReady sk = true ∧ gangGroups ck.grp.gang.toNat = [] ∧ (mx.pre ckg).isOk = true ∧ (mx.metaOk ckg).isOk = true ∧
    ckg.sedgeReady skg = true ∧ gangGroups ckg.grp.gang.toNat = [0, 1] ∧ wellFormed (.mmas 1 0 0 0 1 0) = true ∧
    (matrixForm (.mmas 1 0 0 0 1 0)).isSome = true := by
  simp only [may_iff]
  decide +kernel

/-- Sedge holds an operation on tile 63. -/
def opOf (kind : SedgeKind) (id tile : Nat) : SedgeOp :=
  { id := id, op := id, count := 1, kind := kind, team := 0, fen := 0, group := 0, pos := 0, tile := tile, done := false, pat := false
    z := true, ty := 8, cty := 9, boff := 0, scfg := 0, flag := 0, frag := [], bread := none }
def so : State := mach (fun s => s.modCore 192 fun k => { k with sedge := [opOf .accz 9 63] }) id id

theorem test_witness_tiles :
    c0.MayIssue s0 0x160 [] [] [] ∧ c0.MayIssue s0 0x161 [] [] [1] ∧ cm.MayIssue sm 0x161 [] [] [1] ∧
    c0.MayIssue s0 0x168 [] [] [] ∧ c0.MayIssue s0 0x167 (vRange 118 8) [] [] ∧
    (issuer so).MayIssue so 0x167 (vRange 118 8) [] [] ∧
    ck.MayIssue sk 0x165 (vRange 16 16 ++ vRange 0 (8 + metaRegs ck.ty false)) [] [] ∧
    c0.MayIssue s0 0x165 (vRange 16 16 ++ vRange 0 (8 + metaRegs c0.ty false)) [] [] ∧
    cm.MayIssue sm 0x166 (vRange 118 8 ++ [127]) [] [1] ∧ c0.MayIssue s0 0x169 [] [] [62] ∧ wellFormed (.mcfg 0) = true ∧
    c0.gangBad (c0.grp.readS 1).toNat = false ∧ cm.gangBad (cm.grp.readS 1).toNat = true ∧ (c0.tileOk 63).isOk = true ∧
    (s0.core 192).sedgeRoom = true ∧ wellFormed (.accld 63 118 3) = true ∧ s0.pendingTile 192 0 (c0.tile 63) = 0 ∧
    so.pendingTile 192 0 ((issuer so).tile 63) ≠ 0 ∧ wellFormed (.mcomp 0 16 0 0) = true ∧ ck.ty = 8 ∧
    c0.ty ∉ [0x08, 0x09, 0x0C, 0x0D, 0x0E] ∧ wellFormed (.ldga 118 m1) = true ∧
    lanesOk sm cm { op := 0x104, bytes := 32, r := true, w := false, kind := 1, tx := true } (cm.addresses m1) (fun s1 ls =>
      let a := ls.foldl (LoadAcc.lane (cm.refresh s1) (cm.loadSpec 32 118 true true) true)
        { s := s1, writes := [], bads := [], devs := [], stall := false }
      !a.stall && !s1.acquirePending (cm.refresh s1) && ls.all fun y => !(cm.refresh s1).scOverlap y.2.2.pa 32) = true ∧
    wellFormed (.mstat 62 5) = true := by
  simp only [may_iff]
  decide +kernel

/-- Layout records at 0x4000 (f32, four elements), 0x4040 (bf16, sixteen elements) and 0x4080 (invalid), for a user team
whose partition has an engine. -/
def records (s : State) : State :=
  { s.writeBytes 0 0x4000 (bytesLE 64 (0x8000 + 2 ^ 57 + 0x0A * 2 ^ 64 + 16 * 2 ^ 128 + 3 * 2 ^ 448)
      ++ bytesLE 64 (0x8000 + 2 ^ 57 + 0x09 * 2 ^ 64 + 16 * 2 ^ 128 + 15 * 2 ^ 448)) with
    guard := { s.guard with engines := [(63, { pid := 0, v := true, pend := none })] } }
def sc : State := mach records (fun t => { t with system := false, core := 0 }) fun g =>
  { g with s := [(1, 0x4000), (2, 0x4040), (3, 0x4080), (4, 0x180)] }
def cc : Ctx := issuer sc

/-- What the statement about bulk copies asks of a record. -/
def copyOk (cmd : CopyCmd) (op ra crd : Nat) (p : Bool) : Bool :=
  match sc.chk cc { op := op, bytes := 64, r := true, w := false, kind := 1 } false ra with
  | .ok x => !sc.acquirePending cc && match sc.bind64 cc x.nc x.pa with
    | (.val bs, s1) => (match cc.copyPlan cmd crd ra (natLE bs) with
      | .ok q => p && q.slot.isNone && (s1.core 0).lockRoom 1 && cc.engine s1 = some 63
      | .error _ => !p)
    | _ => false
  | _ => false

theorem test_witness_bulk_copy :
    cc.MayIssue sc 0x180 [] [] ([62, 1] ++ sRange 10 3) ∧ cc.MayIssue sc 0x180 [] [] ([62, 3] ++ sRange 10 3) ∧
    cc.MayIssue sc 0x181 [] [] ([63, 2, 4] ++ sRange 10 3) ∧ c0.MayIssue s0 0x180 [] [] ([62, 1] ++ sRange 10 3) ∧
    wellFormed (.cpt 62 1 10 0 1) = true ∧ cc.engine sc ≠ none ∧
    copyOk { toGlobal := true, bar := 0, sty := none, crm := 0, csat := false } 0x180 0x4000 10 true = true ∧
    copyOk { toGlobal := true, bar := 0, sty := none, crm := 0, csat := false } 0x180 0x4080 10 false = true ∧
    wellFormed (.cpx 63 2 10 4) = true ∧ cpxBad 0x180 = false ∧ copyOk (cpxCmd 0x180) 0x181 0x4040 10 true = true ∧
    c0.engine s0 = none := by
  simp only [may_iff]
  decide +kernel

/-- Lane l copies l bytes to scratchpad offset 32 l. -/
def sn : State := mach id id fun g => few { g with
  v := (List.range 32).flatMap fun l => [(128 * l, BitVec.ofNat 32 (0x4000 + 16 * l)), (128 * l + 2, BitVec.ofNat 32 (32 * l)),
    (128 * l + 3, BitVec.ofNat 32 l)] }
def cn : Ctx := issuer sn

theorem test_witness_lane_copy :
    cn.MayIssue sn 0x182 [2, 0, 3] [0] [] ∧ cn.MayIssue sn 0x182 [2, 0] [0] [] ∧ c0.MayIssue s0 0x183 [] [] [62] ∧
    c0.MayIssue s0 0x184 [] [] [] ∧ wellFormed (.cpl (.v 3) 2 0) = true ∧
    (∀ l ∈ cn.lanes, cn.low32 (.v 3) l ≤ 32 ∧ (match sn.cplLane cn (.v 3) 2 0 l with | .ok _ => true | _ => false) = true) ∧
    (sn.core 192).lockRoom 1 = true ∧ (∃ l ∈ cn.lanes, 32 < cn.low32 (.imm 33) l) ∧ wellFormed (.cpg 62 15) = true ∧
    c0.grp.copies = 0 := by
  simp only [may_iff]
  decide +kernel

/-- Barrier 15 expects two members and 2^32 - 1 bytes, of phase 7; barrier 14 has none. -/
def sbr : State := mach id (fun t => { t with bars := [(15, { members := 2, arr := 0, phase := 7, xexp := 2 ^ 32 - 1, xarr := 0 }),
  (14, { members := 0, arr := 0, phase := 0, xexp := 0, xarr := 0 })] }) fun g => { g with s := [(1, 7), (2, 6)] }
def cbr : Ctx := issuer sbr

theorem test_witness_barriers :
    cbr.MayIssue sbr 0x190 [] [] [] ∧ cbr.MayIssue sbr 0x191 [] [] [62] ∧ cbr.MayIssue sbr 0x192 [] [] [] ∧
    cbr.MayIssue sbr 0x193 [] [] [1] ∧ cbr.MayIssue sbr 0x193 [] [] [2] ∧ cbr.MayIssue sbr 0x194 [] [] [] ∧
    (15 : BitVec 4).toNat < cbr.team.nbar ∧ wellFormed (.binit (.imm 1) 15) = true ∧ (cbr.team.bar 15).xexp ≠ 0 ∧
    (cbr.team.bar 14).arr = 0 ∧ (cbr.team.bar 14).xexp = 0 ∧ (cbr.team.bar 14).xarr = 0 ∧
    (uniOperand cbr.grp (.imm 1)).toNat = 1 ∧ (cbr.team.bar 14).members = 0 ∧ (cbr.team.bar 15).members ≠ 0 ∧
    (cbr.team.bar 15).arr ≠ 1023 ∧ sbr.storesAt 0 0 1 = true ∧ wellFormed (.bexp (.imm 1) 15) = true ∧
    2 ^ 32 ≤ (cbr.team.bar 15).xexp + 1 ∧ (cbr.team.bar 15).xexp + 0 < 2 ^ 32 ∧ wellFormed (.bwait (.s 1) 15) = true ∧
    (cbr.team.bar 15).phase = cbr.phaseOf (.s 1) 15 ∧ (cbr.team.bar 15).phase ≠ cbr.phaseOf (.s 2) 15 ∧
    wellFormed (.btest (.v 0) 7 15) = true := by
  simp only [may_iff]
  decide +kernel

/-- Stream 0 is free, stream 1 has two slots with one filled and one popped, stream 2 has one slot in hand. -/
def ss : State := mach id (fun t => { t with streams := [
    (1, { base := 0, nsm1 := 2, ssz := 1, freei := 0, np := 1, nc := 1, v := true, filled := 2, hand := 0, stall := 0, start := 0 }),
    (2, { base := 0, nsm1 := 1, ssz := 1, freei := 0, np := 0, nc := 1, v := true, filled := 0, hand := 1, stall := 0, start := 0 })] })
  fun g => { g with s := [(1, 0x0000000100000000), (2, 0x8000000000000000)] }
def cs : Ctx := issuer ss

theorem test_witness_streams :
    cs.MayIssue ss 0x188 [] [] [1] ∧ cs.MayIssue ss 0x188 [] [] [2] ∧ cs.MayIssue ss 0x189 [] [] [62] ∧
    cs.MayIssue ss 0x189 [] [] [] ∧ cs.MayIssue ss 0x18A [] [] [] ∧ cs.MayIssue ss 0x18B [] [] [62] ∧
    (7 : BitVec 3).toNat < cs.team.nstr ∧ (cs.team.stream 1).np ≠ 0 ∧ (cs.team.stream 0).nc = 0 ∧
    (cs.team.stream 0).np = 0 ∧ streamBad cs.team (cs.grp.readS 1).toNat = false ∧
    streamBad cs.team (cs.grp.readS 2).toNat = true ∧ (cs.team.stream 1).v = true ∧
    (cs.team.stream 1).np + (cs.team.stream 1).nc < (cs.team.stream 1).nsm1 + 1 ∧ (cs.team.stream 1).handSlot = none ∧
    (cs.team.stream 2).handSlot = some 0 ∧ ss.storesAt 0 0 1 = true ∧ (cs.team.stream 2).np = 0 ∧
    (cs.team.stream 0).v = false ∧ (cs.team.stream 1).canPop = true ∧ (cs.team.stream 2).canPop = false := by
  simp only [may_iff]
  decide +kernel

/-! ### Reed, the distributor and the guard -/

/-- Handle 1023 is loaded for fen 0x00, bound to remap entry 4095; port 36 is up. -/
def hnd (fen : Nat) : Handle := { Handle.none with loaded := true, load := 1, cqv := true, sqm1 := 15, cqm1 := 15, port := 36, rmap := 4095, fen := fen }
def reedOf (fen : Nat) (s : State) : State := { s with reed := { s.reed with
  handles := [(1023, hnd fen)], remap := [(4095, { Remap.cold with v := true, fen := fen, port := 36 })]
  ports := [(36, { Port.cold with role := 1, inForce := 1, up := true })]
  prq := [{ tag := 4095, popped := true, src := 1, acc := 1, last := false, prgi := 0, fen := 0, va := 0x4000, rid := 0, port := 0
            pasid := 0, time := 0 }] } }
def sh1 : State := mach (reedOf 0) id fun g => { g with
  s := [(1, 1023), (2, 4095), (3, 36 * 2 ^ 28), (4, 1)], v := (List.range 32).map fun l => (128 * l, BitVec.ofNat 32 (l / 2)) }
def ch1 : Ctx := issuer sh1
/-- The handle is another fen's. -/
def sh2 : State := mach (reedOf 7) id fun g => { g with s := [(1, 1023)] }
def ch2 : Ctx := issuer sh2

/-- A page request waits. -/
def sh3 : State := mach (fun s => let t := reedOf 0 s
  { t with reed := { t.reed with prq := t.reed.prq.map fun e => { e with popped := false } } }) id id

theorem test_witness_handles :
    ch1.MayIssue sh1 0x1A0 [] [] [1] ∧ ch1.MayIssue sh1 0x1A0 [] [] [2] ∧ ch1.MayIssue sh1 0x1A1 [] [] [1] ∧
    ch2.MayIssue sh2 0x1A1 [] [] [1] ∧ ch1.MayIssue sh1 0x1A2 [] [] [1] ∧ wellFormed (.iodb (.imm 15) 1) = true ∧
    (ch1.handleCheck sh1 1 true).isOk = true ∧ (ch1.handleCheck sh1 2 false).isOk = false ∧
    (issuer (mach (reedOf 0) id fun g => inMode 0x080042 { g with p := [(0, 1)], s := [(1, 1023)] })).slotCheck
      (mach (reedOf 0) id fun g => inMode 0x080042 { g with p := [(0, 1)], s := [(1, 1023)] }) false (.imm 15) 1 = .ok () ∧
    (sh1.core 192).lockRoom 1 = true ∧ (15 : BitVec 4).toNat < ch1.team.nbar ∧ (ch1.bindCheck sh1 1).isOk = true ∧
    (ch1.handle sh1 1).fen = ch1.fen ∧ (ch2.bindCheck sh2 1).isOk = true ∧ (ch2.handle sh2 1).fen ≠ ch2.fen := by
  simp only [may_iff]
  decide +kernel

theorem test_witness_page_requests :
    ch1.MayIssue sh1 0x1A8 [] [] (sRange 56 4) ∧ (issuer sh3).MayIssue sh3 0x1A8 [] [] (sRange 56 4) ∧
    ch1.MayIssue sh1 0x1A9 [] [] [2] ∧ ch1.MayIssue sh1 0x1AA [] [] [62, 3] ∧ ch1.MayIssue sh1 0x1AB [] [] [62, 3, 4] ∧
    ch1.MayIssue sh1 0x1AC [] [] (sRange 56 4) ∧ wellFormed (.prqpop 56) = true ∧
    (sh1.reed.prq.find? fun e => !e.popped) = none ∧ (sh3.reed.prq.find? fun e => !e.popped).isSome = true ∧
    wellFormed (.prqack 2 2) = true ∧ (ch1.ackEntry sh1 2).isSome = true ∧ ch1.ackEntry sh1 4 = none ∧
    sh1.storesAt 0 0 3 = true ∧ sh1.cfgTarget (ch1.grp.readS 3).toNat = true ∧
    sh1.cfgTarget (ch1.grp.readS 4).toNat = false ∧ wellFormed (.ntbmap 56) = true ∧
    sh1.windowOk (ch1.descriptor 56) = true ∧ sh1.windowBusy (sh1.window (windowOf (ch1.descriptor 56)).win) = false ∧
    sh1.windowOk (ch1.descriptor 4) = false := by
  simp only [may_iff]
  decide +kernel

/-- Partition 44 with four slices: queue 63 is fen 0x01's, enabled with sixteen slots, and a team of it runs on core 176. -/
def dist (q : LQueue → LQueue) (s : State) : State := { s with
  parts := [(44, { Part.cold with
    size := 4, gen := 1, en := true, queues := [(63, q { LQueue.cold with en := true, fen := 1, base := 0x20000 })]
    grids := [{ id := 1, queue := 63, seq := 0, slot := 0, lrec := 0x20000, origin := 0, enqTeam := none, copying := false
                rec_ := lrecOf 0, next := 1, since := 0, conts := 0, live := 1, nend := 0, stop := false, begun := true, done := false
                rejected := false, cause := 0, defer := false, pc := 0 }] })]
  guard := { s.guard with fens := s.guard.fens ++ [(1, { Fen.cold with v := true, pid := 44 })] } }
def utbl (s : State) : State := s.writeBytes 0 0x110008 (bytesLE 8 (0x111000 + 1))
def sdu (q : LQueue → LQueue) : State := mach (fun s => utbl (dist q s))
  (fun t => { t with system := false, core := 176, pid := 44, fen := 1, grid := 1, slot := some (0, 1), queue := 63 }) fun g => { g with
    v := (List.range 32).map fun l => (128 * l, 0x4000), s := [(1, 63)] }
def sd1 : State := sdu id
def cd1 : Ctx := issuer sd1
/-- The queue holds sixteen. -/
def sd2 : State := sdu fun q => { q with tail := 16 }
def cd2 : Ctx := issuer sd2
/-- The queue is another fen's. -/
def sd3 : State := sdu fun q => { q with fen := 2 }
def sds : State := mach (dist id) id fun g => { g with s := [(1, 44 + 63 * 64), (2, 45)] }
def cds : Ctx := issuer sds

theorem test_witness_launch :
    cd1.MayIssue sd1 0x1B0 [0] [0] [] ∧ cd2.MayIssue sd2 0x1B0 [0] [0] [] ∧ (issuer sd3).MayIssue sd3 0x1B0 [0] [0] [] ∧
    cd1.MayIssue sd1 0x1B1 [2, 0] [0] [1] ∧ c0.MayIssue s0 0x1B1 [2, 0] [0] [1] ∧ cds.MayIssue sds 0x1B8 [] [] [62, 1] ∧
    cds.MayIssue sds 0x1B8 [] [] [62, 2] ∧ wellFormed (.enq (.imm 63) 7 0) = true ∧ cd1.enqQueue (.imm 63) = 63 ∧
    (cd1.enqCheck (.imm 63) sd1).isOk = true ∧ (cd1.enqCheck (.imm 62) sd1).isOk = false ∧
    ((sd1.part 44).queue 63).fen = cd1.fen ∧
    (match sd1.chk cd1 { op := 0x1B0, bytes := 64, r := true, w := false, kind := 1 } false
      (cd1.grp.readV2 (lowLane cd1.active) 0).toNat with | .ok _ => true | _ => false) = true ∧
    ((sd1.part 44).queue 63).held < 16 ∧ (sd1.core 176).lockRoom 1 = true ∧ 16 ≤ ((sd2.part 44).queue 63).held ∧
    (cd2.enqCheck (.imm 63) sd2).isOk = true ∧ ((sd3.part 44).queue 63).fen ≠ (issuer sd3).fen ∧
    (sd1.part 44).deposits + cd1.lanes.length ≤ 4096 ∧ ((sd1.part 44).grid 1).isSome = true ∧ c0.team.system = true ∧
    wellFormed (.launch 62 1 8) = true ∧ sds.storesAt 0 0 3 = true ∧ bitsOf (cds.grp.readS 1).toNat 12 52 = 0 ∧
    sds.isPart 44 = true ∧ ((sds.part 44).queue 63).en = true ∧ ((sds.part 44).queue 63).held + 8 + 8 ≤ 2 ^ 4 ∧
    2 ^ 4 < ((sds.part 44).queue 63).held + 9 + 8 ∧ sds.isPart 45 = false := by
  simp only [may_iff]
  decide +kernel

/-- A second, user, team: resident on core 191, or swapped out by a fault with record 5. -/
def sf1 : State := mach (fun s => dist id (s.setTeam 1 { s.team 0 with system := false, core := 191, pid := 44, fen := 1 })) id
  fun g => { g with s := [(1, 191), (2, 192), (3, 191 + 0x10000 + 0x100), (4, 191 + 44 * 256)] }
def cf1 : Ctx := issuer sf1
def sf2 : State := mach (fun s => dist id (s.setTeam 1 { s.team 0 with
  system := false, core := 0, pid := 44, fen := 1, status := .out, cause := .fault, fqidx := some 5 })) id
  fun g => { g with s := [(1, 5), (2, 44), (3, 6), (4, 191 + 44 * 256), (5, 44)] }
def cf2 : Ctx := issuer sf2
/-- Core 191 is lent. -/
def sf3 : State := mach (fun s => s.modCore 191 fun k => { k with lent := some 44 }) id fun g => { g with s := [(1, 191)] }

theorem test_witness_scheduling :
    cf1.MayIssue sf1 0x1B9 [] [] [62, 1] ∧ cf1.MayIssue sf1 0x1B9 [] [] [62, 2] ∧ cf1.MayIssue sf1 0x1B9 [] [] [62, 3] ∧
    cf2.MayIssue sf2 0x1BA [] [] (62 :: 1 :: 2 :: sRange 1 0) ∧
    cf2.MayIssue sf2 0x1BA [] [] (62 :: 3 :: 4 :: sRange 3 0) ∧ cf1.MayIssue sf1 0x1BB [] [] [62, 4] ∧
    cf2.MayIssue sf2 0x1BB [] [] [62, 4] ∧ cf1.MayIssue sf1 0x1BC [] [] [62, 1] ∧
    (issuer sf3).MayIssue sf3 0x1BC [] [] [62, 1] ∧ bitsOf (cf1.grp.readS 1).toNat 0 8 = 191 ∧
    bitsOf (cf1.grp.readS 1).toNat 17 47 = 0 ∧ bitOf (cf1.grp.readS 1).toNat 16 = false ∧
    191 < bitsOf (cf1.grp.readS 2).toNat 0 8 ∧ bitOf (cf1.grp.readS 3).toNat 16 = true ∧
    bitsOf (cf1.grp.readS 3).toNat 8 8 = 1 ∧ (sf1.fen 1).v = true ∧
    (resumeForm 62 1 (.resumeSkipArgs 62 1)).isSome = true ∧ wellFormed (.resumeSkipArgs 62 1) = true ∧
    (sf2.faulted 44 5).isSome = true ∧ sf2.isPart 44 = true ∧ sf2.faulted 44 6 = none ∧
    bitsOf (cf1.grp.readS 4).toNat 8 6 = 44 ∧ sf1.teamsOn 191 ≠ [] ∧ (sf2.core 191).lent = none ∧ sf2.teamsOn 191 = [] ∧
    (cf2.grp.readS 4).toNat < 2 ^ 14 ∧ (sf1.core 191).lent = none ∧ (sf3.core 191).lent ≠ none := by
  simp only [may_iff]
  decide +kernel

/-- Gate 3 lets fen 0x00 into fen 0x05 with all 16 `v` and 8 `s` passed; gate 2 is empty. -/
def sgt : State := mach (fun s => { (s.writeBytes 0 0x80C0 (bytesLE 64 (0x102008 + 2 ^ 57 + 5 * 2 ^ 64 + 16 * 2 ^ 72 + 8 * 2 ^ 77
    + 2 * 2 ^ 81 + 2 ^ 256))).modCore 192 (fun k => { k with slots := [(0, { fen := 5, rf := 0x40, sp := 0, l1 := 0, bs := 0, acc := 0 })] }) with
    guard := { s.guard with gtbase := 0x8000, gtsize := 4 } }) id id
def cgt : Ctx := issuer sgt
/-- A group inside a gate. -/
def sgi : State := mach id id fun g => { g with gate := some { tfen := 5, pv := 0, ps := 0, grows := 0, ret := 0x3000, mode := 0x42
                                                               lcs := [0, 0, 0, 0], pd := 7, rows := [] } }

theorem test_witness_gates :
    cgt.MayIssue sgt 0x1C0 [] [] [] ∧ c0.MayIssue s0 0x1C1 [] [] [] ∧ (issuer sgi).MayIssue sgi 0x1C1 [] [] [] ∧
    (gateForm cgt (.gcallImm 7 3)).isSome = true ∧ wellFormed (.gcallImm 7 3) = true ∧ (cgt.gateCheck 3 sgt).isOk = true ∧
    (sgt.gateDesc 3).isOk = true ∧ cgt.gateReady 3 sgt = true ∧ sgt.guard.gtsize ≤ 4 ∧
    (match sgt.gateDesc 2 with | .ok g => !g.ok | .error _ => false) = true ∧ c0.grp.gate = none ∧
    (issuer sgi).grp.gate.isSome = true ∧ (issuer sgi).grp.unsplit = true ∧ (issuer sgi).grp.flagsZero 0xFFF = true := by
  simp only [may_iff]
  decide +kernel

/-- Operands of the fen words: a new fen 0xFE of partition 44, fen 0x01, a range of one page, core 191 and a sealed world. -/
def sfw : State := mach (dist id) id fun g => { g with
  s := [(1, 0xFE + 44 * 2 ^ 16), (2, 0xFE + 45 * 2 ^ 16), (3, 1 + 44 * 2 ^ 16), (4, 1 + 0x10000), (5, 0x40000000), (6, 191 + 256),
    (7, 191), (8, 191 + 0xFF * 2 ^ 16), (11, 191 + 1 * 2 ^ 16), (20, 1)] }
def cfw : Ctx := issuer sfw
/-- The scrub lists are full, core 191 has a slot, and fen 0x01 has no queue. -/
def sff : State := mach (fun s => { (dist (fun q => { q with en := false }) s).modCore 191 (fun k => { k with
    slots := [(0, { fen := 1, rf := 0x40, sp := 0, l1 := 0, bs := 0, acc := 0 })] }) with guard := { (dist id s).guard with
    scrubs := (List.range 4).map fun d => (d, { Scrubber.cold with tail := 64 }) } }) id
  fun g => { g with s := [(4, 1 + 0x10000), (5, 0x40000000), (6, 190 + 256), (7, 191 + 256)] }
def cff : Ctx := issuer sff
def sfz : State := mach (dist fun q => { q with en := false }) id fun g => { g with s := [(1, 1)] }

theorem test_witness_fens :
    cfw.MayIssue sfw 0x1C8 [] [] [62, 1] ∧ cfw.MayIssue sfw 0x1C8 [] [] [62, 2] ∧ cfw.MayIssue sfw 0x1C8 [] [] [62, 3] ∧
    cfw.MayIssue sfw 0x1C9 [] [] [62, 20] ∧ (issuer sfz).MayIssue sfz 0x1C9 [] [] [62, 1] ∧
    cfw.MayIssue sfw 0x1CA [] [] (62 :: sRange 4 2) ∧ cff.MayIssue sff 0x1CA [] [] (62 :: sRange 4 2) ∧
    cfw.MayIssue sfw 0x1CB [] [] [62, 6] ∧ cfw.MayIssue sfw 0x1CB [] [] [62, 7] ∧ cff.MayIssue sff 0x1CB [] [] [62, 7] ∧
    cff.MayIssue sff 0x1CB [] [] [62, 6] ∧ cfw.MayIssue sfw 0x1CC [] [] (62 :: sRange 8 3) ∧
    cfw.MayIssue sfw 0x1CC [] [] (62 :: sRange 11 3) ∧ sfw.storesAt 0 0 3 = true ∧
    (let v := (cfw.grp.readS 1).toNat
     onlyBits v [(0, 9), (16, 6)] && bitsOf v 0 8 = 0xFE && !(sfw.fen 0xFE).v && sfw.isPart (bitsOf v 16 6)) = true ∧
    sfw.scrubEnts = [] ∧ sfw.isPart 45 = false ∧ (sfw.fen 1).v = true ∧ sfw.fenBusy 1 = true ∧ sfz.fenBusy 1 = false ∧
    wellFormed (.scrub 62 4) = true ∧ onlyBits (cfw.grp.readS 4).toNat [(0, 2), (8, 8), (16, 24)] = true ∧
    onlyBits (cfw.grp.readS 5).toNat [(12, 40)] = true ∧ runInside (cfw.grp.readS 5).toNat 1 = true ∧
    (sfw.scrubber 0).full = false ∧ (∀ d < 4, (sff.scrubber d).full = true) ∧ (sfw.core 191).world = false ∧
    (sfw.core 191).worldPend = false ∧ (sfw.core 191).slotUsed = false ∧ sfw.teamsOn 191 = [] ∧
    (sff.core 191).slotUsed = true ∧ (sff.core 190).slotUsed = false ∧ sff.teamsOn 190 = [] ∧
    wellFormed (.fset 62 8) = true ∧ (cfw.fsetCheck 8 sfw).isOk = true ∧ (cfw.fsetCheck 11 sfw).isOk = true := by
  simp only [may_iff]
  decide +kernel

/-! ### Migration -/

theorem get_all {α : Type} (d : α) (p : α → Prop) (m : SMap α) (n : Nat) (h : ∀ k ∈ m, p k.2) (hd : p d) :
    p (m.get d n) := by
  unfold SMap.get
  induction m with
  | nil => exact hd
  | cons x m ih =>
    rw [SMap.find]
    split
    · exact h x (by simp)
    · exact ih fun k hk => h k (by simp [hk])

theorem walkFrom_leaf (s : State) (fen va lvl table e : Nat)
    (he : s.tableEntry (table + 8 * bitsOf va (12 + 9 * lvl) 9) = .ok e) (h0 : bitOf e 0 = true) (h6 : bitsOf e 60 4 = 0)
    (h1 : bitOf e 1 = true) : s.walkFrom fen va lvl table = s.walkLeaf fen va lvl table (bitsOf va (12 + 9 * lvl) 9) e := by
  unfold State.walkFrom
  simp [he, h0, h6, h1, bind, Except.bind]

theorem walkFrom_down (s : State) (fen va lvl table e t : Nat)
    (he : s.tableEntry (table + 8 * bitsOf va (12 + 9 * (lvl + 1)) 9) = .ok e) (h0 : bitOf e 0 = true)
    (h6 : bitsOf e 60 4 = 0) (h1 : bitOf e 1 = false) (h2 : bitsOf e 2 6 = 0) (h5 : bitsOf e 52 8 = 0)
    (ht : tablePtr e = .ok t) : s.walkFrom fen va (lvl + 1) table = s.walkFrom fen va lvl t := by
  conv => lhs; unfold State.walkFrom
  simp [he, h0, h6, h1, h2, h5, ht, bind, Except.bind]

/-- The first GiB is mapped as the loaded tables map it, and no finding stands on a line of it. -/
def lowMap (s : State) : Prop :=
  tablePtr s.ptbase.toNat = .ok 0x110000 ∧ s.tableEntry 0x110000 = .ok 0x111001 ∧
  s.tableEntry 0x111000 = .ok 0x112001 ∧ s.tableEntry 0x112000 = .ok 0x113001 ∧
  s.tableEntry 0x113000 = .ok 0x1F000000000001F ∧ (∀ k ∈ s.mem.tags, k.2.own = 0) ∧
  s.mem.retiredCh = [] ∧ s.mem.bad = [] ∧ s.guard.msbase = 2 ^ 40

theorem gib_xlate {s : State} (h : lowMap s) (va : Nat) (h2 : va < 2 ^ 30) :
    s.walkXlate 0 va = .ok { pa := va, size := 2 ^ 30, leaf := 0x1F000000000001F } := by
  obtain ⟨hr, e5, e4, e3, e2, -⟩ := h
  have p5 : tablePtr 0x111001 = .ok 0x111000 := by decide +kernel
  have p4 : tablePtr 0x112001 = .ok 0x112000 := by decide +kernel
  have p3 : tablePtr 0x113001 = .ok 0x113000 := by decide +kernel
  have i4 : bitsOf va 48 9 = 0 := by unfold bitsOf; omega
  have i3 : bitsOf va 39 9 = 0 := by unfold bitsOf; omega
  have i2 : bitsOf va 30 9 = 0 := by unfold bitsOf; omega
  have hv : va / 1073741824 * 1073741824 = 0 := by omega
  have l2 : s.walkLeaf 0 va 2 0x113000 0 0x1F000000000001F =
      .ok { fen := 0, va := 0, size := 2 ^ 30, pa := 0, leaf := 0x1F000000000001F } := by
    simp [State.walkLeaf, bitOf, bitsOf, hv, pure, Except.pure]
  have w2 : s.walkFrom 0 va 2 0x113000 = .ok { fen := 0, va := 0, size := 2 ^ 30, pa := 0, leaf := 0x1F000000000001F } := by
    rw [walkFrom_leaf s 0 va 2 0x113000 _ (by rw [i2]; exact e2) (by decide) (by decide) (by decide), i2, l2]
  have w3 : s.walkFrom 0 va 3 0x112000 = s.walkFrom 0 va 2 0x113000 :=
    walkFrom_down s 0 va 2 0x112000 _ _ (by rw [i3]; exact e3) (by decide) (by decide) (by decide) (by decide) (by decide) p3
  have w4 : s.walkFrom 0 va 4 0x111000 = s.walkFrom 0 va 3 0x112000 :=
    walkFrom_down s 0 va 3 0x111000 _ _ (by rw [i4]; exact e4) (by decide) (by decide) (by decide) (by decide) (by decide) p4
  have hw : s.walk 0 va = .ok { fen := 0, va := 0, size := 2 ^ 30, pa := 0, leaf := 0x1F000000000001F } := by
    simp [State.walk, hr, e5, p5, w4, w3, w2, bitOf, bind, Except.bind]
  have hreg : regionOf va = 0 := by unfold regionOf; omega
  have h3 : paNames va = true := by
    unfold paNames bitsOf paLimit; simp only [hreg]; simp; omega
  simp [State.walkXlate, hw, bind, Except.bind, TlbEnt.apply, regionExists, hreg, h3]

/-- Fen 0x00 reaches every line of the first GiB. -/
theorem gib_line {s : State} (h : lowMap s) (va : Nat) (h2 : va < 2 ^ 30) : s.lineErr 0 (va / 64) = none := by
  obtain ⟨-, -, -, -, -, ht, hc, hb, hs⟩ := h
  have hr2 : regionOf (va / 64 * 64) = 0 := by unfold regionOf; omega
  have h4 : (s.tagOf (va / 64)).own = 0 ∨ (s.tagOf (va / 64)).own = 0xFF :=
    get_all _ (fun t => t.own = 0 ∨ t.own = 0xFF) _ _ (fun k hk => .inl (ht k hk)) (.inr rfl)
  have h7 : s.measArea (va / 64 * 64) = false := by
    have : ¬ s.guard.msbase ≤ va / 64 * 64 := by omega
    simp [State.measArea, this]
  have h8 : s.tierMoved (va / 64) = false := by simp [State.tierMoved, State.tierLine, hr2]
  have h9 : (SMap.get 0#16 [] (sliceOf (va / 64 * 64))).getLsbD (bitsOf (va / 64 * 64) 12 4) = false := by
    simp [SMap.get, SMap.find]
  rcases h4 with h4 | h4 <;>
    simp [State.lineErr, State.tierAbort, State.channelRetired, hr2, h4, hc, hb, h7, h8, h9]

theorem low_canonical (va : Nat) (h : va < 2 ^ 30) : canonical va = true := by
  have h4 : bitsOf va 57 7 = 0 := by unfold bitsOf; omega
  have h5 : bitOf va 56 = false := by
    have : va / 2 ^ 56 = 0 := by omega
    rw [bitOf, this]; rfl
  rw [canonical, h4, h5]; rfl

theorem mapM_some {α β : Type} (f : α → Option β) (g : α → β) (l : List α) (h : ∀ x ∈ l, f x = some (g x)) :
    l.mapM f = some (l.map g) := by
  induction l with
  | nil => rfl
  | cons x l ih =>
    rw [List.mapM_cons, h x (by simp), ih fun y hy => h y (by simp [hy])]
    rfl

/-- Bytes of the first GiB lie, for fen 0x00, at their own addresses. -/
theorem low_span {s : State} (h : lowMap s) (w : Bool) (a n : Nat) (h2 : a + n ≤ 2 ^ 30) :
    s.spanOf 0 w a n = some ((List.range n).map (a + ·)) :=
  mapM_some _ (fun i => a + i) _ fun i hi => by
    have hi := List.mem_range.mp hi
    have h1 : (a + i) % 2 ^ 64 = a + i := by omega
    have h3 : (a + i) % 2 ^ 57 = a + i := by omega
    have hreg : regionOf (a + i) = 0 := by unfold regionOf; omega
    have hb2 : bitOf 0x1F000000000001F 2 = true := by decide
    have hb3 : bitOf 0x1F000000000001F 3 = true := by decide
    simp only [h1, h3, low_canonical (a + i) (by omega), gib_xlate h (a + i) (by omega)]
    simp [gib_line h (a + i) (by omega), isMemRegion, hreg, Xlate.r, Xlate.w, hb2, hb3]

/-- The bytes that stand in memory from an address on. -/
def bytesOn (s : State) (a n : Nat) : List Byte := ((List.range n).map fun i => [s.readByte 0 (a + i)]).flatten

theorem low_span_read {s : State} (h : lowMap s) (a n : Nat) (h2 : a + n ≤ 2 ^ 30) :
    s.spanRead 0 ((List.range n).map (a + ·)) = bytesOn s a n := by
  have hf (x : Nat) (l : List Nat) : (l.map fun i => [s.readByte 0 (x + i)]).flatten = l.map fun i => s.readByte 0 (x + i) := by
    induction l with
    | nil => rfl
    | cons y l ih => simp [ih]
  unfold State.spanRead bytesOn
  rw [hf, List.map_map]
  refine List.map_congr_left fun i hi => ?_
  have hi := List.mem_range.mp hi
  simp [gib_line h (a + i) (by omega)]

/-- Function 96 is fen 0x01's, PRE_COPY or in RESTORING; the fen is open. -/
def smg (mst : Nat) : State := mach (fun s => let t := dist (fun q => { q with en := false }) s
  { t with guard := { t.guard with funcs := [(96, { Func.cold with fen := 1, mst := mst })] } }) id
  fun g => { g with s := [(1, 96), (2, 0x200000), (3, 16), (4, 96 + 256), (7, 95)] }

def cmg : Ctx := issuer (smg 1)
def cm4 : Ctx := issuer (smg 4)
/-- Fen 0x01 is sealed. -/
def sms : State := mach (fun s => let t := dist id s
  { t with guard := { t.guard with funcs := [(96, { Func.cold with fen := 1 })], fens := [(1, { Fen.cold with v := true, pid := 44, world := true })] } }) id
  fun g => { g with s := [(1, 96)] }

/-- A release blob for fen 0x01: its length field, its generation, its tag; the sender's public key is the base point. -/
def blobAt (len gen tag : Nat) : List Byte :=
  bytesLE 16 (1 + len * 2 ^ 16 + gen * 2 ^ 64) ++ List.replicate 32 0 ++ bytesBE 48 Crypto.ecG.1 ++
    bytesBE 48 Crypto.ecG.2 ++ List.replicate 16 0 ++ bytesLE 16 tag

/-- A request at 0x104000 for a fen and function 0x7F, a blob at 0x116000, fen 0x01 with an ephemeral key. -/
def sat (fen : Nat) (blob : List Byte) (f : Fen → Fen) (root : State → State) : State := mach (fun s => root (dist id
  { s with
    mem := { (s.writeBytes 0 0x104000 [BitVec.ofNat 8 fen, 0x7F]).mem with
      bytes := (s.writeBytes 0 0x104000 [BitVec.ofNat 8 fen, 0x7F]).mem.bytes ++
        ((List.range 177).zip (blob ++ [0xE8])).map fun x => (0x116000 + x.1, x.2)
      tags := (s.writeBytes 0 0x104000 [BitVec.ofNat 8 fen, 0x7F]).mem.tags ++
        [0x4580, 0x4581, 0x4582].map fun l => (l, { own := 0, key := s.keyOf 0 }) }
    guard := { s.guard with fens := [(1, f { Fen.cold with v := true, pid := 44 })] } })) id fun g =>
  { g with s := [(1, 0x104000), (2, 0x105000), (3, 0x105001), (4, 0x116000), (5, 0x107000), (6, 2 ^ 56)] }
def keyHeld (f : Fen) : Fen := { f with eph := some (1, List.replicate 32 0) }

theorem test_witness_attest :
    cfw.MayIssue sfw 0x1CE [] [] (62 :: sRange 20 7) ∧ cmg.MayIssue (smg 1) 0x1CE [] [] (62 :: sRange 1 7) ∧
    (smg 1).storesAt 0 0 3 = true ∧ wellFormed (.meas 62 1) = true ∧ (cmg.grp.readS 1).toNat < 256 ∧
    ((smg 1).fen 96).v = false ∧ (cfw.grp.readS 20).toNat = 1 ∧ (sfw.fen 1).v = true ∧
    attestForm 62 1 (.attestEphemeral 62 1) = some true ∧ attestForm 62 1 (.attestEvidence 62 1) = some false ∧
    wellFormed (.attestEphemeral 62 1) = true ∧
    (∀ a ∈ [1, 2, 6], (issuer (sat 1 [] id id)).MayIssue (sat 1 [] id id) 0x1CD [] [] (62 :: sRange a 2)) ∧
    (sat 1 [] id id).spanOf 0 false (2 ^ 56) 64 = none ∧ 0x105001 % 64 ≠ 0 ∧
    (sat 1 [] id id).spanOf 0 true (2 ^ 56) 384 = none ∧
    natLE ((bytesOn (sat 1 [] id id) 0x104000 64).take 1) = 1 ∧
    natLE (((bytesOn (sat 1 [] id id) 0x104000 64).drop 1).take 1) = 0x7F ∧
    natLE ((bytesOn (sat 2 [] id id) 0x104000 64).take 1) = 2 ∧
    ((sat 1 [] id id).fen 1).v = true ∧ ((sat 2 [] id id).fen 2).v = false := by
  simp only [may_iff]
  decide +kernel

def goodBlob : List Byte := blobAt 1 1 247594496057050416368797072202709347136
def sal : State := sat 1 goodBlob keyHeld utbl
/-- No key is held; the blob's length is zero; its generation is another. -/
def sal1 : State := sat 1 (blobAt 0 1 0) id id
def sal2 : State := sat 1 (blobAt 0 1 0) keyHeld id
def sal3 : State := sat 1 (blobAt 1 2 0) keyHeld id

theorem test_witness_release_words :
    ∀ s ∈ [sat 1 [] id id, sal1, sal2, sal3, sal],
      (issuer s).MayIssue s 0x1CD [] [] (62 :: sRange 4 2) ∧ s.storesAt 0 0 3 = true := by
  simp only [may_iff]
  decide +kernel

def lowStates : List State := [sat 1 [] id id, sat 2 [] id id, sal1, sal2, sal3, sal, smg 1, smg 4]

theorem test_witness_low_maps : ∀ s ∈ lowStates, lowMap s := by
  unfold lowMap
  decide +kernel

/-- What these maps give, at the addresses that the words use. -/
theorem test_witness_low_access (s : State) (hs : s ∈ lowStates) :
    (∃ rd, s.spanOf 0 false 0x104000 64 = some rd ∧ s.spanRead 0 rd = bytesOn s 0x104000 64) ∧
    (∃ hd, s.spanOf 0 false 0x116000 176 = some hd ∧ s.spanRead 0 hd = bytesOn s 0x116000 176) ∧
    ∃ pas, s.spanOf 0 true 0x105000 384 = some pas :=
  have h := test_witness_low_maps s hs
  ⟨⟨_, low_span h _ _ _ (by decide), low_span_read h _ _ (by decide)⟩,
    ⟨_, low_span h _ _ _ (by decide), low_span_read h _ _ (by decide)⟩, ⟨_, low_span h _ _ _ (by decide)⟩⟩

theorem test_witness_release_bytes :
    bytesOn sal1 0x116000 176 = blobAt 0 1 0 ∧ bytesOn sal2 0x116000 176 = blobAt 0 1 0 ∧ bytesOn sal3 0x116000 176 = blobAt 1 2 0 ∧ bytesOn sal 0x116000 176 = goodBlob ∧
    (sat 1 [] id id).spanOf 0 false (2 ^ 56) 176 = none :=
  ⟨by decide +kernel, by decide +kernel, by decide +kernel, by decide +kernel, by decide +kernel⟩

theorem test_witness_release :
    (sal1.fen 1).v = true ∧ (sal1.fen 1).eph = none ∧ (sal.fen 1).v = true ∧
    (sal.fen 1).eph = some (1, List.replicate 32 0) ∧ (sal.fen 2).v = false ∧
    (blobOf (blobAt 0 1 0)).fen = 1 ∧ (blobOf (blobAt 0 1 0)).len = 0 ∧ (blobOf (blobAt 0 1 0)).nonce = List.replicate 32 0 ∧
    (blobOf (blobAt 0 1 0)).gen = sal2.genOf 1 ∧ (blobOf (blobAt 0 1 0)).unwrap 1 [] = none ∧
    (blobOf (blobAt 1 2 0)).gen ≠ sal3.genOf 1 ∧ (blobOf (blobAt 1 2 0)).nonce = List.replicate 32 0 ∧
    (blobOf goodBlob).gen = sal.genOf 1 ∧ (blobOf goodBlob).nonce = List.replicate 32 0 ∧ (blobOf goodBlob).len = 1 ∧
    (sal.spanOf 0 false (0x116000 + 176) 1).map (sal.spanRead 0) = some [0xE8] ∧
    (sal.spanOf 1 true 0x107000 1).isSome = true ∧ sal2.spanOf 1 true 0x107000 1 = none ∧ wellFormed (.attestRelease 62 4) = true := by decide +kernel

/-- The parts of unwrapping this blob, one theorem each: the extracted key of HKDF, which Python's hmac gives too, the derived key,
the tag (its two AES blocks are openssl's too) and the text. -/
def unwrapPrk : List Byte := bytesBE 48
  0xC17BA0B83346136AEB52A0DACB9582FAB4D56AFEB3C96D58D8685E51FE3545541BF0AB4DE72F6154AB23EFCF07074109
def unwrapKey : List Byte := bytesBE 32 0x600C9D22ADCD638D84B397A401A32A8397683E2CCAF636B03589C09B33AAE2E9
def unwrapBlob : Blob := blobOf goodBlob

theorem test_unwrap_extract : Crypto.hmac unwrapBlob.nonce (bytesBE 48 unwrapBlob.tpk.1) = unwrapPrk := by decide +kernel
theorem test_unwrap_expand : (Crypto.hmac unwrapPrk (unwrapBlob.info ++ [1])).take 32 = unwrapKey := by decide +kernel
theorem test_unwrap_hash_key :
    natBE (Crypto.byts (Crypto.aesEnc (Crypto.nats unwrapKey) (List.replicate 16 0))) = 0xC071BD36D7C35ADB0FE0A7754B554CA7 := by
  decide +kernel
theorem test_unwrap_mask :
    natBE (Crypto.ctrStream (Crypto.nats unwrapKey) unwrapBlob.iv 1 16) = 0xA26FAFFF6CD95DAA91944025F76A1DCA := by decide +kernel
theorem test_unwrap_hash : bytesBE 16 (Crypto.ghash 0xC071BD36D7C35ADB0FE0A7754B554CA7 unwrapBlob.ad [0xE8]
    ^^^ 0xA26FAFFF6CD95DAA91944025F76A1DCA) = unwrapBlob.tag := by decide +kernel
theorem test_unwrap_tag : Crypto.gcmTag unwrapKey unwrapBlob.iv unwrapBlob.ad [0xE8] = unwrapBlob.tag := by
  simp only [Crypto.gcmTag, test_unwrap_hash_key, test_unwrap_mask, test_unwrap_hash]
theorem test_unwrap_text : Crypto.gcmCrypt unwrapKey unwrapBlob.iv [0xE8] = [0x5A] := by decide +kernel
theorem test_unwrap_point :
    Crypto.ecOn unwrapBlob.tpk = true ∧ Crypto.ecMul 1 (some unwrapBlob.tpk) = some unwrapBlob.tpk := by decide +kernel

/-- HKDF of at most 48 bytes takes one round of its expansion. -/
theorem hkdf_one (salt ikm info : List Byte) :
    Crypto.hkdf salt ikm info 32 = (Crypto.hmac (Crypto.hmac salt ikm) (info ++ [1])).take 32 := rfl

theorem test_witness_unwrap : (blobOf goodBlob).unwrap 1 [0xE8] = some [0x5A] := by
  show Blob.unwrap unwrapBlob 1 [0xE8] = _
  have hl : ¬ (unwrapBlob.len = 0 ∨ 4096 < unwrapBlob.len ∨ Crypto.ecOn unwrapBlob.tpk = false) := by
    rw [test_unwrap_point.1]; decide +kernel
  simp only [Blob.unwrap, if_neg hl, test_unwrap_point.2, hkdf_one, test_unwrap_extract, test_unwrap_expand, Crypto.gcmOpen,
    test_unwrap_tag, test_unwrap_text, if_true]

theorem test_witness_migration :
    cmg.MayIssue (smg 1) 0x1CF [] [] (62 :: sRange 1 3) ∧ cmg.MayIssue (smg 1) 0x1CF [] [] (62 :: sRange 7 3) ∧
    (issuer sms).MayIssue sms 0x1CF [] [] (62 :: sRange 1 3) ∧ cm4.MayIssue (smg 4) 0x1CF [] [] (62 :: sRange 1 3) ∧
    wellFormed (.migrSet 62 1) = true ∧ (smg 1).migrTarget (cmg.grp.readS 1).toNat = some 96 ∧
    (smg 1).migrTarget 95 = none ∧ (smg 1).sealedFen 1 = false ∧ sms.sealedFen 1 = true ∧ sms.migrTarget 96 = some 96 ∧
    (smg 1).migrOk 96 2 = true ∧ (smg 1).migrOk 96 3 = false ∧ ((smg 1).func 96).mst = 1 ∧
    ((smg 1).func 96).savedEnd = false ∧ (cmg.grp.readS 2).toNat = 0x200000 ∧ 0x200000 % 4096 = 0 ∧
    ((smg 4).func 96).mst = 4 ∧ (cm4.grp.readS 3).toNat = 16 ∧ (smg 4).migrTarget 96 = some 96 ∧ ((smg 2).func 96).mst ≠ 1 ∧ ((smg 2).func 96).mst ≠ 3 := by
  simp only [may_iff]
  decide +kernel

/-! ### Events -/

/-- A plain store of two bytes under masks at 0x4000, queued and in the core store order; an atomic add of 1 with its
operation in flight. -/
def ent (k : StKind) (word pa : Nat) : StoreEnt :=
  { word := word, team := 0, group := 0, lane := 3, fen := 0, va := pa, pa := pa, bytes := [(0x12, 0xFF), (0x34, 0x0F)], kind := k, more := none }
def sqe : State := mach id id fun g => { g with sq := [ent .plain 1 0x4000, ent .plain 2 0x5000] }
def sap : State := mach (fun s => s.modCore 192 fun k => { k with cso := [ent .plain 1 0x4000] }) id id
/-- The stored line fails its seal check. -/
def sab : State := mach (fun s => { (s.modCore 192 fun k => { k with cso := [ent .plain 1 0x4000] }) with
  mem := { s.mem with bad := [(0x100, .mac)] } }) id id
/-- An element whose second byte lies in another page. -/
def entm : StoreEnt := { ent .plain 1 0x4FFE with more := some (0x7000, [(0x56, 0x0F)]) }
def sam : State := mach (fun s => s.modCore 192 fun k => { k with cso := [entm] }) id id
def atom : StoreEnt := { ent (.atomic .add 2 1 0 9 3 4 false) 9 0x4000 with bytes := [(0, 0xFF), (0, 0xFF), (0, 0xFF), (0, 0xFF)] }
def sat1 (waiting : Nat) : State := mach (fun s => s.modCore 192 fun k => { k with cso := [atom] }) id fun g =>
  { g with cf := [(0, 1)], pend := [{ Pending.new 9 0 with waiting := waiting }] }
/-- A group with operations in flight: one write, two writes, a device read, and a dead or a plain end. -/
def spd : State := mach (fun s => { s with mem := { s.mem with through := [{ team := 0, group := some 0, line := 1, started := true, at_ := 1 }] } }) id fun g =>
  { g with cf := [(0, 3)], pend := [{ Pending.new 1 0 with writes := [.v 31 126 5] },
    { Pending.new 2 0 with writes := [.s 62 5, .s 0 6] }, { Pending.new 3 0 with devs := [(0, 0, 0)] }] }

theorem test_witness_store_events :
    (sqe.teams.find 0).isSome = true ∧ ((s0.group 0 0).sq = []) ∧
    (sqe.group 0 0).sq = ent .plain 1 0x4000 :: [ent .plain 2 0x5000] ∧ sap.mayLeave 192 0 = some (ent .plain 1 0x4000) ∧
    (ent .plain 1 0x4000).isAtomic = false ∧ isMemRegion 0x4000 = true ∧ (sap.group 0 0).scq = [] ∧
    (∀ y ∈ (ent .plain 1 0x4000).pieces, sap.rangeErr 0 y.1 y.2.length = none) ∧ sap.mem.monitors = [] ∧
    sam.mayLeave 192 0 = some entm ∧ (∀ y ∈ entm.pieces, sam.rangeErr 0 y.1 y.2.length = none) ∧ entm.pieces.length = 2 ∧
    (∀ y ∈ entm.more, 0x4FFE + entm.bytes.length ≤ y.1) ∧ sab.mayLeave 192 0 = some (ent .plain 1 0x4000) ∧
    (ent .plain 1 0x4000).pieces.findSome? (fun y => sab.rangeErr 0 y.1 y.2.length) = some (.mac, 0x4000) ∧ isMc LineErr.mac.code = false ∧ (sab.group 0 0).ended = false ∧
    (sat1 1).mayLeave 192 0 = some atom ∧ ((sat1 1).pending 0 0 9).isSome = true ∧ (sat1 1).lineErr 0 0x100 = none ∧
    (sat1 1).mem.monitors = [] ∧ ((sat1 1).group 0 0).scq = [] ∧ (sat1 32).mayLeave 192 0 = some atom ∧
    (sat1 32).pending 0 0 9 = some { Pending.new 9 0 with waiting := 32 } ∧ s0.mayLeave 192 0 = none ∧
    (spd.mem.through[0]?).isSome = true := by decide +kernel

/-- A park of lane 31 that expires, or has expired, and an SC load that holds a reservation; a full SC clock. -/
def spk (t : Nat) : State := mach (fun s => { s with mem := { s.mem with monitors := [{
    bank := homeBank 0x4000, team := 0, group := 0, fen := 0, pa := 0x4000, ty := 2, cc := .eq, b := 1, expiry := some t, pend := 9
    pd := 6, lanes := 0x80000000 }] } }) id fun g =>
  { g with cf := [(1, 1)], pend := [{ Pending.new 9 1 with waiting := 1, isPark := true }] }
def scr : ScReq := { team := 0, group := 0, fen := 0, va := 0x4000, pa := 0x4000, len := 4, data := none, atom := none, pend := 9
                     lane := 0, dst := 0, stamp := { c := 0, core := 0 }, refused := true }
def srv : State := mach (fun s => { s with mem := { s.mem with resv := [(0x80, [(0, 0)])] } }) id fun g =>
  { g with cf := [(0, 1)], scq := [scr], pend := [{ Pending.new 9 0 with waiting := 1 }] }
def sro : State := mach (fun s => s.modCore 195 fun k => { k with clock := 2 ^ 48 - 1 }) id id
/-- A commit of one lane that read sector 0x200 and wrote byte 31 of sector 0x201; and one whose read no longer holds. -/
def lg (b : Byte) : TxLane := { TxLane.none with
  state := .opened, reads := [{ sector := 0x200, bytes := List.replicate 32 b, mask := List.replicate 32 0xFF }]
  writes := [{ sector := 0x201, bytes := List.replicate 32 7, mask := List.replicate 31 0 ++ [0xFF] }] }
def stc (b : Byte) : State := mach (fun s => { s with txops := [{
    team := 0, group := 0, fen := 0, pend := 9, pd := 6, dst := 126, lanes := [(31, lg b)] }] }) id fun g =>
  { g with cf := [(0, 1)], pend := [{ Pending.new 9 0 with waiting := 1 }] }

/-- A second escalated commit of the same sector, in another group, with an older stamp. -/
def stw : State :=
  let esc (c : Nat) : TxLane := { lg 0 with esc := true, stc := c }
  { stc 0 with txops := [{ team := 0, group := 0, fen := 0, pend := 9, pd := 6, dst := 126, lanes := [(31, esc 5)] },
    { team := 0, group := 1, fen := 0, pend := 10, pd := 6, dst := 126, lanes := [(0, esc 4)] }] }

theorem test_witness_reply_events :
    (spd.pending 0 0 1).isSome = true ∧ (spd.pending 0 0 2).isSome = true ∧ (spd.pending 0 0 3).isSome = true ∧
    (spd.group 0 0).scq = [] ∧ (spk 5).now < 5 ∧ ((spk 5).mem.monitors[0]?).isSome = true ∧
    ((spk 0).mem.monitors[0]?).any (fun m => m.expiry.any (fun t => t ≤ (spk 0).now) && m.pd < 7 &&
      (lanesOf m.lanes).length = 1) = true ∧
    ((spk 0).pending 0 0 9).any (fun p => p.isPark && !p.dead && p.waiting = 1) = true ∧
    srv.mem.resv.get [] 0x80 = (0, 0) :: [] ∧ (srv.group 0 0).scq = [scr] ∧ srv.lineErr 0 0x100 = none ∧
    (∀ p ∈ (srv.group 0 0).pend, p.bad = none) ∧ s0.scFull = false ∧ sro.scFull = true ∧ sro.mem.resv = [] ∧
    ((stc 0).txops[0]?).isSome = true ∧ ((stc 0).group 0 0).scq = [] ∧
    ((stc 0).group 0 0).sq ++ ((stc 0).core 192).cso = [] ∧ (lg 0).esc = false ∧
    ((stc 0).modGroup 0 0 fun g => { g with sq := [ent .plain 1 0x4000] }).commitReady 0 0 9 = false ∧
    stw.commitReady 0 0 9 = true ∧ (stw.txops[0]?).any (fun o => o.lanes.any fun x => x.2.esc && stw.olderWaits o x.2) = true ∧
    (stw.txops[1]?).any (fun o => o.lanes.any fun x => x.2.esc && !stw.olderWaits o x.2) = true ∧
    (∀ p ∈ ((stc 0).group 0 0).pend, p.devs = []) ∧ (∀ p ∈ ((stc 0).group 0 0).pend, p.bad = none) ∧
    (stc 0).escalated 0 = false ∧ (stc 0).txFinding 0 (lg 0) = none ∧
    (stc 0).mem.monitors = [] ∧ (stc 0).txValid 0 (lg 0) = true ∧ ((lg 0).writes.map (·.sector)).Nodup ∧
    (stc 1).txValid 0 (lg 1) = false ∧ (stc 1).txFinding 0 (lg 1) = none ∧ (s0.walk 0 0x3FFFFFFF).isOk = true ∧
    (s0.walk 0 0x40000000).isOk = false := by decide +kernel

/-- Sedge holds an `mma` on tile 63 and no `accz`, or the reverse; a rendezvous of groups 0 and 1 is complete. -/
def sse (k : SedgeKind) : State := mach (fun s => s.modCore 192 fun c => { c with
    sedge := [opOf k 9 63], locks := [{ id := 9, fen := 0, team := 0, src := none, dst := none }] }) id fun g => { g with cf := [(0, 1)] }
def arr (g op : Nat) : Arrival :=
  { group := g, entry := 0, gang := 0x10002, op := 0x162 + op, acc := g, a := 0, ru := false, pat := false, z := true, ty := 8, cty := 9
    boff := 0, scfg := 0, tile := g, flag := 0, active := true, frag := [] }
def srd (op : Nat) : State := mach id (fun t => { t with
  nc := 2, rdvs := [{ seq := 0, groups := [0, 1], arrivals := [arr 1 op, arr 0 0] }]
  groups := t.groups ++ [(1, { t.group 0 with arrivedGang := some 0, cf := [(0, 1)] })] }) fun g => { g with
    arrivedGang := some 0, cf := [(0, 1)] }

/-- The operation has a second member, on tile 62. -/
def ssg : State := mach (fun s => s.modCore 192 fun c => { c with
    sedge := [opOf .mma 9 63, { opOf .mma 10 62 with op := 9 }] }) id fun g => { g with cf := [(0, 2)] }

theorem test_witness_sedge_events :
    (ssg.core 192).sedgeNext 9 = some (opOf .mma 9 63) ∧
    (∃ x ∈ (ssg.core 192).sedge, x.op = 9 ∧ x.id ≠ 9 ∧ x.done = false) ∧
    ((sse .mma).core 192).sedge.filter (fun x => x.op = 9 ∨ x.id = 9) = [opOf .mma 9 63] ∧
    ((sse .mma).core 192).sedgeNext 9 = some (opOf .mma 9 63) ∧
    ((sse .accz).core 192).sedgeNext 9 = some (opOf .accz 9 63) ∧ (s0.core 192).sedgeNext 9 = none ∧
    ((srd 0).team 0).rdvs[0]?.any (fun r => r.complete.any fun as => as.length = 2 && as.all fun x => as.all fun y => x.agrees y) = true ∧
    ((srd 0).core 192).lockRoom 2 = true ∧ ((srd 0).core 192).sedgeRoom = true ∧
    ((srd 1).team 0).rdvs[0]?.any (fun r => r.complete.any fun as => as.any fun x => as.any fun y => !x.agrees y) = true := by decide +kernel

/-- A copy of two f32 elements from 0x8000 to scratchpad offset 0x10; an absent page at 0x40000000 for the second. -/
def cop (id base : Nat) : CopyOp :=
  { id := id, team := 0, group := 0, core := 192, engine := 0, fen := 0
    rec_ := BitVec.ofNat 512 (base + 2 ^ 57 + 0x0A * 2 ^ 64 + 16 * 2 ^ 128 + 3 * 2 ^ 448)
    coord := [0, 0, 0, 0, 0], d := 0x10, toGlobal := false, bar := none, stream := none, tok := some 62, flag := 0, sty := 0x0A
    crm := 0, csat := false, bytes := 16, waits := none, asked := none, failed := [] }
/-- A copy whose record asks for blocks and whose page has none of them right, one that may not be clipped and is, and one
whose page request was refused, which has no token. -/
def copb : CopyOp := { cop 12 0x8000 with
  rec_ := BitVec.ofNat 512 (0x8000 + 2 ^ 57 + 0x0A * 2 ^ 64 + 2 ^ 79 + 16 * 2 ^ 128 + 3 * 2 ^ 448) }
def copc : CopyOp := { cop 13 0x8000 with
  rec_ := BitVec.ofNat 512 (0x8000 + 2 ^ 57 + 0x0A * 2 ^ 64 + 2 ^ 72 + 2 * 2 ^ 128 + 3 * 2 ^ 448) }
def copr : CopyOp := { cop 14 0x40000000 with tok := none, failed := [0x40000], stream := some (1, 1), bar := some 15 }
def sco : State := mach (fun s => { s with copies := [cop 9 0x8000, cop 10 0x40000000, { cop 11 0 with waits := some 1 }, copb, copc, copr] }) id fun g =>
  { g with cf := [(0, 3)], copies := 3, tokens := [62] }
/-- Two lanes of a `cpl`, with 32 and 0 bytes, and an `iodb` mark that is ready. -/
def cplo : CplOp := { id := 9, team := 0, group := 0, core := 192, fen := 0, flag := 0, lanes := [
  { lane := 0, off := 0, va := 0x8000, pas := (List.range 32).map fun i => 0x8000 + i }, { lane := 31, off := 32, va := 0, pas := [] }] }
def mk1 (id : Nat) : Mark := { id := id, team := 0, group := 0, handle := 1023, load := 1, cq := false, slots := [(0, 0), (15, 1)], flag := 0, core := 192, joined := 0, due := none }
def scpl : State := mach (fun s => { reedOf 0 s with cpls := [cplo] }) id fun g => { g with cf := [(0, 1)] }
def smk : State := mach (fun s => let t := reedOf 0 s
  { t with reed := { t.reed with marks := [mk1 9], doorbells := [(1023, true)] } }) id fun g => { g with cf := [(0, 1)] }
/-- The mark waits for an expander line. -/
def smw : State := { smk with mem := { smk.mem with through := [{ team := 0, group := some 0, line := 1, started := false, at_ := 1 }] } }
/-- A store that is still queued holds the copies back. -/
def held (s : State) : State := s.modGroup 0 0 fun g => { g with sq := [ent .plain 1 0x4000] }

/-- What the statement about copies asks of one: it is due, its pages are found or refused, and it ends with this failure. -/
def copyEnds (o : CopyOp) (fail : Option Nat) : Bool :=
  let y := layoutOf o.rec_.toNat
  let ps := y.pieces o.coord (tyWidth o.sty)
  let out := ps.find? fun p => p.va.isNone
  let a : CopyAcc := match (if y.clip = 1 then out else none), (if y.bga then o.blockFail sco y (ps.filterMap (·.va)) else none) with
    | some p, _ => { s := sco, img := (sco.team 0).spad, fail := some (0x81, p.addr, none) }
    | none, some va => { s := sco, img := (sco.team 0).spad, fail := some (0x8C, va, none) }
    | none, none => ps.foldl (o.move y) { s := sco, img := (sco.team 0).spad, fail := none }
  sco.copies.find? (fun c => c.id = o.id) = some o && o.waits.isNone && sco.storesBefore 0 0 o.id
    && ((y.clip = 1 && out.isSome)
      || (ps.filterMap (·.va)).all (fun va => o.refused va || decide (sco.copyFind 0 o.toGlobal va ≠ .absent)))
    && decide (a.fail.map (·.1) = fail) && a.fail.all (fun x => !isMc x.1) && decide (a.s.teams = sco.teams)

theorem test_witness_copy_events :
    copyEnds (cop 9 0x8000) none = true ∧ copyEnds copb (some 0x8C) = true ∧ copyEnds copc (some 0x81) = true ∧
    copyEnds copr (some 0x40) = true ∧ (held sco).storesBefore 0 0 9 = false ∧
    (sco.copies.find? fun c => c.id = 11).any (fun o => o.waits.isSome) = true ∧
    sco.copyFind 0 false 0x40000000 = .absent ∧ (cop 10 0x40000000).refused 0x40000000 = false ∧
    (sco.team 0).status ≠ .ended ∧ (sco.group 0 0).ended = false := by decide +kernel

/-- The source of the first lane of a `cpl` fails its seal check. -/
def scpe : State := { scpl with mem := { scpl.mem with bad := [(0x200, .mac)] } }
/-- Two marks of one handle whose conditions came to hold one after the other. -/
def sm2 : State := mach (fun s => let t := reedOf 0 s
  { t with reed := { t.reed with marks := [{ mk1 9 with due := some 3 }, { mk1 10 with due := some 2 }] } }) id id

theorem test_witness_mark_events :
    scpl.cpls.find? (fun c => c.id = 9) = some cplo ∧ cplo.canRead scpl = true ∧ cplo.canRead (held scpl) = false ∧
    (∀ x ∈ cplo.lanes, scpl.cplErr 0 x = none ∧ x.pas.length ≤ 32) ∧ (scpl.group 0 0).ended = false ∧
    scpe.cpls.find? (fun c => c.id = 9) = some cplo ∧ cplo.canRead scpe = true ∧
    (∀ x ∈ cplo.lanes, ∀ e ∈ scpe.cplErr 0 x, isMc e.1.code = false) ∧ (cplo.lanes.any fun x => (scpe.cplErr 0 x).isSome) = true ∧
    (smk.dueMarks.reed.marks[0]?).any (fun m => smk.dueMarks.markTurn m && smk.markReady m) = true ∧
    (sm2.dueMarks.reed.marks[0]?).any (fun m => !sm2.dueMarks.markTurn m) = true ∧
    (sm2.dueMarks.reed.marks[1]?).any (fun m => sm2.dueMarks.markTurn m) = true ∧
    ((held smk).dueMarks.reed.marks[0]?).any (fun m => !(held smk).dueMarks.markTurn m && !(held smk).markReady m) = true ∧
    (smw.dueMarks.reed.marks[0]?).any (fun m => !smw.dueMarks.markTurn m && smw.markReady m && !smw.markReached m) = true ∧
    smk.markReached (mk1 9) = true ∧ (mk1 9).due = none ∧ (smk.group 0 0).ended = false ∧
    (smk.handle 1023).loaded = true ∧ (smk.handle 1023).load = 1 ∧ (smk.handle 0).loaded = false ∧
    smk.reed.doorbells[0]? = some (1023, true) := by decide +kernel

/-- An accepted `enq` whose record lies at 0x4000. -/
def eo : EnqOp := { id := 9, team := 0, group := 0, core := 176, pid := 44, grid := 1, va := 0x4000, pa := 0x4000, fen := 1, flag := 0
                    nseqs := List.replicate 64 0 }
def seo : State := { sd1 with enqs := [eo] }

theorem test_witness_enq_event :
    seo.enqs[0]? = some eo ∧ seo.storesBefore 0 0 9 = true ∧ (held seo).storesBefore 0 0 9 = false ∧
    seo.lineErr 1 0x100 = none ∧ seo.rangeErr 0 0x20000 64 = none ∧ ((seo.part 44).grid 1).isSome = true ∧ (seo.teams.find 0).isSome = true := by decide +kernel

/-- A launch record of one consumer group with 16 registers, and a partition 44 whose core 176 gives fen 0x01 its rows. -/
def lr : LRec := lrecOf (0x102000 + 2 ^ 64 + 2 ^ 96 + 2 ^ 112 + 2 ^ 134 + 2 ^ 144)
def grd (next : Nat) : Grid :=
  { id := 1, queue := 63, seq := 0, slot := 0, lrec := 0x20000, origin := 0, enqTeam := none, copying := false, rec_ := lr, next := next
    since := 0, conts := 0, live := next, nend := 0, stop := false, begun := next = 1, done := false, rejected := false, cause := 0
    defer := false, pc := 0 }
def place (next : Nat) (s : State) : State := { (dist id s).modCore 176 (fun k => { k with
    slots := [(0, { fen := 1, rf := 0x40, sp := 0, l1 := 0, bs := 0, acc := 0 })] }) with
  parts := [(44, { Part.cold with
    size := 4, gen := 1, en := true, svunits := 80, pth := 20, queues := [(62, { LQueue.cold with en := true, fen := 1, prio := 7 }),
      (63, { LQueue.cold with en := true, fen := 1 })], grids := [grd next]
    bins := [{ grid := 1, tmpl := 0x4000, key := 5, since := 0, items := [7, 8] }, { grid := 1, tmpl := 0x4000, key := 6, since := 10 ^ 6, items := [7] }] })] }
/-- The partition's only grid waits to start. -/
def sp0 : State := mach (place 0) id id
/-- A user team of eight rows, resident on core 176, blocked since time 0; another is out. -/
def uteam (q : Nat) (st : TeamStatus) : Team :=
  { Team.blank with
    pid := 44, fen := 1, nc := 1, bc := 64, core := 176, status := st, grid := 1, queue := q, slot := some (q, 1), seq := q
    cause := if st = .out then .preempt else .none
    groups := [(0, { Group.blank with
      entries := [(0, newSplinter 0x102000 noFrame 0x42 1)], exited := 0xFFFFFFFE, block := if st = .resident then
        some { kind := .qpop 0, entry := 0, since := 0 } else none })] }
def sp1 : State := mach (fun s => let t := place 1 s
  { ((t.setTeam 1 (uteam 63 .resident)).setTeam 2 (uteam 62 .out)) with now := 20000 }) id id
/-- Only the team that is out. -/
def sp2 : State := mach (fun s => (place 1 s).setTeam 2 (uteam 62 .out)) id id
def sp3 (st : TeamStatus) : State := mach (fun s => (place 1 s).setTeam 3 (uteam 63 st)) (fun t => { t with status := if st = .ended then .ended else .resident }) id
/-- The continuation template at 0x4000 is readable for fen 0x01, whose first GiB is mapped. -/
def spb : State := mach (fun s => (utbl (place 1 s)).writeBytes 1 0x4000 (bytesLE 64 (0x102000 + 2 ^ 64 + 2 ^ 96 + 2 ^ 112 + 2 ^ 134 + 2 ^ 144))) id id

theorem test_witness_team_events :
    (s0.part 44).en = false ∧ (sp0.part 44).en = true ∧
    (match sp0.nextTeam 44 with
      | some (w, cs) => w.cand = .grid 1 && cs = [176] && (sp0.slotFor 44 w).isSome
      | none => false) = true ∧
    (match sp2.nextTeam 44 with
      | some (w, cs) => w.cand = .team 2 && cs = [176] && (sp2.slotFor 44 w).isSome
      | none => false) = true ∧
    (sp2.team 2).status ≠ .saving ∧ ((sp3 .saving).team 3).status = .saving ∧ ((sp3 .ended).team 3).status = .ended ∧
    (sp3 .ended).mayRetire 3 = true ∧ ((sp3 .ended).team 3).system = false ∧ ((sp3 .ended).team 0).status = .ended ∧
    (sp3 .ended).mayRetire 0 = true ∧ ((sp3 .ended).team 0).system = true ∧ (sp1.team 1).status = .resident ∧
    (sp1.team 1).system = false ∧ sp1.parkedLong (sp1.team 1) = true ∧
    ((sp1.queueOrder 44).any fun q => (sp1.firstWaiting 44 q).any fun w => sp1.canUse w 176 1 (sp1.alsoParked 1) []) = true ∧
    sp2.parkedLong (sp2.team 2) = false ∧ ((s0.queueOrder 0).all fun q => s0.displaced 0 q = none) = true ∧
    (sp1.queueOrder 44).findSome? (sp1.displaced 44) = some [1] ∧ s0.nextTeam 44 = none ∧
    (((spb.part 44).bins[1]?).any fun b => !spb.binDue 44 b) = false ∧
    (((sp0.part 44).bins[1]?).any fun b => !sp0.binDue 44 b) = true ∧
    (((spb.part 44).bins[0]?).any fun b => spb.binDue 44 b && b.items.length = 2 && ((spb.part 44).grid b.grid).any fun g =>
      !g.stop && (spb.readRange 1 b.tmpl 64).any fun bs => (contRec (natLE bs)).fieldsOk &&
        (spb.findSlot 44 (contRec (natLE bs)).units true).isSome) = true := by
  refine ⟨?_, ?_, ?_, ?_, ?_, ?_, ?_, ?_, ?_, ?_, ?_, ?_, ?_, ?_, ?_, ?_, ?_, ?_, ?_, ?_, ?_, ?_, ?_⟩ <;> decide +kernel

/-- Port 36 is down with role 1 in force, or up; port 0 has a partner's windows; remap entries of each mode. -/
def slk (up : Bool) (role : Nat) : State := { s0 with reed := { s0.reed with
  ports := [(36, { Port.cold with role := role, inForce := role, up := up, rate := if up then 6 else 0, width := if up then 5 else 0 })]
  remap := [(0, { Remap.cold with v := true, port := 36 }), (1, { Remap.cold with v := true, port := 36, mode := 1, bar := 15, uid := some 0 }),
    (4095, { Remap.cold with v := true, port := 36, mode := 2, drop := 65535 })]
  ridt := [(0, BitVec.ofNat 64 0)] } }
def slb : State := { slk true 1 with teams := sbr.teams }

theorem test_witness_link_events :
    s0.portExists 36 = true ∧ s0.portExists 37 = false ∧ s0.portExists 40 = false ∧ s0.trainBad 36 4 = false ∧
    s0.trainBad 36 5 = true ∧ (∀ k < 4, (s0.port (4 * 9 + k)).role = 0 ∧ (s0.port (4 * 9 + k)).up = false) ∧
    ((slk true 1).port 36).role ≠ 0 ∧ ((slk false 2).port 36).inForce = 2 ∧ ((slk false 2).port 36).up = false ∧
    (s0.port 36).inForce = 0 ∧ ((slk true 1).port 36).up = true ∧ 1 < ((slk true 1).port 36).width ∧
    ((slk true 1).port 36).bridges = true ∧ (s0.port 36).bridges = false ∧ (slk true 1).carries 36 = true ∧
    s0.carries 36 = false ∧ msixAddr ≠ 0 ∧ ((slk true 1).remap 2).v = false ∧ ((slk true 1).remap 0).mode = 0 ∧
    ((slk true 1).remap 0).v = true ∧ ((slk true 1).remap 0).port = 36 ∧ (slb.remap 1).mode = 1 ∧
    (slb.remap 1).uid = some 0 ∧ (slb.arriveBar 0 15).isSome = true ∧ (slb.remap 4095).mode = 2 := by decide +kernel

/-- A port with fen 0x00 as its default, an incoming window, and a device whose requester entry names fen 0x01. -/
def sdv : State := { slk true 1 with reed := { (slk true 1).reed with
  ports := [(36, { Port.cold with role := 1, inForce := 1, up := true }), (32, { Port.cold with role := 3, inForce := 3, up := true })]
  ntbw := [(255, BitVec.ofNat 256 (1 + 2 + 32 * 2 ^ 2 + 0 * 2 ^ 8 + 20 * 2 ^ 16 + 255 * 2 ^ 32 + 0x100000 * 2 ^ 64 + 0x300000 * 2 ^ 128)),
    (254, BitVec.ofNat 256 (1 + 2 + 32 * 2 ^ 2 + 0 * 2 ^ 8 + 20 * 2 ^ 16 + 254 * 2 ^ 32 + 0x40000000 * 2 ^ 64 + 0x400000 * 2 ^ 128))]
  cfg := [{ team := 0, group := 0, pend := none, addr := 36 * 2 ^ 28, write := true, data := 0, dst := 62, since := 0 }] } }
/-- A device's page allows ATS (leaf bit 7), and the line at 0x4000 fails its seal check. -/
def sda : State := { (sdv.writeBytes 0 0x113000 (bytesLE 8 (0x9F + 0x1F * 2 ^ 52))) with
  mem := { (sdv.writeBytes 0 0x113000 (bytesLE 8 (0x9F + 0x1F * 2 ^ 52))).mem with bad := [(0x100, .mac)] } }
/-- The set of region 0x1 that a page names is not mapped. -/
def sdt : State := { sdv.writeBytes 0 0x113008 (bytesLE 8 (0x1F + 2 ^ 48 + 0x1F * 2 ^ 52)) with now := 64000000 }
/-- Fen 0x00 holds 36 page requests. -/
def sdp : State := { sdv with reed := { sdv.reed with prq := (List.range 36).map fun k =>
  { tag := k, popped := false, src := 0, acc := 1, last := false, prgi := 0, fen := 0, va := 0, rid := 0, port := 36, pasid := 0, time := 0 } } }

theorem test_witness_device_events :
    sdv.carries 36 = true ∧ s0.carries 36 = false ∧ sdv.requestFen 36 0 0 = some 0 ∧ sdv.requestFen 36 0 1 = none ∧
    sdv.requestPa 0 0x4000 4096 true none = some 0x4000 ∧ sdv.requestPa 0 0x4001 4096 true none = none ∧
    sdv.rangeErr 0 0x4000 4096 = none ∧ sdv.mem.monitors = [] ∧
    (sda.rangeErr 0 0x4000 8).any (fun e => e.1 = .mac) = true ∧ sdt.requestPa 0 0x40000000 8 true none = some (2 ^ 48) ∧
    (sdt.rangeErr 0 (2 ^ 48) 8).any (fun e => e.1 = .abort) = true ∧ (sdv.port 32).up = true ∧ (sdv.port 32).inForce = 3 ∧
    sdv.inWindow 32 0 = none ∧
    ((sdv.inWindow 32 0x300010).any fun w => (sdv.requestPa w.fen 0x100010 8 false none).isSome) = true ∧
    ((sdv.inWindow 32 0x400000).any fun w => sdv.requestPa w.fen 0x40000000 8 false none = none) = true ∧
    canonical (2 ^ 56) = false ∧ (sdv.walkXlate 0 0x4000).toOption.any (fun x => !x.da) = true ∧
    (sda.walkXlate 0 0x4000).toOption.any (fun x => x.da) = true ∧ sdv.reed.prqRoom 0 = true ∧
    sdp.reed.prqRoom 0 = false ∧ sdv.reed.cfg[0]?.isSome = true ∧ s0.reed.cfg[0]? = none ∧ (sdv.port 36).up = true ∧
    sdv.now < 64000000 ∧ 0 + 64000000 ≤ sdt.now ∧ (sdt.port 36).up = true ∧ ((slk false 1).port 36).up = false := by decide +kernel

/-- The handle table's entry 1023 is valid for fen 0x01 on port 36. -/
def sqh : State := { (slk true 1).writeBytes 0 0xFFC0 (bytesLE 64 (1 + 2 ^ 8 + 1023 * 2 ^ 16 + 1 * 2 ^ 32 + 36 * 2 ^ 42 + 4095 * 2 ^ 48
  + 2 ^ 49 * 2 ^ 128 + (2 ^ 49 + 4) * 2 ^ 192)) with reed := { (slk true 1).reed with qhbase := 0 } }
/-- Queue 63 is disabled and empty, and fen 0x01 is bound to partition 44. -/
def sdq : State := dist (fun q => { q with en := false }) s0
/-- Copy engine 63 is to change while a copy uses it. -/
def sce : State := { s0 with copies := [{ cop 9 0 with engine := 63 }], guard := { s0.guard with engines := [(63, { pid := 0, v := true, pend := some (44, true) })] } }

theorem test_witness_register_events :
    sqh.handleOk (sqh.readNat 0 (sqh.reed.qhbase + 64 * 1023) 64) = true ∧ sqh.rangeErr 0 0xFFC0 64 = none ∧
    sqh.reed.doorbells = [] ∧ s0.handleOk (s0.readNat 0 0 64) = false ∧ sdq.isPart 44 = true ∧ sdq.isPart 45 = false ∧
    sdq.bound 1 44 = true ∧ sdq.bound 0 44 = false ∧ ((sdq.part 44).queue 63).en = false ∧
    ((sd1.part 44).queue 63).en = true ∧ ((sdq.part 44).queue 63).head = ((sdq.part 44).queue 63).tail ∧
    (sdq.part 44).fqwait = [] ∧ runOk 44 4 = true ∧ runOk 24 24 = true ∧ runOk 63 63 = false ∧
    (∀ k < 4, s0.partOf (44 + k) = none) ∧ (sdq.partOf 47).isSome = true ∧ (sdq.part 44).size = 4 ∧
    sd1.partIdle 44 false = false ∧
    ({ sdq with parts := [(44, { Part.cold with size := 4 })], guard := Guard.cold }).partIdle 44 false = true ∧
    (sce.engine 63).pend.isSome = true ∧ (sce.copies.any fun c => c.engine = 63) = true ∧
    ({ sce with copies := [] }.copies.any fun c => c.engine = 63) = false ∧ (s0.engine 63).pend = none ∧
    s0.sys.latched = false ∧ (1#128 &&& ~~~s0.sys.foff) ≠ 0 ∧ (0#128 &&& ~~~s0.sys.foff) = 0 ∧ (s0.die 3).mclog = [] ∧
    ((s0.logMc 3 { cause := 0xF2, kind := 1, unit := 0, team := false, time := 0, pa := 0 }).die 3).mclog ≠ [] := by decide +kernel

/-- A scrub of two pages, or of a whole core, is under way on die 3; core 191 waits for its world. -/
def ssc (kind units : Nat) (paused : Bool) : State :=
  let t := s0.modCore 191 fun k => { k with worldPend := true, worldTarget := true }
  { t with guard := { t.guard with scrubs := [(3, { Scrubber.cold with
    entries := [(0, { kind := kind, slot := 0, core := 191, fen := 1, units := units, spec := BitVec.ofNat 64 0x40000000, acc := 0 })]
    tail := 1, paused := paused })] } }
def sfm (idle : Nat) : State := { s0 with now := 1000000, guard := { s0.guard with fens := [(0, { Fen.cold with v := true }), (1, { Fen.cold with v := true, idle := some idle })] } }

theorem test_witness_scrub_events :
    (s0.scrubber 3).live = [] ∧ ((ssc 1 2 false).scrubber 3).live.head?.any (fun e => e.kind = 1 && 1 < e.units) = true ∧
    ((ssc 1 2 false).scrubber 3).paused = false ∧ ((ssc 1 2 true).scrubber 3).paused = true ∧
    ((ssc 3 1 false).scrubber 3).live.head?.any (fun e => e.kind = 3 && e.units ≤ 1 && e.core = 191) = true ∧
    ((ssc 3 1 false).core 191).worldPend = true ∧ ((ssc 3 1 false).die 3).sparePend = none ∧
    (((ssc 3 1 false).modDie 3 fun x => { x with sparePend := some 191 }).die 3).sparePend = some 191 ∧ (sfm 1).now < 1 + 1000000 ∧ (sfm 1).fenState 1 ≠ 2 ∧ ((sfm 0).fen 1).v = true ∧
    (sfm 0).slotsOf 1 = 0 ∧ ((sfm 0).fen 1).idle = some 0 ∧ 0 + 1000000 ≤ (sfm 0).now ∧ (s0.fen 1).v = false := by decide +kernel

/-- System core 195 has stopped, with a system team. -/
def sst : State := { s0.modCore 195 (fun k => { k with stopped := true }) with teams := [(0, { s0.team 0 with core := 195 })] }
/-- A public key, and a number that is both r and s of its signature of the empty header, by the curve's arithmetic. -/
def key : Nat × Nat :=
  (0x250428a9226b63365eaf160b4cfa01b38d6f98ac59f733448ff6dae7f521ed574e916a847937c1b36ad2764452e13e7c,
    0x2866f7564c2d89f1e5af26ac0a32f8408c6179b564a6f894cdb88e0ead3eb47cbc4f8b01294bfc5c684cf981ff7a3c18)
def rs : Nat := 0x315a5fca7d3940d8170da87f40a609524dcb4a06c084977d9ac8cd8b03fec1e07da2655bd4bbca430428c13d0c6747b0
def img : Image :=
  { header := [], pub := key, sig := (rs, rs), loader := [], body := [], version := 1, security := Config.fusedMinVersion
    foff := 0, entry := 0x102000, np := 0, nc := 1, bp := 0, bc := 2, nspad := 0, nbar := 0, nstr := 0, nacc := 0, rtab := 0
    cells := [], ptbase := 0 }

/-- A signature that a Python computation of brainpoolP384r1 gives verifies (R365, R377). -/
theorem test_image_signature : Crypto.ecVerify key [] (rs, rs) = true := by decide +kernel

/-- Where the fused digest is that of this key, an image passes the checks. No witness can do without that
premise: the digest is the part's own. -/
theorem test_witness_image (h : Crypto.sha384 (bytesBE 48 key.1 ++ bytesBE 48 key.2) =
    bytesBE 48 Config.fusedKeyDigest.toNat) : imageError (some img) = none := by
  have h2 : Crypto.ecVerify img.pub img.header img.sig = true := test_image_signature
  have h1 : Crypto.sha384 (bytesBE 48 img.pub.1 ++ bytesBE 48 img.pub.2) = bytesBE 48 Config.fusedKeyDigest.toNat := h
  have h3 : ¬ img.security < Config.fusedMinVersion := by simp [img]
  simp only [imageError, h1, h2, h3]
  simp

theorem test_witness_service_events :
    (s0.core 195).stopped = false ∧ (sst.core 195).stopped = true ∧
    (sst.teams.find 0).any (fun t =>
      t.system && t.core = 195 && !(t.group 0).ended) = true ∧
    s0.coreFree 3 191 = true ∧ s0.coreFree 3 192 = false ∧ (s0.die 3).sparePend = none ∧
    (∃ k < 4, k ≠ 3 ∧ (sst.core (sysCore k)).stopped = false) ∧ (s0.die 3).spareUsed = false ∧
    (s0.scrubber 3).full = false ∧ dieOfSlice 47 = 3 ∧ dieOfSlice 48 ≠ 3 ∧ (s0.die 3).hoState ≠ 1 ∧
    imageError s0.sys.flash = some 3 ∧ (s0.sys.facc &&& ~~~ img.foff) = 0 ∧ (1#128 &&& ~~~ img.foff) ≠ 0 ∧
    ((s0.modCore 191 fun k => { k with splitMode := 3 }).core 191).splitMode ≠ (s0.core 191).splitCur ∧
    s0.teamsOn 191 = [] ∧ (s0.core 191).slotUsed = false := by decide +kernel

theorem test_witness_power_events :
    sdq.isPart 44 = true ∧ ({ sdq with parts := [(44, { Part.cold with size := 4 })] }).partIdle 44 true = true ∧
    sd1.partIdle 44 true = false ∧ s0.isPart 0 = false ∧ s0.sys.drawOver = none ∧
    ({ s0 with now := 1000001, sys := { s0.sys with drawOver := some 0 } }).now > 0 + 1000000 ∧
    ({ s0 with now := 10000000, sys := { s0.sys with drawUnder := some 0 } }).now ≥ 0 + 10000000 ∧ s0.sys.dies = [] ∧
    s0.sys.forced = false ∧ ({ s0.sys with forced := true }).forced = true := by decide +kernel

/-- A user team on core 191. -/
def sue : State := s0.setTeam 1 { s0.team 0 with system := false, core := 191 }

theorem test_witness_error_events :
    (s0.teams.filter fun t => t.2.core = 191 && (t.2.status = .resident || t.2.status = .saving)).map (·.1) = [] ∧
    (sue.teams.filter fun t => t.2.core = 191 && (t.2.status = .resident || t.2.status = .saving)).map (·.1) = [1] ∧
    (sue.team 1).lowest = some (0, 0) ∧ (sue.team 1).system = false ∧ (sue.team 1).status = .resident ∧
    (s0.team 0).lowest = some (0, 0) ∧ (s0.team 0).system = true := by decide +kernel

/-- Premises of the statements about a step and about memory. -/
theorem test_witness_step :
    (State.reset.loadWord 0).sys.off = false ∧ (State.reset.loadWord 0).agenda = [.word 0 0 0] ∧
    (State.reset.loadWord 0).ctx.isSome = true ∧ State.reset.ctx = none ∧ (State.reset.loadWord 0).mem.wf = true ∧
    (match step (State.reset.loadWord 0) with | .next _ => true | _ => false) = true ∧
    (sms.setFen 5 { Fen.cold with v := true, world := true }).sealedFen 5 = true ∧ sms.tierAbort 0x4000 = false ∧
    sms.channelRetired 0x4000 = false ∧ sms.mem.bad.find 0x100 = none ∧
    (match ({ s0 with agenda := [.event .gateTableInvalidate] } : State).choose.1 with | .event i => !i.isWord | _ => false) = true ∧
    ((s0.fetchWord 192 0 0 0x102000).toOption.bind decodeWord).isSome = true ∧
    ((s0.writeBytes 0 0x102000 (bytesLE 4 0x0F000000)).fetchWord 192 0 0 0x102000).toOption.any
      (fun w => (decodeWord w).isNone) = true ∧ (s0.fetchWord 192 0 0 0x40000000).toOption = none := by decide +kernel

/-! ## What every word meets first -/

def s1 : State := mach id id (entry fun e => { e with cseta := 0 })
def sguard : State := mach id id (inMode 0xF8042)

theorem test_witness_word_checks :
    sh.ctx = some (issuer sh) ∧ (issuer sh).stalled sh = false ∧ (issuer sh).ent.mid = false ∧ encode (.nop 0) = some 0 ∧
    cu.ent.mid = true ∧ privileged (0x09800000 / 2 ^ 23) = true ∧ cu.team.system = false ∧ encode .eret = some 0x09800000 ∧
    s0.ctx = some c0 ∧ c0.stalled s0 = false ∧ wellFormed (.vadd (.p 0) 0 0) = false ∧
    encode (.vadd (.p 0) 0 0) = some 0x20600000 ∧ s1.ctx = some (issuer s1) ∧ (issuer s1).stalled s1 = false ∧
    (issuer s1).grp.tokens = [] ∧ (issuer s1).flagOf 0x102 = some none ∧ encode (.ldw 0 ⟨0, 0, 0⟩) = some 0x81000000 ∧
    sgi.ctx = some (issuer sgi) ∧ (issuer sgi).stalled sgi = false ∧ (issuer sgi).grp.gate.isSome = true ∧
    gateOp 0x150 = true ∧ encode .txb = some 0xA8000000 ∧ sguard.ctx = some (issuer sguard) ∧
    (issuer sguard).stalled sguard = false ∧ (issuer sguard).gang = [] ∧ guardedOp 0x040 = true ∧
    (issuer sguard).acting 0x040 = 0 ∧ st.ctx = some (issuer st) ∧ (issuer st).stalled st = false ∧
    guardedOp 0x140 = true ∧ txAborts 0x140 = true ∧ (issuer st).active ≠ 0 ∧
    (issuer st).active &&& ~~~(issuer st).grp.txOpen = 0 := by decide +kernel

/-- The word's flag stands at 63; a trap has left no lane of the splinter; `s62` waits for a token. -/
def sflag : State := mach id id fun g => entry (fun e => { e with cseta := 1 }) { g with cf := [(0, 63)] }
def sstall : State := mach id id fun g => { g with trap := { g.trap with ecause := 1#64 <<< 25, lanes := 0 } }
def stok : State := mach id id fun g => { g with tokens := [62] }
/-- System core 192 looks at core 192, and its die has a machine check. -/
def slog : State := mach (fun s => (s.modCore 192 fun k => { k with coresel := 192 }).logMc 0
  { cause := 0xF2, kind := 1, unit := 0, team := false, time := 0, pa := 0 }) id id
/-- The line of the recipe table fails its check with errors. -/
def srb : State := mach (fun s => { s with mem := { s.mem with bad := [(0x100, .ecc)] } }) (fun t => { t with rtab := 0x4000 }) id

theorem test_witness_issue_more :
    sflag.ctx = some (issuer sflag) ∧ (issuer sflag).stalled sflag = false ∧ (issuer sflag).ent.mid = true ∧
    (issuer sflag).flagOf 0x102 = some (some 0) ∧ (issuer sflag).grp.flag 0 = 63 ∧ (issuer sflag).acting 0x102 ≠ 0 ∧
    sstall.ctx = some (issuer sstall) ∧ (issuer sstall).stalled sstall = true ∧ stok.ctx = some (issuer stok) ∧
    62 ∈ (issuer stok).grp.tokens ∧ sx.teams.find 0 = some (sx.team 0) ∧ (sx.team 0).system = true ∧
    ((sx.team 0).group 0).exl = true ∧ (((sx.team 0).group 0).entries.find 0).isSome = true ∧
    192 ≤ (slog.core (issuer slog).team.core).coresel.toNat ∧ (slog.die ((issuer slog).team.core - 192)).mclog ≠ [] ∧
    (s0.die (c0.team.core - 192)).mclog = [] ∧ (issuer slog).MayIssue slog 0x015 [] [] [62] ∧ namesNone 0x193 = true ∧
    (packageWritten s0 c0 0 0x190).isSome = true ∧ (issuer srb).MayIssue srb 0x012 [] [] [] ∧
    (srb.recipe (issuer srb).team 0).isNone = true ∧ (issuer srb).team.rtab ≠ 0 ∧
    (srb.fenCheck (issuer srb).team.fen ((issuer srb).team.recipeAt 0) 32).isSome = true ∧
    s0.fenCheck c0.team.fen (c0.team.recipeAt 0) 32 = none ∧ c0.team.rtab = 0 := by
  simp only [may_iff]
  decide +kernel

/-- f32 under FX, and without it, with a signaling NaN in lane 0's `v9`. -/
def sfx (m : BitVec 23) : State := mach id id fun g => inMode m <| few { g with v := [(9, 0x7F800001)] }
theorem test_witness_flags_of_moves :
    (∀ s ∈ [sfx 0x14A, sfx 0x10014A], (issuer s).MayIssue s 0x066 [9] [] [] ∧ (issuer s).MayIssue s 0x090 [8, 9] [] [] ∧
      (issuer s).MayIssue s 0x094 [8, 9] [] [] ∧ (issuer s).MayIssue s 0x095 [8, 9] [] [] ∧ tyFloat (issuer s).ty = true ∧
      (convertWord (issuer s) (.vcvt 8 9 0 0)).isSome = true ∧
      (decodeElem (issuer s).env (issuer s).ty 0x7F800001).isSnan = true ∧
      (fpTrap (modeFX (issuer s).ent.mode) ((issuer s).lanes.map fun l =>
        (l, (reduced (issuer s) 0 9 (issuer s).lanes).2))).isSome = modeFX (issuer s).ent.mode ∧
      (fpTrap (modeFX (issuer s).ent.mode) ((issuer s).lanes.map fun l =>
        (l, [(convertElem (issuer s).env (issuer s).ty (issuer s).ty
          ((elemsOf (issuer s).ty ((issuer s).grp.readOp (issuer s).ty l 9)).getD 0 0)).2]))).isSome =
        modeFX (issuer s).ent.mode) ∧
    modeFX (issuer (sfx 0x10014A)).ent.mode = true ∧ modeFX (issuer (sfx 0x14A)).ent.mode = false ∧
    wellFormed (.vfcmp (.imm 0) .eq 0 9) = true ∧ wellFormed (.vcvt 8 9 0 0) = true ∧
    cf.MayIssue sf 0x058 [0] [] [63] ∧ tyInt cf.ty = false ∧ c0.MayIssue s0 0x066 [126] [] [] ∧ tyFloat c0.ty = false := by
  simp only [may_iff]
  decide +kernel

/-- A store of the group is queued; a write to an expander line waits; an SC store is pending; the range-lock table is full. -/
def squ : State := held sm
def sthr : State := { s0 with mem := { s0.mem with through := [{ team := 0, group := some 0, line := 1, started := false, at_ := 1 }] } }
def sfull : State := mach (fun s => s.modCore 192 fun k => { k with locks := (List.range 32).map fun i =>
  { id := i, fen := 0, team := 0, src := none, dst := none } }) id fun g => { (sn.group 0 0) with cf := g.cf }
def sflq : State := mach (fun s => s.writeBytes 0 0x113008 (bytesLE 8 (0x1F + 2 ^ 48 + 0x40000000 + 0x1F * 2 ^ 52))) id fun g =>
  few { g with s := [(1, 0x40000000)], sq := [ent .plain 1 (2 ^ 48 + 0x40000000)] }

theorem test_witness_waits :
    squ.storesAt 0 0 1 = false ∧ (issuer squ).MayIssue squ 0x129 [] [] [] ∧ sthr.throughDone 0 0 = false ∧
    sthr.storesAt 0 0 4 = true ∧ sthr.loadsBound 0 0 = true ∧ (issuer sthr).MayIssue sthr 0x129 [] [] [] ∧
    (issuer sdf).MayIssue sdf 0x129 [] [] [] ∧ (issuer sflq).MayIssue sflq 0x12A [127] [] [1] ∧
    lanesOk sflq (issuer sflq) (cacheRule 0x12A) ((issuer sflq).addresses m1) (fun t ls => t = sflq &&
      ls.any fun y => y.2.2.pa / 128 = (2 ^ 48 + 0x40000000) / 128) = true ∧
    (sfull.core 192).lockRoom 1 = false ∧ (issuer sfull).MayIssue sfull 0x182 [2, 0, 3] [0] [] ∧
    (issuer sfull).lanes ≠ [] ∧ (issuer sfull).sedgeReady sfull = false ∧ (stc 0).committing (issuer (stc 0)).ti (issuer (stc 0)).gi = true ∧
    sm.atomicOn cm 0x4000 16 = false ∧ (∀ e ∈ (sm.core cm.team.core).l1, sm.l1Bytes e = sm.readSector e.fen e.sector) ∧
    sm.lineErr cm.fen 0x100 = none ∧ sm.acquirePending cm = false ∧
    (match sm.chk cm { op := 0x036, bytes := 8, r := false, w := true, kind := 2 } false 1 with
      | .bad cause _ _ => cause = 0x42
      | _ => false) = true := by
  simp only [may_iff]
  decide +kernel

/-- A copy whose record lies where an SC store is pending; a pair of types that `cpx` does not permit; an unaligned record;
a `cpl` whose source address is not canonical. -/
def scq : State := sc.modGroup 0 0 fun g => { g with scq := [{ scr with data := some [0] }] }
def scw : State := sc.modGroup 0 0 fun g => { g with s := [(1, 0x4001)] }
def snc : State := mach id id fun g => few { g with v := [(1, 0xFF000000), (3, 1)] }

theorem test_witness_copy_more :
    cc.scOverlap 0x4000 64 = false ∧ (issuer scq).scOverlap 0x4000 64 = true ∧ cpxPair 0x0A 0x02 = false ∧
    (match scw.chk (issuer scw) { op := 0x180, bytes := 64, r := true, w := false, kind := 1 } false 0x4001 with
      | .bad cause _ _ => cause = 0x42
      | _ => false) = true ∧
    (issuer scq).engine scq = some 63 ∧ (issuer scw).engine scw = some 63 ∧
    (cplFault ((issuer snc).lanes.map fun l => (l, snc.cplLane (issuer snc) (.v 3) 2 0 l))).isSome = true ∧
    (issuer snc).MayIssue snc 0x182 [2, 0, 3] [0] [] ∧ (∀ l ∈ (issuer snc).lanes, (issuer snc).low32 (.v 3) l ≤ 32) := by
  simp only [may_iff]
  decide +kernel

/-- A grid that has stopped; an address of an `enq` record that is not aligned; a `gcall` where no lane is active. -/
def sgs : State := sd1.modPart 44 fun p => { p with grids := p.grids.map fun g => { g with stop := true } }
def seb : State := sdu id |>.modGroup 0 0 fun g => { g with v := [(0, 0x4001)] }
def sga : State := sgt.modGroup 0 0 fun g => inMode 0xF8042 g
def sgw : State := sga.modGroup 0 0 fun g => { g with cf := [(0, 1)] }

theorem test_witness_engines_more :
    (issuer sgs).MayIssue sgs 0x1B1 [2, 0] [0] [1] ∧ ((sgs.part 44).grid 1).all (fun g => g.stop) = true ∧
    (issuer seb).MayIssue seb 0x1B0 [0] [0] [] ∧
    (match seb.chk (issuer seb) { op := 0x1B0, bytes := 64, r := true, w := false, kind := 1 } false 0x4001 with
      | .bad cause _ _ => cause = 0x42
      | _ => false) = true ∧
    sga.ctx = some (issuer sga) ∧ (issuer sga).stalled sga = false ∧ (issuer sga).ent.mid = true ∧
    (issuer sga).active = 0 ∧ (issuer sga).grp.gate = none ∧ ((issuer sga).gateCheck 3 sga).isOk = true ∧
    (issuer sga).gateReady 3 sga = true ∧ (issuer sgw).gateReady 3 sgw = false ∧ sgw.ctx = some (issuer sgw) ∧
    (issuer sgw).active = 0 ∧ ((issuer sgw).gateCheck 3 sgw).isOk = true ∧ (gateForm (issuer sgi) (.gcallImm 7 3)).isSome = true := by
  simp only [may_iff]
  decide +kernel

/-- A line with errors, or in a retired channel, that a device names; a handle entry in it; a function that is served. -/
def sde : State := { sdv with mem := { sdv.mem with bad := [(0x100, .ecc)] } }
def sdc : State := { sdv with mem := { sdv.mem with retiredCh := [(sliceOf 0x4000, 0xFFFF)] } }
def shd : State := { s0 with sys := { s0.sys with latched := true, facc := 3 } }
/-- No system core runs. -/
def snone : State := (List.range 4).foldl (fun s d => s.modCore (192 + d) fun k => { k with stopped := true }) sst
/-- Partition 44 is gated. -/
def sgd : State := { sfm 1 with sys := { s0.sys with gated := 1#48 <<< 44 }, parts := sdq.parts
                                guard := { (sfm 1).guard with fens := [(1, { Fen.cold with v := true, pid := 44 })] } }

theorem test_witness_machine_more :
    (sde.rangeErr 0 0x4000 8).any (fun e => e.1 = .ecc) = true ∧ (sdc.rangeErr 0 0x4000 8).any (fun e => e.1 = .channel) = true ∧
    ({ sqh with mem := { sqh.mem with bad := [(0xFFC0 / 64, .ecc)] } }.rangeErr 0 0xFFC0 64).isSome = true ∧
    shd.sys.latched = true ∧ shd.sys.facc.getLsbD 1 = true ∧ shd.sys.facc.getLsbD 0 = true ∧ sgd.fenState 1 = 2 ∧
    sgd.slotsOf 1 = 0 ∧ (sgd.fen 1).v = true ∧ sgd.isPart 44 = true ∧ sgd.sys.gated &&& sgd.gateMask 44 ≠ 0 ∧
    sdq.sys.gated &&& sdq.gateMask 44 = 0 ∧ (∃ k < 4, k ≠ 3 ∧ (sst.core (sysCore k)).stopped = false) ∧
    (∀ k < 4, (snone.core (sysCore k)).stopped = true) ∧
    (s0.tierLine 0x100 = none) ∧ sst.sys.off = false ∧ ({ s0.sys with off := true }).off = true := by decide +kernel

-- R56, example 3: an unmapped load whose guard admits no lane leaves its register and its flag as they were
theorem test_empty_active :
    let g := grpAfter (.ldw 4 ⟨7, 2, 2⟩) (mach id id fun g => inMode 0xF8042 (withS [(2, 0x40000000)] g))
    g.readV 0 4 = 0 ∧ g.flag 0 = 0 ∧ g.trap.ecause = 0 ∧
    (grpAfter (.ldw 4 ⟨7, 2, 2⟩) { sguard with teams := (mach id id fun g => entry (fun e => { e with cseta := 0 }) (inMode 0xF8042 g)).teams
      }).trap.ecause.toNat % 256 = 3 := by decide +kernel
/-! ### Machines for the remaining clauses -/

/-- No header stands at an address, evaluated. -/
def bare (s : State) (c : Ctx) (a : BitVec 57) : Bool :=
  (s.fetchWord c.team.core c.grp.port c.fen a.toNat).toOption.any fun w => w / 2 ^ 28 ≠ 15

theorem bare_noHeader {s : State} {c : Ctx} {a : BitVec 57} (h : bare s c a = true) : noHeaderAt s c a := by
  unfold bare at h
  cases h2 : s.fetchWord c.team.core c.grp.port c.fen a.toNat with
  | error e => simp [h2, Except.toOption] at h
  | ok w => exact .inl ⟨w, h2, by simpa [h2, Except.toOption] using h⟩

/-- A cause is due at a header that names `cf0`. -/
def shd2 : State := mach id id fun g => entry (fun e => { e with mid := false }) { g with
  deferred := [{ at_ := .flag 0, cause := 0x47, kind := 1, lanes := 1, addr := 0x4000, pa := 0, op := 0 }] }
/-- Every entry is taken; every frame too. -/
def sen : State := mach code id fun g => { g with p := [(0, 1)], entries := (List.range 8).map fun k =>
  (k, { (newSplinter 0x102000 noFrame 0x42 0) with mid := true, mask := if k = 0 then 3 else BitVec.ofNat 32 (2 ^ (k + 1)) }) }
def fullFrames (g : Group) : Group := { g with frames := (List.range 16).map fun k => (k, loopFrame) }
def sfr : State := mach code id fun g => fullFrames { g with p := [(0, 1)], s := [(1, 5)] }
def sef : State := sen.modGroup 0 0 fullFrames

theorem test_witness_control_more :
    c0.ent.mid = true ∧ s0.ctx = some c0 ∧ c0.stalled s0 = false ∧ wellFormed (.clauseHeader 0 13 0 0 0 0) = false ∧
    shd2.ctx = some (issuer shd2) ∧ (issuer shd2).stalled shd2 = false ∧ (issuer shd2).ent.mid = false ∧
    (((issuer shd2).grp.fuse 0 (issuer shd2).ent).dueAt 1).isSome = true ∧
    (issuer sen).MayIssue sen 0x004 [] [] [] ∧ (issuer sef).MayIssue sef 0x004 [] [] [] ∧
    condLanes (issuer sen) 0 0 = 1 ∧ (issuer sen).ent.mask = 3 ∧ headerAt sen (issuer sen) (targetFrom (issuer sen) 2) ∧
    headerAt sef (issuer sef) (targetFrom (issuer sef) 2) ∧ condLanes (issuer sef) 0 0 = 1 ∧ (issuer sef).ent.mask = 3 ∧
    (issuer sen).grp.freeEntry = none ∧ (issuer sen).grp.freeFrame = some 0 ∧ (issuer sef).grp.freeEntry = none ∧
    (issuer sef).grp.freeFrame = none ∧ cl.MayIssue sl 0x004 [] [] [] ∧ condLanes cl 7 0 = cl.ent.mask ∧
    cl.grp.leavesLoop cl.ent (targetFrom cl 100) = true ∧ noHeaderAt sb cb (targetFrom cb 8) ∧
    cb.grp.leavesLoop cb.ent (targetFrom cb 8) = false ∧
    cl.MayIssue sl 0x009 [] [] [] ∧ (issuer sfr).MayIssue sfr 0x009 [] [] [] ∧ headerAt sfr (issuer sfr) (targetFrom (issuer sfr) 2) ∧
    (issuer sfr).grp.freeFrame = none ∧ (issuer sfr).MayIssue sfr 0x00B [] [] (loopRegs 0 1) ∧
    (issuer sfr).loopCheck sfr 0 0x102004 0x102008 = none ∧ (issuer sfr).ent.cleft = 0 ∧
    (issuer sfr).grp.readS 1 = 5 ∧ cb.MayIssue sb 0x00C [] [] [] ∧ cb.grp.loopOf cb.ent = none ∧
    targetFrom cl 3 ≠ loopFrame.point := by
  have h : bare sb cb (targetFrom cb 8) = true := by decide +kernel
  have h := bare_noHeader h
  simp only [may_iff, header_iff, h]
  decide +kernel

/-- A header outside the loop of `sl`. -/
theorem test_witness_recon_outside :
    headerAt (sl.writeBytes 0 0x102010 (bytesLE 8 0xF0000000)) cl (targetFrom cl 4) ∧
    cl.grp.leavesLoop cl.ent (targetFrom cl 4) = true ∧
    (sl.writeBytes 0 0x102010 (bytesLE 8 0xF0000000)).ctx = some cl := by
  simp only [header_iff]
  decide +kernel

/-- A word that counts on the full flag and decodes to nothing. -/
def sfu : State := mach (fun s => s.writeBytes 0 0x102000 (bytesLE 4 (0x168 * 2 ^ 23 + 1))) id fun g =>
  entry (fun e => { e with csetb := 1 }) { g with cf := [(0, 63)] }

theorem test_witness_full_flag :
    (issuer sfu).stalled sfu = false ∧ sfu.ctx = some (issuer sfu) ∧ (issuer sfu).ent.mid = true ∧
    (sfu.fetchWord 192 0 0 0x102000).toOption.any (fun w => (decodeWord w).isNone && w / 2 ^ 23 = 0x168) = true ∧
    (issuer sfu).flagOf 0x168 = some (some 0) ∧ (issuer sfu).grp.flag 0 = 63 ∧ (issuer sfu).acting 0x168 ≠ 0 := by decide +kernel

theorem test_witness_no_lane :
    sguard.ctx = some (issuer sguard) ∧ (issuer sguard).stalled sguard = false ∧ (issuer sguard).ent.mid = true ∧
    (issuer sguard).grp.tokens.contains 62 = false ∧ (issuer sguard).grp.gate = none ∧ (issuer sguard).active = 0 := by
  decide +kernel

theorem test_witness_fence_team : wellFormed (.fence 0 1) = true ∧ s0.storesAt 0 0 1 = true ∧ s0.loadsBound 0 0 = true := by
  decide +kernel

/-- A window that is not aligned; what the aligned ones give. -/
def smu : State := (smg 1).modGroup 0 0 fun g => g.writeS 2 1
def sml : State := (smg 4).modGroup 0 0 fun g => g.writeS 2 1

theorem test_witness_windows :
    (issuer smu).MayIssue smu 0x1CF [] [] (62 :: sRange 1 3) ∧ (issuer sml).MayIssue sml 0x1CF [] [] (62 :: sRange 1 3) ∧
    ((issuer smu).grp.readS 2).toNat = 1 ∧ (smu.migrWindow 2 1 65536).isOk = false ∧ (sml.migrWindow 1 1 16).isOk = false ∧
    ((smg 4).migrWindow 1 0x200000 16).isOk = true ∧ smu.migrTarget 96 = some 96 ∧ sml.migrTarget 96 = some 96 ∧
    (smu.func 96).mst = 1 ∧ (sml.func 96).mst = 4 := by
  simp only [may_iff]
  decide +kernel

theorem test_witness_save_window : ((smg 1).migrWindow 2 0x200000 65536).isOk = true := by decide +kernel

/-- A release blob whose body lies past the mapped gigabyte. -/
def sbe : State := mach (fun s => { s with mem := { s.mem with
    bytes := s.mem.bytes ++ ((List.range 176).zip (blobAt 1 1 0)).map fun x => (2 ^ 30 - 176 + x.1, x.2)
    tags := s.mem.tags ++ [2 ^ 24 - 3, 2 ^ 24 - 2, 2 ^ 24 - 1].map fun l => (l, { own := 0, key := s.keyOf 0 }) } }) id fun g =>
  { g with s := [(4, 2 ^ 30 - 176), (5, 0x107000)] }

theorem test_witness_body_unread :
    (issuer sbe).MayIssue sbe 0x1CD [] [] (62 :: sRange 4 2) ∧ sbe.storesAt 0 0 3 = true ∧
    (∃ hd, sbe.spanOf 0 false (2 ^ 30 - 176) 176 = some hd ∧ sbe.spanRead 0 hd = bytesOn sbe (2 ^ 30 - 176) 176) ∧
    (blobOf (bytesOn sbe (2 ^ 30 - 176) 176)).len = 1 ∧ sbe.spanOf 0 false (2 ^ 30) 1 = none := by
  have h : lowMap sbe := by unfold lowMap; decide +kernel
  refine ⟨?_, by decide +kernel, ⟨_, low_span h _ _ _ (by decide), low_span_read h _ _ (by decide)⟩, by decide +kernel, by decide +kernel⟩
  simp only [may_iff]
  decide +kernel

/-- The slot of the team that waits to be placed holds a line with errors. -/
def sp2e : State := { sp2 with mem := { sp2.mem with bad := [(((sp2.slotPa (sp2.team 2)).getD 0) / 64, .ecc)] } }

theorem test_witness_slots :
    sp2.slotErr (sp2.team 2) = none ∧ (sp2e.slotErr (sp2e.team 2)).isSome = true ∧ (sp2e.part 44).en = true ∧
    (match sp2e.nextTeam 44 with
      | some (w, cs) => w.cand = .team 2 && cs = [176] && (sp2e.slotFor 44 w).isSome
      | none => false) = true := by decide +kernel

/-- The table line that maps the first gigabyte holds errors. -/
def sdw : State := { sdv with mem := { sdv.mem with bad := [(0x113000 / 64, .ecc)] } }
def sho : State := s0.modDie 3 fun d => { d with hoState := 1 }
/-- Two user teams on core 191. -/
def sue2 : State := sue.setTeam 2 (sue.team 1)

theorem test_witness_events_more :
    (match sdw.walkXlate 0 0x4000 with | .error (.check code _) => isMc code | _ => false) = true ∧
    sdw.requestPa 0 0x4000 8 false none = none ∧ sdw.requestFen 36 0 0 = some 0 ∧ sdw.carries 36 = true ∧
    (∃ d < 4, (sho.die d).hoState = 1) ∧ imageError sho.sys.flash = some 3 ∧
    (sue2.teams.filter fun t => t.2.core = 191 && (t.2.status = .resident || t.2.status = .saving)).map (·.1) = [1, 2] ∧
    (stw.txops[0]?).any (fun o => o.lanes.all fun x => x.2.esc && !stw.mayCommit o false x) = true ∧
    (stw.txops[1]?).any (fun o => (o.lanes.find? (stw.mayCommit o false)).any fun x => x.2.esc) = true ∧
    ((stc 0).txops[0]?).any (fun o => (o.lanes.find? ((stc 0).mayCommit o false)).any fun x => !x.2.esc && x.1 = 31) = true ∧
    (lg 0).shares (lg 1) = true ∧
    (∀ e ∈ (lg 0).writes, e.bytes.length = 32) := by decide +kernel

/-! ### Checks of every word, transfers and loops -/

/-- A team with 15 barriers and the smallest budget of lane registers. -/
def sbg : State := mach id (fun t => { t with nbar := 15, bc := 0 }) id

/-- A word for each check: a register that waits for a token, a barrier that the team has not, an odd pair, a register outside the
budget. -/
theorem test_witness_named :
    (62 ∈ (namedRegs (issuer stok) (.sadd (.s 1) 62 2)).ss) ∧ fieldsFit (issuer stok) (.sadd (.s 1) 62 2) = true ∧
    (encode (.sadd (.s 1) 62 2)).isSome = true ∧ stok.ctx = some (issuer stok) ∧ (issuer stok).stalled stok = false ∧
    (issuer stok).ent.mid = true ∧ sbg.ctx = some (issuer sbg) ∧ (issuer sbg).stalled sbg = false ∧
    fieldsFit (issuer sbg) (.barv 0 15) = false ∧ (encode (.barv 0 15)).isSome = true ∧
    ((namedRegs (issuer sd) (.vfadd (.v 3) 2 4)).pairs.any fun n => n ≠ 127 && n % 2 = 1) = true ∧ sd.ctx = some (issuer sd) ∧
    ((namedRegs (issuer sbg) (.vadd (.v 125) 126 1)).vs.all fun n => n < (issuer sbg).budget || n = 127) = false := by
  decide +kernel

theorem test_witness_transfer_checks :
    cl.MayIssue sl 0x005 [] [] [] ∧ (jumpWord cl (.jmp 0 100)).any (fun r => r.2.2.2.1) = true ∧
    cl.grp.leavesLoop cl.ent (targetFrom cl 100) = true ∧ cb.MayIssue sb 0x005 [] [] [] ∧
    cb.grp.leavesLoop cb.ent (targetFrom cb 8) = false ∧ headerAt s0 c0 0x40000000 ∧ cb.MayIssue sb 0x009 [] [] [] ∧
    -- a `loop` that passes its checks
    cb.MayIssue sb 0x00B [] [] (loopRegs 0 2) ∧ cb.grp.entries.length = 1 ∧ cb.grp.hasDefer = false ∧
    ((cb.grp.chain cb.ent).filter fun x => x.2.kind = .loop) = [] ∧ cb.grp.leavesLoop cb.ent (cb.ent.pc + 4) = false ∧
    headerAt sb cb 0x102008 ∧ (cb.ent.pc + 4 + 4 * (1 : BitVec 10).setWidth 57 : BitVec 57) = 0x102008 ∧
    (issuer sfr).grp.entries.length = 1 ∧ (issuer sfr).grp.hasDefer = false ∧
    ((issuer sfr).grp.chain (issuer sfr).ent).filter (fun x => x.2.kind = .loop) = [] ∧
    (issuer sfr).grp.leavesLoop (issuer sfr).ent ((issuer sfr).ent.pc + 4) = false ∧ headerAt sfr (issuer sfr) 0x102008 ∧
    -- a split group; a counter in use; a body that leaves the enclosing one; an end that is no header
    (issuer sen).MayIssue sen 0x00B [] [] (loopRegs 0 1) ∧ (issuer sen).grp.entries.length ≠ 1 ∧ (issuer sen).ent.cleft = 0 ∧
    cl.MayIssue sl 0x00B [] [] (loopRegs 0 1) ∧ cl.ent.cleft = 0 ∧ cl.grp.entries.length = 1 ∧ cl.grp.hasDefer = false ∧
    ((cl.grp.chain cl.ent).filter fun x => x.2.kind = .loop) = [(0, loopFrame)] ∧
    loopFrame.point.toNat < (cl.ent.pc + 4 + 4 * (5 : BitVec 10).setWidth 57 : BitVec 57).toNat ∧
    noHeaderAt sb cb (cb.ent.pc + 4 + 4 * (4 : BitVec 10).setWidth 57) := by
  have h : bare sb cb (cb.ent.pc + 4 + 4 * (4 : BitVec 10).setWidth 57) = true := by decide +kernel
  have h := bare_noHeader h
  simp only [may_iff, header_iff, h]
  decide +kernel

/-- i16, whose elements `vpack` takes; i32 has one element. -/
def si16 : State := mach id id (inMode 0x041)
/-- Barrier 13 has as many arrivals as it counts; a count of 1024. -/
def sbf : State := mach id (fun t => { t with bars := [(13, { members := 2, arr := 1023, phase := 0, xexp := 1, xarr := 0 })] })
  fun g => { g with s := [(1, 1024)] }

theorem test_witness_refused_operands :
    (issuer si16).MayIssue si16 0x081 [2, 4, 6] [] [] ∧ c0.MayIssue s0 0x081 [2, 4, 6] [] [] ∧
    (moveWord (issuer si16) (.vpack 2 4 6)).any (fun r => r.2.2.2.1 (issuer si16).ty) = true ∧
    (moveWord c0 (.vpack 2 4 6)).any (fun r => !r.2.2.2.1 c0.ty) = true ∧ wellFormed (.vpack 2 4 6) = true ∧
    cbr.MayIssue sbr 0x190 [] [] [] ∧ wellFormed (.binit (.imm 0) 14) = true ∧ (uniOperand cbr.grp (.imm 0)).toNat = 0 ∧
    (issuer sbf).MayIssue sbf 0x190 [] [] [1] ∧ (uniOperand (issuer sbf).grp (.s 1)).toNat = 1024 ∧
    ((issuer sbf).team.bar 14).arr = 0 ∧ (14 : BitVec 4).toNat < (issuer sbf).team.nbar ∧
    (issuer sbf).MayIssue sbf 0x191 [] [] [62] ∧ ((issuer sbf).team.bar 13).arr = 1023 ∧
    ((issuer sbf).team.bar 13).members ≠ 0 := by
  simp only [may_iff]
  decide +kernel

/-- Lane 31 is another splinter's, open, escalated and older; it has read the sector that lane 0's commit would write. -/
def stx : State := mach id id fun g => { entry (fun e => { e with mask := 1 }) g with
  entries := (entry (fun e => { e with mask := 1 }) g).entries ++ [(1, newSplinter 0x102000 noFrame 0x42 0x80000000)]
  tx := [(0, { lg 0 with esc := true, stc := 5 }), (31, { lg 0 with esc := true, stc := 4, reads := (lg 0).reads.map fun e => { e with sector := 0x201 } })] }

/-- A rendezvous that waits for group 0, and one that it opens. -/
def sgr : State := skg.modTeam 0 fun t => { t with rdvs := [{ seq := 0, groups := [0, 1], arrivals := [arr 1 0] }] }

theorem test_witness_older_and_gangs :
    (issuer stx).MayIssue stx 0x151 [126] [] [] ∧ stx.committing 0 0 = false ∧ (issuer stx).txeWaits stx = true ∧
    (issuer st).txeWaits st = false ∧
    (sgr.team 0).rdvs.any (fun r => (issuer sgr).meets r) = true ∧ (issuer sgr).sedgeReady sgr = true ∧
    (issuer sgr).MayIssue sgr 0x162 (vRange 118 (fragRegs 0x162 (issuer sgr).ty false)) [] [5] := by
  simp only [may_iff]
  decide +kernel

/-! ### Events of the last clauses -/

/-- No group of the system teams has an SC access that waits. -/
theorem no_sc {s : State} (core : Nat) (h : ∀ t ∈ s.teams, ∀ g ∈ (s.team t.1).groups, g.2.scq = []) : s.NoScWaits core :=
  fun t ht _ gi => get_all Group.blank (fun g => g.scq = []) _ gi (h t ht) rfl

/-- An atomic whose old value no register takes. -/
def saz : State := mach (fun s => s.modCore 192 fun k => { k with
  cso := [{ atom with kind := .atomic .add 2 1 0 9 3 127 false }] }) id fun g =>
  { g with cf := [(0, 1)], pend := [{ Pending.new 9 0 with waiting := 1 }] }

theorem test_witness_store_more :
    sap.NoScWaits 192 ∧ sam.NoScWaits 192 ∧ sab.NoScWaits 192 ∧ (sat1 1).NoScWaits 192 ∧ (sat1 32).NoScWaits 192 ∧
    saz.NoScWaits 192 ∧ (saz.mayLeave 192 0).isSome = true ∧ (saz.pending 0 0 9).isSome = true :=
  ⟨no_sc _ (by decide +kernel), no_sc _ (by decide +kernel), no_sc _ (by decide +kernel), no_sc _ (by decide +kernel),
    no_sc _ (by decide +kernel), no_sc _ (by decide +kernel), by decide +kernel, by decide +kernel⟩

/-- Two reads of devices, of lanes 0 and 31, with a register write of lanes 0 and 1. -/
def sdv2 : Pending := { Pending.new 4 0 with devs := [(0, 0, 0), (31, 1, 8)], writes := [.v 0 5 1, .v 1 5 2] }
def sdr : State := mach id id fun g => { g with cf := [(0, 1)], pend := [sdv2] }

theorem test_witness_reply_more :
    sdr.pending 0 0 4 = some sdv2 ∧ sdv2.isPark = false ∧ sdv2.dead = false ∧ sdv2.awaits (.v 0 5 1) = true ∧
    sdv2.awaits (.v 1 5 2) = false ∧ 2 < 2 * sdv2.devs.length ∧ (sdr.group 0 0).scq = [] ∧
    ((Pending.new 2 0).awaits (.s 0 6)) = false ∧
    (stc 0).commitReady 0 0 9 = true ∧ ((stc 0).teams.find 0).isSome = true ∧ ((stc 0).pending 0 0 9).isSome = true := by
  decide +kernel

/-- The scrubbed page lies in a retired channel; a command after the GO was refused. -/
def ssr : State := { (ssc 1 2 false) with mem := { s0.mem with retiredCh := [(sliceOf 0x40000000, 0xFFFF)] } }
def sse2 : State := (ssc 3 1 false).modDie 3 fun x => { x with sparePend := some 191, spareErr := true }

theorem test_witness_unit_events :
    sm2.reed.marks.any (fun m => m.handle = 1023 && m.due.isSome) = true ∧ sqh.reed.marks = [] ∧
    (∀ m ∈ smk.reed.marks, m.due = none) ∧ ssr.channelRetired 0x40000000 = true ∧ (ssc 1 2 false).channelRetired 0x40000000 = false ∧
    (ssr.scrubber 3).live.head?.any (fun e => e.kind = 1) = true ∧ (sse2.die 3).sparePend = some 191 ∧
    (sse2.die 3).spareErr = true ∧ ({ s0 with sys := { s0.sys with drawUnder := some 0 } }).now < 0 + 10000000 ∧
    -- a line of memory and one of an expander; a function that the host reaches, and one that it does not
    regionOf (0x100 * 64) ≠ 1 ∧ regionOf (2 ^ 42 * 64) = 1 ∧ (shd.sys.latched = true ∧ shd.sys.facc.getLsbD 0 = true) ∧
    s0.sys.latched = false := by decide +kernel

/-! ### Special functions, faults of one moment, parks and logs -/

theorem test_witness_special_functions :
    tySpecial 0x0A = true ∧ decodeElem cf.env 0x0A 0x40000000 = .fin false (2 ^ 23) (2 ^ 22) ∧
    specialInput 0x06A (.fin false (2 ^ 23) (2 ^ 22)) = none ∧ specialInput 0x06D (decodeElem cf.env 0x0A 0x3F800000) = none ∧
    specialAbs 0x06D 1 1 = true ∧ (Special.exact 0x06D false 1 1).2.1 < 2 * (Special.exact 0x06D false 1 1).2.2 ∧
    specialAbs 0x06D 3 1 = false ∧ specialInput 0x069 (decodeElem cf.env 0x0A 0x80000000) = some (.inf true, 2) := by
  decide +kernel

/-- A user team of two groups, of which the second raises its fault first. -/
def sto : State := skg.modTeam 0 fun t => { t with system := false, core := 0, onf := true }
def rsd (g : Nat) : Raised := { team := 0, group := g, entry := 0, flt := { cause := 0x0A + g } }

theorem test_witness_faults_of_one_moment :
    (sto.teams.find 0).isSome = true ∧ ((sto.group 0 0).entries.find 0).isSome = true ∧ ((sto.group 0 1).entries.find 0).isSome = true ∧
    (sto.group 0 1).gate = none ∧ su.gather = none ∧ sv.gather = none ∧ skg.oneCycle 0 [(0, 0), (1, 0)] = true ∧
    skg.oneCycle 0 [(1, 0), (0, 0)] = false := by decide +kernel

/-- Every lane addresses 0x4000, whose bank has its monitors taken; a line that fails its seal check, for lane 31 alone. -/
def spf : State := mach (fun s => { s with mem := { s.mem with monitors := (List.range 64).map fun _ => {
    bank := homeBank 0x4000, team := 1, group := 0, fen := 0, pa := 0x4000, ty := 2, cc := .eq, b := 1, expiry := none, pend := 7777
    pd := 7, lanes := 1 } } }) id fun g => few { g with v := (List.range 32).map fun l => (128 * l, 0x4000) }
def spbd : State := mach (fun s => { s with mem := { s.mem with bad := [(0x100, .mac)] } }) id fun g =>
  entry (fun e => { e with mask := 0x80000000 }) { g with v := (List.range 32).map fun l => (128 * l, 0x4000) }
/-- i8, which R185 does not list. -/
def si8 : State := mach id id (inMode 0x040)

theorem test_witness_park_findings :
    (issuer spf).MayIssue spf 0x14A [0] [0] [] ∧ (issuer spbd).MayIssue spbd 0x14A [0] [0] [] ∧
    (issuer si8).MayIssue si8 0x14A [0] [0] [] ∧ (issuer si8).ty = 0 ∧ wellFormed (.park (.imm 0) .ne 6 0) = true ∧
    lanesOk spf (issuer spf) (hbk 0x14A) ((issuer spf).pointers 0) (fun t ls => t = spf && ls.all fun y =>
      (spf.lineErr 0 (y.2.2.pa / 64)).isNone && !compareElem bankEnv .ne 2 (spf.readNat 0 y.2.2.pa 4) 0 &&
      64 ≤ (spf.mem.monitors.filter fun n => n.bank = homeBank y.2.2.pa).length) = true ∧
    (∀ n ∈ spf.mem.monitors, n.pend ≠ spf.nextId) ∧ (issuer spbd).ty = 2 ∧ spbd.acquirePending (issuer spbd) = false ∧
    lanesOk spbd (issuer spbd) (hbk 0x14A) ((issuer spbd).pointers 0) (fun t ls => t = spbd && ls.length = 1 &&
      ls.all fun y => (spbd.lineErr 0 (y.2.2.pa / 64)).any fun e => !isMc e.code) = true ∧
    (issuer spbd).grp.ended = false := by
  simp only [may_iff]
  decide +kernel

-- R194: a word that differs from the bound parks nothing where no monitor is free; R193, R171: nor where the line has a finding
theorem test_park_full :
    let g := grpAfter (.park (.imm 0) .ne 6 0) spf
    g.block = none ∧ g.readP 31 6 = false ∧ g.deferred = [] := by decide +kernel
theorem test_park_finding :
    let g := grpAfter (.park (.imm 0) .ne 6 0) spbd
    g.block = none ∧ g.readP 31 6 = false ∧ g.deferred.map (fun d => (d.cause, d.kind, d.lanes)) = [(0x47, 3, 0x80000000)] := by
  decide +kernel

/-- Lane 0 has read a line that holds errors. -/
def stfd : State := { (mach id id fun g => few { g with
    txBuf := true, tx := [(0, { lg 0 with reads := (lg 0).reads ++ (lg 0).reads.map fun e => { e with sector := 0x300 } }), (31, lg 0)] })
  with mem := { s0.mem with bad := [(0x180, .ecc)] } }

theorem test_witness_txr :
    (issuer stfd).MayIssue stfd 0x153 [126] [] [] ∧ stfd.committing 0 0 = false ∧
    stfd.txFindings 0 [0x200, 0x300] = [(.ecc, 0x6000)] ∧ (issuer st).MayIssue st 0x153 [126] [] [] ∧
    (∀ l ∈ (issuer st).lanes, st.txFindings 0 (((issuer st).grp.txLane l).reads.map (·.sector)) = []) := by
  simp only [may_iff]
  decide +kernel

-- R205, R207: the finding aborts the lane, and the other lane's log is valid
theorem test_txr_finding :
    let g := grpAfter (.txr 126) stfd
    (g.txLane 0).state = .aborted ∧ (g.txLane 0).cause = 5 ∧ (g.txLane 0).detail = 0xF0 ∧ g.readV 0 126 = 0 ∧ g.readV 31 126 = 1 := by
  decide +kernel

/-! ### Faults and waits of the engine words -/

/-- What a word on these machines raises on a system core. -/
def causeOf (i : Instr) (s : State) : Nat := (grpAfter i s).trap.ecause.toNat % 256
/-- A machine whose only lane is 0, with these registers. -/
def one (fs : State → State) (l : List (Nat × W64)) : State :=
  mach fs id fun g => entry (fun e => { e with mask := 1 }) { g with s := l }

/-- A group with a copy in flight; stores still queued before an arrival and a publication; two streams; a stream with no free slot. -/
def scp1 : State := mach id id fun g => { g with copies := 1 }
def sbq : State := held sbr
def ssh : State := held ss
def ss2 : State := mach id (fun t => { t with nstr := 2 }) id
def ssf : State := mach id (fun t => { t with streams := [
  (1, { base := 0, nsm1 := 1, ssz := 1, freei := 0, np := 1, nc := 1, v := true, filled := 2, hand := 0, stall := 0, start := 0 })] }) id

theorem test_witness_engine_waits :
    (issuer scp1).MayIssue scp1 0x184 [] [] [] ∧ (issuer scp1).grp.copies ≠ 0 ∧ (issuer sbq).MayIssue sbq 0x191 [] [] [62] ∧
    ((issuer sbq).team.bar 15).members ≠ 0 ∧ ((issuer sbq).team.bar 15).arr ≠ 1023 ∧ sbq.storesAt 0 0 1 = false ∧
    (issuer ssh).MayIssue ssh 0x189 [] [] [] ∧ ((issuer ssh).team.stream 2).v = true ∧
    ((issuer ssh).team.stream 2).handSlot = some 0 ∧ ssh.storesAt 0 0 1 = false ∧ (issuer ssf).MayIssue ssf 0x189 [] [] [62] ∧
    ((issuer ssf).team.stream 1).v = true ∧ ((issuer ssf).team.stream 1).nsm1 + 1 ≤
      ((issuer ssf).team.stream 1).np + ((issuer ssf).team.stream 1).nc ∧ (1 : BitVec 3).toNat < (issuer ssf).team.nstr := by
  simp only [may_iff]
  decide +kernel

theorem test_witness_stream_numbers :
    (issuer ss2).MayIssue ss2 0x188 [] [] [1] ∧ (issuer ss2).MayIssue ss2 0x189 [] [] [62] ∧
    (issuer ss2).MayIssue ss2 0x189 [] [] [] ∧ (issuer ss2).MayIssue ss2 0x18A [] [] [] ∧
    (issuer ss2).MayIssue ss2 0x18B [] [] [62] ∧ (issuer ss2).team.nstr ≤ (2 : BitVec 3).toNat ∧
    (1 : BitVec 3).toNat < (issuer ss2).team.nstr ∧ ((issuer ss2).team.stream 1).v = false := by
  simp only [may_iff]
  decide +kernel

-- R271: a stream above the count, and one that `qcfg` has not configured
theorem test_stream_faults :
    [causeOf (.qcfg 2 1) ss2, causeOf (.qpushRes 62 7) ss2, causeOf (.qpushPub 2) ss2, causeOf (.qfree 2) ss2, causeOf (.qpop 62 2) ss2] =
      [1, 1, 1, 1, 1] ∧
    [causeOf (.qpushRes 62 1) ss2, causeOf (.qpushPub 1) ss2, causeOf (.qfree 1) ss2, causeOf (.qpop 62 1) ss2] =
      [0x88, 0x88, 0x88, 0x88] := by decide +kernel

/-- The handle is another fen's, for one lane; the range-lock table is full; the handle's remap entry, changed. -/
def sh4 : State := one (reedOf 7) [(1, 1023)]
def sh5 : State := one (fun s => reedOf 0 (s.modCore 192 fun k => { k with locks := (List.range 32).map fun i =>
  { id := i, fen := 0, team := 0, src := none, dst := none } })) [(1, 1023)]
def shr (r : Remap → Remap) : State := one (fun s => let t := reedOf 0 s
  { t with reed := { t.reed with remap := t.reed.remap.map fun e => (e.1, r e.2) } }) [(1, 1023), (2, 1024)]
def stray (r : Remap) : Remap := { r with v := false }
def taken (r : Remap) : Remap := { r with mode := 1, uid := some 5 }
/-- Slots that two lanes name (lanes 0 and 1 of `v0`), the mask of the lanes being all 32. -/
def sh15 : State := mach (reedOf 0) (fun t => { t with nbar := 15 }) fun g => { g with s := [(1, 1023)] }

theorem test_witness_handle_faults :
    ch1.MayIssue sh1 0x1A0 [0] [] [1] ∧ ch1.low32 (.v 0) 0 = ch1.low32 (.v 0) 1 ∧ (0 ∈ ch1.lanes ∧ 1 ∈ ch1.lanes) ∧
    (∀ l < 32, (BitVec.allOnes 32).getLsbD l = true ∧ ∃ m < 32, m ≠ l ∧ ch1.low32 (.v 0) m = ch1.low32 (.v 0) l) ∧
    (∀ s ∈ [sh4, sh5], (issuer s).MayIssue s 0x1A0 [] [] [1] ∧ (issuer s).lanes = [0]) ∧
    ((issuer sh4).handle sh4 1).fen ≠ (issuer sh4).fen ∧ ((issuer sh4).handle sh4 1).loaded = true ∧
    ((issuer sh5).handle sh5 1).fen = (issuer sh5).fen ∧ (sh5.core 192).lockRoom 1 = false ∧
    ((issuer sh5).handle sh5 1).sqm1 < (issuer sh5).low32 (.imm 127) 0 := by
  simp only [may_iff]
  decide +kernel

theorem test_witness_bind_faults :
    (∀ s ∈ [sh4, shr stray, shr taken], (issuer s).MayIssue s 0x1A1 [] [] [1] ∧ (issuer s).MayIssue s 0x1A2 [] [] [1]) ∧
    (issuer (shr id)).MayIssue (shr id) 0x1A1 [] [] [2] ∧ (issuer sh15).MayIssue sh15 0x1A1 [] [] [1] ∧
    (issuer sh15).team.nbar ≤ (15 : BitVec 4).toNat ∧ (15 : BitVec 4).toNat < (issuer sh4).team.nbar ∧
    ((shr stray).remap 4095).v = false ∧ ((shr taken).remap 4095).mode = 1 ∧ ((shr taken).remap 4095).uid = some 5 := by
  simp only [may_iff]
  decide +kernel

-- R297, R303: the causes
theorem test_handle_faults :
    [causeOf (.iodb (.v 0) 1) sh1, causeOf (.iodb (.imm 127) 1) sh5, causeOf (.iodb (.imm 0) 2) sh1, causeOf (.iodb (.imm 15) 1) sh4] =
      [0x91, 0x91, 0x90, 0xB4] ∧
    [causeOf (.iobind 2 0) (shr id), causeOf (.iobind 1 0) (shr stray), causeOf (.iounb 1) (shr taken), causeOf (.iobind 1 0) sh4,
      causeOf (.iounb 1) sh4, causeOf (.iobind 1 15) sh15] = [0x90, 0x93, 0x92, 0xB4, 0xB4, 1] := by decide +kernel

/-- Operands with reserved bits, cores above 191, and HOLD for a fen that is not valid. -/
def sla : State := one id [(1, 0x1000), (2, 192), (3, 191 + 2 ^ 17), (4, 0x10000 + 0x300), (5, 64), (6, 45), (7, 2 ^ 14)]

theorem test_witness_malformed :
    (issuer sla).MayIssue sla 0x1B8 [] [] [62, 1] ∧ (∀ r ∈ [2, 3, 4], (issuer sla).MayIssue sla 0x1B9 [] [] [62, r]) ∧
    (issuer sla).MayIssue sla 0x1BA [] [] (62 :: 1 :: 2 :: sRange 1 0) ∧ (∀ r ∈ [2, 7], (issuer sla).MayIssue sla 0x1BB [] [] [62, r]) ∧
    (issuer sla).MayIssue sla 0x1BC [] [] [62, 2] ∧ bitsOf ((issuer sla).grp.readS 1).toNat 12 52 ≠ 0 ∧
    bitOf ((issuer sla).grp.readS 4).toNat 16 = true ∧ (sla.fen 3).v = false ∧ sla.isPart 45 = false ∧
    bitsOf ((issuer sla).grp.readS 2).toNat 6 58 ≠ 0 := by
  simp only [may_iff]
  decide +kernel

-- R318, R325, R329, R330: FLT_DST_TARGET; a fen that is not valid is held nowhere
theorem test_malformed :
    [causeOf (.launch 62 1 1) sla, causeOf (.preempt 62 2) sla, causeOf (.preempt 62 3) sla, causeOf (.resumeEnd 4 5) sla,
      causeOf (.lend 62 2) sla, causeOf (.lend 62 7) sla, causeOf (.reclaim 62 2) sla, causeOf (.preempt 62 4) sla] =
      [0xA2, 0xA2, 0xA2, 0xA2, 0xA2, 0xA2, 0xA2, 0] ∧ (after (.preempt 62 4) sla).parts = sla.parts := by decide +kernel

/-- In a gate: an operation in flight; a frame open; a split group. -/
def sgq : State := sgi.modGroup 0 0 fun g => { g with cf := [(0, 1)] }
def sgf : State := sgi.modGroup 0 0 fun g => { g with frames := [(0, loopFrame)] }
def sge : State := sgi.modGroup 0 0 fun g => { entry (fun e => { e with mask := 1 }) g with
  entries := (entry (fun e => { e with mask := 1 }) g).entries ++ [(1, newSplinter 0x102000 noFrame 0x42 2)] }

theorem test_witness_gate_return :
    (∀ s ∈ [sgq, sgf, sge], (issuer s).MayIssue s 0x1C1 [] [] [] ∧ (issuer s).grp.gate.isSome = true) ∧
    (issuer sgq).grp.unsplit = true ∧ (issuer sgq).grp.flagsZero 0xFFF = false ∧ (issuer sgf).grp.frames ≠ [] ∧
    (issuer sge).grp.entries.length ≠ 1 := by
  simp only [may_iff]
  decide +kernel

-- R346, R348: the gate's rows read zero; `gret` in a frame, in a split group, outside a gate
theorem test_gate_rows :
    let g := grpAfter (.gcallImm 7 3) (sgt.modGroup 0 0 fun g => { g with v := [(3, 9), (16, 5)] })
    g.gate.isSome = true ∧ g.readV 0 16 = 0 ∧ g.readV 0 3 = 9 := by decide +kernel
theorem test_gret_faults : [causeOf .gret sgf, causeOf .gret sge, causeOf .gret s0] = [0xB7, 0xB7, 0xB7] := by decide +kernel

/-- A whole-core scrub of core 191 is pending, whose entry names fen 0xFE; operands of the fen words. -/
def sfe : State := mach (fun s => { dist id s with guard := { (dist id s).guard with scrubs := [(3, { Scrubber.cold with
    entries := [(0, { kind := 3, slot := 0, core := 191, fen := 0xFE, units := 321, spec := 0, acc := 0 })], tail := 1 })] } }) id
  fun g => { g with s := [(1, 0xFE + 44 * 2 ^ 16), (2, 0x200), (4, 0xFF), (5, 191 + 1 * 2 ^ 16), (6, 0x40), (8, 191 + 0xFF * 2 ^ 16), (9, 1),
    (12, 191 + 2 * 2 ^ 16), (20, 2), (22, 1 + 0x10000), (23, 1)] }

theorem test_witness_fen_faults :
    sfe.storesAt 0 0 3 = true ∧ (∀ r ∈ [1, 2, 4], (issuer sfe).MayIssue sfe 0x1C8 [] [] [62, r]) ∧
    (∀ r ∈ [3, 4], (issuer sfe).MayIssue sfe 0x1C9 [] [] [62, r]) ∧
    (∀ r ∈ [20, 22], (issuer sfe).MayIssue sfe 0x1CA [] [] (62 :: sRange r 2)) ∧
    (∀ r ∈ [2, 4], (issuer sfe).MayIssue sfe 0x1CB [] [] [62, r]) ∧
    (∀ r ∈ [2, 5, 8, 12], (issuer sfe).MayIssue sfe 0x1CC [] [] (62 :: sRange r 3)) ∧
    onlyBits ((issuer sfe).grp.readS 1).toNat [(0, 9), (16, 6)] = true ∧ (∃ e ∈ sfe.scrubEnts, e.fen = 0xFE) ∧
    (∃ e ∈ sfe.scrubEnts, e.blocks 191 ((issuer sfe).fsetArgs 5).share = true) ∧ (sfe.fen 1).v = true ∧
    (sfe.core 191).shareOk 0 ((issuer sfe).fsetArgs 5).share = true := by
  simp only [may_iff]
  decide +kernel

-- R338, R344, R351, R352, R360: FLT_FEN_TARGET and FLT_SCRUB_PENDING
theorem test_fen_faults :
    [causeOf (.kslot 62 2) sfe, causeOf (.kslot 62 4) sfe, causeOf (.kslot 62 1) sfe, causeOf (.kzero 62 3) sfe, causeOf (.kzero 62 4) sfe] =
      [0xB9, 0xB9, 0xB6, 0xB9, 0xB9] ∧
    [causeOf (.scrub 62 20) sfe, causeOf (.scrub 62 22) sfe, causeOf (.wlatch 62 2) sfe, causeOf (.wlatch 62 4) sfe] =
      [0xB9, 0xB9, 0xB9, 0xB9] ∧
    [causeOf (.fset 62 2) sfe, causeOf (.fset 62 8) sfe, causeOf (.fset 62 12) sfe, causeOf (.fset 62 5) sfe] =
      [0xB9, 0xB9, 0xB9, 0xB6] := by decide +kernel

/-! ### Events of the widened clauses -/

/-- The line of an atomic fails its seal check. -/
def satb : State := { sat1 32 with mem := { (sat1 32).mem with bad := [(0x100, .mac)] } }
def sazb : State := { saz with mem := { saz.mem with bad := [(0x100, .mac)] } }

theorem test_witness_atomic_finding :
    satb.mayLeave 192 0 = some atom ∧ satb.lineErr 0 0x100 = some .mac ∧ isMc LineErr.mac.code = false ∧
    (satb.pending 0 0 9).any (fun p => p.waiting = 32 && p.writes = [] && p.bad.isNone) = true ∧
    (sazb.mayLeave 192 0).isSome = true ∧ (sazb.pending 0 0 9).any (fun p => p.waiting = 1) = true ∧
    (sazb.group 0 0).ended = false ∧ atom.fen ≠ 0xFF := by decide +kernel
theorem test_witness_atomic_finding_sc : satb.NoScWaits 192 ∧ sazb.NoScWaits 192 :=
  ⟨no_sc _ (by decide +kernel), no_sc _ (by decide +kernel)⟩

-- R356: the old value is zero, and the cause is deferred to the flag with KIND 3
theorem test_atomic_finding :
    let t := after (.atomicApply 192 0) sazb
    t.mem = sazb.mem ∧ (t.group 0 0).flag 0 = 0 ∧ (t.group 0 0).deferred.map (fun d => (d.cause, d.kind, d.lanes)) = [(0x47, 3, 8)] := by
  decide +kernel

/-- A line that an incoming window reaches fails its seal check; a line that a device reaches holds errors, within one line. -/
def snb : State := { sdv with mem := { sdv.mem with bad := [(0x100000 / 64, .mac)] } }

theorem test_witness_peer_requests :
    (snb.inWindow 32 0x300010).any (fun w => snb.requestPa w.fen (extend57 (w.loc + (0x300010 - w.rem))) 8 true none = some 0x100010) = true ∧
    (snb.rangeErr 0 0x100010 8).any (fun e => e.1 = .mac) = true ∧ sdv.rangeErr 0 0x100010 8 = none ∧
    (sdv.inWindow 32 0x300010).any (fun w => sdv.requestPa w.fen (extend57 (w.loc + (0x300010 - w.rem))) 8 true none = some 0x100010) = true ∧
    0x4000 % 64 + 8 ≤ 64 := by decide +kernel

/-- A scrub of kind 2 or 3 on core 192, which holds sectors and records of fens 0x00 and 0x01, a rendezvous and a range lock. -/
def sk23 (kind : Nat) : State :=
  let l1 (f : Nat) : L1Ent := { fen := f, sector := 0x200, key := 0, bytes := [], stamp := 0 }
  let t := (srd 0).modCore 192 fun k => { k with
    l1 := [l1 1, l1 0], sedge := [opOf .mma 9 63, { opOf .mma 10 62 with fen := 1 }]
    locks := [{ id := 9, fen := 0, team := 0, src := none, dst := none }] }
  { t with guard := { t.guard with scrubs := [(0, { Scrubber.cold with
    entries := [(0, { kind := kind, slot := 0, core := 192, fen := 0, units := 321, spec := 0, acc := 0 })], tail := 1 })] } }

theorem test_witness_scrub_kinds :
    (∀ k ∈ [2, 3], ((sk23 k).scrubber 0).live.head?.any (fun e => e.kind = k && e.core = 192) = true ∧ ((sk23 k).scrubber 0).done = 0 ∧
      ((sk23 k).scrubber 0).paused = false) ∧
    (sk23 2).teams.find 0 = some ((sk23 2).team 0) ∧ ((sk23 2).team 0).core = 192 ∧ ((sk23 2).team 0).status = .resident ∧
    ((sk23 2).team 0).fen = 0 ∧ ((sk23 2).team 0).rdvs ≠ [] := by decide +kernel

-- R359: what the first unit zeroes
theorem test_scrub_kinds :
    (let t := after (.scrubUnit 0) (sk23 2)
     ((t.core 192).l1.map (·.fen), (t.core 192).sedge.map (·.fen), (t.core 192).locks.length, (t.team 0).rdvs.length) = ([1], [1], 1, 0)) ∧
    let t := after (.scrubUnit 0) (sk23 3)
    ((t.core 192).l1.map (·.fen), (t.core 192).sedge.map (·.fen), (t.core 192).locks.length, (t.team 0).rdvs.length) = ([], [], 0, 0) := by
  decide +kernel

-- R37: of two teams of a core, an error affects the first, whose context is intact, or the second, whose is not
theorem test_core_error_teams :
    (let t := after (.coreUncorrectableError 191 3) sue2
     (t.team 1).status = .saving ∧ (t.team 2).status = .resident) ∧
    let t := after (.coreUncorrectableError 191 4) sue2
    (t.team 1).status = .resident ∧ (t.team 2).status = .ended := by decide +kernel

-- R160, R298: the mark waits for the group's line on its way to an expander
theorem test_mark_starts : (after (.iodbMark 0) smw).mem.through.all (·.started) = true := by decide +kernel

/-- Two groups of a user team stand at a `trap`. -/
def scy : State := { (skg.modTeam 0 fun t => { t with
    system := false, core := 0, onf := false, groups := t.groups.map fun g => (g.1, entry (fun e => { e with mid := true }) g.2)
    }).writeBytes 0 0x102000 (bytesLE 4 0x08000005) with
  parts := [(0, { Part.cold with en := true, size := 4 })], agenda := [.cycle 0 [(0, 0), (1, 0)]] }

theorem test_witness_cycle :
    (match scy.choose with
      | (.cycle ti ws, s1) => ti = 0 && ws = [(0, 0), (1, 0)] && s1.oneCycle ti ws && s1.gather = none
      | _ => false) = true ∧
    (([1, 2].zipIdx.filter fun x : Nat × Nat => bitOf 3 (2 * x.2)).map fun x => (x.1, bitOf 3 (2 * x.2 + 1))) = [(1, true)] ∧
    (([1, 2].zipIdx.filter fun x : Nat × Nat => bitOf 4 (2 * x.2)).map fun x => (x.1, bitOf 4 (2 * x.2 + 1))) = [(2, false)] ∧
    (sue2.team 1).lowest = some (0, 0) := by decide +kernel

-- R35: each of two faults of one cycle makes a record, and the lower group's is the team's cause
theorem test_two_faults :
    let t := scy.cycle 0 [(0, 0), (1, 0)]
    (t.part 0).fqwait.length = 2 ∧ (t.team 0).faultAt.1 = 0 ∧ (t.team 0).faultCause = 0x0A := by decide +kernel
end Sys2Proof.Tests
end

section
/-!
PROOFS. Power and temperature (R388 to R392): what reading a core or a die gives after an update, what taking the power
from a partition's cores leaves, the outcomes of the events, and the obligation assembled from them.
-/
namespace Sys2Proof.Machine

/-! ## Reading cores and dies -/

@[simp] theorem State.core_setCore (s : State) (c : Nat) (k : Core) : (s.setCore c k).core c = k :=
  SMap.get_put_same _ _ _ _

theorem State.core_setCore_other (s : State) (c j : Nat) (k : Core) (h : j ≠ c) : (s.setCore c k).core j = s.core j :=
  SMap.get_put_other _ _ _ _ _ h

@[simp] theorem State.core_modCore (s : State) (c : Nat) (f : Core → Core) : (s.modCore c f).core c = f (s.core c) :=
  s.core_setCore c _

theorem State.core_modCore_other (s : State) (c j : Nat) (f : Core → Core) (h : j ≠ c) :
    (s.modCore c f).core j = s.core j :=
  s.core_setCore_other c j _ h

@[simp] theorem State.die_modDie (s : State) (d : Nat) (f : Die → Die) : (s.modDie d f).die d = f (s.die d) :=
  SMap.get_put_same _ _ _ _

@[simp] theorem State.modDie_mode (s : State) (d : Nat) (f : Die → Die) : (s.modDie d f).sys.mode = s.sys.mode := rfl

/-- One update made to several cores changes nothing but the cores. -/
theorem State.foldl_modCore_eq (cs : List Nat) (f : Core → Core) (s : State) :
    cs.foldl (fun s c => s.modCore c f) s = { s with cores := (cs.foldl (fun s c => s.modCore c f) s).cores } := by
  induction cs generalizing s with
  | nil => rfl
  | cons c cs ih => rw [List.foldl_cons, ih (s.modCore c f)]; rfl

/-- A core after an update made to several, which may name it more than once: the update is one whose repetition adds
nothing. -/
theorem State.core_foldl_modCore (cs : List Nat) (f : Core → Core) (hf : ∀ k, f (f k) = f k) (s : State) (j : Nat) :
    (cs.foldl (fun s c => s.modCore c f) s).core j = if j ∈ cs then f (s.core j) else s.core j := by
  induction cs generalizing s with
  | nil => simp
  | cons c cs ih =>
    rw [List.foldl_cons, ih]
    by_cases hc : j = c
    · subst hc; simp [hf]
    · simp [hc, s.core_modCore_other c j f hc]

/-! ## Machine checks -/

@[simp] theorem State.logMc_mem (s : State) (d : Nat) (r : McRec) : (s.logMc d r).mem = s.mem := by
  simp [State.logMc, State.setEvent, State.pushMc]

@[simp] theorem State.logMc_teams (s : State) (d : Nat) (r : McRec) : (s.logMc d r).teams = s.teams := by
  simp [State.logMc, State.setEvent, State.pushMc]

/-- The newest record of a die's log is the one just added, also when a full log discards its oldest (R376). -/
theorem State.die_logMc_getLast (s : State) (d : Nat) (r : McRec) : ((s.logMc d r).die d).mclog.getLast? = some r := by
  have log : ((s.logMc d r).die d).mclog = ((s.die d).mclog ++ [r]).drop ((s.die d).mclog.length + 1 - 64) :=
    congrArg Die.mclog
      (s.die_modDie d fun x => { x with mclog := (x.mclog ++ [r]).drop (x.mclog.length + 1 - 64) })
  have kept : ¬ ((s.die d).mclog ++ [r]).length ≤ (s.die d).mclog.length + 1 - 64 := by
    rw [List.length_append, List.length_singleton]; omega
  rw [log, List.getLast?_drop, if_neg kept, List.getLast?_concat]

/-- The event that tells a die's system core of a machine check (R106). -/
theorem State.core_logMc_event (s : State) (d : Nat) (r : McRec) :
    ((s.logMc d r).core (sysCore d)).event.getLsbD evMchk = true := by
  simp [State.logMc, State.setEvent, evMchk]

/-! ## Modes in force (R389) -/

@[simp] theorem State.pwrEffect_mem (s : State) : s.pwrEffect.mem = s.mem := rfl
@[simp] theorem State.pwrEffect_teams (s : State) : s.pwrEffect.teams = s.teams := rfl
@[simp] theorem State.pwrEffect_core (s : State) (c : Nat) : s.pwrEffect.core c = s.core c := rfl
@[simp] theorem State.pwrEffect_die (s : State) (d : Nat) : s.pwrEffect.die d = s.die d := rfl
@[simp] theorem State.pwrEffect_cap (s : State) : s.pwrEffect.sys.cap = s.sys.cap := rfl
@[simp] theorem State.pwrEffect_forced (s : State) : s.pwrEffect.sys.forced = s.sys.forced := rfl
@[simp] theorem State.pwrEffect_mode (s : State) : s.pwrEffect.sys.mode = s.sys.mode := rfl

@[simp] theorem State.pwrEffect_cur (s : State) :
    s.pwrEffect.sys.cur = if s.sys.forced then 0 else s.sys.mode := rfl

@[simp] theorem State.pwrEffect_curb (s : State) :
    s.pwrEffect.sys.curb = if s.sys.forced then 0 else if s.sys.split then s.sys.modeb else s.sys.mode := rfl

/-! ## Gated partitions (R392) -/

theorem mem_coresOf (first n c : Nat) : c ∈ coresOf first n ↔ 4 * first ≤ c ∧ c < 4 * first + 4 * n := by
  simp only [coresOf, List.mem_map, List.mem_range]
  exact ⟨fun ⟨i, hi, he⟩ => by omega, fun h => ⟨c - 4 * first, by omega, by omega⟩⟩

theorem mem_slicesOf (first n x : Nat) : x ∈ slicesOf first n ↔ first ≤ x ∧ x < first + n := by
  simp only [slicesOf, List.mem_map, List.mem_range]
  exact ⟨fun ⟨i, hi, he⟩ => by omega, fun h => ⟨x - first, by omega, by omega⟩⟩

/-- The bits set in a mask one after another. -/
theorem getLsbD_foldl_setBit {w : Nat} (xs : List Nat) (m : BitVec w) (k : Nat) (hk : k < w) :
    (xs.foldl (fun m x => m ||| (1#w <<< x)) m).getLsbD k = (m.getLsbD k || decide (k ∈ xs)) := by
  induction xs generalizing m with
  | nil => simp
  | cons x xs ih =>
    have bit : (1#w <<< x).getLsbD k = decide (k = x) := by
      rw [← BitVec.twoPow_eq, BitVec.getLsbD_twoPow]
      simp only [eq_comm (a := x), Bool.and_eq_right_iff_imp, decide_eq_true_eq]
      omega
    rw [List.foldl_cons, ih, BitVec.getLsbD_or, bit]
    simp [Bool.or_assoc]

/-- The bits of SYS_GATED that a partition holds are those of its slices. -/
theorem State.getLsbD_gateMask (s : State) (p k : Nat) (hk : k < 48) :
    (s.gateMask p).getLsbD k = (p ≤ k && k < p + (s.part p).size) := by
  rw [State.gateMask, getLsbD_foldl_setBit _ _ _ hk]
  simp [mem_slicesOf]

/-- Taking the power from a partition's cores changes nothing but the cores. -/
theorem State.unpower_eq (s : State) (p : Nat) : s.unpower p = { s with cores := (s.unpower p).cores } :=
  State.foldl_modCore_eq _ _ s

@[simp] theorem State.unpower_mem (s : State) (p : Nat) : (s.unpower p).mem = s.mem := by rw [s.unpower_eq p]

@[simp] theorem State.unpower_guard (s : State) (p : Nat) : (s.unpower p).guard = s.guard := by rw [s.unpower_eq p]

@[simp] theorem State.unpower_sys (s : State) (p : Nat) : (s.unpower p).sys = s.sys := by rw [s.unpower_eq p]

@[simp] theorem State.unpower_gateMask (s : State) (p : Nat) : (s.unpower p).gateMask p = s.gateMask p := by
  rw [s.unpower_eq p]; rfl

/-- A core of a partition without power. -/
theorem State.core_unpower (s : State) (p c : Nat) (hlo : 4 * p ≤ c) (hhi : c < 4 * p + 4 * (s.part p).size) :
    (s.unpower p).core c = (s.core c).unpowered := by
  rw [State.unpower, State.core_foldl_modCore _ Core.unpowered (fun _ => rfl),
    if_pos ((mem_coresOf _ _ _).2 ⟨hlo, hhi⟩)]

/-- The number of the partition that a write of SYS_GATE names. -/
def State.setGatePid (s : State) (p : Nat) : State := { s with sys := { s.sys with gatePid := p } }

/-- SYS_GATE written with OFF alone. -/
theorem State.gateWrite_off (s : State) (p : Nat) (hp : p < 64) :
    s.gateWrite (p % 64 + 2 ^ 6) = (s.setGatePid p).gateOff p := by
  have pid : (p % 64 + 2 ^ 6) % 64 = p := by omega
  have off : bitOf (p % 64 + 2 ^ 6) 6 = true := by simp only [bitOf, decide_eq_true_eq]; omega
  have on : bitOf (p % 64 + 2 ^ 6) 7 = false := by simp only [bitOf, decide_eq_false_iff_not]; omega
  simp only [State.gateWrite, State.setGatePid, pid, off, on]

/-- SYS_GATE written with ON alone. -/
theorem State.gateWrite_on (s : State) (p : Nat) (hp : p < 64) :
    s.gateWrite (p % 64 + 2 ^ 7) = (s.setGatePid p).gateOn p := by
  have pid : (p % 64 + 2 ^ 7) % 64 = p := by omega
  have off : bitOf (p % 64 + 2 ^ 7) 6 = false := by simp only [bitOf, decide_eq_false_iff_not]; omega
  have on : bitOf (p % 64 + 2 ^ 7) 7 = true := by simp only [bitOf, decide_eq_true_eq]; omega
  simp only [State.gateWrite, State.setGatePid, pid, off, on]

/-- A partition that meets the conditions is gated. -/
theorem State.gateOff_idle (s : State) (p : Nat) (hpart : s.isPart p = true) (hidle : s.partIdle p true = true) :
    s.gateOff p = { s.unpower p with sys := { s.sys with
      gated := s.sys.gated ||| s.gateMask p, gateDone := true, gateErr := false } } := by
  rw [State.gateOff, if_pos ⟨hpart, hidle⟩]
  simp only [State.unpower_sys, State.unpower_gateMask]

theorem State.gateOff_refused (s : State) (p : Nat) (h : s.isPart p = false ∨ s.partIdle p true = false) :
    s.gateOff p = { s with sys := { s.sys with gateDone := false, gateErr := true } } := by
  have cond : ¬ (s.isPart p = true ∧ s.partIdle p true = true) := by
    rcases h with h | h <;> simp [h]
  rw [State.gateOff, if_neg cond]

/-- An existing partition is ungated; its cores lose what they held only if some slice of it was gated. -/
theorem State.gateOn_isPart (s : State) (p : Nat) (hpart : s.isPart p = true) :
    s.gateOn p = { (if s.sys.gated &&& s.gateMask p = 0 then s else s.unpower p) with sys := { s.sys with
      gated := s.sys.gated &&& ~~~s.gateMask p, gateDone := true, gateErr := false } } := by
  rw [State.gateOn, if_pos hpart]
  by_cases hg : s.sys.gated &&& s.gateMask p = 0
  · simp only [if_pos hg]
  · simp only [if_neg hg, State.unpower_sys, State.unpower_gateMask]

theorem State.gateOn_refused (s : State) (p : Nat) (h : s.isPart p = false) :
    s.gateOn p = { s with sys := { s.sys with gateDone := false, gateErr := true } } := by
  have cond : ¬ s.isPart p = true := by simp [h]
  rw [State.gateOn, if_neg cond]

theorem execPartitionGate_idle (p : Nat) (s : State) (hp : p < 64) (hpart : s.isPart p = true)
    (hidle : s.partIdle p true = true) :
    ∃ u, execPartitionGate p s = .next u ∧ u.mem = s.mem ∧ u.guard = s.guard ∧ u.sys.gateDone = true ∧
      u.sys.gateErr = false ∧
      (∀ k < 48, u.sys.gated.getLsbD k = (s.sys.gated.getLsbD k || (p ≤ k && k < p + (s.part p).size))) ∧
      ∀ c, 4 * p ≤ c → c < 4 * p + 4 * (s.part p).size → (u.core c).slots = [] ∧ (u.core c).l1 = [] ∧
        (u.core c).tlbs = [] ∧ (u.core c).clock = (s.core c).clock ∧ (u.core c).retired = (s.core c).retired := by
  rw [execPartitionGate, s.gateWrite_off p hp, (s.setGatePid p).gateOff_idle p hpart hidle]
  refine ⟨_, rfl, (s.setGatePid p).unpower_mem p, (s.setGatePid p).unpower_guard p, rfl, rfl, fun k hk => ?_,
    fun c hlo hhi => ?_⟩
  · rw [BitVec.getLsbD_or, (s.setGatePid p).getLsbD_gateMask p k hk]; rfl
  · have core := (s.setGatePid p).core_unpower p c hlo hhi
    have clock := congrArg Core.clock core
    have retired := congrArg Core.retired core
    exact ⟨congrArg Core.slots core, congrArg Core.l1 core, congrArg Core.tlbs core, clock, retired⟩

theorem execPartitionGate_refused (p : Nat) (s : State) (hp : p < 64)
    (h : s.isPart p = false ∨ s.partIdle p true = false) :
    execPartitionGate p s = .next { s with sys := { s.sys with gatePid := p, gateDone := false, gateErr := true } } := by
  rw [execPartitionGate, s.gateWrite_off p hp, (s.setGatePid p).gateOff_refused p h]
  rfl

theorem execPartitionUngate_isPart (p : Nat) (s : State) (hp : p < 64) (hpart : s.isPart p = true) :
    ∃ u, execPartitionUngate p s = .next u ∧ u.mem = s.mem ∧
      (s.sys.gated &&& s.gateMask p = 0 → u.cores = s.cores) ∧
      (s.sys.gated &&& s.gateMask p ≠ 0 → ∀ c, 4 * p ≤ c → c < 4 * p + 4 * (s.part p).size → (u.core c).slots = [] ∧
        (u.core c).splitMode = 1 ∧ (u.core c).splitCur = 1 ∧ (u.core c).world = false ∧ (u.core c).worldPend = false) ∧
      u.sys.gateDone = true ∧ u.sys.gateErr = false ∧
      ∀ k < 48, u.sys.gated.getLsbD k = (s.sys.gated.getLsbD k && !(p ≤ k && k < p + (s.part p).size)) := by
  have bits (k : Nat) (hk : k < 48) : (s.sys.gated &&& ~~~s.gateMask p).getLsbD k =
      (s.sys.gated.getLsbD k && !(p ≤ k && k < p + (s.part p).size)) := by
    rw [BitVec.getLsbD_and, BitVec.getLsbD_not, s.getLsbD_gateMask p k hk, decide_eq_true hk, Bool.true_and]
  rw [execPartitionUngate, s.gateWrite_on p hp, (s.setGatePid p).gateOn_isPart p hpart]
  by_cases hg : s.sys.gated &&& s.gateMask p = 0
  · rw [if_pos (show (s.setGatePid p).sys.gated &&& (s.setGatePid p).gateMask p = 0 from hg)]
    exact ⟨_, rfl, rfl, fun _ => rfl, fun h => absurd hg h, rfl, rfl, bits⟩
  · rw [if_neg (show ¬ (s.setGatePid p).sys.gated &&& (s.setGatePid p).gateMask p = 0 from hg)]
    refine ⟨_, rfl, (s.setGatePid p).unpower_mem p, fun h => absurd h hg, fun _ c hlo hhi => ?_, rfl, rfl, bits⟩
    have core := (s.setGatePid p).core_unpower p c hlo hhi
    exact ⟨congrArg Core.slots core, congrArg Core.splitMode core, congrArg Core.splitCur core,
      congrArg Core.world core, congrArg Core.worldPend core⟩

theorem execPartitionUngate_refused (p : Nat) (s : State) (hp : p < 64) (h : s.isPart p = false) :
    execPartitionUngate p s = .next { s with sys := { s.sys with gatePid := p, gateDone := false, gateErr := true } } := by
  rw [execPartitionUngate, s.gateWrite_on p hp, (s.setGatePid p).gateOn_refused p h]
  rfl

/-! ## The power cap (R390) -/

theorem heldFor_iff (since : Option Nat) (now ns : Nat) :
    heldFor since now ns = true ↔ ∃ t, since = some t ∧ t + ns ≤ now := by
  cases since <;> simp [heldFor]

theorem heldFor_eq_false (since : Option Nat) (now ns : Nat) :
    heldFor since now ns = false ↔ since = none ∨ ∃ t, since = some t ∧ now < t + ns := by
  cases since <;> simp [heldFor]

theorem execPowerCapEngage_held (s : State) (t : Nat) (ht : s.sys.drawOver = some t) (h : t + 1000000 < s.now) :
    execPowerCapEngage s = .next { s with sys := { s.sys with cap := true } } := by
  rw [execPowerCapEngage, if_pos ((heldFor_iff _ _ _).2 ⟨t, ht, by omega⟩)]

theorem execPowerCapEngage_notHeld (s : State)
    (h : s.sys.drawOver = none ∨ ∃ t, s.sys.drawOver = some t ∧ s.now ≤ t + 1000000) :
    execPowerCapEngage s = .next s := by
  have held : heldFor s.sys.drawOver s.now 1000001 = false :=
    (heldFor_eq_false _ _ _).2 (h.imp_right fun ⟨t, ht, hle⟩ => ⟨t, ht, by omega⟩)
  simp [execPowerCapEngage, held]

theorem execPowerCapRelease_held (s : State) (t : Nat) (ht : s.sys.drawUnder = some t) (h : t + 10000000 ≤ s.now)
    (hcool : ∀ d ∈ s.sys.dies, d.2.hot = false) :
    execPowerCapRelease s = .next { s with sys := { s.sys with cap := false } } := by
  have held : heldFor s.sys.drawUnder s.now 10000000 = true := (heldFor_iff _ _ _).2 ⟨t, ht, h⟩
  have cool : (s.sys.dies.all fun d => !d.2.hot) = true := List.all_eq_true.2 fun d hd => by simp [hcool d hd]
  simp [execPowerCapRelease, held, cool]

theorem execPowerCapRelease_notHeld (s : State)
    (h : s.sys.drawUnder = none ∨ (∃ t, s.sys.drawUnder = some t ∧ s.now < t + 10000000) ∨
      ∃ d ∈ s.sys.dies, d.2.hot = true) :
    execPowerCapRelease s = .next s := by
  rw [← or_assoc, ← heldFor_eq_false] at h
  rcases h with held | ⟨d, hd, hot⟩
  · simp [execPowerCapRelease, held]
  · have warm : (s.sys.dies.all fun d => !d.2.hot) = false := List.all_eq_false.2 ⟨d, hd, by simp [hot]⟩
    simp [execPowerCapRelease, warm]

/-! ## Temperature (R391) -/

/-- A number that names no die: nothing changes. -/
theorem thermalEvents_noDie (d : Nat) (s : State) (hd : 4 ≤ d) :
    execThermalCap d s = .next s ∧ execThermalTrip d s = .next s ∧ execThermalShutdown d s = .next s := by
  have cond : ¬ d < 4 := by omega
  simp only [execThermalCap, execThermalTrip, execThermalShutdown, if_neg cond, and_self]

theorem execThermalCap_die (d : Nat) (s : State) (hd : d < 4) :
    ∃ u, execThermalCap d s = .next u ∧ u.mem = s.mem ∧ u.teams = s.teams ∧ u.sys.cap = true ∧ (u.die d).hot = true := by
  rw [execThermalCap, if_pos hd]
  exact ⟨_, rfl, rfl, rfl, rfl, congrArg Die.hot (s.die_modDie d fun x => { x with hot := true })⟩

/-- The record that a trip logs on a die. -/
def State.tripRecord (s : State) (d : Nat) : McRec :=
  { cause := 0xF5, kind := 3, unit := d, team := false, time := s.now, pa := 0 }

/-- What a trip makes of the machine before the modes take effect: its record logged on the die, the die hot, E forced
and the cap engaged. -/
def State.tripped (s : State) (d : Nat) : State :=
  let t := (s.logMc d (s.tripRecord d)).modDie d fun x => { x with hot := true }
  { t with sys := { t.sys with forced := true, cap := true } }

@[simp] theorem State.tripped_mem (s : State) (d : Nat) : (s.tripped d).mem = s.mem := by simp [State.tripped]
@[simp] theorem State.tripped_teams (s : State) (d : Nat) : (s.tripped d).teams = s.teams := by simp [State.tripped]
@[simp] theorem State.tripped_cap (s : State) (d : Nat) : (s.tripped d).sys.cap = true := rfl
@[simp] theorem State.tripped_forced (s : State) (d : Nat) : (s.tripped d).sys.forced = true := rfl
@[simp] theorem State.tripped_mode (s : State) (d : Nat) : (s.tripped d).sys.mode = s.sys.mode := by
  simp [State.tripped, State.logMc, State.setEvent, State.pushMc]

theorem State.tripped_mclog (s : State) (d : Nat) :
    ((s.tripped d).die d).mclog.getLast? = some (s.tripRecord d) := by
  have log := congrArg Die.mclog ((s.logMc d (s.tripRecord d)).die_modDie d fun x => { x with hot := true })
  exact (congrArg List.getLast? log).trans (s.die_logMc_getLast d (s.tripRecord d))

theorem State.tripped_core (s : State) (d c : Nat) :
    (s.tripped d).core c = (s.logMc d (s.tripRecord d)).core c := by
  simp [State.tripped, State.core]

theorem State.tripped_event (s : State) (d : Nat) : ((s.tripped d).core (sysCore d)).event.getLsbD evMchk = true := by
  rw [s.tripped_core, s.core_logMc_event]

theorem execThermalTrip_eq (d : Nat) (s : State) (hd : d < 4) :
    execThermalTrip d s = .next (s.tripped d).pwrEffect := by
  rw [execThermalTrip, if_pos hd]
  rfl

theorem execThermalTrip_die (d : Nat) (s : State) (hd : d < 4) :
    ∃ u, execThermalTrip d s = .next u ∧ u.mem = s.mem ∧ u.teams = s.teams ∧ u.sys.cap = true ∧
      u.sys.forced = true ∧ u.sys.cur = 0 ∧ u.sys.curb = 0 ∧ u.sys.mode = s.sys.mode ∧
      (u.die d).mclog.getLast? = some (s.tripRecord d) ∧ (u.core (sysCore d)).event.getLsbD evMchk = true := by
  refine ⟨(s.tripped d).pwrEffect, execThermalTrip_eq d s hd, ?_⟩
  simp [s.tripped_mclog d, s.tripped_event d]

theorem execThermalShutdown_die (d : Nat) (s : State) (hd : d < 4) :
    execThermalShutdown d s = .next { s with sys := { s.sys with off := true } } := by
  rw [execThermalShutdown, if_pos hd]

theorem execThermalRecovery_notForced (s : State) (h : s.sys.forced = false) : execThermalRecovery s = .next s := by
  simp [execThermalRecovery, h]

theorem execThermalRecovery_forced (s : State) (h : s.sys.forced = true) :
    ∃ u, execThermalRecovery s = .next u ∧ u.mem = s.mem ∧ u.sys.forced = false ∧ u.sys.cur = s.sys.mode ∧
      u.sys.curb = (if s.sys.split then s.sys.modeb else s.sys.mode) ∧ ∀ d ∈ u.sys.dies, d.2.hot = false := by
  rw [execThermalRecovery, if_pos h]
  refine ⟨_, rfl, rfl, rfl, rfl, rfl, fun d hd => ?_⟩
  obtain ⟨e, -, rfl⟩ := List.mem_map.1 (List.mem_of_mem_filter hd)
  rfl

/-! ## The obligation -/

/-- Settles O53, event by event: a write of SYS_PWR and the modes' coming into force are the model's own equations; the
other clauses are the outcomes above. -/
theorem powerAndThermalEvents : Obligations.PowerAndThermalEvents := by
  unfold Obligations.PowerAndThermalEvents
  refine ⟨fun v s => rfl, fun s => rfl, fun p s hp => ⟨?gate, ?gateRefused, ?ungate, ?ungateRefused⟩,
    fun s => ⟨?engage, ?noEngage, ?release, ?noRelease⟩, fun d s => ⟨?noDie, ?die⟩, fun s => ⟨?forcedNot, ?forced⟩⟩
  case gate => exact execPartitionGate_idle p s hp
  case gateRefused => exact execPartitionGate_refused p s hp
  case ungate => exact execPartitionUngate_isPart p s hp
  case ungateRefused => exact execPartitionUngate_refused p s hp
  case engage => exact execPowerCapEngage_held s
  case noEngage => exact execPowerCapEngage_notHeld s
  case release => exact execPowerCapRelease_held s
  case noRelease => exact execPowerCapRelease_notHeld s
  case noDie => exact thermalEvents_noDie d s
  case die => exact fun hd => ⟨execThermalCap_die d s hd, execThermalTrip_die d s hd, execThermalShutdown_die d s hd⟩
  case forcedNot => exact execThermalRecovery_notForced s
  case forced => exact execThermalRecovery_forced s

end Sys2Proof.Machine
end

section
/-!
PROOFS. The checks that every body word meets (R15, R30, R40, R47, R48, R56, R58, R70, R100, R201, R347): under which opcode
each word goes through the issue engine, the outcomes of the engine check by check, and the obligation assembled from them.
-/
namespace Sys2Proof

theorem SMap.mem_ins_same {α : Type} (m : SMap α) (n : Nat) (x : α) : (n, x) ∈ SMap.ins m n x := by
  induction m with
  | nil => simp [SMap.ins]
  | cons e m ih => simp only [SMap.ins]; split_ifs <;> simp [ih]

theorem SMap.mem_ins_of_mem {α : Type} (m : SMap α) (n : Nat) (x : α) (e : Nat × α) (he : e ∈ m) (hn : e.1 ≠ n) :
    e ∈ SMap.ins m n x := by
  induction m with
  | nil => exact absurd he List.not_mem_nil
  | cons a m ih =>
    simp only [SMap.ins]
    rcases List.mem_cons.1 he with rfl | hm
    · split_ifs with h1 h2
      · exact absurd h1.symm hn
      · simp
      · simp
    · split_ifs <;> simp [hm, ih hm]

end Sys2Proof

namespace Sys2Proof.Laws

/-! ## The opcode of an encoded word (R39, R57) -/

/-- How a word is put together from its fixed bits `base`: each field adds to what is there, and all that has been added is at
most `n`. -/
inductive BuiltOn (base : Nat) : Nat → Nat → Prop
  | putF {n w k : Nat} (x : BitVec k) (lo : Nat) : BuiltOn base n w → BuiltOn base (n + (2 ^ k - 1) * 2 ^ lo) (putF w x lo)
  | src {n w : Nat} (b : Src) : BuiltOn base n w → BuiltOn base (n + (3 * 2 ^ 21 + 127)) (b.put w)
  | mem {n w : Nat} (m : Mem) : BuiltOn base n w → BuiltOn base (n + (2 ^ 16 - 1)) (m.put w)
  | cc {n w : Nat} (c : Cc) : BuiltOn base n w → BuiltOn base (n + 15 * 2 ^ 17) (c.put w)
  | fixed : BuiltOn base 0 base

theorem BuiltOn.bounds {base n w : Nat} (h : BuiltOn base n w) : base ≤ w ∧ w ≤ base + n := by
  induction h with
  | putF x lo _ ih =>
    have := Nat.mul_le_mul_right (2 ^ lo) (Nat.le_sub_one_of_lt x.isLt)
    simp only [Sys2Proof.putF]; omega
  | src b _ ih =>
    have : b.bits ≤ 3 * 2 ^ 21 + 127 := by cases b <;> simp only [Src.bits] <;> omega
    simp only [Src.put]; omega
  | mem m _ ih => have := mem_bits_lt m; simp only [Mem.put]; omega
  | cc c _ ih => have := cc_num_lt c; simp only [Cc.put]; omega
  | fixed => omega

/-- Fields that stay below bit 23 leave the opcode that the fixed bits hold. -/
theorem BuiltOn.opcode {base n w op : Nat} (h : BuiltOn base n w) (hn : base % 2 ^ 23 + n < 2 ^ 23)
    (hop : op = base / 2 ^ 23) : op = w / 2 ^ 23 := by
  have := h.bounds
  omega

end Sys2Proof.Laws

namespace Sys2Proof.Machine

open Sys2Proof.Laws

/-! ## What every word declares, and its opcode -/

/-- A word goes through the issue engine under an opcode, with what `Word.declares` says of it; whether it acts with Active()
empty too depends on the gang alone. -/
def DeclaredAs (c : Ctx) (s : State) (i : Instr) (op : Nat) : Prop :=
  ∃ (x : Word) (act : Ctx → State → Res), exec i s = issue x act s ∧ x.op = op ∧
    (∀ c' : Ctx, c'.gang = c.gang → x.always c' = x.always c) ∧ x.declares c s i

/-- Every body word goes through the issue engine under the opcode of its encoding. The lemmas `declares_…` leave the word's
opcode open, so the meaning is unfolded to the engine's call once more, for all words together; the words are grouped by which
checks their own rules add. -/
theorem declaredAs_opcode (i : Instr) (w : Nat) (c : Ctx) (s : State) (hw : encode i = some w) (body : w / 2 ^ 28 ≠ 15)
    (h : s.ctx = some c) : DeclaredAs c s i (w / 2 ^ 23) := by
  cases i <;> cases hw
  case clauseHeader w a b n y c => exact absurd (by simp only [putF]; omega) body
  all_goals
    delta DeclaredAs exec; dsimp only
    delta execNop execSetm execGets execGetv execBr execJmp execJr execCall execRet execRecon execJoin execLoop execLbrk
      execExit execYield execWait execTrap execSys execFbpt execEret execHalt execSrd execSwr execSadd execSsub
      execSmul execSmulh execSand execSor execSxor execSshl execSshr execSsra execSmin execSmax execScmp execSsel
      execSmov execSmovi execSmovh execSmovx execSmovy execSclz execSpop execSld execSst execPand execPor execPxor
      execPnot execPany execPall execPmov execVadd execVsub execVmul execVmulh execVmad execVdiv execVrem execVabs
      execVneg execVmin execVmax execVand execVor execVxor execVnot execVshl execVshr execVsra execVclz execVpop
      execVbrev execVbfx execVbfi execVsel execVcmp execVmov execVmovi execVmovh execVfadd execVfsub execVfmul
      execVfma execVfmin execVfmax execVfcmp execVfclass execVfrnd execVrcp execVrsq execVsqrt execVexp2 execVlog2
      execVsin execVcos execVtanh execVsigm execVfdiv execVcvt execVpack execVunpack execCbld execCbst execVcbq
      execVshf execVrot execVbcst execVrd execVred execVscan execVball execVmatch execVrnd execVseed execLdb execLdh
      execLdw execLdd execLdq execStb execSth execStw execStd execStq execLdf execStf execLdsw execLdsd execLdsq
      execStsw execStsd execStsq execLda execStl execLdsc execStsc execLdnx execStnx execPref execFence execFlush
      execInv execXlat execTlbiPage execTlbiFen execTlbiAll execAadd execAand execAor execAxor execAmin execAmax
      execAxchg execAinc execAfadd execAcas execPark execParkt execTxb execTxe execTxa execTxr execTxq execMcfg
      execMgang execMma execMmas execMmaw execMcomp execLdga execAccld execAccz execMstat execCpt execCpx execCpl
      execCpg execCpf execQcfg execQpushRes execQpushPub execQfree execQpop execBinit execBarv execBexp execBwait
      execBtest execIodb execIodbCq execIobind execIounb execPrqpop execPrqack execCfgrd execCfgwr execNtbmap execEnq
      execRsub execLaunch execPreempt execResumeRestart execResumeSkip execResumeSkipArgs execResumeEnd execLend
      execReclaim execGcallImm execGcallReg execGret execKslot execKzero execScrub execWlatch execFset
      execAttestEvidence execAttestEphemeral execAttestRelease execMeas execMigrSet execMigrSave execMigrLoad issueG
      transferWord trapWord uni2 predW vec vec1 vecRaw vecCmp vecSpecial vecCvt vecPack vecMove vecReduce loadWord
      storeWord spadLoad spadStore tlbiWord atomWord matrixWord iodbWord resumeWord gcallWord attestWord migrWord
    refine ⟨_, _, rfl, BuiltOn.opcode (by with_reducible repeat constructor) (by decide) rfl, ?_⟩
  -- no check or wait of their own
  case nop | gets | getv | br | recon | join | lbrk | exit | yield | wait | trap | sys | eret | halt | sadd | ssub
      | smul | smulh | sand | sor | sxor | sshl | sshr | ssra | smin | smax | scmp | ssel | smov | smovi | smovh
      | smovx | smovy | sclz | spop | sld | sst | pand | por | pxor | pnot | pany | pall | pmov | vball | vrnd
      | vseed | ldb | ldh | ldw | ldd | stb | sth | stw | std | ldf | stf | ldsw | ldsd | stsw | stsd | pref | fence
      | flush | inv | xlat | tlbiPage | tlbiFen | tlbiAll | txb | txe | txa | txr | txq | mstat | cpg =>
    exact ⟨fun _ _ => rfl, Word.declares_of rfl rfl rfl (Bool.and_true _).symm
      (.inr rfl) (.inr rfl) (.inr rfl) (.inr rfl) rfl rfl⟩
  -- a check of stage 2 of their own
  case setm | jmp | jr | call | ret | fbpt | srd | swr | vadd | vsub | vmul | vmulh | vmad | vdiv | vrem | vabs
      | vneg | vmin | vmax | vand | vor | vxor | vnot | vshl | vshr | vsra | vclz | vpop | vbrev | vbfx | vbfi
      | vsel | vcmp | vmov | vmovi | vmovh | vfadd | vfsub | vfmul | vfma | vfmin | vfmax | vfcmp | vfclass | vfrnd
      | vrcp | vrsq | vsqrt | vexp2 | vlog2 | vsin | vcos | vtanh | vsigm | vfdiv | vcvt | vpack | vunpack | cbld
      | cbst | vcbq | vshf | vrot | vbcst | vrd | vred | vscan | vmatch | aadd | aand | aor | axor | amin | amax
      | axchg | ainc | afadd | acas | park | parkt | mcfg | mgang | ldga | accld | cpt | cpx | qcfg | qfree | qpop
      | prqpop | cfgrd | cfgwr | preempt | resumeRestart | resumeSkip | resumeSkipArgs | resumeEnd | lend | reclaim =>
    exact ⟨fun _ _ => rfl, Word.declares_of rfl rfl rfl (Bool.and_true _).symm
      (.inl rfl) (.inr rfl) (.inr rfl) (.inr rfl) rfl rfl⟩
  -- a check of stage 2 and a wait of their own
  case accz | qpushRes | qpushPub | prqack | ntbmap | launch | gcallImm | gcallReg | gret | kslot | kzero | scrub
      | wlatch | fset | attestEvidence | attestEphemeral | attestRelease | meas | migrSet | migrSave | migrLoad =>
    exact ⟨fun _ _ => rfl, Word.declares_of rfl rfl rfl (Bool.and_true _).symm
      (.inl rfl) (.inr rfl) (.inl rfl) (.inr rfl) rfl rfl⟩
  -- a wait of their own
  case cpf | rsub =>
    exact ⟨fun _ _ => rfl, Word.declares_of rfl rfl rfl (Bool.and_true _).symm
      (.inr rfl) (.inr rfl) (.inl rfl) (.inr rfl) rfl rfl⟩
  -- checks of stages 2 and 3 and a wait of their own
  case iodb | iodbCq =>
    exact ⟨fun _ _ => rfl, Word.declares_of rfl rfl rfl (Bool.and_true _).symm
      (.inl rfl) (.inl rfl) (.inl rfl) (.inr rfl) rfl rfl⟩
  -- checks of stages 2 and 3 of its own
  case iounb =>
    exact ⟨fun _ _ => rfl, Word.declares_of rfl rfl rfl (Bool.and_true _).symm
      (.inl rfl) (.inl rfl) (.inr rfl) (.inr rfl) rfl rfl⟩
  -- a check of stage 3 and a wait of its own
  case cpl =>
    exact ⟨fun _ _ => rfl, Word.declares_of rfl rfl rfl (Bool.and_true _).symm
      (.inr rfl) (.inl rfl) (.inl rfl) (.inr rfl) rfl rfl⟩
  -- a check of stage 2 and one of its engine (R320)
  case enq =>
    exact ⟨fun _ _ => rfl, Word.declares_of rfl rfl rfl (Bool.and_true _).symm
      (.inl rfl) (.inr rfl) (.inr rfl) (.inl rfl) rfl rfl⟩
  -- 16 bytes: four registers from a multiple of 4 (R168)
  case ldq | stq | ldsq | stsq | ldnx | stnx =>
    exact ⟨fun _ _ => rfl, Word.declares_of rfl rfl rfl (Bool.and_true _).symm
      (.inr rfl) (.inr (ite_congr (by simp) (fun _ => rfl) fun _ => rfl)) (.inr rfl) (.inr rfl) rfl rfl⟩
  -- 4 or 8 bytes by the mode, never 16
  case lda | stl | ldsc | stsc =>
    exact ⟨fun _ _ => rfl, Word.declares_of rfl rfl rfl (Bool.and_true _).symm
      (.inr rfl) (.inr (if_neg (by show ¬ ((if _ then 8 else 4) = 16 ∧ _); split <;> simp))) (.inr rfl) (.inr rfl) rfl rfl⟩
  -- matrix words: registers by the issuing type, and a gang that arrives with Active() empty too (R235)
  case mma | mmas | mmaw =>
    exact ⟨fun _ h => by simp [h], Word.declares_of (by rw [s.issuingTy_eq c h]; rfl) rfl rfl (Bool.and_true _).symm
      (.inl rfl) (.inl rfl) (.inl rfl) (.inr rfl) (by simp [within]) rfl⟩
  -- registers by the issuing type
  case mcomp =>
    exact ⟨fun _ _ => rfl, Word.declares_of (by rw [s.issuingTy_eq c h]; rfl) rfl rfl (Bool.and_true _).symm
      (.inl rfl) (.inr rfl) (.inr rfl) (.inr rfl) rfl rfl⟩
  -- the end of its clause (R83)
  case loop =>
    exact ⟨fun _ _ => rfl, Word.declares_of rfl rfl rfl (s.issuer_eq c h _ _)
      (.inl rfl) (.inr rfl) (.inr rfl) (.inr rfl) rfl rfl⟩
  -- a barrier among those of the team (R266)
  case binit b n | bexp b n | bwait b n | btest b p n =>
    exact ⟨fun _ _ => rfl, Word.declares_of rfl rfl rfl (s.issuer_eq c h (wellFormed _) fun c => n.toNat < c.team.nbar)
      (.inl rfl) (.inr rfl) (.inr rfl) (.inr rfl) rfl rfl⟩
  -- the same, for a word that waits
  case barv d n =>
    exact ⟨fun _ _ => rfl, Word.declares_of rfl rfl rfl
      (s.issuer_eq c h (wellFormed (.barv d n)) fun c => n.toNat < c.team.nbar)
      (.inl rfl) (.inr rfl) (.inl rfl) (.inr rfl) rfl rfl⟩
  -- the same, for a word with a check of stage 3
  case iobind a n =>
    exact ⟨fun _ _ => rfl, Word.declares_of rfl rfl rfl
      (s.issuer_eq c h (wellFormed (.iobind a n)) fun c => n.toNat < c.team.nbar)
      (.inl rfl) (.inl rfl) (.inr rfl) (.inr rfl) rfl rfl⟩

/-! ## What `issue` answers, check by check -/

theorem issue_stall (x : Word) (act : Ctx → State → Res) (s : State) (c : Ctx) (h : s.ctx = some c)
    (hc : c.check x s = .stall) : issue x act s = .next s := by
  simp only [issue, h, hc]

theorem issue_fault (x : Word) (act : Ctx → State → Res) (s : State) (c : Ctx) (f : Flt) (h : s.ctx = some c)
    (hc : c.check x s = .fault f) : issue x act s = .next (s.takeFault c.ti c.gi c.ei f) := by
  simp only [issue, h, hc]

/-- A word in sequence that has no effect of its own leaves the issuing group as it is, moved past the word. -/
theorem State.retire_eq_after (s : State) (c : Ctx) (op : Nat) (h : s.ctx = some c) :
    s.retire c op = s.after c op c.grp := by
  rw [State.retire, State.modGroup, s.ctx_group c h, State.after]

theorem issue_idle (x : Word) (act : Ctx → State → Res) (s : State) (c : Ctx) (h : s.ctx = some c)
    (hc : c.check x s = .idle) : issue x act s = .next (s.after c x.op c.grp) := by
  simp only [issue, h, hc, s.retire_eq_after c x.op h]

/-- A word that passes its checks and then aborts the open transactions of all the lanes that it would act on only takes its
slot (R56, R201). -/
theorem issue_abortsAll (x : Word) (act : Ctx → State → Res) (s : State) (c : Ctx) (h : s.ctx = some c)
    (hc : c.check x s = .go) (htx : txAborts x.op = true) (hidle : (c.txAbort x).idles x = true) :
    issue x act s = .next (s.after c x.op (c.grp.abortLanes c.active 8 0)) := by
  have grp : (c.txAbort x).grp = c.grp.abortLanes c.active 8 0 := by rw [Ctx.txAbort, if_pos htx]
  have retire : (s.setGroup c.ti c.gi (c.txAbort x).grp).retire (c.txAbort x) x.op =
      s.after c x.op (c.grp.abortLanes c.active 8 0) := by
    rw [grp, Ctx.txAbort, if_pos htx]
    exact State.modGroup_setGroup _ _ _ _ _
  simp only [issue, h, hc, htx, hidle, if_true, retire]

/-! ## The checks in their order (R30, R70) -/

/-- Does the word count on a flag that is full, and act on some lane (R48, R56)? -/
theorem Ctx.flagFull_iff (c : Ctx) (x : Word) : c.flagFull x = true ↔
    ∃ n, c.flagOf x.op = some (some n) ∧ c.grp.flag n = 63 ∧ c.ent.mid = true ∧
      ¬ (guardedOp x.op = true ∧ c.acting x.op = 0) := by
  rw [Ctx.flagFull]
  split
  next n hn => cases hg : guardedOp x.op <;> simp [hn, hg, Ctx.emptyFor] <;> tauto
  next hne => exact ⟨nofun, fun ⟨n, hn, _⟩ => absurd hn (hne n)⟩

theorem Ctx.any_tokens_eq_false (c : Ctx) (x : Word) (arrived : ∀ n ∈ x.ss, n ∉ c.grp.tokens) :
    (x.ss.any fun n => c.grp.tokens.contains n) = false := by simpa using arrived

section
variable (c : Ctx) (x : Word) (s : State)

theorem Ctx.check_stalled (h : c.stalled s = true) : c.check x s = .stall := by
  simp [Ctx.check, h]

theorem Ctx.check_flagFull (h : c.flagFull x = true) : c.check x s = .stall := by
  simp [Ctx.check, h]

variable (free : c.stalled s = false) (room : c.flagFull x = false)
include free room

theorem Ctx.check_stage1 {f : Flt} (h : c.stage1 x = .error f) : c.check x s = .fault f := by
  simp [Ctx.check, free, room, h]

variable (s1 : c.stage1 x = .ok ())
include s1

/-- A uniform register that waits for an asynchronous result holds the word back (R70). -/
theorem Ctx.check_token (h : ∃ n ∈ x.ss, n ∈ c.grp.tokens) : c.check x s = .stall := by
  have : (x.ss.any fun n => c.grp.tokens.contains n) = true := by simpa using h
  simp only [Ctx.check, free, room, s1, this, Bool.or_self, Bool.false_eq_true, if_false, if_true]

variable (arrived : ∀ n ∈ x.ss, n ∉ c.grp.tokens)
include arrived

theorem Ctx.check_stage2 {f : Flt} (h : c.stage2 x s = .error f) : c.check x s = .fault f := by
  simp only [Ctx.check, free, room, s1, c.any_tokens_eq_false x arrived, h, Bool.or_self, Bool.false_eq_true, if_false]

variable (s2 : c.stage2 x s = .ok ())
include s2

theorem Ctx.check_idles (h : c.idles x = true) : c.check x s = .idle := by
  simp only [Ctx.check, free, room, s1, c.any_tokens_eq_false x arrived, s2, h, Bool.or_self, Bool.false_eq_true,
    if_false, if_true]

variable (busy : c.idles x = false) (hard : x.soft = false)
include busy hard

theorem Ctx.check_stage34 {f : Flt} (h : c.stage34 x s = .error f) : c.check x s = .fault f := by
  simp only [Ctx.check, free, room, s1, c.any_tokens_eq_false x arrived, s2, busy, hard, h, Bool.or_self,
    Bool.false_eq_true, if_false]

/-- A word that passes stages 1 to 4 issues when its engine takes it, and waits until then (R70). -/
theorem Ctx.check_passed (s34 : c.stage34 x s = .ok ()) : c.check x s = if x.ready c s then .go else .stall := by
  simp only [Ctx.check, free, room, s1, c.any_tokens_eq_false x arrived, s2, busy, hard, s34, Bool.or_self,
    Bool.false_eq_true, if_false]
end

/-! ## Each stage -/

theorem Ctx.stage1_header (c : Ctx) (x : Word) (h : c.ent.mid = false) : c.stage1 x = .error { cause := 0x02 } := by
  simp [Ctx.stage1, h]

theorem Ctx.stage1_mode (c : Ctx) (x : Word) (mid : c.ent.mid = true)
    (h : ¬ (privileged x.op = true → c.team.system = true)) : c.stage1 x = .error { cause := 0x06 } := by
  simp [Ctx.stage1, mid, Classical.not_imp.1 h]

/-- Past position and mode, a word passes stage 1 exactly when its fields are legal and its lane registers are within the
budget (R15, R40). -/
theorem Ctx.stage1_fields (c : Ctx) (x : Word) (mid : c.ent.mid = true)
    (mode : privileged x.op = true → c.team.system = true) :
    c.stage1 x = if x.legal = true ∧ ∀ n ∈ x.vs, n < c.budget ∨ n = 127 then .ok () else .error { cause := 0x01 } := by
  have priv : (privileged x.op && !c.team.system) = false := by
    cases hp : privileged x.op
    · rfl
    · simp [mode hp]
  simp only [Ctx.stage1, mid, priv, Bool.not_true, Bool.false_eq_true, if_false]
  have passes : (x.legal && x.vs.all (vOk c.budget)) = true ↔
      x.legal = true ∧ ∀ n ∈ x.vs, n < c.budget ∨ n = 127 := by
    simp only [Bool.and_eq_true, List.all_eq_true, vOk, Bool.or_eq_true, decide_eq_true_eq]
  simp only [← passes]
  cases x.legal && x.vs.all (vOk c.budget) <;> rfl

theorem Ctx.stage2_noFlag (c : Ctx) (x : Word) (s : State) (h : c.flagOf x.op = some none) :
    c.stage2 x s = .error { cause := 0x03 } := by
  rw [Ctx.stage2, if_pos h]

theorem Ctx.stage2_gate (c : Ctx) (x : Word) (s : State) (flag : c.flagOf x.op ≠ some none)
    (gate : c.grp.gate.isSome = true) (h : gateOp x.op = true) : c.stage2 x s = .error { cause := 0xB8 } := by
  rw [Ctx.stage2, if_neg flag, if_pos (by simp [gate, h])]

theorem Ctx.stage34_pair (c : Ctx) (x : Word) (s : State) (h : ∃ n ∈ x.pairs c, n ≠ 127 ∧ n % 2 = 1) :
    c.stage34 x s = .error {
      cause := 0x27, lanes := if classOf x.op = .group then c.ent.mask else c.acting x.op } := by
  rw [Ctx.stage34, if_pos (by simpa using h)]

/-! ## Aborting every active lane (R201, R203) -/

theorem getLsbD_maskOf (ls : List Nat) (l : Nat) (hl : l < 32) : (maskOf ls).getLsbD l = decide (l ∈ ls) := by
  rw [maskOf, getLsbD_foldl_setBit _ _ _ hl]; simp

theorem mem_lanesOf (m : W32) (l : Nat) : l ∈ lanesOf m ↔ l < 32 ∧ m.getLsbD l = true := by
  simp [lanesOf, lanes32]

/-- Does the group's table list a lane as aborted? -/
def Group.listsAborted (g : Group) (l : Nat) : Prop := ∃ x, (l, x) ∈ g.tx ∧ x.state = .aborted

theorem Group.getLsbD_txAborted (g : Group) (l : Nat) (hl : l < 32) : g.txAborted.getLsbD l = true ↔ g.listsAborted l := by
  rw [Group.txAborted, getLsbD_maskOf _ _ hl]
  simp [Group.listsAborted]

/-- A lane's record that is not the default one is listed. -/
theorem Group.setTx_tx_of_state (g : Group) (l : Nat) (x : TxLane) (hx : x.state ≠ TxLane.none.state) :
    (g.setTx l x).tx = SMap.ins g.tx l x :=
  if_neg fun h => hx (congrArg TxLane.state h)

/-- A lane's abort writes its entry, which is never the default one. -/
theorem Group.abortLane_tx (g : Group) (cause detail l : Nat) :
    ∃ x : TxLane, x.state = .aborted ∧ (g.abortLane cause detail l).tx = SMap.ins g.tx l x := by
  rw [Group.abortLane]
  exact ⟨_, by rfl, g.setTx_tx_of_state l _ (by simp [TxLane.none])⟩

theorem Group.listsAborted_abortLane (g : Group) (cause detail k l : Nat) (h : l = k ∨ g.listsAborted l) :
    (g.abortLane cause detail k).listsAborted l := by
  obtain ⟨x, hx, htx⟩ := g.abortLane_tx cause detail k
  rw [Group.listsAborted, htx]
  by_cases hk : l = k
  · subst hk; exact ⟨x, SMap.mem_ins_same _ _ _, hx⟩
  · obtain ⟨y, hy, ha⟩ := h.resolve_left hk
    exact ⟨y, SMap.mem_ins_of_mem _ _ _ _ hy hk, ha⟩

theorem Group.listsAborted_foldl (ls : List Nat) (g : Group) (cause detail l : Nat) (h : l ∈ ls ∨ g.listsAborted l) :
    (ls.foldl (fun g l => g.abortLane cause detail l) g).listsAborted l := by
  induction ls generalizing g with
  | nil => simpa using h
  | cons k ls ih =>
    refine ih _ ?_
    rw [List.mem_cons, or_assoc, or_left_comm] at h
    exact h.imp_right (g.listsAborted_abortLane cause detail k l)

/-- Aborting lanes changes nothing of a group but its transactions. -/
theorem Group.abortLanes_eq (g : Group) (m : W32) (cause detail : Nat) :
    g.abortLanes m cause detail = { g with tx := (g.abortLanes m cause detail).tx } := by
  rw [Group.abortLanes]
  generalize lanesOf (m &&& g.txOpen) = ls
  induction ls generalizing g with
  | nil => rfl
  | cons k ls ih => rw [List.foldl_cons, ih]; rfl

theorem Group.guarded_abortLanes (g : Group) (m : W32) (cause detail : Nat) (mode : BitVec 23) (mask : W32) :
    (g.abortLanes m cause detail).guarded mode mask = g.guarded mode mask := by
  rw [g.abortLanes_eq]; rfl

/-- When every active lane has an open transaction, aborting them leaves no lane active (R201, R203). -/
theorem Group.active_abortLanes (g : Group) (mode : BitVec 23) (mask : W32) (cause detail : Nat)
    (h : g.active mode mask &&& ~~~g.txOpen = 0) :
    (g.abortLanes (g.active mode mask) cause detail).active mode mask = 0 := by
  have aborted (l : Nat) (hl : l < 32) (hg : (g.guarded mode mask).getLsbD l = true) :
      (g.abortLanes (g.active mode mask) cause detail).txAborted.getLsbD l = true := by
    rw [Group.getLsbD_txAborted _ _ hl, Group.abortLanes]
    refine Group.listsAborted_foldl _ _ _ _ _ ?_
    cases ha : g.txAborted.getLsbD l
    case true => exact .inr ((g.getLsbD_txAborted l hl).1 ha)
    case false =>
      have active : (g.active mode mask).getLsbD l = true := by
        rw [Group.active, BitVec.getLsbD_and, BitVec.getLsbD_not, hg, ha]; simpa using hl
      have opened : (g.active mode mask &&& ~~~g.txOpen).getLsbD l = false := by rw [h]; simp
      refine .inl ((mem_lanesOf _ _).2 ⟨hl, ?_⟩)
      simpa [hl, active] using opened
  rw [Group.active, Group.guarded_abortLanes]
  refine BitVec.eq_of_getLsbD_eq fun l hl => ?_
  cases hg : (g.guarded mode mask).getLsbD l
  · simp [hg]
  · simp [hg, aborted l hl hg]

/-- A word that aborts the transactions of all its active lanes has none left to act on (R56, R201). -/
theorem Ctx.idles_txAbort (c : Ctx) (x : Word) (htx : txAborts x.op = true) (hg : guardedOp x.op = true)
    (halways : x.always (c.txAbort x) = false) (hopen : c.active &&& ~~~c.grp.txOpen = 0) :
    (c.txAbort x).idles x = true := by
  have txWord : ¬ (x.op = 0x151 ∨ x.op = 0x154) := by rintro (h | h) <;> rw [h] at htx <;> exact absurd htx (by decide)
  have acting : (c.txAbort x).acting x.op = 0 := by
    rw [Ctx.acting, if_neg txWord, Ctx.txAbort, if_pos htx]
    exact c.grp.active_abortLanes _ _ _ _ hopen
  simp [Ctx.idles, Ctx.emptyFor, hg, acting, halways]

/-- Aborting lanes leaves the group's gang as it was. -/
theorem Ctx.gang_txAbort (c : Ctx) (x : Word) : (c.txAbort x).gang = c.gang := by
  rw [Ctx.txAbort]
  split_ifs
  · rw [Group.abortLanes_eq]; rfl
  · rfl

/-! ## The obligation -/

theorem privileged_iff (op : Nat) : privileged op = true ↔ (0x013 ≤ op ∧ op ≤ 0x016) ∨ op = 0x130 ∨ op = 0x131 ∨
    (0x1A8 ≤ op ∧ op ≤ 0x1AC) ∨ (0x1B8 ≤ op ∧ op ≤ 0x1BC) ∨ (0x1C8 ≤ op ∧ op ≤ 0x1CF) := by
  simp only [privileged, within, Bool.or_eq_true, Bool.and_eq_true, decide_eq_true_eq, or_assoc]

/-- No privileged opcode is that of a header, so a word without a decoding meets its privilege first (R58). -/
theorem undecoded_privileged (w : Nat) (c : Ctx) (mid : c.ent.mid = true) (priv : privileged (w / 2 ^ 23) = true)
    (user : c.team.system = false) : undecoded c w = { cause := 0x06 } := by
  have body : ¬ w / 2 ^ 28 = 15 := by
    have := (privileged_iff _).1 priv
    omega
  simp only [undecoded, mid, body, priv, user, decide_false, Bool.true_eq_false, if_false, Bool.not_false, Bool.and_self,
    if_true]

/-- Settles O1: every word goes through `issue` with what it declares, and each clause is an outcome of `Ctx.check`, taken in
the order of R30. -/
theorem wordChecks : Obligations.WordChecks := by
  unfold Obligations.WordChecks
  refine ⟨privileged_iff, undecoded_privileged, fun i w c s hw body h => ?_⟩
  obtain ⟨x, act, exec_eq, hop, always, declares⟩ := declaredAs_opcode i w c s hw body h
  have ⟨vs, ss, pairs, legal, _, _, _, _, _, soft⟩ := declares
  have fits_iff : (wellFormed i = true ∧ fieldsFit c i = true ∧ ∀ n ∈ (namedRegs c i).vs, n < c.budget ∨ n = 127) ↔
      x.legal = true ∧ ∀ n ∈ x.vs, n < c.budget ∨ n = 127 := by
    rw [legal, vs, Bool.and_eq_true, and_assoc]
  dsimp only
  rw [exec_eq, fits_iff, ← ss, ← pairs, ← hop, ← c.flagFull_iff x]
  refine ⟨?stalled, ?full, fun free hfull => ?_⟩
  case stalled => exact fun stalled => issue_stall x act s c h (c.check_stalled x s stalled)
  case full => exact fun _ full => issue_stall x act s c h (c.check_flagFull x s full)
  have room : c.flagFull x = false := by simpa using hfull
  have stage1 (mid : c.ent.mid = true) (mode : privileged x.op = true → c.team.system = true) := c.stage1_fields x mid mode
  refine ⟨?header, ?mode, ?illegal, ?token, fun mid mode fits arrived => ?_⟩
  case header => exact fun mid => issue_fault x act s c _ h (c.check_stage1 x s free room (c.stage1_header x mid))
  case mode => exact fun mid mode => issue_fault x act s c _ h (c.check_stage1 x s free room (c.stage1_mode x mid mode))
  case illegal =>
    exact fun mid mode fits => issue_fault x act s c _ h
      (c.check_stage1 x s free room ((stage1 mid mode).trans (if_neg fits)))
  case token =>
    exact fun mid mode fits tok => issue_stall x act s c h
      (c.check_token x s free room ((stage1 mid mode).trans (if_pos fits)) tok)
  have s1 : c.stage1 x = .ok () := (stage1 mid mode).trans (if_pos fits)
  have stage2 (f : Flt) (s2 : c.stage2 x s = .error f) : issue x act s = .next (s.takeFault c.ti c.gi c.ei f) :=
    issue_fault x act s c f h (c.check_stage2 x s free room s1 arrived s2)
  refine ⟨?noFlag, ?gate, x, rfl, declares, stage2, ?idle, fun s2 busy hard => ?_⟩
  case noFlag => exact fun flag => stage2 _ (c.stage2_noFlag x s flag)
  case gate => exact fun flag gate hop => stage2 _ (c.stage2_gate x s flag gate hop)
  case idle =>
    intro s2 guarded empty acts
    have idles : c.idles x = true := by simp [Ctx.idles, Ctx.emptyFor, guarded, empty, acts]
    exact issue_idle x act s c h (c.check_idles x s free room s1 arrived s2 idles)
  have hard' : x.soft = false := by simpa [hard] using soft
  have stage34 (f : Flt) (s34 : c.stage34 x s = .error f) : issue x act s = .next (s.takeFault c.ti c.gi c.ei f) :=
    issue_fault x act s c f h (c.check_stage34 x s free room s1 arrived s2 busy hard' s34)
  have passed (s34 : c.stage34 x s = .ok ()) := c.check_passed x s free room s1 arrived s2 busy hard' s34
  refine ⟨?pair, stage34, fun s34 => ⟨?wait, ?abort⟩⟩
  case pair => exact fun odd => stage34 _ (c.stage34_pair x s odd)
  case wait => exact fun ready => issue_stall x act s c h ((passed s34).trans (if_neg (by simp [ready])))
  case abort =>
    intro ready aborts guarded acts _ opened
    have acts' : x.always (c.txAbort x) = false := (always _ (c.gang_txAbort x)).trans acts
    exact issue_abortsAll x act s c h ((passed s34).trans (if_pos ready)) aborts
      (c.idles_txAbort x aborts guarded acts' opened)

end Sys2Proof.Machine
end

section
/-!
PROOFS. The entry of a splinter into a clause header (R33, R47, R49): one lemma for each outcome of the header's checks and for
each of its entry, and the obligation assembled from them.
-/
namespace Sys2Proof.Machine

section
variable (w : BitVec 12) (a b n : BitVec 4) (y l : BitVec 1) (c : Ctx) (s : State) (h : s.ctx = some c)
  (free : c.stalled s = false)
include h free

theorem execClauseHeader_mid (mid : c.ent.mid = true) :
    execClauseHeader w a b n y l s = .next (s.takeFault c.ti c.gi c.ei { cause := 0x02 }) := by
  simp only [execClauseHeader, h, free, mid, Bool.false_eq_true, if_false, if_true]

theorem execClauseHeader_illegal (mid : c.ent.mid = false) (legal : wellFormed (.clauseHeader w a b n y l) = false) :
    execClauseHeader w a b n y l s = .next (s.takeFault c.ti c.gi c.ei { cause := 0x01 }) := by
  simp only [execClauseHeader, h, free, mid, legal, Bool.false_eq_true, if_false]

theorem execClauseHeader_enter (mid : c.ent.mid = false) (legal : wellFormed (.clauseHeader w a b n y l) = true) :
    execClauseHeader w a b n y l s = .next (s.enterHeader c w.toNat a b n) := by
  simp only [execClauseHeader, h, free, mid, legal, Bool.false_eq_true, if_false, if_true]
end

section
variable (s : State) (c : Ctx) (wait : Nat) (a b n : BitVec 4)

/-- A deferred cause that is due is delivered at the header, and leaves the group's list (R33). -/
theorem State.enterHeader_due (d : Deferred) (due : (c.grp.fuse c.ei c.ent).dueAt wait = some d) :
    s.enterHeader c wait a b n =
      (s.setGroup c.ti c.gi ((c.grp.fuse c.ei c.ent).dropDeferred d)).takeFault c.ti c.gi c.ei d.flt := by
  simp only [State.enterHeader, due]

variable (due : (c.grp.fuse c.ei c.ent).dueAt wait = none)
include due

/-- With nothing due and every flag of WAIT zero, the splinter starts its clause (R49). -/
theorem State.enterHeader_start (e : Splinter) (he : (c.grp.fuse c.ei c.ent).entries.find c.ei = some e)
    (zero : (c.grp.fuse c.ei c.ent).flagsZero wait = true) : s.enterHeader c wait a b n =
      s.setGroup c.ti c.gi (((c.grp.fuse c.ei c.ent).setEntry c.ei (e.start a b n)).observe wait s.nextId) := by
  simp only [State.enterHeader, due, zero, he, if_true]

/-- With nothing due and a flag of WAIT not zero, the splinter stays at the header (R49). -/
theorem State.enterHeader_wait (busy : (c.grp.fuse c.ei c.ent).flagsZero wait = false) :
    s.enterHeader c wait a b n = s.setGroup c.ti c.gi (c.grp.fuse c.ei c.ent) := by
  simp only [State.enterHeader, due, busy, Bool.false_eq_true, if_false]
end

/-- Settles O6: the header's position and fields are checked first, and its entry then meets a deferred cause, its flags
all zero, or one that is not. -/
theorem clauseHeaderEntry : Obligations.ClauseHeaderEntry := by
  unfold Obligations.ClauseHeaderEntry
  intro w a b n y l c s h free
  refine ⟨?mid, ?illegal, fun mid legal => ?_⟩
  case mid => exact execClauseHeader_mid w a b n y l c s h free
  case illegal => exact execClauseHeader_illegal w a b n y l c s h free
  rw [exec_clauseHeader, execClauseHeader_enter w a b n y l c s h free mid legal]
  refine ⟨fun d due => ?due, fun e due he => ⟨fun zero => ?start, fun busy => ?wait⟩⟩
  case due => rw [s.enterHeader_due c w.toNat a b n d due]; rfl
  case start => rw [s.enterHeader_start c w.toNat a b n due e he zero]; rfl
  case wait => rw [s.enterHeader_wait c w.toNat a b n due busy]

end Sys2Proof.Machine
end

section
/-!
PROOFS. Uncorrectable errors and resets (R37, R361, R373, R376, R377, R379): how a machine check meets a team, the records of
errors of cores and links, what a boot changes and how it ends, and what the two resets leave.
-/
namespace Sys2Proof

variable {α : Type}

/-- A lookup after every entry has been changed alike. -/
theorem SMap.find_map (m : SMap α) (g : α → α) (n : Nat) :
    SMap.find (m.map fun e => (e.1, g e.2)) n = (m.find n).map g := by
  induction m with
  | nil => rfl
  | cons e m ih =>
    obtain ⟨k, v⟩ := e
    simp only [List.map_cons, SMap.find]
    split_ifs
    · rfl
    · exact ih

/-- What an unlisted key reads as must change like the entries. -/
theorem SMap.get_map (d : α) (m : SMap α) (g : α → α) (hd : g d = d) (n : Nat) :
    SMap.get d (m.map fun e => (e.1, g e.2)) n = g (m.get d n) := by
  rw [SMap.get, SMap.find_map, SMap.get]
  cases m.find n
  · exact hd.symm
  · rfl

theorem SMap.mem_keys_of_find (m : SMap α) (n : Nat) (x : α) (h : m.find n = some x) : n ∈ m.keys := by
  induction m with
  | nil => simp at h
  | cons e m ih =>
    obtain ⟨k, v⟩ := e
    simp only [SMap.find] at h
    split_ifs at h with hk
    · simp [SMap.keys, hk]
    · exact List.mem_cons_of_mem _ (ih h)

end Sys2Proof

namespace Sys2Proof.Machine

/-! ## A machine check of a team (R37) -/

section
variable (s : State) (cause ti : Nat) (t : Team) (ht : s.teams.find ti = some t)
include ht

/-- A system core's team, or one whose saved context is intact, takes the cause where it runs. -/
theorem State.mcTeam_delivered (intact : Bool) (gi ei : Nat) (run : t.lowest = some (gi, ei))
    (h : t.system = true ∨ intact = true) : s.mcTeam cause intact ti = s.takeFault ti gi ei { cause := cause } := by
  simp only [State.mcTeam, ht, if_pos h, run]

/-- A user team whose context is lost ends. -/
theorem State.mcTeam_lost (user : t.system = false) (live : t.status ≠ .ended) :
    s.mcTeam cause false ti = s.endTeam ti cause 0 false := by
  simp [State.mcTeam, ht, user, live]

theorem State.mcHits_system (intact : Bool) (sys : t.system = true) : s.mcHits intact ti = false := by
  simp [State.mcHits, ht, sys]

theorem State.mcHits_intact (user : t.system = false) (run : t.lowest.isSome = true) (res : t.status = .resident) :
    s.mcHits true ti = true := by
  simp [State.mcHits, ht, user, run, res]

theorem State.mcHits_lost (user : t.system = false) (live : t.status ≠ .ended) : s.mcHits false ti = true := by
  simp [State.mcHits, ht, user, live]
end

theorem State.endTeam_status (s : State) (ti cause pc : Nat) (defer : Bool) :
    ((s.endTeam ti cause pc defer).team ti).status = .ended := by
  simp [State.endTeam, State.modTeam]

/-! ## Errors of cores (R37, R376) -/

/-- The record of an uncorrectable error of a core; `team` says whether it takes a team off its core. -/
def State.coreRecord (s : State) (core : Nat) (team : Bool) : McRec :=
  { cause := 0xF2, kind := if 192 ≤ core then 4 else 1, unit := if 192 ≤ core then core - 192 else core, team := team
    time := s.now, pa := 0 }

/-- The state in which an error of a core has been logged once. -/
def State.coreLogged (s : State) (core : Nat) (team : Bool) : State := s.logMc (dieOfCore core) (s.coreRecord core team)

theorem State.coreLogged_teams (s : State) (core : Nat) (team : Bool) : (s.coreLogged core team).teams = s.teams :=
  s.logMc_teams _ _

theorem execCoreUncorrectableError_noCore (core how : Nat) (s : State) (h : 196 ≤ core) :
    execCoreUncorrectableError core how s = .next s := by
  rw [execCoreUncorrectableError, if_pos h]

/-- The error is logged, then each affected team is dealt with in turn. -/
theorem execCoreUncorrectableError_core (core how : Nat) (s : State) (h : core < 196) :
    execCoreUncorrectableError core how s = .next ((s.affected core how).foldl (fun u x => u.mcTeam 0xF2 x.2 x.1)
      (s.coreLogged core ((s.affected core how).any fun x => s.mcHits x.2 x.1))) := by
  rw [execCoreUncorrectableError, if_neg (by omega), State.coreLogged, State.coreRecord]
  by_cases hc : 192 ≤ core <;> simp [isSysCore, dieOfCore, hc]

theorem execCoreUncorrectableError_unaffected (core how : Nat) (s : State) (h : core < 196)
    (nobody : s.affected core how = []) :
    execCoreUncorrectableError core how s = .next (s.coreLogged core false) := by
  rw [execCoreUncorrectableError_core core how s h, nobody]
  rfl

section
variable (core how ti : Nat) (intact : Bool) (s : State) (t : Team) (h : core < 196)
  (one : s.affected core how = [(ti, intact)]) (ht : s.teams.find ti = some t)
include h one

theorem execCoreUncorrectableError_one : execCoreUncorrectableError core how s =
    .next ((s.coreLogged core (s.mcHits intact ti)).mcTeam 0xF2 intact ti) := by
  rw [execCoreUncorrectableError_core core how s h, one, List.any_cons, List.any_nil, Bool.or_false]
  rfl

include ht

theorem execCoreUncorrectableError_system (gi ei : Nat) (run : t.lowest = some (gi, ei)) (sys : t.system = true) :
    execCoreUncorrectableError core how s =
      .next ((s.coreLogged core false).takeFault ti gi ei { cause := 0xF2 }) := by
  rw [execCoreUncorrectableError_one core how ti intact s h one, s.mcHits_system ti t ht intact sys,
    State.mcTeam_delivered _ _ ti t (by rw [s.coreLogged_teams, ht]) intact gi ei run (.inl sys)]

theorem execCoreUncorrectableError_intact (gi ei : Nat) (run : t.lowest = some (gi, ei)) (user : t.system = false)
    (kept : intact = true) (res : t.status = .resident) : execCoreUncorrectableError core how s =
      .next ((s.coreLogged core true).takeFault ti gi ei { cause := 0xF2 }) := by
  subst kept
  rw [execCoreUncorrectableError_one core how ti true s h one,
    s.mcHits_intact ti t ht user (by rw [run]; rfl) res,
    State.mcTeam_delivered _ _ ti t (by rw [s.coreLogged_teams, ht]) true gi ei run (.inr rfl)]

theorem execCoreUncorrectableError_lost (user : t.system = false) (lost : intact = false) (live : t.status ≠ .ended) :
    execCoreUncorrectableError core how s = .next ((s.coreLogged core true).endTeam ti 0xF2 0 false) := by
  subst lost
  rw [execCoreUncorrectableError_one core how ti false s h one, s.mcHits_lost ti t ht user live,
    State.mcTeam_lost _ _ ti t (by rw [s.coreLogged_teams, ht]) user live]
end

/-! ## Lost links (R37, R376) -/

/-- The record of a lost link; `team` says whether it takes a team off its core. -/
def State.linkRecord (s : State) (link : Nat) (team : Bool) : McRec :=
  { cause := 0xF4, kind := 2, unit := link, team := team, time := s.now, pa := 0 }

/-- The state in which the loss of a link has been logged once. -/
def State.linkLogged (s : State) (link : Nat) (team : Bool) : State := s.logMc (dieOfLink link) (s.linkRecord link team)

theorem State.linkLogged_teams (s : State) (link : Nat) (team : Bool) : (s.linkLogged link team).teams = s.teams :=
  s.logMc_teams _ _

theorem execLinkDataLoss_noLink (link : Nat) (a b : List Nat) (s : State) (h : 6 ≤ link) :
    execLinkDataLoss link a b s = .next s := by
  rw [execLinkDataLoss, if_pos h]

theorem execLinkDataLoss_link (link : Nat) (a b : List Nat) (s : State) (h : link < 6) :
    execLinkDataLoss link a b s = .next (b.foldl (fun u ti => u.mcTeam 0xF4 false ti)
      (a.foldl (fun u ti => u.mcTeam 0xF4 true ti)
        (s.linkLogged link (a.any (s.mcHits true) || b.any (s.mcHits false))))) := by
  rw [execLinkDataLoss, if_neg (by omega)]
  rfl

section
variable (link ti gi ei : Nat) (s : State) (t : Team) (h : link < 6) (ht : s.teams.find ti = some t)
  (user : t.system = false) (res : t.status = .resident)
include h ht user res

theorem execLinkDataLoss_intact (run : t.lowest = some (gi, ei)) : execLinkDataLoss link [ti] [] s =
    .next ((s.linkLogged link true).takeFault ti gi ei { cause := 0xF4 }) := by
  rw [execLinkDataLoss_link link _ _ s h, List.any_cons, s.mcHits_intact ti t ht user (by rw [run]; rfl) res]
  exact congrArg _ (State.mcTeam_delivered _ _ ti t ((s.linkLogged_teams _ _).symm ▸ ht) true gi ei run (.inr rfl))

theorem execLinkDataLoss_lost : execLinkDataLoss link [] [ti] s =
    .next ((s.linkLogged link true).endTeam ti 0xF4 0 false) := by
  have live : t.status ≠ .ended := by simp [res]
  rw [execLinkDataLoss_link link _ _ s h, List.any_nil, List.any_cons, s.mcHits_lost ti t ht user live]
  exact congrArg _ (State.mcTeam_lost _ _ ti t ((s.linkLogged_teams _ _).symm ▸ ht) user live)
end

/-! ## What a boot changes (R377) -/

/-- Do two states differ at most in memory, cores, teams, the numbers given out and the dies' registers: in what placing
and starting the firmware changes? -/
def State.firmwareFrame (u s : State) : Prop :=
  u = { s with
    mem := u.mem, cores := u.cores, teams := u.teams, nextId := u.nextId, sys := { s.sys with dies := u.sys.dies } }

section
variable {u s : State} (h : u.firmwareFrame s)
include h

theorem State.firmwareFrame.now : u.now = s.now := by rw [h]
theorem State.firmwareFrame.ptbase : u.ptbase = s.ptbase := by rw [h]
theorem State.firmwareFrame.parts : u.parts = s.parts := by rw [h]
theorem State.firmwareFrame.guard : u.guard = s.guard := by rw [h]
theorem State.firmwareFrame.sys : u.sys = { s.sys with dies := u.sys.dies } := congrArg State.sys h
end

theorem State.firmwareFrame.trans {u t s : State} (h : u.firmwareFrame t) (h' : t.firmwareFrame s) : u.firmwareFrame s := by
  rw [State.firmwareFrame] at h h' ⊢
  refine h.trans ?_
  rw [h']

theorem State.firmwareFrame_foldl {β : Type} (step : State → β → State) (hstep : ∀ s x, (step s x).firmwareFrame s)
    (l : List β) (s : State) : (l.foldl step s).firmwareFrame s := by
  induction l generalizing s with
  | nil => rfl
  | cons x l ih => exact (ih (step s x)).trans (hstep s x)

theorem State.firmwareFrame_logFound (s : State) (cause : Nat) (pa : Option Nat) :
    (s.logFound cause pa).firmwareFrame s := by
  cases pa with
  | none => rfl
  | some pa => rw [State.logFound]; split_ifs <;> rfl

theorem State.firmwareFrame_writeMasked (f pa : Nat) (xs : List (Byte × Byte)) (s : State) :
    (s.writeMasked f pa xs).firmwareFrame s := by
  induction xs generalizing s pa with
  | nil => rfl
  | cons x xs ih => exact (ih (pa + 1) (s.writeByte f pa x.1 x.2)).trans rfl

theorem State.firmwareFrame_placeImage (s : State) (cells : List Host.Cell) : (s.placeImage cells).firmwareFrame s := by
  rw [State.placeImage]
  refine (State.firmwareFrame_foldl _ (fun s c => ?_) _ _).trans (State.firmwareFrame_foldl _ (fun s l => ?_) _ _)
  · split_ifs
    · exact State.firmwareFrame.trans (t := s.writeBytes 0 c.1 [c.2]) rfl (State.firmwareFrame_writeMasked 0 c.1 _ s)
    · rfl
  · split
    · exact s.firmwareFrame_logFound _ _
    · rfl

/-- The number that the next system core's team takes: above all in use. -/
def State.freshTeam (s : State) : Nat := max s.nextId (s.teams.keys.foldl max 0) + 1

/-- The start of one system core at the entry of an image. -/
def State.startCore (s : State) (x : Image) (d : Nat) : State :=
  let u := { s with nextId := s.freshTeam + 1 }.modCore (sysCore d) fun k => { k with stopped := false, tvec := x.entry }
  u.setTeam s.freshTeam (firmwareTeam x d u.nextId)

theorem State.startFirmware_eq (s : State) (x : Image) :
    s.startFirmware x = (List.range 4).foldl (fun u d => u.startCore x d) (s.placeImage x.cells) := rfl

theorem State.firmwareFrame_startFirmware (s : State) (x : Image) : (s.startFirmware x).firmwareFrame s :=
  (State.firmwareFrame_foldl (fun u d => u.startCore x d) (fun _ _ => rfl) _ _).trans (s.firmwareFrame_placeImage x.cells)

/-! ## The teams of the system cores -/

/-- Does a team of a die's system core run? -/
def State.runsFirmware (s : State) (d : Nat) : Prop :=
  ∃ ti, (s.team ti).system = true ∧ (s.team ti).core = sysCore d ∧ (s.team ti).status = .resident

theorem le_foldl_max (l : List Nat) (b n : Nat) (h : n ≤ b ∨ n ∈ l) : n ≤ l.foldl max b := by
  induction l generalizing b with
  | nil => simpa using h
  | cons k l ih =>
    refine ih _ ?_
    rcases h with h | h
    · exact .inl (by omega)
    · rcases List.mem_cons.1 h with rfl | h
      · exact .inl (by omega)
      · exact .inr h

/-- The number that the next team takes is in use by none. -/
theorem State.team_freshTeam (s : State) : s.team s.freshTeam = Team.blank := by
  rw [State.team, SMap.get]
  cases hf : s.teams.find s.freshTeam with
  | none => rfl
  | some t =>
    have := le_foldl_max s.teams.keys 0 _ (.inr (SMap.mem_keys_of_find _ _ _ hf))
    rw [State.freshTeam] at this
    omega

/-- A system core's team takes a number of its own, and leaves those started before it as they are. -/
theorem State.startCore_runs (s : State) (x : Image) (d k : Nat) (h : d = k ∨ s.runsFirmware d) :
    (s.startCore x k).runsFirmware d := by
  rcases h with rfl | ⟨ti, sys, core, res⟩
  · refine ⟨s.freshTeam, ?_⟩
    rw [State.startCore, State.team_setTeam]
    exact ⟨rfl, rfl, rfl⟩
  · have other : ti ≠ s.freshTeam := by rintro rfl; simp [s.team_freshTeam, Team.blank] at sys
    refine ⟨ti, ?_⟩
    rw [State.startCore, State.team_setTeam_other _ _ _ _ other]
    exact ⟨sys, core, res⟩

theorem State.foldl_startCore_runs (ds : List Nat) (s : State) (x : Image) (d : Nat) (h : d ∈ ds ∨ s.runsFirmware d) :
    (ds.foldl (fun u k => u.startCore x k) s).runsFirmware d := by
  induction ds generalizing s with
  | nil => simpa using h
  | cons k ds ih =>
    refine ih _ ?_
    rw [List.mem_cons, or_assoc, or_left_comm] at h
    exact h.imp_right (s.startCore_runs x d k)

theorem State.startFirmware_runs (s : State) (x : Image) (d : Nat) (hd : d < 4) : (s.startFirmware x).runsFirmware d := by
  rw [State.startFirmware_eq]
  exact State.foldl_startCore_runs _ _ x d (.inl (List.mem_range.2 hd))

/-! ## The outcomes of a boot (R377) -/

theorem State.boot_refused (s : State) (e : Nat) (h : imageError s.sys.flash = some e) : s.boot = s.bootFails e := by
  rw [State.boot, h]

/-- An image that passes its checks has been measured. -/
def State.bootMeasured (s : State) (x : Image) : State := s.free.2.measured x

/-- The core tests mark some dies' spares as used. -/
def State.bootTested (s : State) (used : Nat → Bool) : State :=
  (List.range 4).foldl (fun u d => if used d then u.modDie d fun y => { y with spareUsed := true } else u) s

theorem State.firmwareFrame_bootTested (s : State) (used : Nat → Bool) : (s.bootTested used).firmwareFrame s := by
  refine State.firmwareFrame_foldl _ (fun u d => ?_) _ s
  split_ifs <;> rfl

/-- The state in which the training has succeeded, and the firmware is about to start. -/
def State.bootTrained (s : State) (x : Image) (used : Nat → Bool) : State :=
  let u := (s.bootMeasured x).bootTested used
  { u with ptbase := x.ptbase &&& ptbaseField, sys := { u.sys with stage := 3 } }

/-- With a valid image the training of memory or of links fails, or the firmware starts. -/
theorem State.boot_image (s : State) (x : Image) (flash : s.sys.flash = some x) (valid : imageError s.sys.flash = none) :
    s.boot = (s.bootMeasured x).bootFails 0x04 ∨ s.boot = (s.bootMeasured x).bootFails 0x05 ∨
      ∃ used, s.boot = (s.bootTrained x used).startFirmware x := by
  rw [State.boot, valid, flash]
  dsimp only
  split_ifs
  · exact .inl rfl
  · exact .inr (.inl rfl)
  · exact .inr (.inr ⟨_, rfl⟩)

/-- What a boot leaves as it was: it changes, beside what the firmware's start does, the measurement and its identity, the
versions, and what tells of its own progress. -/
def State.bootFrame (u s : State) : Prop :=
  u.now = s.now ∧ u.parts = s.parts ∧
    u.guard = { s.guard with fwmeas := u.guard.fwmeas, idKey := u.guard.idKey, idpub := u.guard.idpub } ∧
    u.sys = { s.sys with
      stage := u.sys.stage, bootErr := u.sys.bootErr, fwver := u.sys.fwver, fwsec := u.sys.fwsec, dies := u.sys.dies }

/-- The firmware's start, after the training, keeps what the measured boot has set. -/
theorem State.startFirmware_bootTrained (s : State) (x : Image) (used : Nat → Bool) :
    let u := (s.bootTrained x used).startFirmware x
    u.now = s.now ∧ u.parts = s.parts ∧ u.ptbase = x.ptbase &&& ptbaseField ∧ u.guard = (s.bootMeasured x).guard ∧
      u.sys = { (s.bootMeasured x).sys with stage := 3, dies := u.sys.dies } := by
  have tested := (s.bootMeasured x).firmwareFrame_bootTested used
  have started := (s.bootTrained x used).firmwareFrame_startFirmware x
  refine ⟨started.now.trans tested.now, started.parts.trans tested.parts, started.ptbase,
    started.guard.trans tested.guard, ?_⟩
  rw [started.sys, State.bootTrained, tested.sys]

theorem State.bootFrame_boot (s : State) : s.boot.bootFrame s := by
  cases valid : imageError s.sys.flash with
  | some e => rw [s.boot_refused e valid]; exact ⟨rfl, rfl, rfl, rfl⟩
  | none =>
    cases flash : s.sys.flash with
    | none => rw [flash] at valid; exact nomatch valid
    | some x =>
      rcases s.boot_image x flash valid with h | h | ⟨used, h⟩ <;> rw [h]
      · exact ⟨rfl, rfl, rfl, rfl⟩
      · exact ⟨rfl, rfl, rfl, rfl⟩
      · obtain ⟨now, parts, -, guard, sys⟩ := s.startFirmware_bootTrained x used
        refine ⟨now, parts, ?_, ?_⟩
        · rw [guard]; rfl
        · rw [sys]; rfl

/-! ## Cold reset (R361, R377) -/

/-- A boot of a machine without teams, with a valid image: it stops without a team, or starts one on every system core. -/
theorem State.boot_valid (s : State) (x : Image) (flash : s.sys.flash = some x) (valid : imageError s.sys.flash = none)
    (empty : s.teams = []) : s.boot.guard.fwmeas = x.fwmeas ∧ s.boot.sys.fwver = x.version ∧
      ((s.boot.sys.stage = 15 ∧ (s.boot.sys.bootErr = 4 ∨ s.boot.sys.bootErr = 5) ∧ s.boot.teams = []) ∨
        (s.boot.sys.stage = 3 ∧ s.boot.ptbase = x.ptbase &&& ptbaseField ∧ ∀ d < 4, s.boot.runsFirmware d)) := by
  rcases s.boot_image x flash valid with h | h | ⟨used, h⟩ <;> rw [h]
  · exact ⟨rfl, rfl, .inl ⟨rfl, .inl rfl, empty⟩⟩
  · exact ⟨rfl, rfl, .inl ⟨rfl, .inr rfl, empty⟩⟩
  · obtain ⟨-, -, ptbase, guard, sys⟩ := s.startFirmware_bootTrained x used
    refine ⟨?_, ?_, .inr ⟨?_, ptbase, (s.bootTrained x used).startFirmware_runs x⟩⟩
    · rw [guard]; rfl
    · rw [sys]; rfl
    · rw [sys]

/-! ## Warm reset (R361, R379) -/

theorem State.fen_warmState (s : State) (f : Nat) : s.warmState.fen f = { s.fen f with eph := none, saved := false } :=
  SMap.get_map Fen.cold s.guard.fens (fun x => { x with eph := none, saved := false }) rfl f

theorem State.part_warmState (s : State) (p : Nat) :
    s.warmState.part p = { Part.cold with gen := (s.part p).gen, size := (s.part p).size } :=
  SMap.get_map Part.cold s.parts (fun x => { Part.cold with gen := x.gen, size := x.size }) rfl p

theorem State.core_warmState (s : State) (c : Nat) : s.warmState.core c = (s.core c).warm :=
  SMap.get_map Core.cold s.cores Core.warm rfl c

/-- Memory and its keys are kept, so every fen reads the bytes that it read before. -/
theorem State.readByte_warmState (s : State) (f a : Nat) : s.warmState.readByte f a = s.readByte f a := by
  have key (g : Nat) : s.warmState.keyOf g = s.keyOf g := by rw [State.keyOf, s.fen_warmState]; rfl
  have tag (l : Nat) : s.warmState.tagOf l = s.tagOf l := rfl
  have raw (n : Nat) : s.warmState.mem.rawSector n = s.mem.rawSector n := rfl
  have bytes : s.warmState.mem.bytes = s.mem.bytes := rfl
  simp only [State.readByte, State.readSector, key, tag, raw, bytes]

theorem State.forced_warmState (s : State) (h : s.sys.forced = true) :
    s.warmState.sys.cur = 0 ∧ s.warmState.sys.curb = 0 :=
  ⟨if_pos h, if_pos h⟩

/-- What a warm reset and the boot after it leave of the always-on domain. -/
theorem State.boot_warmState (s : State) : s.warmState.boot.now = s.now ∧ s.warmState.boot.guard.lgen = s.guard.lgen ∧
    s.warmState.boot.guard.aoscr = s.guard.aoscr ∧
    (∀ f, s.warmState.boot.fen f = { s.fen f with eph := none, saved := false }) ∧
    s.warmState.boot.sys.cap = s.sys.cap ∧ s.warmState.boot.sys.forced = s.sys.forced ∧
    (s.sys.forced = true → s.warmState.boot.sys.cur = 0 ∧ s.warmState.boot.sys.curb = 0) ∧
    ∀ p, s.warmState.boot.part p = { Part.cold with gen := (s.part p).gen, size := (s.part p).size } := by
  obtain ⟨now, parts, guard, sys⟩ := s.warmState.bootFrame_boot
  refine ⟨now, ?_, ?_, fun f => ?_, ?_, ?_, fun h => ?_, fun p => ?_⟩
  · rw [guard]; rfl
  · rw [guard]; rfl
  · rw [← s.fen_warmState, State.fen, guard, State.fen]
  · rw [sys]; rfl
  · rw [sys]; rfl
  · rw [sys]; exact s.forced_warmState h
  · rw [← s.part_warmState, State.part, parts, State.part]

/-! ## The obligation -/

/-- Settles O54: an error's record and its teams are the model's own fold, and the resets are a state followed by a boot,
of which `State.boot_valid` and `State.bootFrame_boot` say what it does. -/
theorem errorAndResetEvents : Obligations.ErrorAndResetEvents := by
  unfold Obligations.ErrorAndResetEvents
  refine ⟨?errors, fun s => ?cold, fun s => ?warm⟩
  case errors =>
    intro deliver hits
    have deliver_eq : deliver = fun cause intact u ti => u.mcTeam cause intact ti := by
      funext cause intact u ti
      simp only [deliver, State.mcTeam]
      cases u.teams.find ti with
      | none => rfl
      | some t => cases t.lowest <;> rfl
    have hits_eq (s : State) (intact : Bool) (ti : Nat) : hits intact (s.teams.find ti) = s.mcHits intact ti := by
      simp only [hits, State.mcHits]
      cases s.teams.find ti <;> simp
    rw [deliver_eq]
    simp only [hits_eq]
    refine ⟨fun core how s =>
        ⟨?noCore, ?unaffected, ?affected, fun ti t intact h one ht => ⟨?system, ?intact, ?lost⟩⟩,
      fun link s => ⟨?noLink, ?noTeam, ?teams, fun ti t gi ei h ht user res run => ⟨?linkIntact, ?linkLost⟩⟩⟩
    case noCore => exact execCoreUncorrectableError_noCore core how s
    case unaffected => exact execCoreUncorrectableError_unaffected core how s
    case affected => exact execCoreUncorrectableError_core core how s
    case system => exact execCoreUncorrectableError_system core how ti intact s t h one ht
    case intact => exact execCoreUncorrectableError_intact core how ti intact s t h one ht
    case lost =>
      exact fun user lost live => ⟨_, execCoreUncorrectableError_lost core how ti intact s t h one ht user lost live,
        State.endTeam_status _ _ _ _ _, rfl⟩
    case noLink => exact fun a b => execLinkDataLoss_noLink link a b s
    case noTeam => exact execLinkDataLoss_link link [] [] s
    case teams => exact fun a b => execLinkDataLoss_link link a b s
    case linkIntact => exact execLinkDataLoss_intact link ti gi ei s t h ht user res run
    case linkLost =>
      exact ⟨_, execLinkDataLoss_lost link ti s t h ht user res, State.endTeam_status _ _ _ _ _⟩
  case cold =>
    exact ⟨_, rfl, fun e => s.coldState.drawKey.boot_refused e,
      fun valid x flash => s.coldState.drawKey.boot_valid x flash valid rfl⟩
  case warm =>
    obtain ⟨now, lgen, aoscr, fen, cap, forced, modes, part⟩ := s.boot_warmState
    refine ⟨_, rfl, now, lgen, aoscr, fun f => ?fen, cap, forced, modes, fun p => ?part, fun invalid => ?kept⟩
    case fen => rw [State.keyOf, fen]; exact ⟨rfl, rfl, rfl, rfl, rfl⟩
    case part => rw [part]; exact ⟨rfl, rfl, rfl⟩
    case kept =>
      obtain ⟨e, he⟩ := Option.ne_none_iff_exists'.1 invalid
      rw [s.warmState.boot_refused e he]
      refine ⟨rfl, s.readByte_warmState, fun c => ?_⟩
      have core : (s.warmState.bootFails e).core c = (s.core c).warm := s.core_warmState c
      rw [core]
      exact ⟨rfl, rfl, rfl⟩

end Sys2Proof.Machine
end

section
/-!
PROOFS. What the operations of the machine leave of memory: those below change neither its bytes nor its tags nor its queues.
The loops come first, then one lemma per operation, in the order in which they call one another.
-/
namespace Sys2Proof.Machine

/-! ## Loops over the state -/

theorem State.foldl_mem {α : Type} (l : List α) (f : State → α → State) (hf : ∀ s x, (f s x).mem = s.mem) (s : State) :
    (l.foldl f s).mem = s.mem := by
  induction l generalizing s with
  | nil => rfl
  | cons x l ih => rw [List.foldl_cons, ih, hf]

theorem State.iterOpt_mem (f : State → Option State) (hf : ∀ s t, f s = some t → t.mem = s.mem) (n : Nat) (s : State) :
    (iterOpt f n s).mem = s.mem := by
  induction n generalizing s with
  | zero => rfl
  | succ n ih =>
    rw [iterOpt]
    split
    next t ht => rw [ih, hf s t ht]
    next => rfl

@[simp] theorem State.pushMc_mem (s : State) (d : Nat) (r : McRec) : (s.pushMc d r).mem = s.mem := rfl
@[simp] theorem State.setEvent_mem (s : State) (d b : Nat) : (s.setEvent d b).mem = s.mem := rfl
@[simp] theorem State.fenProbe_mem (s : State) (fen va n : Nat) : (s.fenProbe fen va n).mem = s.mem := by
  unfold State.fenProbe
  split <;> simp

@[simp] theorem State.deviceEnd_mem (s : State) (ti gi : Nat) (p : Pending) (i : Nat) (aborts : Bool) :
    (s.deviceEnd ti gi p i aborts).mem = s.mem := rfl

@[simp] theorem State.endGrid_mem (s : State) (ti : Nat) (cause pc : Nat) (defer : Bool) :
    (s.endGrid ti cause pc defer).mem = s.mem := by
  simp [State.endGrid, apply_ite State.mem]

@[simp] theorem State.defer_mem (s : State) (ti gi : Nat) (d : Deferred) : (s.defer ti gi d).mem = s.mem := by
  unfold State.defer
  split <;> [rfl; skip]
  split <;> simp

@[simp] theorem State.takeBack_mem (s : State) (ti : Nat) : (s.takeBack ti).mem = s.mem := rfl
@[simp] theorem State.quiesce_mem (s : State) (ti : Nat) : (s.quiesce ti).mem = s.mem := rfl
@[simp] theorem State.enterOrder_mem (s : State) (core : Nat) (e : StoreEnt) : (s.enterOrder core e).mem = s.mem := rfl
@[simp] theorem State.drainGroup_mem (s : State) (ti gi : Nat) : (s.drainGroup ti gi).mem = s.mem := by
  rw [State.drainGroup, State.modGroup_mem, State.foldl_mem]; intros; rfl

@[simp] theorem State.setEvents_mem (s : State) (ds : List Nat) (b : Nat) : (s.setEvents ds b).mem = s.mem := by
  exact State.foldl_mem _ _ (fun _ _ => by rfl) _

@[simp] theorem State.haltGroup_mem (ti : Nat) (s : State) (gi : Nat) : (State.haltGroup ti s gi).mem = s.mem := by
  simp [State.haltGroup]

@[simp] theorem State.snapshot_mem (s : State) (ti : Nat) : (s.snapshot ti).mem = s.mem := rfl
@[simp] theorem State.haltTeam_mem (s : State) (ti : Nat) (cause : OutCause) : (s.haltTeam ti cause).mem = s.mem := by
  rw [State.haltTeam, State.modTeam_mem, State.foldl_mem _ _ (by simp)]
  split <;> simp

@[simp] theorem State.prqRefuse_mem (s : State) (fen : Nat) : (s.prqRefuse fen).mem = s.mem := rfl
theorem State.prqTake_mem (s : State) (e : PageReq) (r : State × Nat) (h : s.prqTake e = some r) : r.1.mem = s.mem := by
  unfold State.prqTake at h
  split at h
  · cases h; simp
  · cases h

@[simp] theorem State.prqPost_mem (s : State) (src acc fen va : Nat) : (s.prqPost src acc fen va).mem = s.mem := by
  unfold State.prqPost
  split
  next s' tag h => simpa using State.prqTake_mem _ _ _ h
  next => simp

@[simp] theorem State.gatePage_mem (s : State) (t : Team) (g : Group) (f : Flt) : (s.gatePage t g f).mem = s.mem := by
  unfold State.gatePage
  split <;> simp

@[simp] theorem State.doubleFault_mem (s : State) (core : Nat) : (s.doubleFault core).mem = s.mem := by
  simp [State.doubleFault]

@[simp] theorem State.modGroup?_mem (s : State) (ti gi : Nat) (f : Group → Group) :
    (s.modGroup? ti gi f).mem = s.mem := by
  unfold State.modGroup?
  split <;> simp

@[simp] theorem State.logReply_mem (s : State) (ti gi id : Nat) (bad : Option Deferred) :
    (s.logReply ti gi id bad).mem = s.mem := by
  unfold State.logReply
  split <;> simp

@[simp] theorem State.frees_mem (s : State) (w n : Nat) : (s.frees w n).2.mem = s.mem := by rw [s.frees_state w n]
@[simp] theorem State.freeNat_mem (s : State) : s.freeNat.2.mem = s.mem := rfl
@[simp] theorem State.failValue_mem (s : State) (cause : Nat) : (s.failValue cause).2.mem = s.mem := by
  unfold State.failValue
  split_ifs <;> simp

@[simp] theorem State.errValue_mem (s : State) (e : LineErr) : (s.errValue e).2.mem = s.mem := by
  simp [State.errValue]

@[simp] theorem State.sendOut_mem (s : State) (pa : Nat) (write : Bool) (bs : List Byte) :
    (s.sendOut pa write bs).mem = s.mem := rfl

@[simp] theorem State.engineEffect_mem (s : State) (e : Nat) : (s.engineEffect e).mem = s.mem := by
  unfold State.engineEffect
  extract_lets
  repeat' split
  all_goals simp

@[simp] theorem State.engineWrite_mem (s : State) (e : Nat) (v m : W64) : (s.engineWrite e v m).mem = s.mem := by
  simp [State.engineWrite, apply_ite State.mem]

@[simp] theorem State.pstat_mem (s : State) (r : Nat) : (s.pstat r).mem = s.mem := rfl
@[simp] theorem State.makePart_mem (s : State) (first n : Nat) : (s.makePart first n).mem = s.mem := by
  unfold State.makePart
  split_ifs <;> simp

@[simp] theorem State.unmakePart_mem (s : State) (first n : Nat) : (s.unmakePart first n).mem = s.mem := by
  unfold State.unmakePart
  split_ifs <;> simp

@[simp] theorem State.pcmd_mem (s : State) (v : W64) : (s.pcmd v).mem = s.mem := by
  unfold State.pcmd
  split <;> simp

@[simp] theorem State.fenWrite_mem (s : State) (o : Nat) (v m : W64) : (s.fenWrite o v m).mem = s.mem := by
  simp [State.fenWrite, apply_ite State.mem]

@[simp] theorem State.queueWrite_mem (s : State) (p q w : Nat) (v m : W64) : (s.queueWrite p q w v m).mem = s.mem := by
  unfold State.queueWrite
  extract_lets
  repeat' split
  all_goals simp

@[simp] theorem State.bifWrite_mem (s : State) (g x : Nat) : (s.bifWrite g x).mem = s.mem := by
  unfold State.bifWrite
  extract_lets
  split <;> [split; rfl]
  · rfl
  · rw [State.foldl_mem]; intros; rfl

@[simp] theorem State.unlock_mem (s : State) (core id : Nat) : (s.unlock core id).mem = s.mem := rfl
@[simp] theorem State.markDone_mem (s : State) (m : Mark) : (s.markDone m).mem = s.mem := by
  simp [State.markDone]

@[simp] theorem State.schedule_mem (s : State) (h : Nat) (cq : Bool) : (s.schedule h cq).mem = s.mem := by
  unfold State.schedule
  split <;> simp

@[simp] theorem State.mark_mem (s : State) (m : Mark) : (s.mark m).mem = s.mem := by
  simp [State.mark, apply_ite State.mem]

@[simp] theorem State.makeMarks_mem (s : State) (h : Nat) : (s.makeMarks h).mem = s.mem := by
  refine State.iterOpt_mem _ (fun s t ht => ?_) _ s
  obtain ⟨m, -, rfl⟩ := Option.map_eq_some_iff.1 ht
  simp

@[simp] theorem State.retireHandle_mem (s : State) (h : Nat) : (s.retireHandle h).mem = s.mem := by
  simp [State.retireHandle]

@[simp] theorem State.ring_mem (s : State) (h : Nat) (cq : Bool) : (s.ring h cq).mem = s.mem := by
  simp [State.ring, apply_ite State.mem]

@[simp] theorem State.ringAll_mem (s : State) (h : Nat) : (s.ringAll h).mem = s.mem := by
  unfold State.ringAll
  dsimp only
  rw [State.foldl_mem]
  intros
  exact State.ring_mem ..

@[simp] theorem State.loadHandle_mem (s : State) (h : Nat) : (s.loadHandle h).mem = s.mem := by
  have start : ((s.retireHandle h).ringAll h).mem = s.mem := by simp
  unfold State.loadHandle
  generalize (s.retireHandle h).ringAll h = u at start ⊢
  extract_lets s0 e err s1
  have logged : s1.mem = u.mem := by
    simp only [s1]
    clear_value err
    cases err with
    | none => rfl
    | some x => dsimp only; split <;> simp [s0]
  dsimp only
  split <;> exact logged.trans start

@[simp] theorem State.handleCmd_mem (s : State) (v : W64) : (s.handleCmd v).mem = s.mem := by
  unfold State.handleCmd
  split <;> simp

@[simp] theorem State.train_mem (s : State) (p : Nat) : (s.train p).mem = s.mem := rfl
@[simp] theorem State.portWrite_mem (s : State) (p : Nat) (v m : W64) : (s.portWrite p v m).mem = s.mem := by
  unfold State.portWrite
  extract_lets
  split <;> [split; rfl]
  · rw [State.train_mem, State.modPort_mem]
  · rw [State.modPort_mem]

@[simp] theorem State.remapWrite_mem (s : State) (e word : Nat) (v m : W64) : (s.remapWrite e word v m).mem = s.mem := by
  unfold State.remapWrite
  extract_lets
  split
  · rfl
  · split
    · split
      · rfl
      · exact State.setRemap_mem _ _ _
    · exact State.setRemap_mem _ _ _

@[simp] theorem State.tsetWrite_mem (s : State) (i : Nat) (hi : Bool) (v m : W64) :
    (s.tsetWrite i hi v m).mem = s.mem := rfl

@[simp] theorem State.reedWrite_mem (s : State) (o : Nat) (v m : W64) : (s.reedWrite o v m).mem = s.mem := by
  unfold State.reedWrite
  split_ifs <;> simp

@[simp] theorem State.measured_mem (s : State) (x : Image) : (s.measured x).mem = s.mem := rfl
@[simp] theorem State.bootFails_mem (s : State) (e : Nat) : (s.bootFails e).mem = s.mem := rfl
@[simp] theorem State.drawKey_mem (s : State) : s.drawKey.mem = s.mem := rfl
@[simp] theorem State.splitEffect_mem (s : State) (c : Nat) : (s.splitEffect c).mem = s.mem := by
  simp [State.splitEffect, apply_ite State.mem]

@[simp] theorem State.mcPop_mem (s : State) (d : Nat) : (s.mcPop d).2.mem = s.mem := by
  unfold State.mcPop
  split <;> simp

@[simp] theorem State.gateOff_mem (s : State) (p : Nat) : (s.gateOff p).mem = s.mem := by
  unfold State.gateOff
  split <;> simp

@[simp] theorem State.gateOn_mem (s : State) (p : Nat) : (s.gateOn p).mem = s.mem := by
  unfold State.gateOn
  split_ifs <;> simp

@[simp] theorem State.gateWrite_mem (s : State) (v : Nat) : (s.gateWrite v).mem = s.mem := by
  unfold State.gateWrite
  split <;> simp

@[simp] theorem State.pwrWrite_mem (s : State) (v : Nat) : (s.pwrWrite v).mem = s.mem := rfl
@[simp] theorem State.handoverEnd_mem (s : State) (st e : Nat) : (s.handoverEnd st e).mem = s.mem := by
  rw [State.handoverEnd, State.foldl_mem]; intros; rfl

@[simp] theorem State.queueScrub_mem (s : State) (d : Nat) (e : ScrubEnt) : (s.queueScrub d e).mem = s.mem := rfl
@[simp] theorem State.spareGo_mem (s : State) (d c : Nat) : (s.spareGo d c).mem = s.mem := by
  simp [State.spareGo, apply_ite State.mem]

@[simp] theorem State.spareRetire_mem (s : State) (d c : Nat) : (s.spareRetire d c).mem = s.mem := by
  unfold State.spareRetire
  split <;> simp

@[simp] theorem State.spareWrite_mem (s : State) (d v : Nat) : (s.spareWrite d v).mem = s.mem := by
  unfold State.spareWrite
  split_ifs <;> simp

@[simp] theorem State.restartTeam_mem (s : State) (ti : Nat) : (s.restartTeam ti).mem = s.mem := by
  rw [State.restartTeam, State.modGroup_mem, State.foldl_mem _ _ (by simp), State.modTeam_mem]

@[simp] theorem State.restartCore_mem (s : State) (d : Nat) : (s.restartCore d).mem = s.mem := by
  unfold State.restartCore
  extract_lets
  split
  · rw [State.modCore_mem, State.foldl_mem _ _ (by simp)]
  · rfl

@[simp] theorem State.scrubEnd_mem (s : State) (e : ScrubEnt) : (s.scrubEnd e).mem = s.mem := by
  simp [State.scrubEnd, apply_ite State.mem]

@[simp] theorem State.dropLatches_mem (s : State) (core : Nat) (fen : Nat → Bool) : (s.dropLatches core fen).mem = s.mem := by
  rw [State.dropLatches, State.foldl_mem]; intros; rfl

@[simp] theorem State.respond_mem (s : State) (r : Reply) : (s.respond r).mem = s.mem := rfl
@[simp] theorem State.unsupported_mem (s : State) (port rid : Nat) (posted : Bool) :
    (s.unsupported port rid posted).mem = s.mem := by
  unfold State.unsupported
  split <;> simp

@[simp] theorem State.walkProbe_mem (s : State) (fen va : Nat) : (s.walkProbe fen va).mem = s.mem := by
  unfold State.walkProbe
  split <;> [rfl; skip]
  split <;> simp

@[simp] theorem State.requestProbe_mem (s : State) (fen va len : Nat) : (s.requestProbe fen va len).mem = s.mem := by
  unfold State.requestProbe
  split <;> simp

@[simp] theorem State.modBar_mem (s : State) (ti n : Nat) (f : Barrier → Barrier) : (s.modBar ti n f).mem = s.mem := rfl
theorem State.arriveBar_mem (s t : State) (ti n : Nat) (h : s.arriveBar ti n = some t) : t.mem = s.mem := by
  unfold State.arriveBar at h
  extract_lets b at h
  split at h
  · cases h
  · cases h; rfl

@[simp] theorem State.raiseFloors_mem (s : State) (ti : Nat) : (s.raiseFloors ti).mem = s.mem := rfl
@[simp] theorem State.message_mem (s : State) (port data : Nat) : (s.message port data).mem = s.mem := by
  unfold State.message
  extract_lets r drop count
  split_ifs
  · rfl
  · split
    · simp
    · split
      next u ti h =>
        obtain ⟨ti', -, hb⟩ := Option.bind_eq_some_iff.1 h
        obtain ⟨t, ht, he⟩ := Option.map_eq_some_iff.1 hb
        cases he
        simpa using s.arriveBar_mem _ _ _ ht
      next => exact State.setRemap_mem _ _ _
    · exact State.setRemap_mem _ _ _

@[simp] theorem State.completerAbort_mem (s : State) (port rid : Nat) (posted : Bool) :
    (s.completerAbort port rid posted).mem = s.mem := by
  unfold State.completerAbort
  split <;> simp

@[simp] theorem State.abortReads_mem (s : State) (ports : Nat → Bool) : (s.abortReads ports).mem = s.mem := rfl
@[simp] theorem State.without_mem (s : State) (tis : List Nat) : (s.without tis).mem = s.mem := rfl
@[simp] theorem State.dropConts_mem (s : State) (p id : Nat) : (s.dropConts p id).mem = s.mem := rfl
@[simp] theorem State.sedgeFinish_mem (s : State) (core op : Nat) : (s.sedgeFinish core op).mem = s.mem := by
  unfold State.sedgeFinish
  extract_lets
  split
  · rw [State.modCore_mem, State.foldl_mem _ _ (by simp)]
  · rfl

@[simp] theorem State.flashAll_mem (s : State) (ti : Nat) : (s.flashAll ti).mem = s.mem := by
  rw [State.flashAll, State.foldl_mem]; intros; rfl

@[simp] theorem State.dueMarks_mem (s : State) : s.dueMarks.mem = s.mem := by
  rw [State.dueMarks, State.foldl_mem]
  intros
  split <;> rfl

@[simp] theorem State.logLanes_mem (s : State) (bads : List (Nat × Nat × Nat × Nat)) : (s.logLanes bads).mem = s.mem := by
  simp [State.logLanes]

@[simp] theorem CplOp.lane_mem (o : CplOp) (s : State) (x : CplLane) : (CplOp.lane o s x).mem = s.mem := rfl
@[simp] theorem CopyOp.request_mem (o : CopyOp) (s : State) (va : Nat) : (o.request s va).mem = s.mem := by
  unfold CopyOp.request
  extract_lets page
  split
  next s' tag h => exact State.prqTake_mem _ _ _ h
  next => split <;> rfl

@[simp] theorem State.modStream_mem (s : State) (ti n : Nat) (f : Stream → Stream) :
    (s.modStream ti n f).mem = s.mem := rfl

@[simp] theorem State.fresh_mem (s : State) : s.fresh.2.mem = s.mem := rfl
@[simp] theorem State.acceptMember_mem (ti op n : Nat) (s : State) (x : Arrival × Nat) :
    (State.acceptMember ti op n s x).mem = s.mem := rfl

@[simp] theorem State.acceptAll_mem (s : State) (ti : Nat) (members : List (Arrival × Nat)) :
    (s.acceptAll ti members).mem = s.mem := by
  rw [State.acceptAll, State.foldl_mem _ _ (by simp)]; rfl

@[simp] theorem State.retireArrived_mem (s : State) (ti : Nat) (as : List Arrival) : (s.retireArrived ti as).mem = s.mem := by
  rw [State.retireArrived, State.foldl_mem]; intros; rfl

@[simp] theorem State.dropEntry_mem (s : State) (core : Nat) (e : StoreEnt) : (s.dropEntry core e).mem = s.mem := by
  exact State.foldl_mem _ _ (fun _ _ => by rfl) _

@[simp] theorem State.leave_mem (s : State) (core idx : Nat) (e : StoreEnt) : (s.leave core idx e).mem = s.mem := by
  simp [State.leave]

@[simp] theorem State.fillTlb_mem (s : State) (core : Nat) (e : TlbEnt) : (s.fillTlb core e).mem = s.mem := by
  unfold State.fillTlb
  split <;> simp

@[simp] theorem State.windowDefer_mem (s : State) (c : Ctx) (kind va : Nat) (pages : List Nat) (n : Nat) :
    (s.windowDefer c kind va pages n).mem = s.mem := by
  unfold State.windowDefer
  split <;> simp

@[simp] theorem State.putRemap_mem (f : Nat) (s : State) (r : List Nat) : (State.putRemap f s r).mem = s.mem := rfl
@[simp] theorem State.putHandle_mem (f : Nat) (s : State) (r : List Nat) : (State.putHandle f s r).mem = s.mem := rfl
@[simp] theorem State.putQueue_mem (f : Nat) (s : State) (r : List Nat) : (State.putQueue f s r).mem = s.mem := rfl
@[simp] theorem State.putConfig_mem (i : Nat) (s : State) (r : List Nat) : (State.putConfig i s r).mem = s.mem := by
  unfold State.putConfig
  split <;> simp

@[simp] theorem Ctx.result_mem (c : Ctx) (d x : Nat) (s : State) : (c.result d x s).mem = s.mem := rfl
@[simp] theorem State.journalProbe_mem (s : State) (f : Nat) : (s.journalProbe f).mem = s.mem := by
  rw [State.journalProbe, State.foldl_mem]
  intros
  split <;> simp

@[simp] theorem State.migrSet_mem (s : State) (i new : Nat) : (s.migrSet i new).mem = s.mem := by
  unfold State.migrSet
  split_ifs <;> simp

@[simp] theorem State.spanDefer_mem (s : State) (c : Ctx) (fen kind va : Nat) (pas : List Nat) :
    (s.spanDefer c fen kind va pas).mem = s.mem := by
  unfold State.spanDefer
  split <;> simp

@[simp] theorem State.slotAssign_mem (s : State) (r : FsetArgs) : (s.slotAssign r).2.mem = s.mem := by
  simp only [State.slotAssign]
  split_ifs <;> simp [apply_ite State.mem]

@[simp] theorem State.idleFen_mem (s : State) (f : Nat) : (s.idleFen f).mem = s.mem := by
  unfold State.idleFen
  split <;> simp

@[simp] theorem State.slotRelease_mem (s : State) (r : FsetArgs) : (s.slotRelease r).2.mem = s.mem := by
  unfold State.slotRelease
  extract_lets
  repeat' split
  all_goals simp

@[simp] theorem State.killFen_mem (s : State) (f : Nat) : (s.killFen f).mem = s.mem := by
  rw [State.killFen, State.setFen_mem, State.foldl_mem, State.foldl_mem]
  · intros; rfl
  · intros; extract_lets; split <;> rfl

@[simp] theorem State.crossGate_mem (s : State) (ti gi : Nat) : (s.crossGate ti gi).mem = s.mem := rfl
@[simp] theorem State.returnCores_mem (s : State) : s.returnCores.mem = s.mem := by
  rw [State.returnCores, State.foldl_mem]; intros; rfl

@[simp] theorem State.takeSlot_mem (s : State) (p q origin : Nat) (rec_ : LRec) (enqTeam : Option Nat) (copying : Bool) :
    (s.takeSlot p q origin rec_ enqTeam copying).2.mem = s.mem := rfl

@[simp] theorem Ctx.acceptEnq_mem (c : Ctx) (q ra pa : Nat) (s : State) : (c.acceptEnq q ra pa s).mem = s.mem := rfl
@[simp] theorem State.cfgSend_mem (s : State) (r : CfgReq) : (s.cfgSend r).mem = s.mem := rfl
@[simp] theorem State.begin_mem (s : State) (ti gi : Nat) (p : Pending) : (s.begin ti gi p).mem = s.mem := rfl
@[simp] theorem State.ackPage_mem (s : State) (e : PageReq) (code : Nat) : (s.ackPage e code).mem = s.mem := by
  unfold State.ackPage
  repeat' split
  all_goals simp

@[simp] theorem State.popPage_mem (s : State) (tag : Nat) : (s.popPage tag).mem = s.mem := rfl
@[simp] theorem State.raiseFloor_mem (s : State) (ti gi : Nat) : (s.raiseFloor ti gi).mem = s.mem := rfl
@[simp] theorem Ctx.blocked_mem (c : Ctx) (s : State) (k : BlockKind) : (c.blocked s k).mem = s.mem := rfl
@[simp] theorem Ctx.acceptCopy_mem (c : Ctx) (op tok : Nat) (cmd : CopyCmd) (engine : Nat) (p : CopyPlan) (s : State) :
    (c.acceptCopy op tok cmd engine p s).mem = s.mem := by
  unfold Ctx.acceptCopy
  dsimp only [State.fresh]
  rw [State.modGroup_mem, State.modCore_mem]
  split <;> split <;> rfl

@[simp] theorem State.fillL1_mem (s : State) (core fen sec : Nat) (bs : List Byte) :
    (s.fillL1 core fen sec bs).mem = s.mem := by
  simp [State.fillL1, apply_ite State.mem]

@[simp] theorem State.bind_mem (s : State) (c : Ctx) (l1 fill : Bool) (pa n : Nat) :
    (s.bind c l1 fill pa n).2.mem = s.mem := by
  unfold State.bind
  extract_lets
  repeat' split
  all_goals simp

@[simp] theorem State.bind64_mem (s : State) (c : Ctx) (nc : Bool) (pa : Nat) : (s.bind64 c nc pa).2.mem = s.mem := by
  have lo := s.bind_mem c (!nc) (!nc) pa 32
  unfold State.bind64
  split
  next t h1 =>
    have hi := t.bind_mem c (!nc) (!nc) (pa + 32) 32
    rw [h1] at lo
    split
    next h2 => rw [h2] at hi; exact hi.trans lo
    next => exact hi.trans lo
  next => exact lo

@[simp] theorem Ctx.readRecord_mem (c : Ctx) (op ra : Nat) (s : State) : (c.readRecord op ra s).2.mem = s.mem := by
  unfold Ctx.readRecord
  split
  · rfl
  · rfl
  next x _ =>
    split
    · rfl
    have bound := s.bind64_mem c x.nc x.pa
    split <;> next h => rw [h] at bound; exact bound

@[simp] theorem State.txFailed_mem (s : State) (c : Ctx) (l pa cause detail : Nat) :
    (s.txFailed c l pa cause detail).mem = s.mem := by
  unfold State.txFailed
  split <;> simp

@[simp] theorem State.txLogged_mem (s : State) (c : Ctx) (l : Nat) (x : TxLane) (pa n : Nat) :
    (s.txLogged c l x pa n).mem = s.mem := rfl

@[simp] theorem Ctx.arriveGang_mem (c : Ctx) (s : State) (a : Arrival) : (c.arriveGang s a).mem = s.mem := rfl
@[simp] theorem State.txqLane_mem (c : Ctx) (d : Nat) (s : State) (l : Nat) : (State.txqLane c d s l).mem = s.mem := by
  simp only [State.txqLane]
  split_ifs <;> simp [apply_ite State.mem]

@[simp] theorem State.txrLane_mem (c : Ctx) (d : Nat) (s : State) (l : Nat) : (State.txrLane c d s l).mem = s.mem := by
  unfold State.txrLane
  extract_lets x put found
  have keep (s : State) (f : Group → Group) (n : W32) : (put s f n).mem = s.mem := rfl
  split
  · rfl
  · split
    · rw [keep, State.logBeside_mem]
    · split <;> rfl

@[simp] theorem State.txbLane_mem (c : Ctx) (s : State) (l : Nat) : (State.txbLane c s l).mem = s.mem := by
  simp [State.txbLane, apply_ite State.mem]

@[simp] theorem State.dropTlb_mem (s : State) (test : TlbEnt → Bool) : (s.dropTlb test).mem = s.mem := by
  rw [State.dropTlb]
  exact State.foldl_mem _ _ (fun _ _ => by rfl) _

@[simp] theorem State.invalidate_mem (s : State) (test : TlbEnt → Bool) (fens : Nat → Bool) :
    (s.invalidate test fens).mem = s.mem := by
  simp [State.invalidate]

@[simp] theorem State.dropLine_mem (s : State) (core fen pa : Nat) : (s.dropLine core fen pa).mem = s.mem := rfl
@[simp] theorem State.joinFloor_mem (s : State) (ti gi : Nat) : (s.joinFloor ti gi).mem = s.mem := rfl
@[simp] theorem State.putStore_mem (s : State) (c : Ctx) (e : StoreEnt) : (s.putStore c e).mem = s.mem := by
  unfold State.putStore
  extract_lets
  repeat' split
  all_goals simp

@[simp] theorem Ctx.storeLane_mem (c : Ctx) (word : Nat) (kind : StKind) (s : State) (y : Nat × Nat × Nat × List (Byte × Byte)) :
    (c.storeLane word kind s y).mem = s.mem := by
  simp [Ctx.storeLane]

@[simp] theorem State.handoverGo_mem (s : State) (d : Nat) : (s.handoverGo d).mem = s.mem := rfl
@[simp] theorem State.sysRead_mem (s : State) (c : Ctx) (n : Nat) : (s.sysRead c n).2.mem = s.mem := by
  unfold State.sysRead
  extract_lets
  split
  · rfl
  · split
    · split <;> rfl
    · split <;> simp

@[simp] theorem State.keepHolder_mem (s : State) (p : Nat) : (s.keepHolder p).mem = s.mem := by
  unfold State.keepHolder
  split <;> simp

end Sys2Proof.Machine
end

section
/-!
PROOFS. Operations that write memory, or that call one that does, keep its canonical form (R156, R350, R356; log entry 4). The
writes of bytes themselves stand in the laws of memory; these lemmas carry them through the operations that use them.
-/
namespace Sys2Proof.Machine

theorem State.ite_wf {p : Prop} [Decidable p] {s t : State} (hs : s.mem.wf = true) (ht : t.mem.wf = true) :
    (if p then s else t).mem.wf = true := by
  split <;> assumption

theorem State.foldl_wf {α : Type} (l : List α) (f : State → α → State)
    (hf : ∀ s x, s.mem.wf = true → (f s x).mem.wf = true) (s : State) (h : s.mem.wf = true) :
    (l.foldl f s).mem.wf = true := by
  induction l generalizing s with
  | nil => exact h
  | cons x l ih => exact ih _ (hf s x h)

theorem State.iterOpt_wf (f : State → Option State)
    (hf : ∀ s t, s.mem.wf = true → f s = some t → t.mem.wf = true) (n : Nat) (s : State) (h : s.mem.wf = true) :
    (iterOpt f n s).mem.wf = true := by
  induction n generalizing s with
  | zero => exact h
  | succ n ih =>
    rw [iterOpt]
    split
    next t ht => exact ih t (hf s t h ht)
    next => exact h

/-- No input of the outside writes a byte: it may mark a line as corrupted, or evict a stamp (log entry 1). -/
theorem State.input_wf (s : State) (x : Input) (h : s.mem.wf = true) : (s.input x).mem.wf = true := by
  cases x <;> rw [State.input]
  case corrupt | corrected | config => split <;> exact h
  all_goals exact h

@[simp] theorem State.touch_wf (s : State) (pa n : Nat) : (s.touch pa n).mem.wf = s.mem.wf := rfl

@[simp] theorem State.dropParks_wf (s : State) (ti : Nat) : (s.dropParks ti).mem.wf = s.mem.wf := rfl

@[simp] theorem State.endTeam_wf (s : State) (ti cause pc : Nat) (defer : Bool) :
    (s.endTeam ti cause pc defer).mem.wf = s.mem.wf := by
  rw [State.endTeam, State.modTeam_mem, State.dropParks_wf, State.quiesce_mem, State.foldl_mem _ _ (by simp), State.endGrid_mem]

@[simp] theorem State.markThrough_wf (s : State) (ti : Nat) (gi : Option Nat) (moment pa : Nat) :
    (s.markThrough ti gi moment pa).mem.wf = s.mem.wf := by
  rw [s.markThrough_mem ti gi moment pa]
  rfl

@[simp] theorem State.markEntry_wf (s : State) (e : StoreEnt) (h : s.mem.wf = true) : (s.markEntry e).mem.wf = true := by
  exact State.foldl_wf _ _ (fun s x hs => by simpa using hs) s h

@[simp] theorem State.retireFirmware_wf (s : State) (h : s.mem.wf = true) : s.retireFirmware.mem.wf = true := by
  unfold State.retireFirmware
  refine State.foldl_wf _ _ (fun s ti hs => ?_) s h
  exact (s.endTeam_wf ti 0 0 false).trans hs

@[simp] theorem State.chretWrite_wf (s : State) (d v : Nat) (h : s.mem.wf = true) : (s.chretWrite d v).mem.wf = true := by
  unfold State.chretWrite
  extract_lets slice ch t
  split_ifs
  · exact h
  · exact h
  · exact h

@[simp] theorem State.startMark_wf (s : State) (m : Mark) : (s.startMark m).mem.wf = s.mem.wf := rfl

theorem Ctx.parkLane_wf (c : Ctx) (id pd : Nat) (cc : Cc) (b : Src)
    (a : State × List (Nat × Bool) × List (Nat × Nat × Nat × Nat)) (y : Nat × Nat × Xlate) (h : a.1.mem.wf = true) :
    (c.parkLane id pd cc b a y).1.mem.wf = true := by
  obtain ⟨s, rs, bads⟩ := a
  obtain ⟨l, va, x⟩ := y
  unfold Ctx.parkLane
  dsimp -zeta only
  extract_lets m
  split
  · exact h
  · split
    · exact h
    · split
      · exact h
      · split <;> exact h

@[simp] theorem State.startThrough_wf (s : State) (ti gi : Nat) : (s.startThrough ti gi).mem.wf = s.mem.wf := rfl

@[simp] theorem State.sysPut_wf (s : State) (d n : Nat) (x : W64) (h : s.mem.wf = true) : (s.sysPut d n x).mem.wf = true := by
  unfold State.sysPut
  grind [State.chretWrite_wf, State.gateWrite_mem, State.handoverGo_mem, State.pwrWrite_mem, State.restartCore_mem,
    State.spareWrite_mem]

@[simp] theorem State.sysWrite_wf (s : State) (c : Ctx) (n : Nat) (x : W64) (h : s.mem.wf = true) :
    (s.sysWrite c n x).mem.wf = true := by
  unfold State.sysWrite
  grind [State.modCore_mem, State.modGroup_mem, State.sysPut_wf]

@[simp] theorem State.setFqidx_wf (s : State) (ti idx : Nat) (h : s.mem.wf = true) : (s.setFqidx ti idx).mem.wf = true := by
  unfold State.setFqidx
  grind [State.ownWrite_wf, State.setTeam_mem]

theorem State.flushFq1_wf (p : Nat) (s t : State) (h : s.mem.wf = true) (ht : State.flushFq1 p s = some t) :
    t.mem.wf = true := by
  unfold State.flushFq1 at ht
  grind [State.setFqidx_wf, State.ownWrite_wf, State.setPart_mem, State.setEvents_mem]

@[simp] theorem State.flushFq_wf (s : State) (p : Nat) (h : s.mem.wf = true) : (s.flushFq p).mem.wf = true := by
  exact State.iterOpt_wf _ (State.flushFq1_wf p) _ s h

@[simp] theorem State.markFaulted_wf (s : State) (ti : Nat) (h : s.mem.wf = true) : (s.markFaulted ti).mem.wf = true := by
  unfold State.markFaulted
  split
  · exact s.ownWrite_wf _ _ _ h
  · exact h

@[simp] theorem State.postFault_wf (s : State) (p ti rec_ : Nat) (h : s.mem.wf = true) :
    (s.postFault p ti rec_).mem.wf = true := by
  simp [State.postFault, h]

@[simp] theorem State.userFault_wf (s : State) (ti gi : Nat) (e : Splinter) (f : Flt) (h : s.mem.wf = true) :
    (s.userFault ti gi e f).mem.wf = true := by
  unfold State.userFault
  grind [State.endTeam_wf, State.gatePage_mem, State.haltTeam_mem, State.markFaulted_wf, State.modTeam_mem,
    State.postFault_wf]

@[simp] theorem State.takeFault_wf (s : State) (ti gi ei : Nat) (f : Flt) (h : s.mem.wf = true) :
    (s.takeFault ti gi ei f).mem.wf = true := by
  unfold State.takeFault
  grind [State.doubleFault_mem, State.logMem_mem, State.modGroup_mem, State.userFault_wf]

@[simp] theorem State.machineCheck_wf (s : State) (ti gi : Nat) (d : Deferred) (h : s.mem.wf = true) :
    (s.machineCheck ti gi d).mem.wf = true := by
  unfold State.machineCheck
  split <;> [skip; split] <;> simp [h]

@[simp] theorem CopyOp.complete_wf (o : CopyOp) (s : State) (clipped : Bool) (fail : Option (Nat × Nat × Option Nat)) (h : s.mem.wf = true) :
    (o.complete s clipped fail).mem.wf = true := by
  unfold CopyOp.complete
  extract_lets s1 s2 s3 s4 s5 s6 s7
  have floors : s4.mem = s3.mem := by simp only [s4]; split <;> rfl
  have token : s5.mem = s4.mem := by simp only [s5]; split <;> rfl
  have barrier : s6.mem = s5.mem := by simp only [s6]; split <;> rfl
  have stream : s7.mem = s3.mem := by
    simp only [s7]
    split
    · rfl
    · split
      · exact barrier.trans (token.trans floors)
      · exact barrier.trans (token.trans floors)
  have kept : s7.mem.wf = true := by
    rw [stream, State.modGroup?_mem]
    exact h
  split
  · exact kept
  · split
    · exact s7.machineCheck_wf _ _ _ kept
    · split
      · exact kept
      · rw [State.defer_mem]; exact kept

@[simp] theorem State.failLate_wf (s : State) (ti gi : Nat) (d : Deferred) (h : s.mem.wf = true) :
    (s.failLate ti gi d).mem.wf = true := by
  unfold State.failLate
  split <;> simp [h]

@[simp] theorem State.finish_wf (s : State) (ti gi : Nat) (p : Pending) (h : s.mem.wf = true) :
    (s.finish ti gi p).mem.wf = true := by
  unfold State.finish
  repeat' split
  all_goals simp [h]

@[simp] theorem State.parkResult_wf (s : State) (ti gi id pd : Nat) (lanes : W32) (ok : Bool) (h : s.mem.wf = true) :
    (s.parkResult ti gi id pd lanes ok).mem.wf = true := by
  unfold State.parkResult
  grind [State.finish_wf, State.modGroup?_mem]

@[simp] theorem State.monitorFire_wf (s : State) (m : Monitor) (h : s.mem.wf = true) : (s.monitorFire m).mem.wf = true :=
  State.parkResult_wf _ _ _ _ _ _ _ (by rw [State.modGroup?_mem]; exact h)

@[simp] theorem State.satisfy_wf (s : State) (pa n : Nat) (h : s.mem.wf = true) : (s.satisfy pa n).mem.wf = true := by
  refine State.foldl_wf _ _ (fun s m hs => ?_) s h
  split
  · exact s.monitorFire_wf m hs
  · exact hs

@[simp] theorem State.applyWrite_wf (s : State) (fen pa : Nat) (bs : List (Byte × Byte)) (h : s.mem.wf = true) :
    (s.applyWrite fen pa bs).mem.wf = true := by
  exact State.satisfy_wf _ _ _ (writeMasked_wf s fen pa bs h)

theorem CopyOp.put_wf (o : CopyOp) (y : Layout) (p : Piece) (a : CopyAcc) (bs : List Byte) :
    (o.put y p a bs).s.mem.wf = a.s.mem.wf := rfl

theorem CopyOp.lose_wf (o : CopyOp) (y : Layout) (p : Piece) (a : CopyAcc) (cause va : Nat) (mc : Option Nat) :
    (o.lose y p a cause va mc).s.mem.wf = a.s.mem.wf := by
  unfold CopyOp.lose
  extract_lets b
  split
  · rfl
  · exact (o.put_wf y p _ _).trans (congrArg Memory.wf b.s.freeNat_mem)

theorem CopyOp.move_wf (o : CopyOp) (y : Layout) (a : CopyAcc) (p : Piece) (h : a.s.mem.wf = true) :
    (o.move y a p).s.mem.wf = true := by
  unfold CopyOp.move
  grind [CopyOp.put_wf, CopyOp.lose_wf, State.applyWrite_wf, State.markThrough_wf]

theorem CopyOp.moves_wf (o : CopyOp) (y : Layout) (ps : List Piece) (a : CopyAcc) (h : a.s.mem.wf = true) :
    (ps.foldl (o.move y) a).s.mem.wf = true := by
  induction ps generalizing a with
  | nil => exact h
  | cons p ps ih => exact ih _ (o.move_wf y a p h)

@[simp] theorem CopyOp.run_wf (o : CopyOp) (s : State) (h : s.mem.wf = true) : (o.run s).mem.wf = true := by
  unfold CopyOp.run
  grind [CopyOp.complete_wf, CopyOp.moves_wf, CopyOp.request_mem, State.logBeside_mem, State.modTeam_mem]

@[simp] theorem State.finishIf_wf (s : State) (ti gi id : Nat) (h : s.mem.wf = true) : (s.finishIf ti gi id).mem.wf = true := by
  unfold State.finishIf
  repeat' split
  all_goals simp [h]

@[simp] theorem State.reply_wf (s : State) (ti gi id lane dst regs x : Nat) (bad : Option Deferred) (h : s.mem.wf = true) :
    (s.reply ti gi id lane dst regs x bad).mem.wf = true := by
  unfold State.reply
  split <;> simp [h]

@[simp] theorem State.applyAtomic_wf (s : State) (ti gi fen lane va pa : Nat) (op : AtomOp) (ty : Nat) (b d : W64) (id dst : Nat) (acq : Bool) (h : s.mem.wf = true) :
    (s.applyAtomic ti gi fen lane va pa op ty b d id dst acq).mem.wf = true := by
  unfold State.applyAtomic
  grind [State.applyWrite_wf, State.free_mem, State.markThrough_wf, State.modGroup?_mem, State.reply_wf]

@[simp] theorem State.putJournal_wf (f : Nat) (s : State) (r : List Nat) (h : s.mem.wf = true) :
    (State.putJournal f s r).mem.wf = true := by
  unfold State.putJournal
  grind [State.modPart_mem, State.ownWrite_wf]

@[simp] theorem State.applyImage_wf (s : State) (i : Nat) (bs : List Byte) (h : s.mem.wf = true) :
    (s.applyImage i bs).mem.wf = true := by
  unfold State.applyImage
  dsimp only
  refine State.foldl_wf _ _ (State.putJournal_wf _) _ ?_
  rw [State.foldl_mem _ _ (State.putRemap_mem _), State.foldl_mem _ _ (State.putHandle_mem _),
    State.foldl_mem _ _ (State.putQueue_mem _), State.putConfig_mem]
  exact h

theorem State.applyRecord_wf (s : State) (i : Nat) (bs : List Byte) (r : State × List Byte) (h : s.mem.wf = true)
    (hr : s.applyRecord i bs = some r) : r.1.mem.wf = true := by
  unfold State.applyRecord at hr
  grind [State.applyImage_wf, State.setFunc_mem, State.setFen_mem]

@[simp] theorem State.dstWrite_wf (s : State) (p o : Nat) (v m : W64) (h : s.mem.wf = true) : (s.dstWrite p o v m).mem.wf = true := by
  unfold State.dstWrite
  have flushed (t : State) (ht : t.mem.wf = true) := t.flushFq_wf p ht
  refine State.ite_wf h (State.ite_wf h (State.ite_wf h (State.ite_wf h ?_)))
  refine State.ite_wf (flushed _ h) (State.ite_wf (flushed _ h) (State.ite_wf (flushed _ h) ?_))
  refine State.ite_wf h (State.ite_wf h (State.ite_wf h (State.ite_wf h (State.ite_wf ?_ h))))
  rw [State.queueWrite_mem]
  exact h

@[simp] theorem State.regPut_wf (s : State) (o : Nat) (v m : W64) (h : s.mem.wf = true) : (s.regPut o v m).mem.wf = true := by
  unfold State.regPut
  split
  · rw [State.reedWrite_mem]; exact h
  · split
    · exact s.dstWrite_wf _ _ v m h
    · split
      · rw [State.fenWrite_mem]; exact h
      · exact h

@[simp] theorem State.regWrite_wf (s : State) (pa n x : Nat) (h : s.mem.wf = true) : (s.regWrite pa n x).mem.wf = true := by
  simp [State.regWrite, h]

@[simp] theorem State.storeFailed_wf (s : State) (e : StoreEnt) (cause pa : Nat) (h : s.mem.wf = true) :
    (s.storeFailed e cause pa).mem.wf = true := by
  simp [State.storeFailed, h]

@[simp] theorem State.applyStore_wf (s : State) (e : StoreEnt) (h : s.mem.wf = true) : (s.applyStore e).mem.wf = true := by
  unfold State.applyStore
  split
  · split
    · simp [h]
    · exact State.markEntry_wf _ _ (State.foldl_wf _ _ (fun s x hs => s.applyWrite_wf _ _ _ hs) s h)
  · grind [State.regWrite_wf, State.sendOut_mem, State.storeFailed_wf]

@[simp] theorem State.regArrive_wf (s : State) (ti gi : Nat) (p : Pending) (i : Nat) (h : s.mem.wf = true) :
    (s.regArrive ti gi p i).mem.wf = true := by
  unfold State.regArrive
  split <;> [skip; split] <;> simp [h]

@[simp] theorem State.arrive_wf (s : State) (ti gi : Nat) (p : Pending) (sel : Nat) (h : s.mem.wf = true) :
    (s.arrive ti gi p sel).mem.wf = true := by
  unfold State.arrive
  split <;> [skip; split] <;> simp [h]

@[simp] theorem State.storeSpan_wf (s : State) (c : Ctx) (fen : Nat) (pas : List Nat) (bs : List Byte) (h : s.mem.wf = true) :
    (s.storeSpan c fen pas bs).mem.wf = true := by
  exact State.foldl_wf _ _ (fun s x hs => by simpa using s.applyWrite_wf _ _ _ hs) s h

@[simp] theorem State.spanStore_wf (s : State) (c : Ctx) (fen va : Nat) (pas : List Nat) (bs : List Byte) (h : s.mem.wf = true) :
    (s.spanStore c fen va pas bs).mem.wf = true := by
  simp [State.spanStore, h]

@[simp] theorem State.attest_wf (s : State) (c : Ctx) (req out : Nat) (fresh : Bool) (h : s.mem.wf = true) :
    (s.attest c req out fresh).2.mem.wf = true := by
  unfold State.attest
  grind [State.fenProbe_mem, State.setFen_mem, State.spanDefer_mem, State.spanStore_wf]

@[simp] theorem State.journal_wf (s : State) (p : Nat) (g : Grid) (st : Nat) (crecf notf : Bool) (h : s.mem.wf = true) :
    (s.journal p g st crecf notf).mem.wf = true := by
  unfold State.journal
  grind [State.modPart_mem, State.ownWrite_wf]

@[simp] theorem State.begin1_wf (s : State) (p id : Nat) (h : s.mem.wf = true) : (s.begin1 p id).mem.wf = true := by
  unfold State.begin1
  repeat' split
  all_goals simp [h]

@[simp] theorem State.placeImage_wf (s : State) (cells : List Host.Cell) (h : s.mem.wf = true) :
    (s.placeImage cells).mem.wf = true := by
  unfold State.placeImage
  refine State.foldl_wf _ _ (fun s c hs => ?_) _ ?_
  · split
    · exact writeBytes_wf s _ _ _ hs
    · exact hs
  · refine State.foldl_wf _ _ (fun s l hs => ?_) s h
    split <;> simpa using hs

@[simp] theorem State.startFirmware_wf (s : State) (x : Image) (h : s.mem.wf = true) : (s.startFirmware x).mem.wf = true := by
  unfold State.startFirmware
  dsimp only
  refine State.foldl_wf _ _ (fun s d hs => ?_) _ (s.placeImage_wf x.cells h)
  exact hs

@[simp] theorem State.boot_wf (s : State) (h : s.mem.wf = true) : s.boot.mem.wf = true := by
  cases valid : imageError s.sys.flash with
  | some e => rw [s.boot_refused e valid]; exact h
  | none =>
    cases flash : s.sys.flash with
    | none => rw [State.boot, valid, flash]; exact h
    | some x =>
      have tested (used : Nat → Bool) : (s.bootTrained x used).mem = s.mem := by
        refine (State.foldl_mem _ _ (fun u d => ?_) (s.bootMeasured x)).trans rfl
        split <;> rfl
      obtain e | e | ⟨used, e⟩ := s.boot_image x flash valid
      · rw [e]; exact h
      · rw [e]; exact h
      · rw [e]; exact State.startFirmware_wf _ x (by rw [tested]; exact h)

theorem State.settle1_wf (s0 : State) (a : State × List Nat) (x : Raised) (h : a.1.mem.wf = true) :
    (State.settle1 s0 a x).1.mem.wf = true := by
  unfold State.settle1
  grind [State.gatePage_mem, State.postFault_wf, State.userFault_wf]

theorem State.settles_wf (s0 : State) (xs : List Raised) (a : State × List Nat) (h : a.1.mem.wf = true) :
    (xs.foldl (State.settle1 s0) a).1.mem.wf = true := by
  induction xs generalizing a with
  | nil => exact h
  | cons x xs ih => exact ih _ (State.settle1_wf s0 a x h)

@[simp] theorem State.settleFaults_wf (s : State) (h : s.mem.wf = true) : s.settleFaults.mem.wf = true :=
  State.settles_wf _ _ _ h

theorem State.together_wf (s : State) (act : State → State) (hact : ∀ t : State, t.mem.wf = true → (act t).mem.wf = true)
    (h : s.mem.wf = true) : (s.together act).mem.wf = true := by
  unfold State.together
  split
  · exact hact s h
  · exact State.settleFaults_wf _ (hact _ h)

@[simp] theorem State.raiseArrived_wf (s : State) (ti cause : Nat) (as : List Arrival) (h : s.mem.wf = true) :
    (s.raiseArrived ti cause as).mem.wf = true := by
  refine State.together_wf _ _ (fun t ht => ?_) ?_
  · exact State.foldl_wf _ _ (fun s a hs => s.takeFault_wf _ _ _ _ hs) t ht
  · rw [State.foldl_mem _ _ (fun s a => by simp)]
    exact h

@[simp] theorem State.breakGangs_wf (s : State) (ti gi : Nat) (h : s.mem.wf = true) : (s.breakGangs ti gi).mem.wf = true := by
  simp [State.breakGangs, h]

@[simp] theorem State.cfgAnswer_wf (s : State) (idx status data : Nat) (h : s.mem.wf = true) :
    (s.cfgAnswer idx status data).mem.wf = true := by
  unfold State.cfgAnswer
  repeat' split
  all_goals simp [h]

theorem State.reset_wf : State.reset.mem.wf = true := by decide

@[simp] theorem State.coldState_wf (s : State) : s.coldState.mem.wf = true := State.reset_wf

@[simp] theorem State.commitEnd_wf (s : State) (o : TxCommitOp) (l : Nat) (last : Bool) (cause detail : Nat) (h : s.mem.wf = true) :
    (s.commitEnd o l last cause detail).mem.wf = true := by
  unfold State.commitEnd
  split <;> simp [h]

@[simp] theorem State.txApply_wf (s : State) (ti gi core moment fen : Nat) (x : TxLane) (h : s.mem.wf = true) :
    (s.txApply ti gi core moment fen x).mem.wf = true := by
  unfold State.txApply
  refine State.foldl_wf _ _ (fun s e hs => State.satisfy_wf _ _ _ (by simpa using hs)) _ ?_
  refine State.foldl_wf _ _ (fun s e hs => State.foldl_wf _ _ (fun s b hs => ?_) s hs) s h
  split
  · exact hs
  · exact writeByte_wf s _ _ _ _ hs

theorem State.commitLane_wf (s : State) (o : TxCommitOp) (x : TxLane) (held : Bool) (h : s.mem.wf = true) :
    (s.commitLane o x held).2.2.mem.wf = true := by
  unfold State.commitLane
  grind [State.logBeside_mem, State.txApply_wf]

theorem State.requestAccess_wf (s : State) (failed : LineErr → State → State) (port rid fen pa len data : Nat) (write : Bool)
    (hf : ∀ e t, (failed e t).mem = t.mem) (h : s.mem.wf = true) :
    (s.requestAccess failed port rid fen pa len data write).mem.wf = true := by
  unfold State.requestAccess
  grind [State.applyWrite_wf, State.logBeside_mem, State.respond_mem]

@[simp] theorem State.deviceAccess_wf (s : State) (port rid fen pa len data : Nat) (write : Bool) (h : s.mem.wf = true) :
    (s.deviceAccess port rid fen pa len data write).mem.wf = true :=
  State.requestAccess_wf _ _ _ _ _ _ _ _ _ (fun e t => by split <;> simp) h

@[simp] theorem State.writeSlot_wf (t : Team) (at_ : Nat) (s : State) (w : Nat × Nat) (h : s.mem.wf = true) :
    (State.writeSlot t at_ s w).mem.wf = true := by
  exact s.ownWrite_wf _ _ _ h

@[simp] theorem State.writeHeader_wf (s : State) (ti : Nat) (h : s.mem.wf = true) : (s.writeHeader ti).mem.wf = true := by
  unfold State.writeHeader
  extract_lets t
  split
  · exact State.foldl_wf _ _ (State.writeSlot_wf t _) s h
  · exact h

@[simp] theorem State.enterCore_wf (s : State) (ti c : Nat) (h : s.mem.wf = true) : (s.enterCore ti c).mem.wf = true := by
  unfold State.enterCore
  dsimp only
  rw [State.foldl_mem _ _ (by simp)]
  exact State.writeHeader_wf _ _ (by simpa using h)

@[simp] theorem State.enterHeader_wf (s : State) (c : Ctx) (wait : Nat) (a b n : BitVec 4) (h : s.mem.wf = true) :
    (s.enterHeader c wait a b n).mem.wf = true := by
  unfold State.enterHeader
  grind [State.setGroup_mem, State.takeFault_wf]

theorem State.fetched_wf (s t : State) (h : s.mem.wf = true) (ht : s.fetched = .ended t) : t.mem.wf = true := by
  unfold State.fetched at ht
  grind [State.takeFault_wf]

@[simp] theorem State.notify_wf (s : State) (g : Grid) (fen : Nat) (word : Option Nat) (h : s.mem.wf = true) :
    (s.notify g fen word).mem.wf = true := by
  unfold State.notify
  split
  · split
    · exact writeBytes_wf s _ _ _ h
    · exact h
  · split
    · split
      · split
        next t ht => rw [State.raiseFloors_mem, s.arriveBar_mem t _ _ ht]; exact h
        next => exact h
      · exact h
    · exact h
  · exact h

@[simp] theorem State.finishGrid_wf (s : State) (p : Nat) (g : Grid) (h : s.mem.wf = true) :
    (s.finishGrid p g).mem.wf = true := by
  unfold State.finishGrid
  grind [State.fenProbe_mem, State.journal_wf, State.modPart_mem, State.notify_wf, State.touch_wf, writeBytes_wf]

@[simp] theorem State.groupEnd_wf (s : State) (ti gi : Nat) (h : s.mem.wf = true) : (s.groupEnd ti gi).mem.wf = true := by
  unfold State.groupEnd
  extract_lets ds s1 s2 s3 t
  have broken : s3.mem.wf = true := by
    refine State.breakGangs_wf _ _ _ ?_
    rw [State.modGroup_mem, State.foldl_mem _ _ (by simp)]
    exact h
  split <;> simpa using broken

@[simp] theorem State.handover_wf (s : State) (h : s.mem.wf = true) : s.handover.mem.wf = true := by
  unfold State.handover
  repeat' split
  all_goals simp [h]

@[simp] theorem State.judge_wf (s : State) (p id cause : Nat) (h : s.mem.wf = true) : (s.judge p id cause).mem.wf = true := by
  unfold State.judge
  grind [State.finishGrid_wf, State.journal_wf, State.modPart_mem]

@[simp] theorem State.tryFinish_wf (s : State) (p id : Nat) (h : s.mem.wf = true) : (s.tryFinish p id).mem.wf = true := by
  unfold State.tryFinish
  grind [State.dropConts_mem, State.finishGrid_wf]

@[simp] theorem State.launchBin_wf (s : State) (p idx : Nat) (b : Bin) (h : s.mem.wf = true) :
    (s.launchBin p idx b).mem.wf = true := by
  unfold State.launchBin
  grind [State.fenProbe_mem, State.modPart_mem, State.setTeam_mem, State.tryFinish_wf, State.writeHeader_wf]

@[simp] theorem State.launchOne_wf (p q : Nat) (s : State) (h : s.mem.wf = true) : (State.launchOne p q s).mem.wf = true := by
  unfold State.launchOne
  grind [State.judge_wf, State.logMem_mem, State.takeSlot_mem]

@[simp] theorem State.mcTeam_wf (s : State) (cause : Nat) (intact : Bool) (ti : Nat) (h : s.mem.wf = true) :
    (s.mcTeam cause intact ti).mem.wf = true := by
  unfold State.mcTeam
  repeat' split
  all_goals simp [h]

theorem State.migrLoad_wf (i n : Nat) (s : State) (bs : List Byte) (h : s.mem.wf = true) :
    (State.migrLoad i n s bs).2.mem.wf = true := by
  induction n generalizing s bs with
  | zero => exact h
  | succ n ih =>
    unfold State.migrLoad
    split
    · exact h
    · split
      next t rest ht => exact ih t rest (s.applyRecord_wf i bs _ h ht)
      next => exact h

@[simp] theorem State.windowWrite_wf (s : State) (c : Ctx) (pages : List Nat) (bs : List Byte) (h : s.mem.wf = true) :
    (s.windowWrite c pages bs).mem.wf = true := by
  simp [State.windowWrite, h]

@[simp] theorem State.migrSave_wf (s : State) (c : Ctx) (i va : Nat) (pages : List Nat) (h : s.mem.wf = true) :
    (s.migrSave c i va pages).2.mem.wf = true := by
  unfold State.migrSave
  grind [State.journalProbe_mem, State.setFunc_mem, State.windowDefer_mem, State.windowWrite_wf]

@[simp] theorem State.peerAccess_wf (s : State) (port fen pa len data : Nat) (write : Bool) (h : s.mem.wf = true) :
    (s.peerAccess port fen pa len data write).mem.wf = true :=
  State.requestAccess_wf _ _ _ _ _ _ _ _ _ (fun e t => by simp) h

@[simp] theorem State.reenter_wf (s : State) (ti c : Nat) (h : s.mem.wf = true) : (s.reenter ti c).mem.wf = true := by
  unfold State.reenter
  grind [State.endTeam_wf, State.enterCore_wf, State.logMem_mem]

@[simp] theorem State.start_wf (s : State) (p : Nat) (g : Grid) (t : Team) (slot : Nat × Nat) (c : Nat) (h : s.mem.wf = true) :
    (s.start p g t slot c).mem.wf = true := by
  simp [State.start, h]

@[simp] theorem State.place_wf (s : State) (p : Nat) (w : Waiting) (cs : List Nat) (h : s.mem.wf = true) :
    (s.place p w cs).mem.wf = true := by
  unfold State.place
  grind [State.begin1_wf, State.modPart_mem, State.reenter_wf, State.start_wf]

@[simp] theorem State.scPerform_wf (s : State) (r : ScReq) (h : s.mem.wf = true) : (s.scPerform r).mem.wf = true := by
  unfold State.scPerform
  grind [State.applyAtomic_wf, State.applyStore_wf, State.errValue_mem, State.modGroup?_mem, State.reply_wf]

@[simp] theorem State.scAccept_wf (s : State) (r : ScReq) (core : Nat) (st : Stamp) (h : s.mem.wf = true) :
    (s.scAccept r core st).mem.wf = true := by
  unfold State.scAccept
  extract_lets m s1 s2 s3 s4
  have done : s4.mem.wf = true := State.scPerform_wf s3 r h
  split <;> simpa using done

theorem State.pumpSc1_wf (ti gi : Nat) (s t : State) (h : s.mem.wf = true) (ht : State.pumpSc1 ti gi s = some t) :
    t.mem.wf = true := by
  unfold State.pumpSc1 at ht
  extract_lets g at ht
  split at ht
  · cases ht
  · split at ht
    · cases ht
    · extract_lets core clock st u line held at ht
      split at ht <;> cases ht
      · exact h
      · exact State.scAccept_wf _ _ _ _ h

@[simp] theorem State.pumpSc_wf (s : State) (ti gi : Nat) (h : s.mem.wf = true) : (s.pumpSc ti gi).mem.wf = true := by
  exact State.iterOpt_wf _ (State.pumpSc1_wf ti gi) _ s h

@[simp] theorem State.pumpCore_wf (s : State) (core : Nat) (h : s.mem.wf = true) : (s.pumpCore core).mem.wf = true := by
  exact State.foldl_wf _ _ (fun s t hs => State.foldl_wf _ _ (fun s gi hs => s.pumpSc_wf _ _ hs) s hs) s h

@[simp] theorem State.releaseSecret_wf (s : State) (c : Ctx) (blob out : Nat) (h : s.mem.wf = true) :
    (s.releaseSecret c blob out).2.mem.wf = true := by
  unfold State.releaseSecret
  split
  · simpa using h
  · extract_lets b
    split
    · simpa using h
    · extract_lets ct s1 x s2
      have read : s1.mem.wf = true := by rw [State.spanDefer_mem]; exact h
      split
      · exact read
      · split
        · exact read
        · split
          · exact read
          · split
            · exact read
            · split
              · exact read
              · split
                · exact State.spanStore_wf _ _ _ _ _ _ read
                · rw [State.fenProbe_mem]; exact read

@[simp] theorem State.saveImage_wf (s : State) (ti : Nat) (h : s.mem.wf = true) : (s.saveImage ti).mem.wf = true := by
  unfold State.saveImage
  extract_lets t
  split
  · rw [State.modTeam_mem]
    exact State.foldl_wf _ _ (State.writeSlot_wf t _) _ (s.writeHeader_wf ti h)
  · exact h

@[simp] theorem State.saveMeasurement_wf (s : State) (fen : Nat) (h : s.mem.wf = true) : (s.saveMeasurement fen).mem.wf = true := by
  unfold State.saveMeasurement
  have drawn : (s.frees 64 8).2.mem.wf = true := by rw [s.frees_mem]; exact h
  exact State.guardWrite_wf _ _ _ drawn

@[simp] theorem State.scGrant_wf (s : State) (line : Nat) (h : s.mem.wf = true) : (s.scGrant line).mem.wf = true := by
  unfold State.scGrant
  split
  · exact h
  · extract_lets m u
    have kept : u.mem.wf = true := h
    split
    · exact kept
    · split
      · exact kept
      · exact State.pumpSc_wf _ _ _ (State.scAccept_wf _ _ _ _ kept)

@[simp] theorem State.scrubOne_wf (s : State) (e : ScrubEnt) (unit : Nat) (h : s.mem.wf = true) :
    (s.scrubOne e unit).mem.wf = true := by
  unfold State.scrubOne
  split
  · extract_lets pa u
    split
    · simpa using h
    · rw [State.foldl_mem _ _ (by simp)]
      exact scrubRange_wf s pa 4096 h
  · split <;> simpa using h

@[simp] theorem State.scrubStep_wf (s : State) (d : Nat) (h : s.mem.wf = true) : (s.scrubStep d).mem.wf = true := by
  unfold State.scrubStep
  grind [State.scrubEnd_mem, State.scrubOne_wf, State.setScrubber_mem]

@[simp] theorem State.txCommit_wf (s : State) (idx : Nat) (held : Bool) (h : s.mem.wf = true) :
    (s.txCommit idx held).mem.wf = true := by
  unfold State.txCommit
  grind [State.commitLane_wf, State.commitEnd_wf, State.pumpSc_wf]

@[simp] theorem State.warmState_wf (s : State) (h : s.mem.wf = true) : s.warmState.mem.wf = true := h

@[simp] theorem State.syncImage_wf (s : State) (ti : Nat) (h : s.mem.wf = true) : (s.syncImage ti).mem.wf = true := by
  unfold State.syncImage
  extract_lets t
  split
  · exact h
  · dsimp only
    refine State.foldl_wf _ _ (State.writeSlot_wf _ _) _ ?_
    exact h

@[simp] theorem State.wake_wf (s : State) (h : s.mem.wf = true) : s.wake.mem.wf = true := by
  unfold State.wake
  split
  · exact h
  · exact State.foldl_wf _ _ (fun s t hs => s.satisfy_wf _ _ hs) _ h

@[simp] theorem State.housekeep_wf (s : State) (h : s.mem.wf = true) : s.housekeep.mem.wf = true := by
  unfold State.housekeep
  dsimp only
  rw [State.foldl_mem _ _ State.keepHolder_mem, State.returnCores_mem]
  refine State.foldl_wf _ _ State.syncImage_wf _ ?_
  rw [State.dueMarks_mem]
  exact s.wake_wf h

theorem State.choose_wf (s : State) (h : s.mem.wf = true) : s.choose.2.mem.wf = true := by
  unfold State.choose
  split <;> exact s.housekeep_wf h

end Sys2Proof.Machine
end

section
/-!
PROOFS. Outcomes of words and events that hold memory in its canonical form, and what the checks and reads of a word's lanes
leave of it.
-/
namespace Sys2Proof.Machine

theorem State.recipeProbe_mem (s : State) (t : Team) : (s.recipeProbe t).mem = s.mem := by
  unfold State.recipeProbe
  split <;> [skip; rfl]
  rw [State.foldl_mem]
  intros
  split <;> simp

/-! ## Outcomes -/

/-- The state that an outcome goes on with, if it goes on, holds memory in its canonical form. -/
def Formed : Host.Outcome State Fault Refusal → Prop
  | .next t => t.mem.wf = true
  | _ => True

@[simp] theorem formed_next (t : State) : Formed (.next t) ↔ t.mem.wf = true := Iff.rfl

@[simp] theorem formed_refused (r : Refusal) : Formed (.refused r) := trivial

/-- Whatever state a word's own effect leaves, it holds memory in its canonical form. -/
def Res.Formed : Res → Prop
  | .ok s | .moved s | .hold s | .raise _ s => s.mem.wf = true
  | .stall => True

@[simp] theorem Res.formed_ok (s : State) : (Res.ok s).Formed ↔ s.mem.wf = true := Iff.rfl
@[simp] theorem Res.formed_moved (s : State) : (Res.moved s).Formed ↔ s.mem.wf = true := Iff.rfl
@[simp] theorem Res.formed_hold (s : State) : (Res.hold s).Formed ↔ s.mem.wf = true := Iff.rfl
@[simp] theorem Res.formed_raise (f : Flt) (s : State) : (Res.raise f s).Formed ↔ s.mem.wf = true := Iff.rfl
@[simp] theorem Res.formed_stall : Res.stall.Formed := trivial

theorem Res.state_wf (s0 : State) (c : Ctx) (op : Nat) (r : Res) (h0 : s0.mem.wf = true) (hr : r.Formed) :
    (r.state s0 c op).mem.wf = true := by
  cases r with
  | ok s => simpa [Res.state] using hr
  | moved s => rw [Res.state]; split <;> simpa using hr
  | stall => exact h0
  | hold s => exact hr
  | raise f s => exact s.takeFault_wf _ _ _ f hr

/-- A word keeps the form when its own effect does: faults, waits and aborts of the issue engine write no byte of memory but
what a fault record and a save slot hold. -/
theorem issue_formed (w : Word) (act : Ctx → State → Res) (s : State)
    (hact : ∀ c t, t.mem.wf = true → (act c t).Formed) (h : s.mem.wf = true) : Formed (issue w act s) := by
  unfold issue
  split
  · trivial
  next c _ =>
    split
    · exact h
    · exact s.takeFault_wf _ _ _ _ h
    · exact h
    · extract_lets c' s'
      have kept : s'.mem.wf = true := by simp only [s']; split <;> exact h
      split
      · exact kept
      · exact Res.state_wf _ _ _ _ h (hact c' s' kept)

theorem issueG_formed (w : Word) (act : Ctx → Except Flt Group) (s : State) (h : s.mem.wf = true) :
    Formed (issueG w act s) := by
  refine issue_formed w _ s (fun c t ht => ?_) h
  split <;> exact ht

/-! ## Checks of a word's lanes -/

/-- The state that a word's checks leave. -/
def checkedState {α : Type} : Except (Flt × State) (State × α) → State
  | .error e => e.2
  | .ok x => x.1

@[simp] theorem checkedState_ok {α : Type} (x : State × α) : checkedState (.ok x) = x.1 := rfl
@[simp] theorem checkedState_error {α : Type} (e : Flt × State) : checkedState (α := α) (.error e) = e.2 := rfl

theorem State.txFail_mem (s : State) (c : Ctx) (r : Rule) (l : Nat) (k : LaneChk) : (s.txFail c r l k).mem = s.mem := by
  cases k with
  | ok x => rfl
  | unsup => rfl
  | bad cause addr mc =>
    unfold State.txFail
    cases mc <;> dsimp only <;> split <;> simp

theorem State.settleLanes_mem (s : State) (c : Ctx) (r : Rule) (rs : List (Nat × Nat × LaneChk)) :
    (checkedState (s.settleLanes c r rs)).mem = s.mem := by
  unfold State.settleLanes
  extract_lets opened s1 bads
  have noted : s1.mem = s.mem := by
    refine State.foldl_mem _ _ (fun s x => ?_) s
    split
    · exact s.txFail_mem c r _ _
    · rfl
  split
  · simpa using noted
  · exact noted

theorem State.checkLanes_mem (s : State) (c : Ctx) (r : Rule) (ads : List (Nat × Nat)) :
    (checkedState (s.checkLanes c r ads)).mem = s.mem := s.settleLanes_mem c r _

theorem State.checkSpad_mem (s : State) (c : Ctx) (op n : Nat) (w : Bool) (m : Mem) :
    (checkedState (s.checkSpad c op n w m)).mem = s.mem := s.settleLanes_mem c _ _

theorem State.checkFmt_mem (s : State) (c : Ctx) (r : Rule) (m : Mem) :
    (checkedState (s.checkFmt c r m)).mem = s.mem := by
  unfold State.checkFmt
  extract_lets rs dummy
  split <;> next settled =>
    exact (congrArg (fun x => (checkedState x).mem) settled).symm.trans (s.settleLanes_mem c r _)

/-! ## Loads -/

theorem LoadAcc.txLane_mem (a : LoadAcc) (c : Ctx) (spec : LoadSpec) (l pa : Nat) : (a.txLane c spec l pa).s.mem = a.s.mem := by
  unfold LoadAcc.txLane
  split
  · rfl
  · split <;> simp

theorem LoadAcc.memLane_mem (a : LoadAcc) (c : Ctx) (spec : LoadSpec) (l va : Nat) (x : Xlate) :
    (a.memLane c spec l va x).s.mem = a.s.mem := by
  have bound := a.s.bind_mem c (spec.l1 && !x.nc) (spec.fill && !x.nc) x.pa spec.n
  unfold LoadAcc.memLane
  split
  · rfl
  next h => rw [h] at bound; exact bound
  next h => rw [h] at bound; simpa using bound

theorem LoadAcc.ioLane_mem (a : LoadAcc) (c : Ctx) (spec : LoadSpec) (l va pa : Nat) :
    (a.ioLane c spec l va pa).s.mem = a.s.mem := by
  unfold LoadAcc.ioLane
  split
  · rfl
  · split
    · rfl
    · split
      · simp
      · rfl

theorem LoadAcc.lane_mem (c : Ctx) (spec : LoadSpec) (tx : Bool) (a : LoadAcc) (y : Nat × Nat × Xlate) :
    (LoadAcc.lane c spec tx a y).s.mem = a.s.mem := by
  obtain ⟨l, va, x⟩ := y
  unfold LoadAcc.lane
  dsimp only
  split
  · rfl
  · split
    · exact a.txLane_mem c spec l x.pa
    · split
      · exact a.memLane_mem c spec l va x
      · exact a.ioLane_mem c spec l va x.pa

theorem LoadAcc.lanes_mem (c : Ctx) (spec : LoadSpec) (tx : Bool) (ls : List (Nat × Nat × Xlate)) (a : LoadAcc) :
    (ls.foldl (LoadAcc.lane c spec tx) a).s.mem = a.s.mem := by
  induction ls generalizing a with
  | nil => rfl
  | cons y ls ih => rw [List.foldl_cons, ih, LoadAcc.lane_mem]

theorem State.loadLanes_formed (s : State) (c : Ctx) (op : Nat) (spec : LoadSpec) (tx : Bool)
    (ls : List (Nat × Nat × Xlate)) (h : s.mem.wf = true) : (s.loadLanes c op spec tx ls).Formed := by
  unfold State.loadLanes
  extract_lets c' a
  have read : a.s.mem = s.mem := LoadAcc.lanes_mem _ _ _ _ _
  split
  · trivial
  · simpa [State.fresh, read] using h

theorem LoadAcc.fmtByte_mem (c : Ctx) (tx : Bool) (l va pa : Nat) (nc l1 : Bool) (a : LoadAcc × List Byte) :
    (LoadAcc.fmtByte c tx l va pa nc l1 a).1.s.mem = a.1.s.mem := by
  obtain ⟨a, bs⟩ := a
  have bound := a.s.bind_mem c (l1 && !nc) (!nc) pa 1
  unfold LoadAcc.fmtByte
  dsimp only
  split
  · rfl
  · split
    · split
      · rfl
      · split
        · rfl
        · split <;> simp
    · split
      · rfl
      next h => rw [h] at bound; exact bound
      next h => rw [h] at bound; exact bound

theorem LoadAcc.fmtBytes_mem {α : Type} (f : LoadAcc × List Byte → α → LoadAcc × List Byte)
    (hf : ∀ a x, (f a x).1.s.mem = a.1.s.mem) (xs : List α) (a : LoadAcc × List Byte) :
    (xs.foldl f a).1.s.mem = a.1.s.mem := by
  induction xs generalizing a with
  | nil => rfl
  | cons x xs ih => rw [List.foldl_cons, ih, hf]

theorem FmtLoad.lane_mem (c : Ctx) (d : Nat) (m : Mem) (f : FmtLoad) (y : Nat × FmtAcc) :
    (FmtLoad.lane c d m f y).a.s.mem = f.a.s.mem := by
  obtain ⟨l, acc⟩ := y
  unfold FmtLoad.lane
  dsimp only
  generalize hr : List.foldl _ (f.a, []) _ = r
  have read : r.1.s.mem = f.a.s.mem := by
    rw [← hr]
    exact LoadAcc.fmtBytes_mem _ (fun a x => LoadAcc.fmtByte_mem ..) _ _
  split
  · exact read
  · split
    · simpa [State.logLanes] using read
    · split <;> exact read

theorem FmtLoad.lanes_mem (c : Ctx) (d : Nat) (m : Mem) (ls : List (Nat × FmtAcc)) (f : FmtLoad) :
    (ls.foldl (FmtLoad.lane c d m) f).a.s.mem = f.a.s.mem := by
  induction ls generalizing f with
  | nil => rfl
  | cons y ls ih => rw [List.foldl_cons, ih, FmtLoad.lane_mem]

end Sys2Proof.Machine
end

section
/-!
PROOFS. Words that share their effect (loads, stores, atomics, scratchpad, copies, gates) keep memory's canonical form, stated
once per shared effect.
-/
namespace Sys2Proof.Machine

theorem formed_of_checked {α : Type} {s : State} {k r : Except (Flt × State) (State × α)}
    (hm : (checkedState k).mem = s.mem) (hk : k = r) (h : s.mem.wf = true) : (checkedState r).mem.wf = true := by
  rw [← hk, hm]
  exact h

theorem Ctx.storeFaults_formed (c : Ctx) (s : State) (k : Unit → Res) (hk : (k ()).Formed) (h : s.mem.wf = true) :
    (c.storeFaults s k).Formed := by
  unfold Ctx.storeFaults
  split
  · exact h
  · exact hk

/-! ## Words that share their effect -/

section
variable {s : State} (h : s.mem.wf = true)
include h

theorem loadWord_formed (op n : Nat) (fill : Bool) (i : Instr) (d : BitVec 7) (m : Mem) :
    Formed (loadWord op n fill i d m s) := by
  refine issue_formed _ _ s (fun c t ht => ?_) h
  split
  next hk => exact formed_of_checked (t.checkLanes_mem c _ _) hk ht
  next hk => exact State.loadLanes_formed _ _ _ _ _ _ (formed_of_checked (t.checkLanes_mem c _ _) hk ht)

theorem storeWord_formed (op : Nat) (n : Ctx → Nat) (k : StKind) (i : Instr) (d : BitVec 7) (m : Mem) :
    Formed (storeWord op n k i d m s) := by
  refine issue_formed _ _ s (fun c t ht => ?_) h
  split
  next hk => exact formed_of_checked (t.checkLanes_mem c _ _) hk ht
  next u ls hk =>
    have kept : u.mem.wf = true := formed_of_checked (t.checkLanes_mem c _ _) hk ht
    extract_lets c' go
    have queued : (go ()).Formed := by
      simp only [go, State.fresh, Res.formed_ok]
      rw [State.foldl_mem _ _ (c'.storeLane_mem _ k)]
      exact kept
    split
    · trivial
    · split
      · exact queued
      · exact c'.storeFaults_formed u _ queued kept

theorem atomWord_formed (op : Nat) (i : Instr) (ok : Nat → Bool) (f : AtomOp) (b : Src) (d a : BitVec 7) :
    Formed (atomWord op i ok f b d a s) := by
  refine issue_formed _ _ s (fun c t ht => ?_) h
  split
  next hk => exact formed_of_checked (t.checkLanes_mem c _ _) hk ht
  next u ls hk =>
    have kept : u.mem.wf = true := formed_of_checked (t.checkLanes_mem c _ _) hk ht
    dsimp only
    split
    · trivial
    · split
      · exact State.pumpSc_wf _ _ _ kept
      · exact kept

theorem spadLoad_formed (op n : Nat) (i : Instr) (d : BitVec 7) (m : Mem) : Formed (spadLoad op n i d m s) := by
  refine issue_formed _ _ s (fun c t ht => ?_) h
  split
  next hk => exact formed_of_checked (t.checkSpad_mem c op n false m) hk ht
  next hk =>
    split
    · trivial
    · exact formed_of_checked (t.checkSpad_mem c op n false m) hk ht

theorem spadStore_formed (op n : Nat) (i : Instr) (d : BitVec 7) (m : Mem) : Formed (spadStore op n i d m s) := by
  refine issue_formed _ _ s (fun c t ht => ?_) h
  split
  next hk => exact formed_of_checked (t.checkSpad_mem c op n true m) hk ht
  next hk =>
    split
    · trivial
    · exact formed_of_checked (t.checkSpad_mem c op n true m) hk ht

theorem matrixWord_formed (i : Instr) (f : Mx) : Formed (matrixWord i f s) := by
  refine issue_formed _ _ s (fun c t ht => ?_) h
  dsimp only
  split
  · simpa using ht
  · exact ht

theorem tlbiWord_formed (i : Instr) (n : BitVec 6) (f : Ctx → State → State) (hf : ∀ c t, (f c t).mem = t.mem) :
    Formed (tlbiWord i n f s) :=
  issue_formed _ _ s (fun c t ht => by rw [Res.formed_ok, hf]; exact ht) h

theorem trapWord_formed (op : Nat) (i : Instr) (cause : Nat) : Formed (trapWord op i cause s) :=
  issue_formed _ _ s (fun _ _ ht => ht) h

theorem transferWord_formed (op : Nat) (i : Instr) (ss : List Nat) (body : Bool) (target : Ctx → BitVec 57)
    (f : Ctx → Group → Group) : Formed (transferWord op i ss body target f s) :=
  issue_formed _ _ s (fun _ _ ht => ht) h

theorem migrWord_formed (i : Instr) (d a : BitVec 6) (regs : Nat) (f : Ctx → Nat → State → Res)
    (hf : ∀ c n t, t.mem.wf = true → (f c n t).Formed) : Formed (migrWord i d a regs f s) := by
  refine issue_formed _ _ s (fun c t ht => ?_) h
  split
  · exact ht
  · split
    · exact ht
    · exact hf c _ t ht

theorem attestWord_formed (i : Instr) (d a : BitVec 6) (f : State → Ctx → Nat → Nat → Nat × State)
    (hf : ∀ t c x y, t.mem.wf = true → (f t c x y).2.mem.wf = true) : Formed (attestWord i d a f s) :=
  issue_formed _ _ s (fun c t ht => hf t c _ _ ht) h

theorem gcallWord_formed (i : Instr) (pd : Nat) (ss : List Nat) (n : Ctx → Nat) : Formed (gcallWord i pd ss n s) := by
  refine issue_formed _ _ s (fun c t ht => ?_) h
  dsimp only
  split
  · exact ht
  · split
    · trivial
    · exact ht

theorem resumeWord_formed (i : Instr) (d a pr regs : Nat) (f : Ctx → Nat → Team → State → State)
    (hf : ∀ c ti x t, t.mem.wf = true → (f c ti x t).mem.wf = true) : Formed (resumeWord i d a pr regs f s) := by
  refine issue_formed _ _ s (fun c t ht => ?_) h
  split
  · exact hf c _ _ t ht
  · exact ht

theorem iodbWord_formed (i : Instr) (cq : Bool) (b : Src) (a : BitVec 6) : Formed (iodbWord i cq b a s) := by
  refine issue_formed _ _ s (fun c t ht => ?_) h
  dsimp only [State.fresh, Res.formed_ok]
  rw [State.modGroup_mem]
  split <;> exact ht

theorem planCopy_formed (c : Ctx) (op tok crd ra : Nat) (cmd : CopyCmd) (rec_ : Nat) :
    (c.planCopy op tok crd ra cmd rec_ s).Formed := by
  unfold Ctx.planCopy
  split
  · exact h
  · dsimp only
    split
    · split
      · simpa using h
      · trivial
    · exact h

theorem bulkCopy_formed (c : Ctx) (op tok lay crd : Nat) (cmd : CopyCmd) : (c.bulkCopy op tok lay crd cmd s).Formed := by
  have read (r : RecRead × State) (hr : c.readRecord op (c.grp.readS lay).toNat s = r) : r.2.mem.wf = true := by
    rw [← hr, Ctx.readRecord_mem]
    exact h
  unfold Ctx.bulkCopy
  dsimp only
  split
  · trivial
  next hr => exact read _ hr
  next hr => exact planCopy_formed (by rw [State.defer_mem]; exact read _ hr) ..
  next hr => exact planCopy_formed (read _ hr) ..

end

end Sys2Proof.Machine
end

section
/-!
PROOFS. The words with an effect of their own keep memory's canonical form.
-/
namespace Sys2Proof.Machine

/-! ## Words one by one -/

@[simp] theorem execMeas_formed (d a : BitVec 6) (s : State) (h : s.mem.wf = true) :
    Formed (execMeas d a s) := by
  refine issue_formed _ _ s (fun c t ht => ?_) h
  grind [Res.Formed, Ctx.result_mem, State.setFen_mem]

@[simp] theorem execFset_formed (d a : BitVec 6) (s : State) (h : s.mem.wf = true) :
    Formed (execFset d a s) := by
  refine issue_formed _ _ s (fun c t ht => ?_) h
  grind [Res.Formed, Ctx.result_mem, State.slotAssign_mem, State.slotRelease_mem]

@[simp] theorem execWlatch_formed (d a : BitVec 6) (s : State) (h : s.mem.wf = true) :
    Formed (execWlatch d a s) := by
  refine issue_formed _ _ s (fun c t ht => ?_) h
  grind [Res.Formed, Ctx.result_mem, State.modCore_mem, State.queueScrub_mem]

@[simp] theorem execScrub_formed (d a : BitVec 6) (s : State) (h : s.mem.wf = true) :
    Formed (execScrub d a s) := by
  refine issue_formed _ _ s (fun c t ht => ?_) h
  grind [Res.Formed, Ctx.result_mem, State.queueScrub_mem]

@[simp] theorem execKzero_formed (d a : BitVec 6) (s : State) (h : s.mem.wf = true) :
    Formed (execKzero d a s) := by
  refine issue_formed _ _ s (fun c t ht => ?_) h
  grind [Res.Formed, Ctx.result_mem, State.killFen_mem]

@[simp] theorem execKslot_formed (d a : BitVec 6) (s : State) (h : s.mem.wf = true) :
    Formed (execKslot d a s) := by
  refine issue_formed _ _ s (fun c t ht => ?_) h
  grind [Res.Formed, Ctx.result_mem, State.setFen_mem]

@[simp] theorem execGret_formed (s : State) (h : s.mem.wf = true) :
    Formed (execGret s) := by
  refine issue_formed _ _ s (fun c t ht => ?_) h
  split <;> simp_all

@[simp] theorem execLend_formed (d a : BitVec 6) (s : State) (h : s.mem.wf = true) :
    Formed (execLend d a s) := by
  refine issue_formed _ _ s (fun c t ht => ?_) h
  grind [Res.Formed, Ctx.result_mem, State.modCore_mem]

@[simp] theorem execRsub_formed (d a : BitVec 7) (b : BitVec 6) (s : State) (h : s.mem.wf = true) :
    Formed (execRsub d a b s) := by
  refine issue_formed _ _ s (fun c t ht => ?_) h
  split <;> simp_all

@[simp] theorem execEnq_formed (b : Src) (p : BitVec 3) (a : BitVec 7) (s : State) (h : s.mem.wf = true) :
    Formed (execEnq b p a s) := by
  refine issue_formed _ _ s (fun c t ht => ?_) h
  grind [Res.Formed, Ctx.acceptEnq_mem, State.setGroup_mem]

@[simp] theorem execNtbmap_formed (a : BitVec 6) (s : State) (h : s.mem.wf = true) :
    Formed (execNtbmap a s) :=
  issue_formed _ _ s (fun c t ht => ht) h

@[simp] theorem execCfgwr_formed (d a b : BitVec 6) (s : State) (h : s.mem.wf = true) :
    Formed (execCfgwr d a b s) :=
  issue_formed _ _ s (fun c t ht => ht) h

@[simp] theorem execCfgrd_formed (d a : BitVec 6) (s : State) (h : s.mem.wf = true) :
    Formed (execCfgrd d a s) :=
  issue_formed _ _ s (fun c t ht => ht) h

@[simp] theorem execPrqack_formed (a : BitVec 6) (code : BitVec 2) (s : State) (h : s.mem.wf = true) :
    Formed (execPrqack a code s) := by
  refine issue_formed _ _ s (fun c t ht => ?_) h
  split <;> simp_all

@[simp] theorem execPrqpop_formed (d : BitVec 6) (s : State) (h : s.mem.wf = true) :
    Formed (execPrqpop d s) := by
  refine issue_formed _ _ s (fun c t ht => ?_) h
  split <;> simp_all

@[simp] theorem execIounb_formed (a : BitVec 6) (s : State) (h : s.mem.wf = true) :
    Formed (execIounb a s) := by
  refine issue_formed _ _ s (fun c t ht => ?_) h
  grind [Res.Formed, State.setRemap_mem]

@[simp] theorem execIobind_formed (a : BitVec 6) (n : BitVec 4) (s : State) (h : s.mem.wf = true) :
    Formed (execIobind a n s) :=
  issue_formed _ _ s (fun c t ht => ht) h

@[simp] theorem execBtest_formed (b : Src) (p : BitVec 3) (n : BitVec 4) (s : State) (h : s.mem.wf = true) :
    Formed (execBtest b p n s) := by
  refine issue_formed _ _ s (fun c t ht => ?_) h
  grind [Res.Formed, State.raiseFloor_mem, State.setGroup_mem]

@[simp] theorem execBwait_formed (b : Src) (n : BitVec 4) (s : State) (h : s.mem.wf = true) :
    Formed (execBwait b n s) := by
  refine issue_formed _ _ s (fun c t ht => ?_) h
  grind [Res.Formed, Ctx.blocked_mem, State.raiseFloor_mem, State.setGroup_mem]

@[simp] theorem execBexp_formed (b : Src) (n : BitVec 4) (s : State) (h : s.mem.wf = true) :
    Formed (execBexp b n s) :=
  issue_formed _ _ s (fun c t ht => ht) h

@[simp] theorem execBarv_formed (d : BitVec 6) (n : BitVec 4) (s : State) (h : s.mem.wf = true) :
    Formed (execBarv d n s) :=
  issue_formed _ _ s (fun c t ht => ht) h

@[simp] theorem execBinit_formed (b : Src) (n : BitVec 4) (s : State) (h : s.mem.wf = true) :
    Formed (execBinit b n s) :=
  issue_formed _ _ s (fun c t ht => ht) h

@[simp] theorem execQpop_formed (d : BitVec 6) (n : BitVec 3) (s : State) (h : s.mem.wf = true) :
    Formed (execQpop d n s) := by
  refine issue_formed _ _ s (fun c t ht => ?_) h
  grind [Res.Formed, Ctx.blocked_mem, State.modStream_mem, State.raiseFloor_mem, State.setGroup_mem]

@[simp] theorem execQfree_formed (n : BitVec 3) (s : State) (h : s.mem.wf = true) :
    Formed (execQfree n s) :=
  issue_formed _ _ s (fun c t ht => ht) h

@[simp] theorem execQpushPub_formed (n : BitVec 3) (s : State) (h : s.mem.wf = true) :
    Formed (execQpushPub n s) :=
  issue_formed _ _ s (fun c t ht => ht) h

@[simp] theorem execQpushRes_formed (d : BitVec 6) (n : BitVec 3) (s : State) (h : s.mem.wf = true) :
    Formed (execQpushRes d n s) :=
  issue_formed _ _ s (fun c t ht => ht) h

@[simp] theorem execQcfg_formed (n : BitVec 3) (b : BitVec 6) (s : State) (h : s.mem.wf = true) :
    Formed (execQcfg n b s) :=
  issue_formed _ _ s (fun c t ht => ht) h

@[simp] theorem execCpf_formed (s : State) (h : s.mem.wf = true) :
    Formed (execCpf s) :=
  issue_formed _ _ s (fun c t ht => ht) h

@[simp] theorem execCpg_formed (d : BitVec 6) (sel : BitVec 7) (s : State) (h : s.mem.wf = true) :
    Formed (execCpg d sel s) :=
  issue_formed _ _ s (fun c t ht => ht) h

@[simp] theorem execCpl_formed (b : Src) (d a : BitVec 7) (s : State) (h : s.mem.wf = true) :
    Formed (execCpl b d a s) := by
  refine issue_formed _ _ s (fun c t ht => ?_) h
  grind [Res.Formed, State.fresh_mem, State.logBeside_mem, State.modCore_mem, State.modGroup_mem]

@[simp] theorem execMstat_formed (d : BitVec 6) (sel : BitVec 9) (s : State) (h : s.mem.wf = true) :
    Formed (execMstat d sel s) :=
  issue_formed _ _ s (fun c t ht => ht) h

@[simp] theorem execAccz_formed (ac : BitVec 6) (s : State) (h : s.mem.wf = true) :
    Formed (execAccz ac s) :=
  issue_formed _ _ s (fun c t ht => ht) h

@[simp] theorem execAccld_formed (ac : BitVec 6) (a : BitVec 7) (p : BitVec 2) (s : State) (h : s.mem.wf = true) :
    Formed (execAccld ac a p s) :=
  issue_formed _ _ s (fun c t ht => ht) h

@[simp] theorem execMgang_formed (b : BitVec 6) (s : State) (h : s.mem.wf = true) :
    Formed (execMgang b s) := by
  refine issue_formed _ _ s (fun c t ht => ?_) h
  grind [Res.Formed, State.breakGangs_wf, State.setGroup_mem]

@[simp] theorem execTxe_formed (p : BitVec 3) (d : BitVec 7) (s : State) (h : s.mem.wf = true) :
    Formed (execTxe p d s) := by
  refine issue_formed _ _ s (fun c t ht => ?_) h
  grind [Res.Formed, State.begin_mem, State.fresh_mem, State.modGroup_mem, State.raiseFloor_mem]

@[simp] theorem execXlat_formed (d : BitVec 7) (m : Mem) (s : State) (h : s.mem.wf = true) :
    Formed (execXlat d m s) := by
  refine issue_formed _ _ s (fun c t ht => ?_) h
  grind [Res.Formed, State.begin_mem, State.fresh_mem, State.logBeside_mem]

@[simp] theorem execSst_formed (d n : BitVec 6) (s : State) (h : s.mem.wf = true) :
    Formed (execSst d n s) := by
  refine issue_formed _ _ s (fun c t ht => ?_) h
  grind [Res.Formed, State.fresh_mem, State.modGroup_mem]

@[simp] theorem execSwr_formed (a : BitVec 6) (r : BitVec 9) (s : State) (h : s.mem.wf = true) :
    Formed (execSwr a r s) := by
  refine issue_formed _ _ s (fun c t ht => ?_) h
  grind [Res.Formed, State.sysWrite_wf]

@[simp] theorem execSrd_formed (d : BitVec 6) (r : BitVec 9) (s : State) (h : s.mem.wf = true) :
    Formed (execSrd d r s) :=
  issue_formed _ _ s (fun c t ht => by simpa using ht) h

@[simp] theorem execHalt_formed (s : State) (h : s.mem.wf = true) :
    Formed (execHalt s) := by
  refine issue_formed _ _ s (fun c t ht => ?_) h
  grind [Res.Formed, State.setGroup_mem]

@[simp] theorem execEret_formed (s : State) (h : s.mem.wf = true) :
    Formed (execEret s) :=
  issue_formed _ _ s (fun c t ht => ht) h

@[simp] theorem execFbpt_formed (n : BitVec 6) (s : State) (h : s.mem.wf = true) :
    Formed (execFbpt n s) :=
  issue_formed _ _ s (fun c t ht => ht) h

@[simp] theorem execWait_formed (f : BitVec 12) (s : State) (h : s.mem.wf = true) :
    Formed (execWait f s) := by
  refine issue_formed _ _ s (fun c t ht => ?_) h
  split <;> simp_all

@[simp] theorem execExit_formed (s : State) (h : s.mem.wf = true) :
    Formed (execExit s) := by
  refine issue_formed _ _ s (fun c t ht => ?_) h
  grind [Res.Formed, State.groupEnd_wf, State.setGroup_mem]

@[simp] theorem execLoop_formed (l : BitVec 2) (ci : BitVec 1) (n e : BitVec 10) (s : State) (h : s.mem.wf = true) :
    Formed (execLoop l ci n e s) := by
  refine issue_formed _ _ s (fun c t ht => ?_) h
  split <;> simp_all

@[simp] theorem execJoin_formed (s : State) (h : s.mem.wf = true) :
    Formed (execJoin s) := by
  refine issue_formed _ _ s (fun c t ht => ?_) h
  split <;> simp_all

@[simp] theorem execRecon_formed (o : BitVec 17) (s : State) (h : s.mem.wf = true) :
    Formed (execRecon o s) := by
  refine issue_formed _ _ s (fun c t ht => ?_) h
  grind [Res.Formed, State.setGroup_mem]

@[simp] theorem execGetv_formed (d : BitVec 7) (i : BitVec 9) (s : State) (h : s.mem.wf = true) :
    Formed (execGetv d i s) :=
  issue_formed _ _ s (fun c t ht => ht) h

@[simp] theorem execGets_formed (d : BitVec 6) (i : BitVec 9) (s : State) (h : s.mem.wf = true) :
    Formed (execGets d i s) :=
  issue_formed _ _ s (fun c t ht => ht) h

@[simp] theorem execReclaim_formed (d a : BitVec 6) (s : State) (h : s.mem.wf = true) :
    Formed (execReclaim d a s) := by
  refine issue_formed _ _ s (fun c t ht => ?_) h
  dsimp only
  split
  · simpa using ht
  · rw [Res.formed_ok, Ctx.result_mem, State.returnCores_mem, State.modCore_mem, State.foldl_mem _ _ (by simp)]
    exact ht

@[simp] theorem execPreempt_formed (d a : BitVec 6) (s : State) (h : s.mem.wf = true) :
    Formed (execPreempt d a s) := by
  refine issue_formed _ _ s (fun c t ht => ?_) h
  dsimp only
  rw [Res.formed_ok, Ctx.result_mem]
  refine State.ite_wf ?_ ?_ <;> simpa [State.foldl_mem] using ht

@[simp] theorem execLaunch_formed (d a : BitVec 6) (n : BitVec 7) (s : State) (h : s.mem.wf = true) :
    Formed (execLaunch d a n s) := by
  refine issue_formed _ _ s (fun c t ht => ?_) h
  dsimp only
  split
  · simpa using ht
  · split
    · simpa using ht
    · rw [Res.formed_ok, Ctx.result_mem]
      exact State.foldl_wf _ _ (fun t _ ht => State.launchOne_wf _ _ t ht) t ht

@[simp] theorem execCpx_formed (t l cr : BitVec 6) (m : BitVec 5) (s : State) (h : s.mem.wf = true) :
    Formed (execCpx t l cr m s) :=
  issue_formed _ _ s (fun _ _ ht => bulkCopy_formed ht ..) h

@[simp] theorem execCpt_formed (t l cr : BitVec 6) (b : BitVec 4) (r : BitVec 1) (s : State) (h : s.mem.wf = true) :
    Formed (execCpt t l cr b r s) :=
  issue_formed _ _ s (fun _ _ ht => bulkCopy_formed ht ..) h

@[simp] theorem execLdga_formed (d : BitVec 7) (m : Mem) (s : State) (h : s.mem.wf = true) :
    Formed (execLdga d m s) := by
  refine issue_formed _ _ s (fun c t ht => ?_) h
  split
  next hk => exact formed_of_checked (t.checkLanes_mem c _ _) hk ht
  next hk => exact State.loadLanes_formed _ _ _ _ _ _ (formed_of_checked (t.checkLanes_mem c _ _) hk ht)

@[simp] theorem execLda_formed (d : BitVec 7) (m : Mem) (s : State) (h : s.mem.wf = true) :
    Formed (execLda d m s) := by
  refine issue_formed _ _ s (fun c t ht => ?_) h
  split
  next hk => exact formed_of_checked (t.checkLanes_mem c _ _) hk ht
  next u ls hk =>
    have read := State.loadLanes_formed u c 0x120 (c.loadSpec c.syncBytes d.toNat false false) false ls
      (formed_of_checked (t.checkLanes_mem c _ _) hk ht)
    split
    next hr => rw [hr] at read; simpa using read
    next => exact read

@[simp] theorem execTxq_formed (d : BitVec 7) (s : State) (h : s.mem.wf = true) :
    Formed (execTxq d s) := by
  refine issue_formed _ _ s (fun c t ht => ?_) h
  split
  · exact ht
  · rw [Res.formed_ok, State.foldl_mem _ _ (fun s l => s.txqLane_mem c _ l)]
    exact ht

@[simp] theorem execTxr_formed (d : BitVec 7) (s : State) (h : s.mem.wf = true) :
    Formed (execTxr d s) := by
  refine issue_formed _ _ s (fun c t ht => ?_) h
  split
  · exact ht
  · rw [Res.formed_ok, State.foldl_mem _ _ (fun s l => s.txrLane_mem c _ l)]
    exact ht

@[simp] theorem execTxb_formed (s : State) (h : s.mem.wf = true) :
    Formed (execTxb s) := by
  refine issue_formed _ _ s (fun c t ht => ?_) h
  dsimp only
  split
  · exact ht
  · split
    · simpa using ht
    · rw [Res.formed_ok, State.foldl_mem _ _ (fun s l => s.txbLane_mem c l)]
      refine State.ite_wf ?_ ht
      simpa using ht

theorem parkLanes_wf (c : Ctx) (id pd : Nat) (cc : Cc) (b : Src) (ls : List (Nat × Nat × Xlate))
    (a : State × List (Nat × Bool) × List (Nat × Nat × Nat × Nat)) (h : a.1.mem.wf = true) :
    (ls.foldl (c.parkLane id pd cc b) a).1.mem.wf = true := by
  induction ls generalizing a with
  | nil => exact h
  | cons y ls ih => exact ih _ (c.parkLane_wf id pd cc b a y h)

/-- Every lane of a `park` keeps the form, and so does what the word then finds at its end. -/
@[simp] theorem execPark_formed (b : Src) (cc : Cc) (pd : BitVec 3) (a : BitVec 7) (s : State) (h : s.mem.wf = true) :
    Formed (execPark b cc pd a s) := by
  refine issue_formed _ _ s (fun c t ht => ?_) h
  split
  next hk => exact formed_of_checked (t.checkLanes_mem c _ _) hk ht
  next u ls hk =>
    have kept : u.mem.wf = true := formed_of_checked (t.checkLanes_mem c _ _) hk ht
    extract_lets c'
    split
    · trivial
    · dsimp only
      generalize hr : List.foldl (c'.parkLane _ _ cc b) _ ls = r
      have parked : r.1.mem.wf = true := by
        rw [← hr]
        exact parkLanes_wf _ _ _ _ _ _ _ kept
      obtain ⟨v, rs, bads⟩ := r
      have floored (x : State) (hx : x.mem.wf = true) (p : Prop) [Decidable p] :
          (if p then x.raiseFloor c'.ti c'.gi else x).mem.wf = true :=
        State.ite_wf (by simpa using hx) hx
      split
      · refine State.finish_wf _ _ _ _ ?_
        rw [State.modGroup_mem]
        exact floored _ (by simpa using parked) _
      · rw [Res.formed_ok, State.modGroup_mem]
        exact floored _ (by simpa using parked) _

@[simp] theorem execInv_formed (m : Mem) (s : State) (h : s.mem.wf = true) :
    Formed (execInv m s) := by
  refine issue_formed _ _ s (fun c t ht => ?_) h
  split
  next hk => exact formed_of_checked (t.checkLanes_mem c _ _) hk ht
  next u ls hk =>
    rw [Res.formed_ok, State.foldl_mem _ _ (fun s y => by split <;> simp)]
    exact formed_of_checked (t.checkLanes_mem c _ _) hk ht

@[simp] theorem execFlush_formed (m : Mem) (s : State) (h : s.mem.wf = true) :
    Formed (execFlush m s) := by
  refine issue_formed _ _ s (fun c t ht => ?_) h
  split
  next hk => exact formed_of_checked (t.checkLanes_mem c _ _) hk ht
  next u ls hk =>
    dsimp only
    split
    · exact ht
    · exact formed_of_checked (t.checkLanes_mem c _ _) hk ht

@[simp] theorem execFence_formed (k : BitVec 2) (sc : BitVec 3) (s : State) (h : s.mem.wf = true) :
    Formed (execFence k sc s) := by
  refine issue_formed _ _ s (fun c t ht => ?_) h
  extract_lets scope stores loads body
  have performed : (body ()).Formed := by
    simp only [body, Res.formed_ok]
    refine State.ite_wf ht (State.ite_wf ?_ ?_) <;> simpa using ht
  split
  · exact ht
  · split
    · simpa using ht
    · split
      · exact c.storeFaults_formed t body performed ht
      · exact performed

@[simp] theorem execPref_formed (hint : BitVec 2) (m : Mem) (s : State) (h : s.mem.wf = true) :
    Formed (execPref hint m s) := by
  refine issue_formed _ _ s (fun c t ht => ?_) h
  split
  · exact ht
  · rw [Res.formed_ok, State.foldl_mem _ _ (fun s l => ?_)]
    · exact ht
    · dsimp only
      split
      · rfl
      · split
        · split <;> simp
        · split
          · split <;> simp
          · rfl

@[simp] theorem execStsc_formed (d : BitVec 7) (m : Mem) (s : State) (h : s.mem.wf = true) :
    Formed (execStsc d m s) := by
  refine issue_formed _ _ s (fun c t ht => ?_) h
  split
  next hk => exact formed_of_checked (t.checkLanes_mem c _ _) hk ht
  next u ls hk =>
    have kept : u.mem.wf = true := formed_of_checked (t.checkLanes_mem c _ _) hk ht
    exact c.storeFaults_formed u _ (State.pumpSc_wf _ _ _ kept) kept

@[simp] theorem execLdsc_formed (d : BitVec 7) (m : Mem) (s : State) (h : s.mem.wf = true) :
    Formed (execLdsc d m s) := by
  refine issue_formed _ _ s (fun c t ht => ?_) h
  split
  next hk => exact formed_of_checked (t.checkLanes_mem c _ _) hk ht
  next u ls hk => exact State.pumpSc_wf _ _ _ (formed_of_checked (t.checkLanes_mem c _ _) hk ht)

@[simp] theorem execStf_formed (d : BitVec 7) (m : Mem) (s : State) (h : s.mem.wf = true) :
    Formed (execStf d m s) := by
  refine issue_formed _ _ s (fun c t ht => ?_) h
  split
  next hk => exact formed_of_checked (t.checkFmt_mem c _ _) hk ht
  next u ls hk =>
    dsimp only
    split
    · exact formed_of_checked (t.checkFmt_mem c _ _) hk ht
    · split
      · trivial
      · rw [Res.formed_ok, State.foldl_mem _ _ (fun s r => ?_)]
        · exact formed_of_checked (t.checkFmt_mem c _ _) hk ht
        · exact State.foldl_mem _ _ (fun s be => by split <;> simp) s

@[simp] theorem execLdf_formed (d : BitVec 7) (m : Mem) (s : State) (h : s.mem.wf = true) :
    Formed (execLdf d m s) := by
  refine issue_formed _ _ s (fun c t ht => ?_) h
  split
  next hk => exact formed_of_checked (t.checkFmt_mem c _ _) hk ht
  next u ls hk =>
    dsimp only
    split
    · exact ht
    · simp only [Res.formed_ok, State.begin_mem, State.fresh_mem, State.logLanes_mem, FmtLoad.lanes_mem]
      exact formed_of_checked (t.checkFmt_mem c _ _) hk ht

@[simp] theorem execSld_formed (d n : BitVec 6) (s : State) (h : s.mem.wf = true) :
    Formed (execSld d n s) := by
  refine issue_formed _ _ s (fun c t ht => ?_) h
  dsimp only
  split
  · exact ht
  · exact ht
  · exact State.loadLanes_formed _ _ _ _ _ _ ht

@[simp] theorem execLbrk_formed (hint : BitVec 2) (q : BitVec 3) (n : BitVec 1) (o : BitVec 17) (s : State)
    (h : s.mem.wf = true) : Formed (execLbrk hint q n o s) := by
  refine issue_formed _ _ s (fun c t ht => ?_) h
  grind [Res.Formed, State.setGroup_mem]

@[simp] theorem execBr_formed (hint : BitVec 2) (q : BitVec 3) (n : BitVec 1) (o : BitVec 17) (s : State)
    (h : s.mem.wf = true) : Formed (execBr hint q n o s) := by
  refine issue_formed _ _ s (fun c t ht => ?_) h
  grind [Res.Formed, State.setGroup_mem]

end Sys2Proof.Machine
end

section
/-!
PROOFS. The events keep memory's canonical form.
-/
namespace Sys2Proof.Machine

/-! ## Events one by one -/

@[simp] theorem execThermalShutdown_formed (die : Nat) (s : State) (h : s.mem.wf = true) :
    Formed (execThermalShutdown die s) := by
  unfold execThermalShutdown
  repeat' split
  all_goals simp [h]

@[simp] theorem execThermalRecovery_formed (s : State) (h : s.mem.wf = true) :
    Formed (execThermalRecovery s) := by
  unfold execThermalRecovery
  grind [formed_next, formed_refused, State.pwrEffect_mem]

@[simp] theorem execThermalTrip_formed (die : Nat) (s : State) (h : s.mem.wf = true) :
    Formed (execThermalTrip die s) := by
  unfold execThermalTrip
  grind [formed_next, formed_refused, State.logMc_mem, State.modDie_mem, State.pwrEffect_mem]

@[simp] theorem execThermalCap_formed (die : Nat) (s : State) (h : s.mem.wf = true) :
    Formed (execThermalCap die s) := by
  unfold execThermalCap
  grind [formed_next, formed_refused, State.modDie_mem]

@[simp] theorem execPowerCapRelease_formed (s : State) (h : s.mem.wf = true) :
    Formed (execPowerCapRelease s) := by
  unfold execPowerCapRelease
  repeat' split
  all_goals simp [h]

@[simp] theorem execPowerCapEngage_formed (s : State) (h : s.mem.wf = true) :
    Formed (execPowerCapEngage s) := by
  unfold execPowerCapEngage
  repeat' split
  all_goals simp [h]

@[simp] theorem execTimecmpEvent_formed (die : Nat) (s : State) (h : s.mem.wf = true) :
    Formed (execTimecmpEvent die s) := by
  unfold execTimecmpEvent
  grind [formed_next, formed_refused, State.modCore_mem]

@[simp] theorem execSplitEffect_formed (core : Nat) (s : State) (h : s.mem.wf = true) :
    Formed (execSplitEffect core s) := by
  simp [execSplitEffect, h]

@[simp] theorem execMclogPop_formed (die : Nat) (s : State) (h : s.mem.wf = true) :
    Formed (execMclogPop die s) := by
  unfold execMclogPop
  grind [formed_next, formed_refused, State.mcPop_mem]

@[simp] theorem execPartitionUngate_formed (pid : Nat) (s : State) (h : s.mem.wf = true) :
    Formed (execPartitionUngate pid s) := by
  simp [execPartitionUngate, h]

@[simp] theorem execPartitionGate_formed (pid : Nat) (s : State) (h : s.mem.wf = true) :
    Formed (execPartitionGate pid s) := by
  simp [execPartitionGate, h]

@[simp] theorem execPowerModeEffect_formed (s : State) (h : s.mem.wf = true) :
    Formed (execPowerModeEffect s) := h

@[simp] theorem execPowerModeWrite_formed (value : Nat) (s : State) (h : s.mem.wf = true) :
    Formed (execPowerModeWrite value s) := h

@[simp] theorem execCoreRetire_formed (die core : Nat) (s : State) (h : s.mem.wf = true) :
    Formed (execCoreRetire die core s) := by
  unfold execCoreRetire
  grind [formed_next, formed_refused, State.spareWrite_mem]

@[simp] theorem execSpareSubstitute_formed (die core : Nat) (s : State) (h : s.mem.wf = true) :
    Formed (execSpareSubstitute die core s) := by
  unfold execSpareSubstitute
  grind [formed_next, formed_refused, State.spareWrite_mem]

@[simp] theorem execSystemCoreRestart_formed (die : Nat) (s : State) (h : s.mem.wf = true) :
    Formed (execSystemCoreRestart die s) := by
  unfold execSystemCoreRestart
  grind [formed_next, formed_refused, State.restartCore_mem]

@[simp] theorem execCopyEngineAssignEffect_formed (engine : Nat) (s : State) (h : s.mem.wf = true) :
    Formed (execCopyEngineAssignEffect engine s) := by
  simp [execCopyEngineAssignEffect, h]

@[simp] theorem execCopyEngineAssign_formed (engine value : Nat) (s : State) (h : s.mem.wf = true) :
    Formed (execCopyEngineAssign engine value s) := by
  unfold execCopyEngineAssign
  grind [formed_next, formed_refused, State.engineWrite_mem]

@[simp] theorem execGateTableInvalidate_formed (s : State) (h : s.mem.wf = true) :
    Formed (execGateTableInvalidate s) := h

@[simp] theorem execPartitionUnmake_formed (first size : Nat) (s : State) (h : s.mem.wf = true) :
    Formed (execPartitionUnmake first size s) := by
  simp [execPartitionUnmake, h]

@[simp] theorem execPartitionMake_formed (first size : Nat) (s : State) (h : s.mem.wf = true) :
    Formed (execPartitionMake first size s) := by
  simp [execPartitionMake, h]

@[simp] theorem execFunctionLevelReset_formed (fn : Nat) (s : State) (h : s.mem.wf = true) :
    Formed (execFunctionLevelReset fn s) := by
  unfold execFunctionLevelReset
  repeat' split
  all_goals simp [h]

@[simp] theorem execHostDoorbellWrite_formed (fn : Nat) (s : State) (h : s.mem.wf = true) :
    Formed (execHostDoorbellWrite fn s) := by
  unfold execHostDoorbellWrite
  grind [formed_next, formed_refused, State.setEvent_mem]

@[simp] theorem execRemapWrite_formed (entry word value : Nat) (s : State) (h : s.mem.wf = true) :
    Formed (execRemapWrite entry word value s) := by
  simp [execRemapWrite, h]

@[simp] theorem execQhRetire_formed (handle : Nat) (s : State) (h : s.mem.wf = true) :
    Formed (execQhRetire handle s) := by
  unfold execQhRetire
  grind [formed_next, formed_refused, State.retireHandle_mem]

@[simp] theorem execQhLoad_formed (handle : Nat) (s : State) (h : s.mem.wf = true) :
    Formed (execQhLoad handle s) := by
  unfold execQhLoad
  grind [formed_next, formed_refused, State.loadHandle_mem]

@[simp] theorem execLegacyInterruptMessage_formed (port : Nat) (s : State) (h : s.mem.wf = true) :
    Formed (execLegacyInterruptMessage port s) := by
  unfold execLegacyInterruptMessage
  repeat' split
  all_goals simp [h]

@[simp] theorem execMsixMessage_formed (port data addr : Nat) (s : State) (h : s.mem.wf = true) :
    Formed (execMsixMessage port data addr s) := by
  unfold execMsixMessage
  grind [formed_next, formed_refused, State.message_mem]

@[simp] theorem execAtsInvalidateCompletion_formed (_fen : Nat) (s : State) (h : s.mem.wf = true) :
    Formed (execAtsInvalidateCompletion _fen s) := h

@[simp] theorem execAtsTranslationRequest_formed (port rid pasid addr : Nat) (s : State) (h : s.mem.wf = true) :
    Formed (execAtsTranslationRequest port rid pasid addr s) := by
  unfold execAtsTranslationRequest
  grind [formed_next, formed_refused, State.respond_mem, State.walkProbe_mem]

@[simp] theorem execDeviceRemoval_formed (port : Nat) (s : State) (h : s.mem.wf = true) :
    Formed (execDeviceRemoval port s) := by
  unfold execDeviceRemoval
  grind [formed_next, formed_refused, State.abortReads_mem, State.modPort_mem]

@[simp] theorem execLaneFailure_formed (port width : Nat) (s : State) (h : s.mem.wf = true) :
    Formed (execLaneFailure port width s) := by
  unfold execLaneFailure
  grind [formed_next, formed_refused, State.modDie_mem, State.modPort_mem]

@[simp] theorem execLinkPartnerDetect_formed (port rate width flit : Nat) (s : State) (h : s.mem.wf = true) :
    Formed (execLinkPartnerDetect port rate width flit s) := by
  unfold execLinkPartnerDetect
  grind [formed_next, formed_refused, State.modPort_mem]

@[simp] theorem execGroupBifurcate_formed (grp value : Nat) (s : State) (h : s.mem.wf = true) :
    Formed (execGroupBifurcate grp value s) := by
  simp [execGroupBifurcate, h]

@[simp] theorem execPortTrain_formed (port value : Nat) (s : State) (h : s.mem.wf = true) :
    Formed (execPortTrain port value s) := by
  simp [execPortTrain, h]

@[simp] theorem execParkThresholdSwap_formed (team : Nat) (s : State) (h : s.mem.wf = true) :
    Formed (execParkThresholdSwap team s) := by
  unfold execParkThresholdSwap
  grind [formed_next, formed_refused, State.haltTeam_mem]

@[simp] theorem execDoorbellWrite_formed (idx : Nat) (s : State) (h : s.mem.wf = true) :
    Formed (execDoorbellWrite idx s) := by
  unfold execDoorbellWrite
  grind [formed_next, formed_refused, State.ring_mem]

@[simp] theorem execAcczApply_formed (core op : Nat) (s : State) (h : s.mem.wf = true) :
    Formed (execAcczApply core op s) := by
  unfold execAcczApply
  grind [formed_next, formed_refused, State.modCore_mem, State.modTeam_mem, State.sedgeFinish_mem]

@[simp] theorem execWavefrontComplete_formed (core op : Nat) (s : State) (h : s.mem.wf = true) :
    Formed (execWavefrontComplete core op s) := by
  unfold execWavefrontComplete
  grind [formed_next, formed_refused, State.free_mem, State.modCore_mem, State.modGroup_mem, State.modTeam_mem,
    State.sedgeFinish_mem]

@[simp] theorem execStoreQueueDrain_formed (team group : Nat) (s : State) (h : s.mem.wf = true) :
    Formed (execStoreQueueDrain team group s) := by
  unfold execStoreQueueDrain
  grind [formed_next, formed_refused, State.enterOrder_mem, State.modGroup_mem]

@[simp] theorem execPageWalkComplete_formed (core fen va : Nat) (s : State) (h : s.mem.wf = true) :
    Formed (execPageWalkComplete core fen va s) := by
  unfold execPageWalkComplete
  grind [formed_next, formed_refused, State.fillTlb_mem]

@[simp] theorem execChannelRetire_formed (die slice ch : Nat) (s : State) (h : s.mem.wf = true) :
    Formed (execChannelRetire die slice ch s) := by
  unfold execChannelRetire
  grind [formed_next, formed_refused, State.chretWrite_wf]

@[simp] theorem execIodbMark_formed (idx : Nat) (s : State) (h : s.mem.wf = true) :
    Formed (execIodbMark idx s) := by
  unfold execIodbMark
  grind [formed_next, formed_refused, State.dueMarks_mem, State.mark_mem, State.startMark_wf]

@[simp] theorem execDeviceReadCompletionTimeout_formed (team group op : Nat) (s : State) (h : s.mem.wf = true) :
    Formed (execDeviceReadCompletionTimeout team group op s) := by
  unfold execDeviceReadCompletionTimeout
  grind [formed_next, formed_refused, State.deviceEnd_mem, State.pumpSc_wf]

@[simp] theorem execRegisterWrite_formed (pa value : Nat) (s : State) (h : s.mem.wf = true) :
    Formed (execRegisterWrite pa value s) := by
  unfold execRegisterWrite
  grind [formed_next, formed_refused, State.regWrite_wf]

@[simp] theorem execWarmReset_formed (s : State) (h : s.mem.wf = true) :
    Formed (execWarmReset s) := by
  simp [execWarmReset, h]

@[simp] theorem execColdReset_formed (s : State) (h : s.mem.wf = true) :
    Formed (execColdReset s) := by
  simp [execColdReset, h]

@[simp] theorem execFirmwareHandover_formed (s : State) (h : s.mem.wf = true) :
    Formed (execFirmwareHandover s) := by
  unfold execFirmwareHandover
  grind [formed_next, formed_refused, State.handover_wf]

@[simp] theorem execFenMeasurementSave_formed (fen : Nat) (s : State) (h : s.mem.wf = true) :
    Formed (execFenMeasurementSave fen s) := by
  unfold execFenMeasurementSave
  grind [formed_next, formed_refused, State.saveMeasurement_wf, State.setFen_mem]

@[simp] theorem execScrubResume_formed (die : Nat) (s : State) (h : s.mem.wf = true) :
    Formed (execScrubResume die s) := by
  unfold execScrubResume
  grind [formed_next, formed_refused, State.scrubStep_wf, State.setScrubber_mem]

@[simp] theorem execScrubUnit_formed (die : Nat) (s : State) (h : s.mem.wf = true) :
    Formed (execScrubUnit die s) := by
  unfold execScrubUnit
  grind [formed_next, formed_refused, State.scrubStep_wf]

@[simp] theorem execDstHoldClear_formed (pid word value : Nat) (s : State) (h : s.mem.wf = true) :
    Formed (execDstHoldClear pid word value s) := by
  unfold execDstHoldClear
  grind [formed_next, formed_refused, State.dstWrite_wf]

@[simp] theorem execDstFqrdWrite_formed (pid value : Nat) (s : State) (h : s.mem.wf = true) :
    Formed (execDstFqrdWrite pid value s) := by
  simp [execDstFqrdWrite, h]

@[simp] theorem execDstFqbaseWrite_formed (pid value : Nat) (s : State) (h : s.mem.wf = true) :
    Formed (execDstFqbaseWrite pid value s) := by
  simp [execDstFqbaseWrite, h]

@[simp] theorem execDstJbaseWrite_formed (pid value : Nat) (s : State) (h : s.mem.wf = true) :
    Formed (execDstJbaseWrite pid value s) := by
  simp [execDstJbaseWrite, h]

@[simp] theorem execDstQueueWrite_formed (pid queue word value : Nat) (s : State) (h : s.mem.wf = true) :
    Formed (execDstQueueWrite pid queue word value s) := by
  unfold execDstQueueWrite
  grind [formed_next, formed_refused, State.dstWrite_wf]

@[simp] theorem execCfgCompletionTimeout_formed (idx : Nat) (s : State) (h : s.mem.wf = true) :
    Formed (execCfgCompletionTimeout idx s) := by
  unfold execCfgCompletionTimeout
  grind [formed_next, formed_refused, State.cfgAnswer_wf]

@[simp] theorem execCfgCompletion_formed (idx status data : Nat) (s : State) (h : s.mem.wf = true) :
    Formed (execCfgCompletion idx status data s) := by
  unfold execCfgCompletion
  grind [formed_next, formed_refused, State.cfgAnswer_wf]

@[simp] theorem execNtbIncomingRequest_formed (port addr len data flags : Nat) (s : State) (h : s.mem.wf = true) :
    Formed (execNtbIncomingRequest port addr len data flags s) := by
  unfold execNtbIncomingRequest
  grind [formed_next, formed_refused, State.peerAccess_wf, State.requestProbe_mem, State.unsupported_mem]

@[simp] theorem execDeviceMemoryRequest_formed (port rid pasid addr len data flags : Nat) (s : State) (h : s.mem.wf = true) :
    Formed (execDeviceMemoryRequest port rid pasid addr len data flags s) := by
  unfold execDeviceMemoryRequest
  grind [formed_next, formed_refused, State.deviceAccess_wf, State.message_mem, State.requestProbe_mem,
    State.unsupported_mem]

@[simp] theorem execTeamRetire_formed (team : Nat) (s : State) (h : s.mem.wf = true) :
    Formed (execTeamRetire team s) := by
  unfold execTeamRetire
  grind [formed_next, formed_refused, State.modCore_mem, State.modPart_mem, State.tryFinish_wf]

@[simp] theorem execTeamPlace_formed (pid : Nat) (s : State) (h : s.mem.wf = true) :
    Formed (execTeamPlace pid s) := by
  unfold execTeamPlace
  grind [formed_next, formed_refused, State.place_wf]

@[simp] theorem execReorderFlushTimeout_formed (pid idx : Nat) (s : State) (h : s.mem.wf = true) :
    Formed (execReorderFlushTimeout pid idx s) := by
  unfold execReorderFlushTimeout
  grind [formed_next, formed_refused, State.launchBin_wf]

@[simp] theorem execEnqRecordCopy_formed (idx : Nat) (s : State) (h : s.mem.wf = true) :
    Formed (execEnqRecordCopy idx s) := by
  unfold execEnqRecordCopy
  grind [formed_next, formed_refused, State.failLate_wf, State.judge_wf, State.modGroup?_mem, State.modPart_mem,
    State.ownWrite_wf, State.unlock_mem]

@[simp] theorem execCopyComplete_formed (op : Nat) (s : State) (h : s.mem.wf = true) :
    Formed (execCopyComplete op s) := by
  unfold execCopyComplete
  grind [formed_next, formed_refused, CopyOp.run_wf]

@[simp] theorem execRendezvousClose_formed (team idx : Nat) (s : State) (h : s.mem.wf = true) :
    Formed (execRendezvousClose team idx s) := by
  unfold execRendezvousClose
  grind [formed_next, formed_refused, State.acceptAll_mem, State.modTeam_mem, State.raiseArrived_wf,
    State.retireArrived_mem]

@[simp] theorem execTxCommit_formed (idx held : Nat) (s : State) (h : s.mem.wf = true) :
    Formed (execTxCommit idx held s) := by
  simp [execTxCommit, h]

@[simp] theorem execScReservationGrant_formed (line : Nat) (s : State) (h : s.mem.wf = true) :
    Formed (execScReservationGrant line s) := by
  simp [execScReservationGrant, h]

@[simp] theorem execAtomicApply_formed (core idx : Nat) (s : State) (h : s.mem.wf = true) :
    Formed (execAtomicApply core idx s) := by
  unfold execAtomicApply
  grind [formed_next, formed_refused, State.applyAtomic_wf, State.leave_mem, State.pumpCore_wf]

@[simp] theorem execStoreApply_formed (core idx : Nat) (s : State) (h : s.mem.wf = true) :
    Formed (execStoreApply core idx s) := by
  unfold execStoreApply
  grind [formed_next, formed_refused, State.applyStore_wf, State.leave_mem, State.pumpCore_wf]

@[simp] theorem execLoadDataArrive_formed (team group op sel : Nat) (s : State) (h : s.mem.wf = true) :
    Formed (execLoadDataArrive team group op sel s) := by
  unfold execLoadDataArrive
  grind [formed_next, formed_refused, State.arrive_wf, State.pumpSc_wf]

@[simp] theorem execClauseHeader_formed (w : BitVec 12) (a b n : BitVec 4) (y cap : BitVec 1) (s : State) (h : s.mem.wf = true) :
    Formed (execClauseHeader w a b n y cap s) := by
  unfold execClauseHeader
  grind [formed_next, formed_refused, State.enterHeader_wf, State.takeFault_wf]

@[simp] theorem execFeatOk_formed (lo hi : Nat) (s : State) (h : s.mem.wf = true) :
    Formed (execFeatOk lo hi s) := by
  dsimp only [execFeatOk]
  exact State.ite_wf h (State.ite_wf h h)

@[simp] theorem execPageRequestMessage_formed (port rid pasid addr acc prgi last : Nat) (s : State) (h : s.mem.wf = true) :
    Formed (execPageRequestMessage port rid pasid addr acc prgi last s) := by
  unfold execPageRequestMessage
  split
  · exact h
  · split
    · exact h
    · split
      next taken => rw [formed_next, State.prqTake_mem _ _ _ taken]; exact h
      next => simpa using h

@[simp] theorem execTimeSliceExpiry_formed (pid : Nat) (s : State) (h : s.mem.wf = true) :
    Formed (execTimeSliceExpiry pid s) := by
  unfold execTimeSliceExpiry
  split
  · exact h
  · split
    · rw [formed_next, State.foldl_mem _ _ (by simp)]
      exact h
    · exact h

@[simp] theorem execExpanderWriteComplete_formed (idx : Nat) (s : State) (h : s.mem.wf = true) :
    Formed (execExpanderWriteComplete idx s) := by
  unfold execExpanderWriteComplete
  split
  · split <;> exact h
  · exact h

@[simp] theorem execContextSaveComplete_formed (team : Nat) (s : State) (h : s.mem.wf = true) :
    Formed (execContextSaveComplete team s) := by
  unfold execContextSaveComplete
  split
  · exact h
  · split
    · exact h
    · exact State.saveImage_wf _ _ (by rw [State.setTeam_mem, State.recipeProbe_mem]; exact h)

@[simp] theorem execLinkDataLoss_formed (link : Nat) (intact lost : List Nat) (s : State) (h : s.mem.wf = true) :
    Formed (execLinkDataLoss link intact lost s) := by
  unfold execLinkDataLoss
  split
  · exact h
  · refine State.foldl_wf _ _ (fun t ti ht => t.mcTeam_wf _ _ ti ht) _
      (State.foldl_wf _ _ (fun t ti ht => t.mcTeam_wf _ _ ti ht) _ ?_)
    rw [State.logMc_mem]
    exact h

@[simp] theorem execCoreUncorrectableError_formed (core how : Nat) (s : State) (h : s.mem.wf = true) :
    Formed (execCoreUncorrectableError core how s) := by
  unfold execCoreUncorrectableError
  split
  · exact h
  · refine State.foldl_wf _ _ (fun t x ht => t.mcTeam_wf _ _ _ ht) _ ?_
    rw [State.logMc_mem]
    exact h

@[simp] theorem execCplComplete_formed (op : Nat) (s : State) (h : s.mem.wf = true) :
    Formed (execCplComplete op s) := by
  unfold execCplComplete
  split
  · exact h
  next o _ =>
    split
    · exact h
    · extract_lets bads filled freed done counted logged
      have kept : logged.mem.wf = true := by
        simp only [logged, counted, done, freed, filled, State.logLanes_mem, State.modGroup?_mem, State.unlock_mem]
        split
        · rw [State.foldl_mem _ _ (fun s x => o.lane_mem s x)]
          exact h
        · exact h
      split
      · exact State.failLate_wf _ _ _ _ kept
      · exact kept

@[simp] theorem execScStampRollover_formed (s : State) (h : s.mem.wf = true) :
    Formed (execScStampRollover s) := by
  unfold execScStampRollover
  split
  · extract_lets zero cleared clear emptied restarted
    have kept : restarted.mem.wf = true := by
      have same : cleared.mem = s.mem := State.foldl_mem _ _ (by simp) s
      simpa [restarted, emptied, Memory.wf, same] using h
    exact State.foldl_wf _ _ (fun t x ht => State.foldl_wf _ _ (fun t gi ht => t.pumpSc_wf _ _ ht) t ht) _ kept
  · exact h

@[simp] theorem execParkTimeout_formed (idx : Nat) (s : State) (h : s.mem.wf = true) :
    Formed (execParkTimeout idx s) := by
  unfold execParkTimeout
  split
  · exact h
  · split
    · exact State.parkResult_wf _ _ _ _ _ _ _ h
    · exact h

end Sys2Proof.Machine
end

section
/-!
PROOFS. Each instruction, each cycle and each step keep memory's canonical form (O60).
-/
namespace Sys2Proof.Machine

/-! ## Words that hand their own effect to a shared one -/

section
variable {s : State} (h : s.mem.wf = true)
include h

@[simp] theorem execMigrLoad_formed (d a : BitVec 6) : Formed (execMigrLoad d a s) := by
  refine migrWord_formed h _ _ _ _ _ (fun c i t ht => ?_)
  dsimp only
  split
  · simpa using ht
  · split
    · exact ht
    · rw [Res.formed_ok, Ctx.result_mem]
      exact State.migrLoad_wf _ _ _ _ (by simpa using ht)

@[simp] theorem execMigrSave_formed (d a : BitVec 6) : Formed (execMigrSave d a s) := by
  refine migrWord_formed h _ _ _ _ _ (fun c i t ht => ?_)
  grind [Res.Formed, Ctx.result_mem, State.migrSave_wf]

@[simp] theorem execMigrSet_formed (d a : BitVec 6) : Formed (execMigrSet d a s) := by
  refine migrWord_formed h _ _ _ _ _ (fun c i t ht => ?_)
  grind [Res.Formed, Ctx.result_mem, State.migrSet_mem]

@[simp] theorem execAttestRelease_formed (d a : BitVec 6) : Formed (execAttestRelease d a s) :=
  attestWord_formed h _ _ _ _ fun t c x y ht => t.releaseSecret_wf c x y ht

@[simp] theorem execAttestEphemeral_formed (d a : BitVec 6) : Formed (execAttestEphemeral d a s) :=
  attestWord_formed h _ _ _ _ fun t c x y ht => t.attest_wf c x y true ht

@[simp] theorem execAttestEvidence_formed (d a : BitVec 6) : Formed (execAttestEvidence d a s) :=
  attestWord_formed h _ _ _ _ fun t c x y ht => t.attest_wf c x y false ht

@[simp] theorem execResumeEnd_formed (d a : BitVec 6) : Formed (execResumeEnd d a s) :=
  resumeWord_formed h _ _ _ _ _ _ fun c ti x t ht => by simpa using ht

@[simp] theorem execResumeSkipArgs_formed (d a : BitVec 6) : Formed (execResumeSkipArgs d a s) :=
  resumeWord_formed h _ _ _ _ _ _ fun _ _ _ _ ht => ht

@[simp] theorem execResumeSkip_formed (d a : BitVec 6) : Formed (execResumeSkip d a s) :=
  resumeWord_formed h _ _ _ _ _ _ fun _ _ _ _ ht => ht

@[simp] theorem execResumeRestart_formed (d a : BitVec 6) : Formed (execResumeRestart d a s) :=
  resumeWord_formed h _ _ _ _ _ _ fun _ _ _ _ ht => ht

/-! Words that change their group alone. -/

theorem uni2_formed (op : Nat) (i : Instr) (b : Src) (d a : BitVec 6) (f : W64 → W64 → W64) :
    Formed (uni2 op i b d a f s) :=
  issueG_formed _ _ s h

theorem predW_formed (op : Nat) (i : Instr) (d : BitVec 3) (f : Group → W32) :
    Formed (predW op i d f s) :=
  issueG_formed _ _ s h

theorem vec_formed (op : Nat) (i : Instr) (ok : Nat → Bool) (b : Src) (d a : BitVec 7)
    (f : Env → Nat → Nat → Nat → Nat → Nat × Flags) :
    Formed (vec op i ok b d a f s) :=
  issueG_formed _ _ s h

theorem vec1_formed (op : Nat) (i : Instr) (ok : Nat → Bool) (d a : BitVec 7) (f : Env → Nat → Nat → Nat × Flags) :
    Formed (vec1 op i ok d a f s) :=
  issueG_formed _ _ s h

theorem vecRaw_formed (op : Nat) (i : Instr) (b : Src) (d a : BitVec 7) (f : Nat → Nat → Nat → Nat → Nat) :
    Formed (vecRaw op i b d a f s) :=
  issueG_formed _ _ s h

theorem vecCmp_formed (op : Nat) (i : Instr) (ok : Nat → Bool) (b : Src) (cc : Cc) (pd : BitVec 3) (a : BitVec 7)
    (fl : Val → Val → Flags) :
    Formed (vecCmp op i ok b cc pd a fl s) :=
  issueG_formed _ _ s h

theorem vecSpecial_formed (op : Nat) (i : Instr) (d a : BitVec 7) :
    Formed (vecSpecial op i d a s) :=
  issueG_formed _ _ s h

theorem vecCvt_formed (op : Nat) (i : Instr) (d a : BitVec 7) (dst src : BitVec 3) (cty : Ctx → Nat) :
    Formed (vecCvt op i d a dst src cty s) :=
  issueG_formed _ _ s h

theorem vecPack_formed (op : Nat) (i : Instr) (d a b : BitVec 7) (f : Nat → List Nat → List Nat → List Nat) :
    Formed (vecPack op i d a b f s) :=
  issueG_formed _ _ s h

theorem vecMove_formed (op : Nat) (i : Instr) (d a : BitVec 7) (b : Src) (source : Ctx → Nat → Nat) :
    Formed (vecMove op i d a b source s) :=
  issueG_formed _ _ s h

theorem vecReduce_formed (op : Nat) (i : Instr) (d a : BitVec 7) (o : BitVec 3) (sel : Nat → Nat → Bool) :
    Formed (vecReduce op i d a o sel s) :=
  issueG_formed _ _ s h

end

/-! ## Every instruction -/

theorem exec_formed (i : Instr) (s : State) (h : s.mem.wf = true) : Formed (exec i s) := by
  cases i
  case nop | setm | yield | scmp | ssel | smov | smovi | smovh | smovx | smovy | sclz | spop | pany | pall | pmov
        | vmovi | vmovh | cbld | cbst | vball | vmatch | vrnd | vseed | parkt | txa | mcfg | mcomp =>
    simp only [exec]
    exact issueG_formed _ _ s h
  case sadd | ssub | smul | smulh | sand | sor | sxor | sshl | sshr | ssra | smin | smax =>
    simp only [exec]
    exact uni2_formed h ..
  case pand | por | pxor | pnot =>
    simp only [exec]
    exact predW_formed h ..
  case vadd | vsub | vmul | vmulh | vmad | vdiv | vrem | vmin | vmax | vshl | vshr | vsra | vbfx | vbfi | vfadd
        | vfsub | vfmul | vfma | vfmin | vfmax | vfdiv =>
    simp only [exec]
    exact vec_formed h ..
  case vabs | vneg | vclz | vpop | vbrev | vfclass | vfrnd | vsqrt =>
    simp only [exec]
    exact vec1_formed h ..
  case vand | vor | vxor | vnot | vsel | vmov =>
    simp only [exec]
    exact vecRaw_formed h ..
  case vcmp | vfcmp =>
    simp only [exec]
    exact vecCmp_formed h ..
  case vrcp | vrsq | vexp2 | vlog2 | vsin | vcos | vtanh | vsigm =>
    simp only [exec]
    exact vecSpecial_formed h ..
  case vcvt | vcbq =>
    simp only [exec]
    exact vecCvt_formed h ..
  case vpack | vunpack =>
    simp only [exec]
    exact vecPack_formed h ..
  case vshf | vrot | vbcst | vrd =>
    simp only [exec]
    exact vecMove_formed h ..
  case vred | vscan =>
    simp only [exec]
    exact vecReduce_formed h ..
  case jmp | jr | call | ret =>
    simp only [exec]
    exact transferWord_formed h ..
  case trap | sys =>
    simp only [exec]
    exact trapWord_formed h ..
  case ldb | ldh | ldw | ldd | ldq | ldnx =>
    simp only [exec]
    exact loadWord_formed h ..
  case stb | sth | stw | std | stq | stl | stnx =>
    simp only [exec]
    exact storeWord_formed h ..
  case ldsw | ldsd | ldsq =>
    simp only [exec]
    exact spadLoad_formed h ..
  case stsw | stsd | stsq =>
    simp only [exec]
    exact spadStore_formed h ..
  case tlbiPage | tlbiFen | tlbiAll =>
    simp only [exec]
    exact tlbiWord_formed h _ _ _ (fun _ _ => State.invalidate_mem ..)
  case aadd | aand | aor | axor | amin | amax | axchg | ainc | afadd | acas =>
    simp only [exec]
    exact atomWord_formed h ..
  case mma | mmas | mmaw =>
    simp only [exec]
    exact matrixWord_formed h ..
  case iodb | iodbCq =>
    simp only [exec]
    exact iodbWord_formed h ..
  case gcallImm | gcallReg =>
    simp only [exec]
    exact gcallWord_formed h ..
  all_goals simp [h]

/-! ## A step -/

theorem State.cycleWord_wf (ti : Nat) (s : State) (w : Nat × Nat) (h : s.mem.wf = true) :
    (State.cycleWord ti s w).mem.wf = true := by
  unfold State.cycleWord
  extract_lets s'
  split
  next ended => exact State.fetched_wf s' _ h ended
  next => exact h
  next i _ =>
    have kept := exec_formed i s' h
    split
    next done => rwa [done] at kept
    next => exact h

theorem State.cycle_wf (s : State) (ti : Nat) (words : List (Nat × Nat)) (h : s.mem.wf = true) :
    (s.cycle ti words).mem.wf = true := by
  unfold State.cycle
  split
  · exact s.together_wf _ (fun t ht => State.foldl_wf _ _ (fun u w hu => u.cycleWord_wf ti w hu) t ht) h
  · exact h

/-- Every choice of a step keeps memory in its canonical form. -/
theorem step_formed (s : State) (h : s.mem.wf = true) : Formed (step s) := by
  have chosen := s.choose_wf h
  unfold step
  split
  · trivial
  · split
    next s1 hc =>
      rw [hc] at chosen
      dsimp only
      split
      next i _ => exact exec_formed i _ chosen
      next t ended => exact State.fetched_wf _ t (by exact chosen) ended
      next => trivial
    next s1 hc =>
      rw [hc] at chosen
      exact s1.cycle_wf _ _ chosen
    next i s1 hc =>
      rw [hc] at chosen
      split
      · exact chosen
      · exact exec_formed i s1 chosen
    next x s1 hc =>
      rw [hc] at chosen
      exact s1.input_wf x chosen

/-- Settles O60: each word, event and input keeps the form of memory. -/
theorem stepKeepsMemoryForm : Obligations.StepKeepsMemoryForm := by
  unfold Obligations.StepKeepsMemoryForm
  intro s t h stepped
  have kept := step_formed s h
  rwa [stepped] at kept

end Sys2Proof.Machine
end

section
/-!
PROOFS. Words over lanes (R48, R175, R204): the issuing group and what a word of one group keeps, the checks of lanes without an
open transaction, and the entries that such lanes queue.
-/
namespace Sys2Proof.Machine

/-! ## The issuing group -/

@[simp] theorem State.group_modGroup (s : State) (ti gi : Nat) (f : Group → Group) :
    (s.modGroup ti gi f).group ti gi = f (s.group ti gi) := s.group_setGroup ti gi _

theorem State.modGroup_modGroup (s : State) (ti gi : Nat) (f g : Group → Group) :
    (s.modGroup ti gi f).modGroup ti gi g = s.modGroup ti gi fun x => g (f x) :=
  s.modGroup_setGroup ti gi _ g

theorem State.retire_modGroup (s : State) (c : Ctx) (op : Nat) (f : Group → Group) :
    (s.modGroup c.ti c.gi f).retire c op = s.modGroup c.ti c.gi fun g => (f g).retire c.ei op :=
  s.modGroup_modGroup c.ti c.gi f _

theorem State.retire_setGroup (s : State) (c : Ctx) (op : Nat) (g : Group) :
    (s.setGroup c.ti c.gi g).retire c op = s.after c op g := s.modGroup_setGroup c.ti c.gi g _

/-- A change of the issuing group that is no change. -/
theorem State.modGroup_self (s : State) (c : Ctx) (h : s.ctx = some c) (f : Group → Group) (hf : f c.grp = c.grp) :
    s.modGroup c.ti c.gi f = s := by
  rw [State.modGroup, s.ctx_group c h, hf, s.setGroup_self c h]

theorem State.modGroup_congr (s : State) (ti gi : Nat) {f g : Group → Group} (h : f (s.group ti gi) = g (s.group ti gi)) :
    s.modGroup ti gi f = s.modGroup ti gi g := by
  rw [State.modGroup, h, State.modGroup]

theorem State.group_setGroup_other (s : State) (ti gi a b : Nat) (g : Group) (h : a ≠ ti ∨ b ≠ gi) :
    (s.setGroup ti gi g).group a b = s.group a b := by
  unfold State.group State.setGroup
  by_cases ha : a = ti
  · have hb : b ≠ gi := by tauto
    rw [ha, State.team_setTeam, Team.group_setGroup_other _ _ _ _ hb]
  · rw [State.team_setTeam_other _ _ _ _ ha]

/-- The context read again from the state that it issues in is itself. -/
@[simp] theorem Ctx.refresh_self (c : Ctx) (s : State) (h : s.ctx = some c) : c.refresh s = c := by
  rw [Ctx.refresh, s.ctx_group c h]

/-! ## What a word of one group keeps -/

theorem State.keeps_self (s : State) (ti gi : Nat) : s.keeps s ti gi :=
  ⟨rfl, rfl, fun _ _ _ => rfl, fun _ => ⟨rfl, rfl, rfl, rfl⟩⟩

/-- Tables that stand beside the memory, the guard and the teams do not matter. -/
theorem State.keeps_of_eq {t u s : State} {ti gi : Nat} (h : u.keeps s ti gi) (mem : t.mem = u.mem) (guard : t.guard = u.guard)
    (teams : t.teams = u.teams) : t.keeps s ti gi := by
  have team (a : Nat) : t.team a = u.team a := by simp only [State.team, teams]
  obtain ⟨hm, hg, ho, ht⟩ := h
  refine ⟨mem.trans hm, guard.trans hg, fun a b hab => ?_, fun a => ?_⟩
  · rw [State.group, team, ← ho a b hab, State.group]
  · rw [team]
    exact ht a

theorem State.keeps_setGroup {t s : State} {ti gi : Nat} (h : t.keeps s ti gi) (g : Group) :
    (t.setGroup ti gi g).keeps s ti gi := by
  obtain ⟨hm, hg, ho, ht⟩ := h
  refine ⟨hm, hg, fun a b hab => ?_, fun a => ?_⟩
  · rw [State.group_setGroup_other _ _ _ _ _ _ hab, ho a b hab]
  · by_cases ha : a = ti
    · subst ha
      rw [State.setGroup, State.team_setTeam]
      exact ht a
    · rw [State.setGroup, State.team_setTeam_other _ _ _ _ ha]
      exact ht a

theorem State.keeps_modGroup {t s : State} {ti gi : Nat} (h : t.keeps s ti gi) (f : Group → Group) :
    (t.modGroup ti gi f).keeps s ti gi := State.keeps_setGroup h _

theorem State.keeps_retire {t s : State} {c : Ctx} (h : t.keeps s c.ti c.gi) (op : Nat) :
    (t.retire c op).keeps s c.ti c.gi := State.keeps_modGroup h _

theorem State.keeps_foldl {α : Type} {s : State} {ti gi : Nat} (f : State → α → State)
    (hf : ∀ t x, State.keeps t s ti gi → (f t x).keeps s ti gi) (l : List α) (t : State) (h : t.keeps s ti gi) :
    (l.foldl f t).keeps s ti gi := by
  induction l generalizing t with
  | nil => exact h
  | cons x l ih => exact ih _ (hf t x h)

/-! ## Lanes without an open transaction -/

/-- No active lane has an open transaction. -/
def Ctx.closed (c : Ctx) : Prop := c.active &&& c.grp.txOpen = 0

theorem SMap.mem_of_find {α : Type} {m : SMap α} {k : Nat} {x : α} (h : m.find k = some x) : (k, x) ∈ m := by
  induction m with
  | nil => cases h
  | cons e m ih =>
    rw [SMap.find] at h
    split at h
    next hk => cases h; subst hk; exact List.mem_cons_self ..
    next => exact List.mem_cons_of_mem _ (ih h)

theorem Ctx.closed_lane {c : Ctx} (h : c.active &&& c.grp.txOpen = 0) {l : Nat} (hl : l ∈ c.lanes) :
    (c.grp.txLane l).state ≠ .opened := by
  intro opened
  obtain ⟨small, active⟩ := (mem_lanesOf _ _).1 hl
  have listed : l ∈ (c.grp.tx.filter fun e => e.2.state = .opened).map (·.1) := by
    rw [Group.txLane, SMap.get] at opened
    cases hf : c.grp.tx.find l with
    | none => rw [hf] at opened; cases opened
    | some x =>
      rw [hf] at opened
      exact List.mem_map.2 ⟨(l, x), List.mem_filter.2 ⟨SMap.mem_of_find hf, by simpa using opened⟩, rfl⟩
  have both := congrArg (·.getLsbD l) h
  simp [active, Group.txOpen, getLsbD_maskOf _ _ small] at both
  simp at listed
  exact both _ listed.choose_spec.1 listed.choose_spec.2

/-- The addresses of a word belong to its active lanes. -/
theorem Ctx.lane_of_addresses {c : Ctx} {m : Mem} {a : Nat × Nat} (h : a ∈ c.addresses m) : a.1 ∈ c.lanes := by
  obtain ⟨l, hl, rfl⟩ := List.mem_map.1 h
  exact hl

theorem Ctx.lane_of_pointers {c : Ctx} {r : BitVec 7} {a : Nat × Nat} (h : a ∈ c.pointers r) : a.1 ∈ c.lanes := by
  obtain ⟨l, hl, rfl⟩ := List.mem_map.1 h
  exact hl

/-- Checks of lanes without an open transaction leave the state, and answer for those lanes alone (R175, R204). -/
theorem State.settleLanes_closed {s s1 : State} {c : Ctx} {r : Rule} {rs : List (Nat × Nat × LaneChk)}
    {ls : List (Nat × Nat × Xlate)} (h : c.active &&& c.grp.txOpen = 0) (hl : ∀ x ∈ rs, x.1 ∈ c.lanes)
    (checked : s.settleLanes c r rs = .ok (s1, ls)) : s1 = s ∧ ∀ y ∈ ls, (y.1, y.2.1, LaneChk.ok y.2.2) ∈ rs := by
  have noted : rs.foldl (fun s x => if (c.grp.txLane x.1).state = .opened then s.txFail c r x.1 x.2.2 else s) s = s := by
    revert hl
    clear checked
    induction rs with
    | nil => intro _; rfl
    | cons x rs ih =>
      intro hl
      rw [List.foldl_cons, if_neg (Ctx.closed_lane h (hl x (List.mem_cons_self ..)))]
      exact ih fun y hy => hl y (List.mem_cons_of_mem _ hy)
  unfold State.settleLanes at checked
  dsimp only at checked
  rw [noted] at checked
  split at checked
  · cases checked
  · cases checked
    refine ⟨rfl, fun y hy => ?_⟩
    obtain ⟨⟨l, va, k⟩, hx, hk⟩ := List.mem_filterMap.1 hy
    cases k with
    | ok t => cases hk; exact hx
    | unsup => cases hk
    | bad => cases hk

theorem State.checkLanes_closed {s s1 : State} {c : Ctx} {r : Rule} {ads : List (Nat × Nat)}
    {ls : List (Nat × Nat × Xlate)} (h : c.active &&& c.grp.txOpen = 0) (hl : ∀ a ∈ ads, a.1 ∈ c.lanes)
    (checked : s.checkLanes c r ads = .ok (s1, ls)) : s1 = s ∧ ∀ y ∈ ls, y.1 ∈ c.lanes := by
  have lanes (x : Nat × Nat × LaneChk)
      (hx : x ∈ ads.map fun a => (a.1, a.2, s.chk c r (decide ((c.grp.txLane a.1).state = .opened)) a.2)) : x.1 ∈ c.lanes := by
    obtain ⟨a, ha, rfl⟩ := List.mem_map.1 hx
    exact hl a ha
  obtain ⟨same, from_⟩ := State.settleLanes_closed h lanes checked
  exact ⟨same, fun y hy => lanes _ (from_ y hy)⟩

theorem State.checkSpad_closed {s s1 : State} {c : Ctx} {op n : Nat} {w : Bool} {m : Mem}
    {ls : List (Nat × Nat × Xlate)} (h : c.active &&& c.grp.txOpen = 0) (checked : s.checkSpad c op n w m = .ok (s1, ls)) :
    s1 = s ∧ ∀ y ∈ ls, y.1 ∈ c.lanes ∧ s.chkSpad c n w y.2.1 = .ok y.2.2 := by
  obtain ⟨same, from_⟩ := State.settleLanes_closed h (fun x hx => by
    obtain ⟨a, ha, rfl⟩ := List.mem_map.1 hx
    exact Ctx.lane_of_addresses ha) checked
  refine ⟨same, fun y hy => ?_⟩
  obtain ⟨⟨l, va⟩, ha, hk⟩ := List.mem_map.1 (from_ y hy)
  obtain ⟨hl, hva, hc⟩ : l = y.1 ∧ va = y.2.1 ∧ s.chkSpad c n w va = .ok y.2.2 := by simpa using hk
  subst hl hva
  exact ⟨Ctx.lane_of_addresses ha, hc⟩

/-! ## Queued stores -/

/-- Entries join the group's store queue. -/
def Group.queue (g : Group) (es : List StoreEnt) : Group := { g with sq := g.sq ++ es }

@[simp] theorem Group.queue_nil (g : Group) : g.queue [] = g := by simp [Group.queue]

@[simp] theorem Group.queue_queue (g : Group) (es fs : List StoreEnt) : (g.queue es).queue fs = g.queue (es ++ fs) := by
  simp [Group.queue]

/-- A store of a lane without an open transaction joins its group's queue. -/
theorem State.putStore_closed (s : State) (c : Ctx) (e : StoreEnt) (h : (c.grp.txLane e.lane).state ≠ .opened) :
    s.putStore c e = s.modGroup c.ti c.gi fun g => g.queue [e] := by
  rw [State.putStore, if_neg h]
  rfl

theorem State.putStore_modGroup (s : State) (c : Ctx) (f0 : Group → Group) (e : StoreEnt)
    (h : (c.grp.txLane e.lane).state ≠ .opened) :
    (s.modGroup c.ti c.gi f0).putStore c e = s.modGroup c.ti c.gi fun g => (f0 g).queue [e] := by
  rw [State.putStore_closed _ _ _ h, State.modGroup_modGroup]

/-- Steps that queue entries queue them in order. -/
theorem State.foldl_queue {α : Type} (s : State) (c : Ctx) (f : State → α → State) (ent : α → List StoreEnt) (l : List α)
    (hf : ∀ f0 x, x ∈ l → f (s.modGroup c.ti c.gi f0) x =
      s.modGroup c.ti c.gi fun g => (f0 g).queue (ent x)) (f0 : Group → Group) :
    l.foldl f (s.modGroup c.ti c.gi f0) =
      s.modGroup c.ti c.gi fun g => (f0 g).queue (l.flatMap ent) := by
  induction l generalizing f0 with
  | nil => simp
  | cons x l ih =>
    rw [List.foldl_cons, hf _ _ (List.mem_cons_self ..), ih (fun f0 y hy => hf f0 y (List.mem_cons_of_mem _ hy))]
    simp

/-! ## Words with a memory operand -/

/-- A word of the load and store format that may issue does its own effect. -/
theorem memWord_go (op : Nat) (i : Instr) (n : Ctx → Nat) (load : Bool) (d : BitVec 7) (m : Mem) (act : Ctx → State → Res)
    (c : Ctx) (s : State) (legal : wellFormed i = true)
    (h : c.MayIssue s op (d.toNat :: m.vs) ((if n c = 8 then [d.toNat] else []) ++ m.pairs) m.ss)
    (quad : n c = 16 → d.toNat % 4 = 0 ∨ (load = true ∧ d.toNat = 127)) :
    issue (memW op i n load d m) act s = .next ((act c s).state s c op) := by
  refine issue_go (memW op i n load d m) act s c _ _ _ rfl rfl rfl h legal rfl ?_ rfl
  refine if_neg fun hq => ?_
  obtain ⟨wide, odd, stays⟩ := hq
  rcases quad wide with even | free
  · exact odd even
  · exact stays free

end Sys2Proof.Machine
end

section
/-!
PROOFS. Stores (R168, R171, R175, R177): the outcome of a store word, and the obligation.
-/
namespace Sys2Proof.Machine

/-! ## Stores (R168, R171, R175, R177) -/

theorem Ctx.storeFaults_none {c : Ctx} (s : State) {k : Unit → Res} (h : c.dueStore = none) : c.storeFaults s k = k () := by
  rw [Ctx.storeFaults, h]

theorem Ctx.storeFaults_due {c : Ctx} (s : State) {k : Unit → Res} {x : Deferred} (h : c.dueStore = some x) :
    c.storeFaults s k = .raise x.flt (s.modGroup c.ti c.gi fun g => g.dropDeferred x) := by
  rw [Ctx.storeFaults, h]

/-- The effect of a store whose lanes pass their checks and that need not wait. -/
theorem storeWord_go (op n : Nat) (bytes : Ctx → Nat) (k : StKind) (i : Instr) (d : BitVec 7) (m : Mem) (c : Ctx) (s s1 : State)
    (ls : List (Nat × Nat × Xlate)) (legal : wellFormed i = true) (hn : bytes c = n) (hr : bytes (c.refresh s1) = n)
    (h : c.MayIssue s op (d.toNat :: m.vs) ((if n = 8 then [d.toNat] else []) ++ m.pairs) m.ss)
    (quad : n = 16 → d.toNat % 4 = 0)
    (checked : s.checkLanes c { op := op, bytes := n, r := false, w := true, kind := 2, tx := k = .plain } (c.addresses m)
      = .ok (s1, ls))
    (calm : s1.storeMustWait (c.refresh s1) = false) :
    storeWord op bytes k i d m s = .next (Res.state s c op
      (if k = .plain then .ok ((ls.map fun y => (y.1, y.2.1, y.2.2.pa, whole ((c.refresh s1).grp.dataBytes y.1 d.toNat n))).foldl
        ((c.refresh s1).storeLane s1.nextId k) { s1 with nextId := s1.nextId + 1 })
      else (c.refresh s1).storeFaults s1 fun _ =>
        .ok ((ls.map fun y => (y.1, y.2.1, y.2.2.pa, whole ((c.refresh s1).grp.dataBytes y.1 d.toNat n))).foldl
          ((c.refresh s1).storeLane s1.nextId k) { s1 with nextId := s1.nextId + 1 }))) := by
  subst hn
  rw [storeWord, memWord_go op i bytes false d m _ c s legal h (fun wide => .inl (quad wide))]
  simp only [checked, calm, hr, State.fresh, Bool.false_eq_true, if_false]

/-- A store's queue entries, one for each lane. -/
theorem storeLanes_closed (c : Ctx) (s : State) (word : Nat) (k : StKind) (d : Nat) (n : Nat) (ls : List (Nat × Nat × Xlate))
    (own : s.ctx = some c) (hl : ∀ y ∈ ls, (c.grp.txLane y.1).state ≠ .opened) :
    (ls.map fun y => (y.1, y.2.1, y.2.2.pa, whole (c.grp.dataBytes y.1 d n))).foldl (c.storeLane word k) s =
      s.modGroup c.ti c.gi fun g => { g with
        sq := g.sq ++ ls.map fun (y : Nat × Nat × Xlate) =>
          c.storeEnt word y.1 y.2.1 y.2.2.pa (whole (c.grp.dataBytes y.1 d n)) k } := by
  have queued := State.foldl_queue s c
    (fun s (y : Nat × Nat × Xlate) => c.storeLane word k s (y.1, y.2.1, y.2.2.pa, whole (c.grp.dataBytes y.1 d n)))
    (fun y => [c.storeEnt word y.1 y.2.1 y.2.2.pa (whole (c.grp.dataBytes y.1 d n)) k]) ls
    (fun f0 y hy => s.putStore_modGroup c f0 _ (hl y hy)) id
  rwa [s.modGroup_self c own id rfl, ← List.map_eq_flatMap, ← List.foldl_map] at queued

/-- The words of a store, and what each stores. -/
theorem storeForm_word {c : Ctx} {i : Instr} {op n : Nat} {k : StKind} {d : BitVec 7} {m : Mem}
    (h : storeForm c i = some (op, n, k, d, m)) :
    ∃ bytes : Ctx → Nat, bytes c = n ∧ (∀ s, bytes (c.refresh s) = n) ∧ ∀ s, exec i s = storeWord op bytes k i d m s := by
  cases i <;> simp only [storeForm, Option.some.injEq, Prod.mk.injEq, reduceCtorEq] at h
  case stb | sth | stw | std | stq | stnx | stl =>
    obtain ⟨rfl, rfl, rfl, rfl, rfl⟩ := h
    exact ⟨_, rfl, fun _ => rfl, fun _ => rfl⟩

/-- Settles O23: the word's own effect, the case in which its lanes leave the state, and a failure that is due. -/
theorem storeWordResult : Obligations.StoreWordResult := by
  unfold Obligations.StoreWordResult
  intro i op n k d m c s s1 ls form legal h quad checked calm
  obtain ⟨bytes, hn, hr, word⟩ := storeForm_word form
  have go := storeWord_go op n bytes k i d m c s s1 ls legal hn (hr s1) h quad checked calm
  have own : k = .plain ∨ (c.refresh s1).dueStore = none → exec i s = .next (((ls.map fun y =>
      (y.1, y.2.1, y.2.2.pa, whole ((c.refresh s1).grp.dataBytes y.1 d.toNat n))).foldl
      ((c.refresh s1).storeLane s1.nextId k) { s1 with nextId := s1.nextId + 1 }).retire c op) := by
    intro plain
    rw [word s, go]
    by_cases hk : k = .plain
    · rw [if_pos hk, Res.state]
    · rw [if_neg hk, Ctx.storeFaults_none _ (plain.resolve_left hk), Res.state]
  refine ⟨own, fun plain closed => ?_, fun x ordered due => ?_⟩
  · obtain ⟨same, lanes⟩ := State.checkLanes_closed closed (fun _ => Ctx.lane_of_addresses) checked
    subst same
    rw [c.refresh_self s1 h.issuer] at own
    rw [own plain, storeLanes_closed c { s1 with nextId := s1.nextId + 1 } s1.nextId k d.toNat n ls h.issuer
      fun y hy => Ctx.closed_lane closed (lanes y hy)]
  · rw [word s, go, if_neg ordered, Ctx.storeFaults_due _ due, Res.state]
    rfl

end Sys2Proof.Machine
end

section
/-!
PROOFS. Scratchpad words (R155, R174), atomics and sequentially consistent accesses (R176, R189, R190, R192): their outcomes, and
the two obligations.
-/
namespace Sys2Proof.Machine

/-! ## Scratchpad words (R155, R174) -/

/-- What a scratchpad offset that passes its checks lies inside. -/
theorem State.chkSpad_ok {s : State} {c : Ctx} {n : Nat} {w : Bool} {o : Nat} {x : Xlate} (h : s.chkSpad c n w o = .ok x) :
    o % n = 0 ∧ o + n ≤ c.team.nspad * 16384 := by
  unfold State.chkSpad at h
  split at h
  · cases h
  · split at h
    · cases h
    next aligned inside => exact ⟨by simpa using aligned, Nat.le_of_not_lt inside⟩

/-- A scratchpad load or store as its form gives it. -/
theorem spadForm_word {i : Instr} {op n : Nat} {w : Bool} {d : BitVec 7} {m : Mem} (h : spadForm i = some (op, n, w, d, m)) :
    ∀ s, exec i s = if w then spadStore op n i d m s else spadLoad op n i d m s := by
  cases i <;> simp only [spadForm, Option.some.injEq, Prod.mk.injEq, reduceCtorEq] at h
  case ldsw | ldsd | ldsq | stsw | stsd | stsq =>
    obtain ⟨rfl, rfl, rfl, rfl, rfl⟩ := h
    exact fun _ => rfl

/-- Settles O25: loads and stores go through the checks of their lanes, and a lane that passes lies inside the scratchpad. -/
theorem scratchpadWordResult : Obligations.ScratchpadWordResult := by
  unfold Obligations.ScratchpadWordResult
  intro i op n w d m c s ls form legal h quad closed calm checked
  have word := spadForm_word form s
  refine ⟨fun hw => ?_, fun hw => ?_, fun l o x hy => ?_⟩
  · subst hw
    have even : n = 16 → d.toNat % 4 = 0 ∨ (true = true ∧ d.toNat = 127) := fun wide =>
      (quad wide).imp_right fun free => ⟨rfl, congrArg BitVec.toNat free.2⟩
    rw [word, if_neg Bool.false_ne_true, spadLoad, memWord_go op i (fun _ => n) true d m _ c s legal h even]
    simp only [checked, calm, Bool.false_eq_true, if_false, Res.state, State.modGroup,
      s.ctx_group c h.issuer, State.retire_setGroup, regsOf]
  · subst hw
    have even : n = 16 → d.toNat % 4 = 0 ∨ (false = true ∧ d.toNat = 127) := fun wide =>
      (quad wide).imp_right fun free => absurd free.1.symm Bool.false_ne_true
    rw [word, if_pos rfl, spadStore, memWord_go op i (fun _ => n) false d m _ c s legal h even]
    simp only [checked, calm, Bool.false_eq_true, if_false, Res.state]
  · obtain ⟨hl, hc⟩ := (State.checkSpad_closed closed checked).2 _ hy
    exact ⟨hl, State.chkSpad_ok hc⟩

/-! ## Atomics and sequentially consistent accesses (R176, R189, R190, R192) -/

/-- An atomic as its form gives it: its word, and the types that it accepts. -/
theorem atomForm_word {i : Instr} {op : Nat} {tys : List Nat} {f : AtomOp} {b : Src} {d a : BitVec 7}
    (h : atomForm i = some (op, tys, f, b, d, a)) :
    ∃ ok : Nat → Bool, (∀ ty, ok ty = decide (ty ∈ tys)) ∧ ∀ s, exec i s = atomWord op i ok f b d a s := by
  cases i <;> simp only [atomForm, Option.some.injEq, Prod.mk.injEq, reduceCtorEq] at h
  case aadd | amin | amax | ainc =>
    obtain ⟨rfl, rfl, rfl, rfl, rfl, rfl⟩ := h
    exact ⟨hbInt, fun ty => by simp only [hbInt, List.mem_cons, List.not_mem_nil, or_false]; grind, fun _ => rfl⟩
  case aand | aor | axor | axchg | acas =>
    obtain ⟨rfl, rfl, rfl, rfl, rfl, rfl⟩ := h
    exact ⟨hbType, fun ty => by simp only [hbType, List.mem_cons, List.not_mem_nil, or_false]; grind, fun _ => rfl⟩
  case afadd =>
    obtain ⟨rfl, rfl, rfl, rfl, rfl, rfl⟩ := h
    exact ⟨hbFloat, fun ty => by simp [hbFloat], fun _ => rfl⟩

/-- The effect of an atomic whose lanes pass their checks and that need not wait. -/
theorem atomWord_go (op : Nat) (i : Instr) (ok : Nat → Bool) (f : AtomOp) (b : Src) (d a : BitVec 7) (c : Ctx) (s : State)
    (ls : List (Nat × Nat × Xlate)) (legal : wellFormed i = true)
    (h : c.MayIssue s op (a.toNat :: d.toNat :: b.vs) (a.toNat :: if tyPair c.ty then d.toNat :: b.vs else []) b.ss)
    (accepts : ok c.ty = true) (calm : s.storeMustWait c = false)
    (checked : s.checkLanes c (hbRule c op) (c.pointers a) = .ok (s, ls)) :
    let begun := { s with nextId := s.nextId + 1 }.begin c.ti c.gi
      { Pending.new s.nextId (c.flagNo op) with waiting := ls.length }
    let kind := fun l => StKind.atomic f c.ty (BitVec.ofNat 64 (c.laneB c.ty b l))
      (BitVec.ofNat 64 (c.grp.readOp c.ty l d.toNat)) s.nextId l d.toNat (decide (c.grp.ord = 1))
    atomWord op i ok f b d a s = .next ((if c.grp.ord = 2 then
      (begun.modGroup c.ti c.gi fun g => { g with
        scq := g.scq ++ ls.map fun (y : Nat × Nat × Xlate) =>
          { c.scReq y.1 y.2.1 y.2.2.pa (tyWidth c.ty / 8) none s.nextId d.toNat with
            atom := some (kind y.1) } }).pumpSc c.ti c.gi
      else begun.modGroup c.ti c.gi fun g => { g with
        sq := g.sq ++ ls.map fun (y : Nat × Nat × Xlate) =>
          c.storeEnt s.nextId y.1 y.2.1 y.2.2.pa (whole (bytesLE (tyWidth c.ty / 8) 0)) (kind y.1) }).retire c op) := by
  intro begun kind
  have same := c.refresh_self s h.issuer
  rw [atomWord, issue_go (hbW op i ok [d.toNat] b a) _ s c _ _ _ rfl rfl rfl h legal (if_pos accepts) rfl rfl]
  simp only [checked, same, calm, Bool.false_eq_true, if_false, State.fresh]
  by_cases two : c.grp.ord = 2
  · simp only [two, if_true, Res.state, begun, kind]
    rfl
  · simp only [two, if_false, Res.state, begun, kind]
    rfl

theorem Group.ord_eq_iff (g : Group) (x : BitVec 2) : g.ord = x.toNat ↔ g.hbc.extractLsb' 32 2 = x := by
  rw [Group.ord, BitVec.toNat_inj]

/-- Settles O26: the atomics from their common effect, and the two sequentially consistent accesses each from its own. -/
theorem atomicAndScWordResult : Obligations.AtomicAndScWordResult := by
  unfold Obligations.AtomicAndScWordResult
  intro c s ls closed
  refine ⟨fun i op tys f b d a form legal h => ?_, fun d m => ⟨fun legal h checked => ?_, fun legal h checked due => ?_⟩⟩
  · obtain ⟨ok, accepts, word⟩ := atomForm_word form
    refine ⟨fun refused => ?_, fun accepted calm checked => ?_⟩
    · rw [word s]
      exact issue_pre (hbW op i ok [d.toNat] b a) _ s c _ _ _ _ rfl rfl h legal (if_neg (by simp [accepts, refused]))
    · have go := atomWord_go op i ok f b d a c s ls legal h (by simp [accepts, accepted]) calm checked
      have one : decide (c.grp.ord = 1) = decide (c.grp.hbc.extractLsb' 32 2 = 1) := decide_eq_decide.2 (c.grp.ord_eq_iff 1)
      have two : c.grp.ord = 2 ↔ c.grp.hbc.extractLsb' 32 2 = 2 := c.grp.ord_eq_iff 2
      rw [one] at go
      refine ⟨fun other => ?_, fun sc => ?_⟩
      · rw [word s, go, if_neg (mt two.1 other)]
      · rw [word s, go, if_pos (two.2 sc)]
  · have even : c.syncBytes = 16 → d.toNat % 4 = 0 ∨ (true = true ∧ d.toNat = 127) := by
      unfold Ctx.syncBytes
      split <;> simp
    rw [exec_ldsc, execLdsc, memWord_go 0x122 (.ldsc d m) Ctx.syncBytes true d m _ c s legal h even]
    simp only [Ctx.syncBytes, checked, State.fresh, Res.state]
  · have even : c.syncBytes = 16 → d.toNat % 4 = 0 ∨ (false = true ∧ d.toNat = 127) := by
      unfold Ctx.syncBytes
      split <;> simp
    rw [exec_stsc, execStsc, memWord_go 0x123 (.stsc d m) Ctx.syncBytes false d m _ c s legal h even]
    simp only [Ctx.syncBytes, checked, Ctx.storeFaults_none _ due, State.fresh, Res.state]

end Sys2Proof.Machine
end

section
/-!
PROOFS. Formatted accesses (R152, R153, R173): a word's advance does not look at its group's outstanding work, checks and reads
leave memory, guard and teams, and each stored element queues its entry; the obligation follows.
-/
namespace Sys2Proof.Machine

/-! ## Group state that a word's advance does not look at -/

/-- A group with the outstanding work of another: its transactions, clause flags, operations, queues, causes and waits, and
its predicates. -/
def Group.withWork (g h : Group) : Group :=
  { g with
    tx := h.tx, cf := h.cf, pend := h.pend, sq := h.sq, scq := h.scq, deferred := h.deferred, block := h.block
    floor := h.floor, joined := h.joined, p := h.p }

theorem Group.freeUp_withWork (g h : Group) (i : Nat) : (g.withWork h).freeUp i = (g.freeUp i).withWork h := by
  unfold Group.freeUp
  dsimp only [Group.withWork]
  split <;> rfl

theorem Group.closeFrame_withWork (g h : Group) (i : Nat) : (g.withWork h).closeFrame i = (g.closeFrame i).withWork h := by
  unfold Group.closeFrame
  dsimp only [Group.withWork]
  split <;> rfl

theorem Group.arrive_withWork (g h : Group) (ei : Nat) (e : Splinter) (fi : Nat) (f : Frame) :
    (g.withWork h).arrive ei e fi f = (g.arrive ei e fi f).withWork h := by
  simp only [Group.arrive, Group.freeUp_withWork]
  rfl

theorem Group.setEntry_closeFrame_withWork (g h : Group) (ei fi : Nat) (e : Splinter) :
    ((g.withWork h).setEntry ei e).closeFrame fi = ((g.setEntry ei e).closeFrame fi).withWork h :=
  Group.closeFrame_withWork (g.setEntry ei e) h fi

theorem Group.complete_withWork (g h : Group) (ei fi : Nat) (f : Frame) :
    (g.withWork h).complete ei fi f = (g.complete ei fi f).withWork h := by
  have count (lc : W32) : (g.withWork h).writeLC f.lc.toNat lc = (g.writeLC f.lc.toNat lc).withWork h := rfl
  have left : (g.withWork h).readLC f.lc.toNat = g.readLC f.lc.toNat := rfl
  unfold Group.complete
  split
  · simp only [count, left]
    split
    · rfl
    · exact Group.setEntry_closeFrame_withWork _ h ei fi _
  · exact Group.setEntry_closeFrame_withWork g h ei fi _

theorem Group.release_withWork (g h : Group) (ei fi : Nat) (f : Frame) :
    (g.withWork h).release ei fi f = (g.release ei fi f).withWork h := Group.setEntry_closeFrame_withWork g h ei fi _

theorem Group.settle1_withWork (g h : Group) : (g.withWork h).settle1 = g.settle1.map (·.withWork h) := by
  have arriving (e : Splinter) : (g.withWork h).arriving e = g.arriving e := rfl
  have free : (g.withWork h).freeEntry = g.freeEntry := rfl
  have entries : (g.withWork h).entries = g.entries := rfl
  have frames : (g.withWork h).frames = g.frames := rfl
  simp only [Group.settle1, arriving, free, entries, frames]
  split
  · rw [Option.map_some, Group.arrive_withWork]
  · split
    · rw [Option.map_some, Group.closeFrame_withWork]
    · split
      · rfl
      · split
        · rw [Option.map_some, Group.complete_withWork]
        · simp only [Option.map_map, Function.comp_def, Group.release_withWork]

theorem Group.settle_withWork (g h : Group) : (g.withWork h).settle = g.settle.withWork h := by
  unfold Group.settle
  generalize 64 = n
  induction n generalizing g with
  | zero => rfl
  | succ n ih =>
    simp only [iterOpt, Group.settle1_withWork]
    cases g.settle1 with
    | none => rfl
    | some x => exact ih x

theorem Group.retire_withWork (g h : Group) (ei op : Nat) : (g.withWork h).retire ei op = (g.retire ei op).withWork h := by
  have advance (x : Group) (e : Splinter) : (x.withWork h).advance ei e = (x.advance ei e).withWork h :=
    Group.settle_withWork (x.setEntry ei e.next) h
  have cleared : (if fbClears op then { g.withWork h with fb := none } else g.withWork h)
      = (if fbClears op then { g with fb := none } else g).withWork h := by split <;> rfl
  unfold Group.retire
  rw [cleared]
  generalize (if fbClears op then { g with fb := none } else g) = x
  have entries : (x.withWork h).entries = x.entries := rfl
  dsimp only
  rw [entries]
  split
  · exact advance x _
  · rfl

/-- A word's advance leaves the outstanding work. -/
theorem Group.retire_work (g : Group) (ei op : Nat) : g.retire ei op = (g.retire ei op).withWork g :=
  g.retire_withWork g ei op

/-- A group that differs from another in its outstanding work alone has the other's registers after its word. -/
theorem Group.sameRegs_retire {g h : Group} (work : g = h.withWork g) (p : g.p = h.p) (ei op : Nat) :
    (g.retire ei op).sameRegs (h.retire ei op) := by
  have kept : (h.retire ei op).p = h.p := by rw [h.retire_work]; rfl
  rw [work, Group.retire_withWork]
  exact ⟨rfl, rfl, p.trans kept.symm, rfl, rfl, rfl, rfl, rfl, rfl, rfl, rfl, rfl⟩

/-! ## Reading for a group -/

/-- Reading for a group changes nothing of memory, of the guard, of another group or of a team; of the group it may change
the state of its transactions. -/
def State.reads (t s : State) (ti gi : Nat) : Prop :=
  t.keeps s ti gi ∧ ∃ tx, t.group ti gi = { s.group ti gi with tx := tx }

theorem State.keeps_trans {u t s : State} {ti gi : Nat} (h : u.keeps t ti gi) (k : t.keeps s ti gi) : u.keeps s ti gi := by
  obtain ⟨hm, hg, ho, ht⟩ := h
  obtain ⟨km, kg, ko, kt⟩ := k
  refine ⟨hm.trans km, hg.trans kg, fun a b hab => (ho a b hab).trans (ko a b hab), fun a => ?_⟩
  obtain ⟨h1, h2, h3, h4⟩ := ht a
  obtain ⟨k1, k2, k3, k4⟩ := kt a
  exact ⟨h1.trans k1, h2.trans k2, h3.trans k3, h4.trans k4⟩

theorem State.reads_self (s : State) (ti gi : Nat) : s.reads s ti gi := ⟨s.keeps_self ti gi, _, rfl⟩

theorem State.reads_trans {u t s : State} {ti gi : Nat} (h : u.reads t ti gi) (k : t.reads s ti gi) : u.reads s ti gi := by
  obtain ⟨hk, x, hx⟩ := h
  obtain ⟨kk, y, hy⟩ := k
  exact ⟨State.keeps_trans hk kk, x, by rw [hx, hy]⟩

/-- What leaves memory, guard and teams is a reading. -/
theorem State.reads_of_eq {t s : State} (ti gi : Nat) (mem : t.mem = s.mem) (guard : t.guard = s.guard)
    (teams : t.teams = s.teams) : t.reads s ti gi :=
  ⟨State.keeps_of_eq (s.keeps_self ti gi) mem guard teams, (s.group ti gi).tx, by simp only [State.group, State.team, teams]⟩

theorem State.reads_setTx (s : State) (ti gi l : Nat) (x : TxLane) : (s.modGroup ti gi fun g => g.setTx l x).reads s ti gi :=
  ⟨State.keeps_modGroup (s.keeps_self ti gi) _, _, s.group_modGroup ti gi _⟩

theorem State.reads_abortLane (s : State) (ti gi cause detail l : Nat) :
    (s.modGroup ti gi fun g => g.abortLane cause detail l).reads s ti gi :=
  ⟨State.keeps_modGroup (s.keeps_self ti gi) _, _, s.group_modGroup ti gi _⟩

/-! ## Checks note, and leave what an acquire waits for -/

/-- A check of a word's lanes notes findings and aborts transactions: it reads, and it leaves what an acquire waits for. -/
structure State.notes (t s : State) (ti gi : Nat) : Prop where
  reads : t.reads s ti gi
  nextId : t.nextId = s.nextId
  txops : t.txops = s.txops
  order : ∀ k, (t.core k).cso = (s.core k).cso
  core : ∀ a, (t.team a).core = (s.team a).core

theorem State.notes_self (s : State) (ti gi : Nat) : s.notes s ti gi :=
  ⟨s.reads_self ti gi, rfl, rfl, fun _ => rfl, fun _ => rfl⟩

theorem State.notes_trans {u t s : State} {ti gi : Nat} (h : u.notes t ti gi) (k : t.notes s ti gi) : u.notes s ti gi :=
  ⟨State.reads_trans h.reads k.reads, h.nextId.trans k.nextId, h.txops.trans k.txops,
    fun c => (h.order c).trans (k.order c), fun a => (h.core a).trans (k.core a)⟩

theorem State.notes_foldl {α : Type} {ti gi : Nat} (f : State → α → State)
    (hf : ∀ t x, (f t x).notes t ti gi) (l : List α) (s : State) : (l.foldl f s).notes s ti gi := by
  induction l generalizing s with
  | nil => exact s.notes_self ti gi
  | cons x l ih => exact State.notes_trans (ih _) (hf s x)

theorem State.core_setEvent_cso (s : State) (d b k : Nat) : ((s.setEvent d b).core k).cso = (s.core k).cso := by
  by_cases hk : k = sysCore d
  · rw [hk, State.setEvent, State.core_modCore]
  · rw [State.setEvent, State.core_modCore_other _ _ _ _ hk]

theorem State.setEvent_notes (s : State) (d b ti gi : Nat) : (s.setEvent d b).notes s ti gi :=
  ⟨State.reads_of_eq ti gi rfl rfl rfl, rfl, rfl, s.core_setEvent_cso d b, fun _ => rfl⟩

theorem State.logMem_notes (s : State) (cause pa : Nat) (team : Bool) (ti gi : Nat) : (s.logMem cause pa team).notes s ti gi :=
  State.notes_trans (State.setEvent_notes ..)
    ⟨State.reads_of_eq ti gi rfl rfl rfl, rfl, rfl, fun _ => rfl, fun _ => rfl⟩

theorem State.prqPost_notes (s : State) (src acc fen va ti gi : Nat) : (s.prqPost src acc fen va).notes s ti gi := by
  unfold State.prqPost
  split
  next t tag taken =>
    unfold State.prqTake at taken
    split at taken
    · cases taken
      exact State.notes_trans (State.notes_foldl _ (fun t d => t.setEvent_notes d _ ti gi) _ _)
        ⟨State.reads_of_eq ti gi rfl rfl rfl, rfl, rfl, fun _ => rfl, fun _ => rfl⟩
    · cases taken
  next => exact ⟨State.reads_of_eq ti gi rfl rfl rfl, rfl, rfl, fun _ => rfl, fun _ => rfl⟩

theorem State.core_setGroup (s : State) (ti gi a : Nat) (g : Group) : ((s.setGroup ti gi g).team a).core = (s.team a).core := by
  by_cases ha : a = ti
  · rw [ha, State.setGroup, State.team_setTeam]
    rfl
  · rw [State.setGroup, State.team_setTeam_other _ _ _ _ ha]

theorem State.abortLane_notes (s : State) (ti gi cause detail l : Nat) :
    (s.modGroup ti gi fun g => g.abortLane cause detail l).notes s ti gi :=
  ⟨s.reads_abortLane ti gi cause detail l, rfl, rfl, fun _ => rfl, fun a => s.core_setGroup ti gi a _⟩

theorem State.txFail_notes (s : State) (c : Ctx) (r : Rule) (l : Nat) (k : LaneChk) : (s.txFail c r l k).notes s c.ti c.gi := by
  cases k with
  | ok x => exact s.notes_self _ _
  | unsup => exact s.abortLane_notes ..
  | bad cause addr mc =>
    have aborted (t : State) (ht : t.notes s c.ti c.gi) :
        (if cause = 0x40 then (t.modGroup c.ti c.gi fun g => g.abortLane 5 cause l).prqPost 3 r.acc c.fen addr
          else t.modGroup c.ti c.gi fun g => g.abortLane 5 cause l).notes s c.ti c.gi := by
      have kept := State.notes_trans (t.abortLane_notes c.ti c.gi 5 cause l) ht
      split
      · exact State.notes_trans (State.prqPost_notes ..) kept
      · exact kept
    cases mc with
    | none => exact aborted s (s.notes_self _ _)
    | some pa => exact aborted _ (s.logMem_notes ..)

theorem State.settleLanes_notes {s s1 : State} {c : Ctx} {r : Rule} {rs : List (Nat × Nat × LaneChk)}
    {ls : List (Nat × Nat × Xlate)} (checked : s.settleLanes c r rs = .ok (s1, ls)) : s1.notes s c.ti c.gi := by
  unfold State.settleLanes at checked
  dsimp only at checked
  split at checked
  · cases checked
  · cases checked
    refine State.notes_foldl _ (fun t x => ?_) rs s
    split
    · exact t.txFail_notes c r _ _
    · exact t.notes_self _ _

/-- What an acquire waits for is as it was before the checks. -/
theorem State.acquirePending_notes {t s : State} {c c' : Ctx} (h : t.notes s c.ti c.gi) (ti : c'.ti = c.ti) (gi : c'.gi = c.gi) :
    t.acquirePending c' = s.acquirePending c' := by
  obtain ⟨⟨-, tx, group⟩, nextId, txops, order, core⟩ := h
  simp only [State.acquirePending, State.acquiring, State.txeBefore, ti, gi, group, nextId, txops, order, core]

theorem State.checkFmt_ok {s s1 : State} {c : Ctx} {r : Rule} {m : Mem} {ls : List (Nat × FmtAcc)}
    (checked : s.checkFmt c r m = .ok (s1, ls)) :
    ls = (c.lanes.map fun l => (l, s.chkFmt c r m l)).filterMap (fun x => match x.2 with
      | .ok a => some (x.1, a)
      | .error _ => none) ∧
    ∃ rs ls', s.settleLanes c r rs = .ok (s1, ls') ∧ ∀ x ∈ rs, x.1 ∈ c.lanes := by
  unfold State.checkFmt at checked
  dsimp only at checked
  split at checked
  · cases checked
  next settled =>
    cases checked
    refine ⟨rfl, _, _, settled, fun x hx => ?_⟩
    simp only [List.mem_map] at hx
    obtain ⟨y, ⟨l, hl, rfl⟩, rfl⟩ := hx
    exact hl

theorem State.checkFmt_lane {s s1 : State} {c : Ctx} {r : Rule} {m : Mem} {ls : List (Nat × FmtAcc)}
    (checked : s.checkFmt c r m = .ok (s1, ls)) : ∀ y ∈ ls, y.1 ∈ c.lanes := by
  intro y hy
  rw [(State.checkFmt_ok checked).1] at hy
  obtain ⟨x, hx, found⟩ := List.mem_filterMap.1 hy
  obtain ⟨l, hl, rfl⟩ := List.mem_map.1 hx
  dsimp only at found
  split at found <;> cases found
  exact hl

/-! ## Reading the bytes of a load's lanes -/

theorem State.fillL1_reads (s : State) (core fen sec : Nat) (bs : List Byte) (ti gi : Nat) :
    (s.fillL1 core fen sec bs).reads s ti gi := by
  unfold State.fillL1
  extract_lets ways s'
  split
  · exact State.reads_of_eq ti gi rfl rfl rfl
  · exact State.reads_of_eq ti gi rfl rfl rfl

theorem State.bind_reads (s : State) (c : Ctx) (l1 fill : Bool) (pa n ti gi : Nat) : (s.bind c l1 fill pa n).2.reads s ti gi := by
  unfold State.bind
  dsimp only
  split
  · exact s.reads_self _ _
  · split
    · exact s.reads_self _ _
    · split
      · exact s.reads_self _ _
      · split
        · exact s.reads_self _ _
        · split
          · exact s.reads_self _ _
          · split
            · exact s.fillL1_reads ..
            · exact State.reads_of_eq ti gi rfl rfl rfl

theorem State.txLogged_reads (s : State) (c : Ctx) (l : Nat) (x : TxLane) (pa n : Nat) :
    (s.txLogged c l x pa n).reads s c.ti c.gi :=
  State.reads_trans (State.reads_of_eq c.ti c.gi rfl rfl rfl) (s.reads_setTx c.ti c.gi l x)

theorem State.txFailed_reads (s : State) (c : Ctx) (l pa cause detail : Nat) :
    (s.txFailed c l pa cause detail).reads s c.ti c.gi := by
  unfold State.txFailed
  refine State.reads_trans (State.reads_abortLane ..) ?_
  split
  · exact (s.logMem_notes ..).reads
  · exact s.reads_self _ _

theorem State.logLanes_notes (s : State) (bads : List (Nat × Nat × Nat × Nat)) (ti gi : Nat) :
    (s.logLanes bads).notes s ti gi := State.notes_foldl _ (fun t f => t.logMem_notes _ _ false ti gi) _ s

theorem State.failValue_reads (s : State) (cause ti gi : Nat) : (s.failValue cause).2.reads s ti gi := by
  unfold State.failValue
  split
  · have free : s.freeNat.2 = { s with nfree := s.nfree + 4 } := s.frees_state 64 4
    rw [free]
    exact State.reads_of_eq ti gi rfl rfl rfl
  · split <;> exact s.reads_self _ _

theorem LoadAcc.fmtByte_reads (c : Ctx) (tx : Bool) (l va pa : Nat) (nc l1 : Bool) (a : LoadAcc × List Byte) :
    (LoadAcc.fmtByte c tx l va pa nc l1 a).1.s.reads a.1.s c.ti c.gi := by
  obtain ⟨a, bs⟩ := a
  have bound := a.s.bind_reads c (l1 && !nc) (!nc) pa 1 c.ti c.gi
  unfold LoadAcc.fmtByte
  dsimp only
  split
  · exact a.s.reads_self _ _
  · split
    · split
      · exact a.s.reads_self _ _
      · split
        · exact a.s.reads_self _ _
        · split
          · exact a.s.txLogged_reads ..
          · exact a.s.txFailed_reads ..
    · split
      · exact a.s.reads_self _ _
      next h => rw [h] at bound; exact bound
      next h => rw [h] at bound; exact bound

theorem LoadAcc.fmtBytes_reads {α : Type} (c : Ctx) (f : LoadAcc × List Byte → α → LoadAcc × List Byte)
    (hf : ∀ a x, (f a x).1.s.reads a.1.s c.ti c.gi) (xs : List α) (a : LoadAcc × List Byte) :
    (xs.foldl f a).1.s.reads a.1.s c.ti c.gi := by
  induction xs generalizing a with
  | nil => exact a.1.s.reads_self _ _
  | cons x xs ih => exact State.reads_trans (ih _) (hf a x)

theorem FmtLoad.lane_reads (c : Ctx) (d : Nat) (m : Mem) (f : FmtLoad) (y : Nat × FmtAcc) :
    (FmtLoad.lane c d m f y).a.s.reads f.a.s c.ti c.gi := by
  obtain ⟨l, acc⟩ := y
  unfold FmtLoad.lane
  dsimp only
  generalize hr : List.foldl _ (f.a, []) _ = r
  have read : r.1.s.reads f.a.s c.ti c.gi := by
    rw [← hr]
    exact LoadAcc.fmtBytes_reads c _ (fun a x => LoadAcc.fmtByte_reads ..) _ _
  split
  · exact read
  · split
    · exact State.reads_trans (State.failValue_reads ..) (State.reads_trans (State.logLanes_notes ..).reads read)
    · split <;> exact read

theorem FmtLoad.lanes_reads (c : Ctx) (d : Nat) (m : Mem) (ls : List (Nat × FmtAcc)) (f : FmtLoad) :
    (ls.foldl (FmtLoad.lane c d m) f).a.s.reads f.a.s c.ti c.gi := by
  induction ls generalizing f with
  | nil => exact f.a.s.reads_self _ _
  | cons y ls ih => exact State.reads_trans (ih _) (FmtLoad.lane_reads c d m f y)

/-- An operation begun after reading: it is the group's last, and the word's registers are as after its issue. -/
theorem State.begin_retire_reads {u s : State} {c : Ctx} (h : s.ctx = some c) (read : u.reads s c.ti c.gi) (p : Pending)
    (op : Nat) :
    (((u.begin c.ti c.gi p).retire c op).group c.ti c.gi).pend = (u.group c.ti c.gi).pend ++ [p] ∧
    ((u.begin c.ti c.gi p).retire c op).keeps s c.ti c.gi ∧
    (((u.begin c.ti c.gi p).retire c op).group c.ti c.gi).sameRegs (c.grp.retire c.ei op) := by
  obtain ⟨kept, tx, group⟩ := read
  rw [s.ctx_group c h] at group
  rw [State.begin, State.retire_modGroup, State.group_modGroup]
  refine ⟨by rw [Group.retire_work]; rfl, State.keeps_modGroup kept _, Group.sameRegs_retire ?_ ?_ _ _⟩
  · rw [group]
    rfl
  · rw [group]
    rfl

/-! ## Formatted accesses (R152, R153, R173) -/

/-- `ldf` starts its operation with what its lanes read. -/
theorem ldf_go (d : BitVec 7) (m : Mem) (c : Ctx) (s s1 : State) (ls : List (Nat × FmtAcc))
    (legal : wellFormed (.ldf d m) = true)
    (h : c.MayIssue s 0x110 (d.toNat :: m.vs) ((if tyPair c.ty then [d.toNat] else []) ++ m.pairs) m.ss)
    (checked : s.checkFmt c { op := 0x110, bytes := 1, r := true, w := false, kind := 1, tx := true } m = .ok (s1, ls))
    (f : FmtLoad) (hf : ls.foldl (FmtLoad.lane (c.refresh s1) d.toNat m)
        { a := { s := s1, writes := [], bads := [], devs := [], stall := false }, flags := 0, traps := [] } = f)
    (bound : f.a.stall = false) (calm : s1.acquirePending (c.refresh s1) = false)
    (clear : ∀ y ∈ ls, ∀ p ∈ y.2.parts, (c.refresh s1).scOverlap p.pa p.len = false) :
    exec (.ldf d m) s = .next ((((f.a.s.logLanes (sortBy (fun x y => x.1 ≤ y.1) (f.a.bads ++ f.traps))).fresh.2.begin c.ti c.gi
      { Pending.new f.a.s.nextId ((c.refresh s1).flagNo 0x110) with
        writes := if f.traps = [] then f.a.writes else [], fp := if f.traps = [] then f.flags else 0
        bad := deferOf (.flag ((c.refresh s1).flagNo 0x110)) 1 (sortBy (fun x y => x.1 ≤ y.1) (f.a.bads ++ f.traps)) })).retire c
      0x110) := by
  have own : s.acquirePending (c.refresh s1) = false := by
    obtain ⟨-, rs, ls', settled, -⟩ := State.checkFmt_ok checked
    exact (State.acquirePending_notes (c' := c.refresh s1) (State.settleLanes_notes settled) rfl rfl).symm.trans calm
  have apart : (ls.any fun y => y.2.parts.any fun p => (c.refresh s1).scOverlap p.pa p.len) = false := by
    rw [List.any_eq_false]
    intro y hy
    rw [List.any_eq_true]
    rintro ⟨p, hp, meets⟩
    rw [clear y hy p hp] at meets
    cases meets
  have traps : f.traps.isEmpty = decide (f.traps = []) := by cases f.traps <;> rfl
  have logged := (f.a.s.logLanes_notes (sortBy (fun x y => x.1 ≤ y.1) (f.a.bads ++ f.traps)) c.ti c.gi).nextId
  rw [exec_ldf, execLdf, issue_go (fmtW 0x110 (.ldf d m) d m) _ s c _ _ _ rfl rfl rfl h legal rfl rfl rfl]
  simp only [checked, hf, bound, own, apart, traps, Bool.or_self, Bool.false_eq_true, if_false, Res.state, State.fresh, logged,
    decide_eq_true_eq]
  rfl

/-- The entry of one stored element, as `fmtEntries` gives it. -/
def fmtEntry (c : Ctx) (word l : Nat) (acc : FmtAcc) (bit x : Nat) : Option StoreEnt :=
  match (splitParts acc.parts (fmtPattern acc.fmt ((acc.parts.map (·.len)).foldl (· + ·) 0) [bit] [x])).filterMap trimPart with
  | [] => none
  | (va, pa, bs) :: rest => some { c.storeEnt word l va pa bs .plain with more := rest.head?.map (·.2) }

theorem fmtEntries_eq (c : Ctx) (word : Nat) (m : Mem) (l : Nat) (acc : FmtAcc) (es : List (Nat × Flags)) :
    fmtEntries c word m l acc (es.map (·.1)) = ((fmtBits acc.fmt (c.elemBase m l).2 es.length).zip es).flatMap fun be =>
      (fmtEntry c word l acc be.1 be.2.1).toList := by
  rw [← List.filterMap_eq_flatMap_toList, fmtEntries, List.length_map, List.zip_map_right, List.filterMap_map]
  rfl

/-- What `stf` does for one element: it queues the entry, if the element has one. -/
def Ctx.stfElem (c : Ctx) (word l : Nat) (acc : FmtAcc) (s : State) (be : Nat × Nat × Flags) : State :=
  match (splitParts acc.parts (fmtPattern acc.fmt ((acc.parts.map (·.len)).foldl (· + ·) 0) [be.1] [be.2.1])).filterMap
    trimPart with
  | [] => s
  | (va, pa, bs) :: rest => s.putStore c { c.storeEnt word l va pa bs .plain with more := rest.head?.map (·.2) }

theorem Ctx.stfElem_eq (c : Ctx) (word l : Nat) (acc : FmtAcc) (s : State) (be : Nat × Nat × Flags) :
    c.stfElem word l acc s be = match fmtEntry c word l acc be.1 be.2.1 with
      | none => s
      | some e => s.putStore c e := by
  unfold Ctx.stfElem fmtEntry
  split <;> rfl

theorem fmtEntry_lane {c : Ctx} {word l : Nat} {acc : FmtAcc} {bit x : Nat} {e : StoreEnt}
    (h : fmtEntry c word l acc bit x = some e) : e.lane = l := by
  unfold fmtEntry at h
  split at h <;> cases h
  rfl

/-- The entries of one lane's elements. -/
theorem stf_lane (s : State) (c : Ctx) (word : Nat) (m : Mem) (l : Nat) (acc : FmtAcc) (es : List (Nat × Flags))
    (h : (c.grp.txLane l).state ≠ .opened) (f0 : Group → Group) :
    ((fmtBits acc.fmt (c.elemBase m l).2 es.length).zip es).foldl (c.stfElem word l acc) (s.modGroup c.ti c.gi f0) =
      s.modGroup c.ti c.gi fun g => (f0 g).queue (fmtEntries c word m l acc (es.map (·.1))) := by
  have elem (f0 : Group → Group) (be : Nat × Nat × Flags) : c.stfElem word l acc (s.modGroup c.ti c.gi f0) be =
      s.modGroup c.ti c.gi fun g => (f0 g).queue (fmtEntry c word l acc be.1 be.2.1).toList := by
    rw [Ctx.stfElem_eq]
    cases he : fmtEntry c word l acc be.1 be.2.1 with
    | none => simp
    | some e => exact s.putStore_modGroup c f0 e (fmtEntry_lane he ▸ h)
  rw [fmtEntries_eq]
  generalize List.zip _ es = bes
  exact State.foldl_queue s c (c.stfElem word l acc) (fun be => (fmtEntry c word l acc be.1 be.2.1).toList) bes
    (fun f0 be _ => elem f0 be) f0

/-- What `stf` does with the converted elements of one lane. -/
def Ctx.stfLane (c : Ctx) (word : Nat) (m : Mem) (s : State) (r : Nat × FmtAcc × List (Nat × Flags)) : State :=
  ((fmtBits r.2.1.fmt (c.elemBase m r.1).2 r.2.2.length).zip r.2.2).foldl (c.stfElem word r.1 r.2.1) s

theorem stf_lanes (s : State) (c : Ctx) (word : Nat) (m : Mem) (rs : List (Nat × FmtAcc × List (Nat × Flags)))
    (h : ∀ r ∈ rs, (c.grp.txLane r.1).state ≠ .opened) (f0 : Group → Group) :
    rs.foldl (c.stfLane word m) (s.modGroup c.ti c.gi f0) = s.modGroup c.ti c.gi fun g =>
      (f0 g).queue (rs.flatMap fun r => fmtEntries c word m r.1 r.2.1 (r.2.2.map (·.1))) := by
  refine State.foldl_queue s c (c.stfLane word m) _ rs (fun f0 r hr => ?_) f0
  exact stf_lane s c word m r.1 r.2.1 r.2.2 (h r hr) f0

/-- The outcome of an `stf` whose lanes leave the state and need not wait. -/
theorem stf_go (d : BitVec 7) (m : Mem) (c : Ctx) (s : State) (ls : List (Nat × FmtAcc))
    (legal : wellFormed (.stf d m) = true)
    (h : c.MayIssue s 0x111 (d.toNat :: m.vs) ((if tyPair c.ty then [d.toNat] else []) ++ m.pairs) m.ss)
    (checked : s.checkFmt c { op := 0x111, bytes := 1, r := false, w := true, kind := 2, tx := true } m = .ok (s, ls))
    (calm : s.storeMustWait c = false) (rs : List (Nat × FmtAcc × List (Nat × Flags)))
    (hrs : rs = ls.map fun y =>
      (y.1, y.2, (elemsOf c.ty (c.grp.readOp c.ty y.1 d.toNat)).map (fmtConvert c.env c.ty y.2.fmt)))
    (fl : List (Nat × List Flags)) (hfl : fl = rs.map fun r => (r.1, r.2.2.map (·.2))) :
    exec (.stf d m) s = .next (Res.state s c 0x111 (match fpTrap (modeFX c.ent.mode) fl with
      | some f => .raise f s
      | none => .ok (rs.foldl (c.stfLane s.nextId m)
        ({ s with nextId := s.nextId + 1 }.modGroup c.ti c.gi fun g => g.setFp fl)))) := by
  subst hrs hfl
  rw [exec_stf, execStf, issue_go (fmtW 0x111 (.stf d m) d m) _ s c _ _ _ rfl rfl rfl h legal rfl rfl rfl]
  simp only [checked, c.refresh_self s h.issuer, calm, Bool.false_eq_true, if_false, State.fresh]
  rfl

/-- Settles O24: the operation of `ldf` from what its lanes read, the entries and the trap of `stf` from its elements. -/
theorem formattedAccessResult : Obligations.FormattedAccessResult := by
  unfold Obligations.FormattedAccessResult
  intro d m c s s1 ls
  constructor
  · intro legal h checked f bound calm clear
    have read : f.a.s.reads s c.ti c.gi := by
      obtain ⟨-, _, _, settled, -⟩ := State.checkFmt_ok checked
      exact State.reads_trans (FmtLoad.lanes_reads (c.refresh s1) ..) (State.settleLanes_notes settled).reads
    have logged := f.a.s.logLanes_notes (sortBy (fun x y => x.1 ≤ y.1) (f.a.bads ++ f.traps)) c.ti c.gi
    have noted : (f.a.s.logLanes (sortBy (fun x y => x.1 ≤ y.1) (f.a.bads ++ f.traps))).fresh.2.reads f.a.s c.ti c.gi :=
      State.reads_trans (State.reads_of_eq c.ti c.gi rfl rfl rfl) logged.reads
    obtain ⟨pend, kept, regs⟩ := State.begin_retire_reads h.issuer (State.reads_trans noted read)
      { Pending.new f.a.s.nextId ((c.refresh s1).flagNo 0x110) with
        writes := if f.traps = [] then f.a.writes else [], fp := if f.traps = [] then f.flags else 0
        bad := deferOf (.flag ((c.refresh s1).flagNo 0x110)) 1 (sortBy (fun x y => x.1 ≤ y.1) (f.a.bads ++ f.traps)) } 0x110
    refine ⟨_, ldf_go d m c s s1 ls legal h checked f rfl bound calm clear, ?_, kept, regs⟩
    obtain ⟨-, tx, same⟩ := noted
    rw [pend, same]
  · intro legal h checked closed calm rs
    obtain ⟨-, _, _, settled, lanes⟩ := State.checkFmt_ok checked
    obtain ⟨same, -⟩ := State.settleLanes_closed closed lanes settled
    subst same
    have go := stf_go d m c s1 ls legal h checked calm rs rfl _ rfl
    refine ⟨fun f trap => ?_, fun clean => ?_⟩
    · rw [go, trap]
      rfl
    · have shut (r : Nat × FmtAcc × List (Nat × Flags)) (hr : r ∈ rs) : (c.grp.txLane r.1).state ≠ .opened := by
        obtain ⟨y, hy, rfl⟩ := List.mem_map.1 hr
        exact Ctx.closed_lane closed (State.checkFmt_lane checked y hy)
      rw [clean] at go
      dsimp only at go
      rw [stf_lanes _ c _ m rs shut] at go
      intro fl es
      refine ⟨_, go, ?_, ?_⟩
      · refine State.keeps_retire (State.keeps_modGroup ?_ _) 0x111
        exact State.keeps_of_eq (s1.keeps_self _ _) rfl rfl rfl
      · have own : State.group { s1 with nextId := s1.nextId + 1 } c.ti c.gi = c.grp := s1.ctx_group c h.issuer
        rw [Res.state, State.retire_modGroup, State.group_modGroup, own]
        rfl

end Sys2Proof.Machine
end

section
/-!
PROOFS. A refutation of the statement of fences, caches and translations (R182): the machine that it fails for.
-/
namespace Sys2Proof.Machine

/-! ## A translation listed twice -/

/-- A translation of a fen's first page. -/
def pageOf (fen : Nat) : TlbEnt := { fen := fen, va := 0, size := 0, pa := 0, leaf := 0 }

/-- A machine with its system team, whose slice 0 is listed twice: a lookup finds the first list, of fen 0, alone. The
statement's machine may be any table of lists; no step makes such a one. -/
def twiceListed : State :=
  { State.reset with
    teams := [(0, loadTeam false)]
    cores := [(sysCore 0, { Core.cold with stopped := false })]
    sliceTlbs := [(0, [pageOf 0]), (0, [pageOf 1])] }

/-- The splinter that issues on it. -/
def twiceListed.issuer : Ctx :=
  { ti := 0, gi := 0, ei := 0, team := loadTeam false, grp := (loadTeam false).group 0
    ent := (((loadTeam false).group 0).entries.find 0).getD (newSplinter 0 noFrame 0 0) }

theorem twiceListed.mayIssue : twiceListed.issuer.MayIssue twiceListed 0x131 [] [] [62] where
  issuer := by decide +kernel
  free := by decide +kernel
  body := by decide +kernel
  mode := by decide +kernel
  budget := by simp
  even := by simp
  ready := by decide +kernel
  flag := by simp [Ctx.flagFree]; decide +kernel
  gate := .inl (by decide +kernel)
  lane := by decide +kernel
  tx := by decide +kernel

/-- What a word leaves in slice 0's TLB. -/
def sliceAfter : Host.Outcome State Fault Refusal → List TlbEnt
  | .next t => t.sliceTlb 0
  | _ => []

/-- `tlbi` of fen 0 empties the list that a lookup found, and uncovers the other one. -/
theorem twiceListed.uncovers : sliceAfter (exec (.tlbiFen 62) twiceListed) = [pageOf 1] := by decide +kernel

/-- Refutes O27: on a machine whose slice 0 has two lists, `tlbi` of the fen of the first uncovers the second, so that the
slice then holds a translation that it did not hold. -/
theorem not_fenceCacheAndTranslationWords : ¬ Obligations.FenceCacheAndTranslationWords := by
  unfold Obligations.FenceCacheAndTranslationWords
  rintro ⟨-, translation⟩
  obtain ⟨t, run, -, -, -, slices⟩ :=
    (translation twiceListed.issuer twiceListed).2 (.tlbiFen 62) 62 twiceListed.mayIssue (.inr (.inl rfl))
  have after := twiceListed.uncovers
  rw [run, sliceAfter] at after
  have held : pageOf 1 ∈ twiceListed.sliceTlb 0 := ((slices 0 (pageOf 1)).1 (by rw [after]; exact List.mem_singleton_self _)).1
  exact absurd held (by decide)

end Sys2Proof.Machine
end

section
/-!
PROOFS. The memory that a fen reads back (R156, R350, R355, R356): what a write and a scrub change of it, byte by byte, and the
obligation.
-/
namespace Sys2Proof.Machine

/-! ## Writes of several bytes (R156, R350) -/

@[simp] theorem writeByte_keyOf (s : State) (f pa g : Nat) (x m : Byte) : (s.writeByte f pa x m).keyOf g = s.keyOf g := rfl

@[simp] theorem writeByte_guard (s : State) (f pa : Nat) (x m : Byte) : (s.writeByte f pa x m).guard = s.guard := rfl

theorem writeByte_tag (s : State) (f pa l : Nat) (x m : Byte) :
    (s.writeByte f pa x m).tagOf l = if l = pa / 64 then { own := f, key := s.keyOf f } else s.tagOf l :=
  claimLine_tag s f (pa / 64) l

/-- What the writer reads afterwards: the written bits in the bytes written, and the others as before. -/
theorem readByte_writeMasked (s : State) (f pa a : Nat) (bs : List (Byte × Byte)) (hf : f ≠ 0xFF) :
    (s.writeMasked f pa bs).readByte f a = if pa ≤ a ∧ a < pa + bs.length then
      mergeByte (s.readByte f a) (bs.getD (a - pa) (0, 0)).1 (bs.getD (a - pa) (0, 0)).2 else s.readByte f a := by
  induction bs generalizing s pa with
  | nil => rw [State.writeMasked, if_neg (by simp)]
  | cons b bs ih =>
    obtain ⟨x, m⟩ := b
    rw [State.writeMasked, ih, readByte_writeByte _ _ _ _ _ _ hf]
    rcases Nat.lt_trichotomy a pa with below | rfl | above
    · rw [if_neg (by omega), if_neg (by omega), if_neg (by omega)]
    · rw [if_neg (by omega), if_pos rfl, if_pos (by simp)]
      simp
    · have next : a - pa = a - (pa + 1) + 1 := by omega
      simp only [List.length_cons, next, List.getD_cons_succ, if_neg (show ¬ a = pa by omega)]
      congr 1
      exact propext (by omega)

/-- The lines written are the writer's, the others whose they were. -/
theorem writeMasked_tag (s : State) (f pa l : Nat) (bs : List (Byte × Byte)) :
    (s.writeMasked f pa bs).tagOf l =
      if ∃ k < bs.length, (pa + k) / 64 = l then { own := f, key := s.keyOf f } else s.tagOf l := by
  induction bs generalizing s pa with
  | nil => simp [State.writeMasked]
  | cons b bs ih =>
    obtain ⟨x, m⟩ := b
    have listed : (∃ k < ((x, m) :: bs).length, (pa + k) / 64 = l) ↔
        l = pa / 64 ∨ ∃ k < bs.length, (pa + 1 + k) / 64 = l := by
      rw [List.length_cons, Nat.exists_lt_succ_left]
      simp only [Nat.add_zero, eq_comm, Nat.add_assoc, Nat.add_comm 1]
    rw [State.writeMasked, ih, writeByte_tag, writeByte_keyOf]
    simp only [listed]
    by_cases later : ∃ k < bs.length, (pa + 1 + k) / 64 = l
    · rw [if_pos later, if_pos (.inr later)]
    · simp only [later, or_false, if_false]

/-- What any fen reads on a line stays when no byte of the line is written. -/
theorem readByte_writeByte_line (s : State) (f g pa a : Nat) (x m : Byte) (h : pa / 64 ≠ a / 64) :
    (s.writeByte f pa x m).readByte g a = s.readByte g a := by
  have cell (j : Nat) (hj : j / 64 = a / 64) :
      SMap.get 0 (s.writeByte f pa x m).mem.bytes j = SMap.get 0 s.mem.bytes j := by
    have other : j ≠ pa := by omega
    refine (SMap.get_put_other 0 _ pa j _ other).trans ?_
    unfold State.claimLine
    dsimp only
    split
    · rfl
    · exact putBytes_other _ _ _ _ (by simp [State.readBytes]; omega)
  have raw : (s.writeByte f pa x m).mem.rawSector (a / 32) = s.mem.rawSector (a / 32) := by
    simp only [Memory.rawSector]
    exact List.map_congr_left fun i hi => cell _ (by simp at hi; omega)
  have line : a / 32 / 2 = a / 64 := by omega
  simp only [State.readByte, State.readSector, writeByte_tag, writeByte_keyOf, line, cell a rfl, raw, if_neg (Ne.symm h)]

theorem readByte_writeMasked_line (s : State) (f g pa a : Nat) (bs : List (Byte × Byte))
    (h : ∀ k < bs.length, (pa + k) / 64 ≠ a / 64) : (s.writeMasked f pa bs).readByte g a = s.readByte g a := by
  induction bs generalizing s pa with
  | nil => rfl
  | cons b bs ih =>
    obtain ⟨x, m⟩ := b
    have first : pa / 64 ≠ a / 64 := h 0 (by simp)
    rw [State.writeMasked, ih _ _ fun k hk => ?_, readByte_writeByte_line _ _ _ _ _ _ _ first]
    have := h (k + 1) (by simpa using hk)
    rwa [show pa + (k + 1) = pa + 1 + k by omega] at this

/-! ## Lines of region 0x1 after a write (R276, R353) -/

@[simp] theorem writeByte_tierLine (s : State) (f pa l : Nat) (x m : Byte) : (s.writeByte f pa x m).tierLine l = s.tierLine l := rfl

/-- The expander holds the line's last write: what is recorded for both is one another. -/
def State.atTier (s : State) (line : Nat) : Prop :=
  ∀ x, s.tierLine line = some x → s.mem.tierAt.find line = some x ∧ s.mem.tierHas.find x = some line

theorem State.not_tierMoved {s : State} {line : Nat} (h : s.atTier line) : s.tierMoved line = false := by
  unfold State.tierMoved
  split
  · rfl
  next x hx =>
    obtain ⟨at_, has⟩ := h x hx
    rw [at_, has]
    simp

theorem writeByte_tiers (s : State) (f pa : Nat) (x m : Byte) :
    ((s.writeByte f pa x m).mem.tierAt, (s.writeByte f pa x m).mem.tierHas) =
      match s.tierLine (pa / 64) with
      | none => (s.mem.tierAt, s.mem.tierHas)
      | some y => (s.mem.tierAt.ins (pa / 64) y, s.mem.tierHas.ins y (pa / 64)) := rfl

theorem writeByte_atTier (s : State) (f pa : Nat) (x m : Byte) : (s.writeByte f pa x m).atTier (pa / 64) := by
  intro y hy
  rw [writeByte_tierLine] at hy
  have tiers := writeByte_tiers s f pa x m
  rw [hy] at tiers
  obtain ⟨at_, has⟩ := Prod.mk.inj tiers
  rw [at_, has]
  exact ⟨SMap.find_ins_same .., SMap.find_ins_same ..⟩

/-- A write of another line takes no expander line from this one when the two lines lie apart. -/
theorem writeByte_atTier_other (s : State) (f pa l : Nat) (x m : Byte) (h : s.atTier l)
    (apart : pa / 64 = l ∨ s.tierLine (pa / 64) = none ∨ s.tierLine (pa / 64) ≠ s.tierLine l) :
    (s.writeByte f pa x m).atTier l := by
  by_cases same : pa / 64 = l
  · rw [← same]
    exact writeByte_atTier s f pa x m
  · intro y hy
    rw [writeByte_tierLine] at hy
    obtain ⟨hat, hhas⟩ := h y hy
    have tiers := writeByte_tiers s f pa x m
    cases hz : s.tierLine (pa / 64) with
    | none =>
      rw [hz] at tiers
      obtain ⟨at_, has⟩ := Prod.mk.inj tiers
      rw [at_, has]
      exact ⟨hat, hhas⟩
    | some z =>
      rw [hz] at tiers
      obtain ⟨at_, has⟩ := Prod.mk.inj tiers
      have differ : y ≠ z := by
        rintro rfl
        rcases apart with h | h | h
        · exact same h
        · rw [hz] at h; cases h
        · rw [hz, hy] at h; exact h rfl
      rw [at_, has, SMap.find_ins_other _ _ _ _ (Ne.symm same), SMap.find_ins_other _ _ _ _ differ]
      exact ⟨hat, hhas⟩

theorem writeMasked_atTier (s : State) (f pa l : Nat) (bs : List (Byte × Byte))
    (apart : ∀ j < bs.length, (pa + j) / 64 = l ∨ s.tierLine ((pa + j) / 64) = none ∨ s.tierLine ((pa + j) / 64) ≠ s.tierLine l)
    (h : s.atTier l ∨ ∃ k < bs.length, (pa + k) / 64 = l) : (s.writeMasked f pa bs).atTier l := by
  induction bs generalizing s pa with
  | nil => exact h.resolve_right (by simp)
  | cons b bs ih =>
    obtain ⟨x, m⟩ := b
    have first := apart 0 (by simp)
    have rest (j : Nat) (hj : j < bs.length) := apart (j + 1) (by simpa using hj)
    refine ih (s.writeByte f pa x m) (pa + 1) (fun j hj => ?_) ?_
    · have := rest j hj
      rwa [show pa + (j + 1) = pa + 1 + j by omega] at this
    · rcases h with h | ⟨k, hk, line⟩
      · exact .inl (writeByte_atTier_other s f pa l x m h first)
      · cases k with
        | zero =>
          subst line
          exact .inl (writeByte_atTier s f pa x m)
        | succ k => exact .inr ⟨k, by simpa using hk, by rw [← line]; congr 1; omega⟩

theorem writeMasked_found (s : State) (f pa : Nat) (bs : List (Byte × Byte)) :
    (s.writeMasked f pa bs).guard = s.guard ∧ (s.writeMasked f pa bs).reed = s.reed ∧
    (s.writeMasked f pa bs).mem.bad = s.mem.bad ∧ (s.writeMasked f pa bs).mem.retiredCh = s.mem.retiredCh := by
  induction bs generalizing s pa with
  | nil => exact ⟨rfl, rfl, rfl, rfl⟩
  | cons b bs ih => exact ih (s.writeByte f pa b.1 b.2) (pa + 1)

/-- A line that a sealed fen has written is refused to every other fen, where nothing else is found on it (R355). -/
theorem writeMasked_refused (s : State) (f g pa k : Nat) (bs : List (Byte × Byte)) (hf : f ≠ 0xFF) (hk : k < bs.length)
    (other : f ≠ g) (zero : f ≠ 0) (world : s.sealedFen f = true)
    (apart : ∀ j < bs.length, (pa + j) / 64 = (pa + k) / 64 ∨ s.tierLine ((pa + j) / 64) = none ∨
      s.tierLine ((pa + j) / 64) ≠ s.tierLine ((pa + k) / 64))
    (up : s.tierAbort ((pa + k) / 64 * 64) = false) (channel : s.channelRetired ((pa + k) / 64 * 64) = false)
    (clean : s.mem.bad.find ((pa + k) / 64) = none) :
    (s.writeMasked f pa bs).lineErr g ((pa + k) / 64) = some .refused := by
  obtain ⟨guard, reed, bad, retired⟩ := writeMasked_found s f pa bs
  have tier : (s.writeMasked f pa bs).tierAbort ((pa + k) / 64 * 64) = false := by
    simpa only [State.tierAbort, State.tierOf, reed] using up
  have channels : (s.writeMasked f pa bs).channelRetired ((pa + k) / 64 * 64) = false := by
    simpa only [State.channelRetired, retired] using channel
  have moved := State.not_tierMoved (writeMasked_atTier s f pa _ bs apart (.inr ⟨k, hk, rfl⟩))
  have world' : (s.writeMasked f pa bs).sealedFen f = true := by
    simpa only [State.sealedFen, State.fen, guard] using world
  have tag := writeMasked_tag s f pa ((pa + k) / 64) bs
  rw [if_pos ⟨k, hk, rfl⟩] at tag
  unfold State.lineErr
  simp [tier, channels, bad, clean, moved, tag, hf, other, zero, world']

/-! ## Scrubbed ranges (R350) -/

theorem scrubRange_tag (s : State) (pa n l : Nat) :
    (s.scrubRange pa n).tagOf l = if l * 64 < pa ∨ pa + n ≤ l * 64 then s.tagOf l else LineTag.scrubbed := by
  by_cases out : l * 64 < pa ∨ pa + n ≤ l * 64
  · rw [if_pos out]
    exact congrArg (Option.getD · _)
      (SMap.find_filter _ (fun k => decide (k * 64 < pa ∨ pa + n ≤ k * 64)) l (decide_eq_true out))
  · rw [if_neg out]
    exact congrArg (Option.getD · _)
      (SMap.find_filter_none _ (fun k => decide (k * 64 < pa ∨ pa + n ≤ k * 64)) l (decide_eq_false out))

theorem scrubRange_cell (s : State) (pa n a : Nat) (h : a < pa ∨ pa + n ≤ a) :
    SMap.get 0 (s.scrubRange pa n).mem.bytes a = SMap.get 0 s.mem.bytes a :=
  congrArg (Option.getD · _) (SMap.find_filter _ (fun k => decide (k < pa ∨ pa + n ≤ k)) a (decide_eq_true h))

@[simp] theorem scrubRange_keyOf (s : State) (pa n g : Nat) : (s.scrubRange pa n).keyOf g = s.keyOf g := rfl

/-- Scrubbed pages read zero for every fen. -/
theorem readByte_scrubRange (s : State) (pa n f a : Nat) (h : 4096 * pa ≤ a) (h' : a < 4096 * pa + 4096 * n) :
    (s.scrubRange (4096 * pa) (4096 * n)).readByte f a = 0 := by
  have tag : (s.scrubRange (4096 * pa) (4096 * n)).tagOf (a / 64) = LineTag.scrubbed := by
    rw [scrubRange_tag, if_neg (by omega)]
  unfold State.readByte
  rw [tag]
  exact if_pos rfl

/-- What lies outside the scrubbed pages reads as before. -/
theorem readByte_scrubRange_other (s : State) (pa n f a : Nat) (h : a < 4096 * pa ∨ 4096 * pa + 4096 * n ≤ a) :
    (s.scrubRange (4096 * pa) (4096 * n)).readByte f a = s.readByte f a := by
  have line : a / 32 / 2 = a / 64 := by omega
  have tag : (s.scrubRange (4096 * pa) (4096 * n)).tagOf (a / 64) = s.tagOf (a / 64) := by
    rw [scrubRange_tag, if_pos (by omega)]
  have raw : (s.scrubRange (4096 * pa) (4096 * n)).mem.rawSector (a / 32) = s.mem.rawSector (a / 32) := by
    simp only [Memory.rawSector]
    exact List.map_congr_left fun i hi => scrubRange_cell _ _ _ _ (by simp at hi; omega)
  simp only [State.readByte, State.readSector, line, tag, raw, scrubRange_keyOf, scrubRange_cell s _ _ a h]

/-- Settles O59: what is read after a write and after a scrub, byte by byte, and the tags between. -/
theorem memoryReadAfterWrite : Obligations.MemoryReadAfterWrite := by
  unfold Obligations.MemoryReadAfterWrite
  refine ⟨fun s f pa bs hf => ?_, fun s pa n => ?_⟩
  · refine ⟨fun k hk => ?_, fun a ha => ?_, fun k hk => ?_, fun g a h => readByte_writeMasked_line s f g pa a bs h,
      writeMasked_wf s f pa bs, fun g k hk other zero world apart up channel clean =>
        writeMasked_refused s f g pa k bs hf hk other zero world apart up channel clean⟩
    · rw [readByte_writeMasked _ _ _ _ _ hf, if_pos (by omega), Nat.add_sub_cancel_left]
    · rw [readByte_writeMasked _ _ _ _ _ hf, if_neg (by omega)]
    · rw [writeMasked_tag, if_pos ⟨k, hk, rfl⟩]
  · exact ⟨fun f a h h' => readByte_scrubRange s pa n f a h (by omega),
      fun f a h => readByte_scrubRange_other s pa n f a (by omega), scrubRange_wf s _ _⟩

end Sys2Proof.Machine
end

section
/-!
PROOFS. Parking (R171, R185, R187, R188, R193, R194): predicates of single lanes, the lanes of a `park`, what it does with their
answers, and the obligation.
-/
namespace Sys2Proof.Machine

/-! ## Predicates of single lanes -/

theorem Group.writeP_eq (g : Group) (l k : Nat) (b : Bool) : g.writeP l k b = { g with p := (g.writeP l k b).p } := by
  unfold Group.writeP Group.writePs
  split <;> rfl

theorem Group.pmask_writePs_other (g : Group) (k j : Nat) (sel x : W32) (h : j ≠ k) :
    (g.writePs k sel x).pmask j = g.pmask j := by
  unfold Group.writePs
  split
  · rfl
  · simp only [Group.pmask, SMap.get_put_other 0 g.p k j _ h]

theorem Group.readP_seven (g : Group) {l : Nat} (hl : l < 32) : g.readP l 7 = true := by
  show (BitVec.allOnes 32).getLsbD l = true
  rw [BitVec.getLsbD_allOnes, decide_eq_true hl]

theorem Group.readP_writeP (g : Group) (m k l j : Nat) (b : Bool) (hl : l < 32) (hm : m < 32) :
    (g.writeP m k b).readP l j = if j = k ∧ k ≠ 7 ∧ l = m then b else g.readP l j := by
  have bit : (1#32 <<< m).getLsbD l = decide (m = l) := by
    rw [← BitVec.twoPow_eq, BitVec.getLsbD_twoPow]
    simp [hm]
  have value : (if b then BitVec.allOnes 32 else 0).getLsbD l = b := by
    cases b with
    | false => exact BitVec.getLsbD_zero
    | true => rw [if_pos rfl, BitVec.getLsbD_allOnes, decide_eq_true hl]
  unfold Group.readP Group.writeP
  by_cases wired : k = 7
  · subst wired
    simp
  · by_cases same : j = k
    · subst same
      rw [Group.pmask_writePs _ _ _ _ wired, BitVec.getLsbD_or, BitVec.getLsbD_and, BitVec.getLsbD_and, BitVec.getLsbD_not,
        bit, value]
      by_cases lane : l = m
      · simp [lane, wired, hm]
      · simp [lane, Ne.symm lane, hl]
    · rw [Group.pmask_writePs_other _ _ _ _ _ same, if_neg fun h => same h.1]

/-- One predicate register written in some lanes. -/
def Group.givePs (g : Group) (k : Nat) (rs : List (Nat × Bool)) : Group := rs.foldl (fun g r => g.writeP r.1 k r.2) g

theorem Group.givePs_eq (g : Group) (k : Nat) (rs : List (Nat × Bool)) : g.givePs k rs = { g with p := (g.givePs k rs).p } := by
  induction rs generalizing g with
  | nil => rfl
  | cons r rs ih =>
    show (g.writeP r.1 k r.2).givePs k rs = { g with p := ((g.writeP r.1 k r.2).givePs k rs).p }
    rw [ih, g.writeP_eq]

theorem Group.readP_givePs (g : Group) (k l j : Nat) (v : Bool) (rs : List (Nat × Bool)) (hl : l < 32)
    (same : ∀ r ∈ rs, r.1 < 32 ∧ r.2 = v) :
    (g.givePs k rs).readP l j = if j = k ∧ k ≠ 7 ∧ l ∈ rs.map (·.1) then v else g.readP l j := by
  induction rs generalizing g with
  | nil => simp [Group.givePs]
  | cons r rs ih =>
    obtain ⟨small, value⟩ := same r (List.mem_cons_self ..)
    have step := ih (g.writeP r.1 k r.2) fun x hx => same x (List.mem_cons_of_mem _ hx)
    rw [Group.readP_writeP _ _ _ _ _ _ hl small, value] at step
    have goal : (g.givePs k (r :: rs)).readP l j = ((g.writeP r.1 k r.2).givePs k rs).readP l j := rfl
    rw [goal, value, step]
    simp only [List.map_cons, List.mem_cons]
    split_ifs <;> tauto

/-! ## `parkt` (R185, R187) -/

theorem parkt_result (b : BitVec 6) (c : Ctx) (s : State) (h : c.MayIssue s 0x14B [] [] [b.toNat]) :
    let x := c.grp.readS b.toNat
    let bad := x.extractLsb' 32 2 = 3 ∨ x.extractLsb' 34 30 ≠ 0
    (¬ bad → exec (.parkt b) s = .next (s.after c 0x14B { c.grp with hbc := x.setWidth 34 })) ∧
    (bad → exec (.parkt b) s = .next (s.takeFault c.ti c.gi c.ei { cause := 0x61 })) := by
  intro x bad
  refine ⟨fun good => ?_, fun bad => ?_⟩
  · rw [exec_parkt, execParkt]
    exact issueG_go _ _ s c _ _ _ _ rfl rfl rfl h rfl (if_neg good) rfl rfl rfl
  · rw [exec_parkt, execParkt]
    exact issue_pre _ _ s c _ _ _ _ rfl rfl h rfl (if_pos bad)

/-! ## The lanes of a `park` (R188, R193) -/

/-- The monitor that a lane of a `park` would set. -/
def Ctx.parkMonitor (c : Ctx) (since id pd : Nat) (cc : Cc) (b : Src) (y : Nat × Nat × Xlate) : Monitor :=
  { bank := homeBank y.2.2.pa, team := c.ti, group := c.gi, fen := c.fen, pa := y.2.2.pa, ty := c.ty, cc := cc
    b := BitVec.ofNat 64 (c.laneB c.ty b y.1), pend := id, pd := pd, lanes := 1#32 <<< y.1
    expiry := if c.grp.tmo = 0 then none else some (since + 64 * c.grp.tmo) }

theorem Ctx.parkLane_eq (c : Ctx) (id pd : Nat) (cc : Cc) (b : Src) (s : State) (rs : List (Nat × Bool))
    (bads : List (Nat × Nat × Nat × Nat)) (y : Nat × Nat × Xlate) :
    c.parkLane id pd cc b (s, rs, bads) y = match s.lineErr c.fen (y.2.2.pa / 64) with
      | some e => (s, rs ++ [(y.1, false)], bads ++ [(y.1, e.code, y.2.1, y.2.2.pa)])
      | none =>
        let m := c.parkMonitor s.now id pd cc b y
        if s.monitorTrue m then (s, rs ++ [(y.1, true)], bads)
        else if s.mem.monitors.any fun n => n.pend = id ∧ n.pa = m.pa ∧ n.b = m.b then
          ({ s with mem := { s.mem with monitors := s.mem.monitors.map fun n =>
            if n.pend = id ∧ n.pa = m.pa ∧ n.b = m.b then { n with lanes := n.lanes ||| m.lanes } else n } }, rs, bads)
        else if (s.mem.monitors.filter fun n => n.bank = m.bank).length < 64 then
          ({ s with mem := { s.mem with monitors := s.mem.monitors ++ [m] } }, rs, bads)
        else (s, rs ++ [(y.1, false)], bads) := rfl

/-- Lanes that all compare true go on with 1. -/
theorem parkLanes_true (c : Ctx) (id pd : Nat) (cc : Cc) (b : Src) (s : State) (ls : List (Nat × Nat × Xlate))
    (rs : List (Nat × Bool)) (bads : List (Nat × Nat × Nat × Nat))
    (h : ∀ y ∈ ls, s.lineErr c.fen (y.2.2.pa / 64) = none ∧ s.monitorTrue (c.parkMonitor s.now id pd cc b y) = true) :
    ls.foldl (c.parkLane id pd cc b) (s, rs, bads) = (s, rs ++ ls.map fun y => (y.1, true), bads) := by
  induction ls generalizing rs with
  | nil => simp
  | cons y ls ih =>
    obtain ⟨clean, holds⟩ := h y (List.mem_cons_self ..)
    have first : c.parkLane id pd cc b (s, rs, bads) y = (s, rs ++ [(y.1, true)], bads) := by
      simp only [Ctx.parkLane_eq, clean, holds, if_true]
    rw [List.foldl_cons, first, ih _ fun x hx => h x (List.mem_cons_of_mem _ hx)]
    simp

/-- Lanes that find their bank's monitors taken go on with 0. -/
theorem parkLanes_full (c : Ctx) (id pd : Nat) (cc : Cc) (b : Src) (s : State) (ls : List (Nat × Nat × Xlate))
    (rs : List (Nat × Bool)) (bads : List (Nat × Nat × Nat × Nat)) (fresh : ∀ n ∈ s.mem.monitors, n.pend ≠ id)
    (h : ∀ y ∈ ls, s.lineErr c.fen (y.2.2.pa / 64) = none ∧ s.monitorTrue (c.parkMonitor s.now id pd cc b y) = false ∧
      64 ≤ (s.mem.monitors.filter fun n => n.bank = homeBank y.2.2.pa).length) :
    ls.foldl (c.parkLane id pd cc b) (s, rs, bads) = (s, rs ++ ls.map fun y => (y.1, false), bads) := by
  induction ls generalizing rs with
  | nil => simp
  | cons y ls ih =>
    obtain ⟨clean, waits, taken⟩ := h y (List.mem_cons_self ..)
    have alone : (s.mem.monitors.any fun n => n.pend = id ∧ n.pa = (c.parkMonitor s.now id pd cc b y).pa ∧
        n.b = (c.parkMonitor s.now id pd cc b y).b) = false := by
      rw [List.any_eq_false]
      intro n hn
      simp [fresh n hn]
    have first : c.parkLane id pd cc b (s, rs, bads) y = (s, rs ++ [(y.1, false)], bads) := by
      simp only [Ctx.parkLane_eq, clean, waits, alone, Bool.false_eq_true, if_false]
      exact if_neg (Nat.not_lt.2 taken)
    rw [List.foldl_cons, first, ih _ fun x hx => h x (List.mem_cons_of_mem _ hx)]
    simp

/-- A lane whose line meets a finding goes on with 0. -/
theorem parkLane_found (c : Ctx) (id pd : Nat) (cc : Cc) (b : Src) (s : State) (y : Nat × Nat × Xlate) (e : LineErr)
    (h : s.lineErr c.fen (y.2.2.pa / 64) = some e) :
    c.parkLane id pd cc b (s, [], []) y = (s, [(y.1, false)], [(y.1, e.code, y.2.1, y.2.2.pa)]) := by
  simp only [Ctx.parkLane_eq, h, List.nil_append]

/-- The state with other monitors. -/
def State.withMonitors (s : State) (ms : List Monitor) : State := { s with mem := { s.mem with monitors := ms } }

/-- A lane of a `park`, where its bank has room: it answers when it compares true, and else it sets or joins a monitor. -/
theorem parkLane_room (c : Ctx) (id pd : Nat) (cc : Cc) (b : Src) (s : State) (rs : List (Nat × Bool))
    (bads : List (Nat × Nat × Nat × Nat)) (ms : List Monitor) (y : Nat × Nat × Xlate)
    (clean : s.lineErr c.fen (y.2.2.pa / 64) = none) (room : ms.length < 64) :
    ∃ ms', ms'.length ≤ ms.length + 1 ∧ c.parkLane id pd cc b (s.withMonitors ms, rs, bads) y =
      (s.withMonitors ms',
        rs ++ if s.monitorTrue (c.parkMonitor s.now id pd cc b y) then [(y.1, true)] else [], bads) := by
  have clean' : (s.withMonitors ms).lineErr c.fen (y.2.2.pa / 64) = none := clean
  have now : (s.withMonitors ms).now = s.now := rfl
  have test : (s.withMonitors ms).monitorTrue (c.parkMonitor s.now id pd cc b y)
      = s.monitorTrue (c.parkMonitor s.now id pd cc b y) := rfl
  rw [Ctx.parkLane_eq, clean']
  simp only [now, test]
  split
  · exact ⟨ms, by omega, rfl⟩
  · split
    · exact ⟨ms.map fun n => if n.pend = id ∧ n.pa = (c.parkMonitor s.now id pd cc b y).pa ∧
          n.b = (c.parkMonitor s.now id pd cc b y).b then
          { n with lanes := n.lanes ||| (c.parkMonitor s.now id pd cc b y).lanes } else n,
        by rw [List.length_map]; exact Nat.le_succ _, by rw [List.append_nil]; rfl⟩
    · have few : ((s.withMonitors ms).mem.monitors.filter fun n => n.bank = (c.parkMonitor s.now id pd cc b y).bank).length
          < 64 := Nat.lt_of_le_of_lt (List.length_filter_le _ _) room
      rw [if_pos few]
      exact ⟨ms ++ [c.parkMonitor s.now id pd cc b y], by simp, by rw [List.append_nil]; rfl⟩

/-- Where every bank has room for all lanes, those that compare true are those that answer. -/
theorem parkLanes_room (c : Ctx) (id pd : Nat) (cc : Cc) (b : Src) (s : State) (ls : List (Nat × Nat × Xlate))
    (rs : List (Nat × Bool)) (bads : List (Nat × Nat × Nat × Nat)) (ms : List Monitor)
    (clean : ∀ y ∈ ls, s.lineErr c.fen (y.2.2.pa / 64) = none) (room : ms.length + ls.length ≤ 64) :
    ∃ ms', ls.foldl (c.parkLane id pd cc b) (s.withMonitors ms, rs, bads) =
      (s.withMonitors ms', rs ++ ls.flatMap fun y =>
        if s.monitorTrue (c.parkMonitor s.now id pd cc b y) then [(y.1, true)] else [], bads) := by
  induction ls generalizing rs ms with
  | nil => exact ⟨ms, by simp⟩
  | cons y ls ih =>
    rw [List.length_cons] at room
    obtain ⟨ms1, grown, first⟩ := parkLane_room c id pd cc b s rs bads ms y (clean y (List.mem_cons_self ..)) (by omega)
    obtain ⟨ms', rest⟩ := ih (rs ++ if s.monitorTrue (c.parkMonitor s.now id pd cc b y) then [(y.1, true)] else []) ms1
      (fun x hx => clean x (List.mem_cons_of_mem _ hx)) (by omega)
    exact ⟨ms', by rw [List.foldl_cons, first, rest, List.flatMap_cons, List.append_assoc]⟩

/-- A lane that does not compare true leaves fewer answers than lanes. -/
theorem answers_lt (ls : List (Nat × Nat × Xlate)) (test : Nat × Nat × Xlate → Bool) (h : ∃ y ∈ ls, test y = false) :
    (ls.flatMap fun y => if test y then [(y.1, true)] else []).length < ls.length := by
  have each (ls : List (Nat × Nat × Xlate)) :
      (ls.flatMap fun y => if test y then [(y.1, true)] else []).length = (ls.filter test).length := by
    induction ls with
    | nil => rfl
    | cons y ls ih => cases hy : test y <;> simp [hy, ih]
  rw [each]
  obtain ⟨y, hy, fails⟩ := h
  exact List.length_filter_lt_length_iff_exists.2 ⟨y, hy, by simp [fails]⟩

/-! ## What a `park` does with its lanes' answers -/

theorem State.logLanes_clean (s : State) (bads : List (Nat × Nat × Nat × Nat)) (h : ∀ x ∈ bads, isMc x.2.1 = false) :
    s.logLanes bads = s := by
  have none : (bads.map fun b => (b.2.1, b.2.2.2)).filter (fun f => isMc f.1) = [] := by
    rw [List.filter_eq_nil_iff]
    intro f hf
    obtain ⟨x, hx, rfl⟩ := List.mem_map.1 hf
    simp [h x hx]
  unfold State.logLanes State.logBeside
  rw [none]
  rfl

theorem hbType_iff (ty : Nat) : hbType ty = true ↔ ty ∈ [2, 3, 6, 7, 0x0A, 0x0B] := by
  simp only [hbType, Bool.or_eq_true, decide_eq_true_eq, List.mem_cons, List.not_mem_nil, or_false]
  tauto

/-- The operation of a `park`. -/
def Ctx.parkOp (c : Ctx) (s : State) (pd n : Nat) (rs : List (Nat × Bool)) (bads : List (Nat × Nat × Nat × Nat)) : Pending :=
  { Pending.new s.nextId (c.flagNo 0x14A) with
    isPark := true, waiting := n - rs.length, bad := deferOf (.flag (c.flagNo 0x14A)) 3 bads
    writes := rs.map fun r => .p r.1 pd r.2 }

/-- The group of a `park` once its operation stands in it, an acquire if a lane compares true. -/
def Group.parkBegun (g : Group) (floor : Nat) (p : Pending) (rs : List (Nat × Bool)) : Group :=
  if rs.any (·.2) then { g.flagUp p.flag with pend := g.pend ++ [p], floor := floor, joined := floor }
  else { g.flagUp p.flag with pend := g.pend ++ [p] }

/-- The outcome of a `park` from what its lanes answer. -/
theorem park_go (b : Src) (cc : Cc) (pd : BitVec 3) (a : BitVec 7) (c : Ctx) (s u : State) (ls : List (Nat × Nat × Xlate))
    (rs : List (Nat × Bool)) (bads : List (Nat × Nat × Nat × Nat)) (legal : wellFormed (.park b cc pd a) = true)
    (accepts : c.ty ∈ [2, 3, 6, 7, 0x0A, 0x0B])
    (h : c.MayIssue s 0x14A (a.toNat :: b.vs) (a.toNat :: if tyPair c.ty then b.vs else []) b.ss)
    (checked : s.checkLanes c { op := 0x14A, bytes := tyWidth c.ty / 8, r := true, w := true, kind := 3 } (c.pointers a) =
      .ok (s, ls)) (calm : s.acquirePending c = false)
    (found : ls.foldl (c.parkLane s.nextId pd.toNat cc b) ({ s with nextId := s.nextId + 1 }, [], []) = (u, rs, bads))
    (fine : ∀ x ∈ bads, isMc x.2.1 = false) :
    let p := c.parkOp s pd.toNat ls.length rs bads
    let v := u.modGroup c.ti c.gi fun g => g.parkBegun u.nextId p rs
    exec (.park b cc pd a) s = .next (Res.state s c 0x14A (if ls.length - rs.length = 0 then
      .ok ((v.modGroup c.ti c.gi fun g => g.givePs pd.toNat rs).finish c.ti c.gi { p with writes := [] })
      else .ok (v.modGroup c.ti c.gi fun g =>
        { g with block := some { kind := .park, entry := c.ei, since := u.now } }))) := by
  intro p v
  have ok : hbType c.ty = true := (hbType_iff _).2 accepts
  rw [exec_park, execPark, issue_go (hbW 0x14A (.park b cc pd a) hbType [] b a) _ s c _ _ _ rfl rfl rfl h legal (if_pos ok) rfl rfl]
  have raised : (if rs.any (·.2) then (u.begin c.ti c.gi p).raiseFloor c.ti c.gi else u.begin c.ti c.gi p) = v := by
    cases any : rs.any (·.2) with
    | true =>
      simp only [v, Group.parkBegun, any, if_true]
      exact State.modGroup_modGroup ..
    | false =>
      simp only [v, Group.parkBegun, any, Bool.false_eq_true, if_false]
      rfl
  have given (w : State) : (w.modGroup c.ti c.gi fun g => p.writes.foldl Group.deliver g)
      = w.modGroup c.ti c.gi fun g => g.givePs pd.toNat rs := by
    simp only [p, Ctx.parkOp, List.foldl_map]
    rfl
  have clean := u.logLanes_clean bads fine
  have checked' : s.checkLanes c (hbRule c 0x14A) (c.pointers a) = .ok (s, ls) := checked
  have own := c.refresh_self s h.issuer
  simp only [checked', own, calm, Bool.false_eq_true, if_false, State.fresh, found, clean]
  rw [← given v, ← raised]
  split <;> [skip; split] <;> rfl

/-! ## A `park` that goes on -/

theorem State.modGroup?_modGroup (s : State) (ti gi : Nat) (f g : Group → Group) :
    (s.modGroup ti gi f).modGroup? ti gi g = s.modGroup ti gi fun x => g (f x) := by
  have found : (s.modGroup ti gi f).teams.find ti = some ((s.team ti).setGroup gi (f (s.group ti gi))) :=
    SMap.find_ins_same ..
  rw [State.modGroup?, found]
  exact s.modGroup_modGroup ti gi f g

theorem State.defer_modGroup (s : State) (ti gi : Nat) (f : Group → Group) (d : Deferred)
    (living : (f (s.group ti gi)).ended = false) :
    (s.modGroup ti gi f).defer ti gi d = s.modGroup ti gi fun g => { f g with deferred := d.joinTo (f g).deferred } := by
  have found : (s.modGroup ti gi f).teams.find ti = some ((s.team ti).setGroup gi (f (s.group ti gi))) :=
    SMap.find_ins_same ..
  rw [State.defer, found]
  simp only [Team.group_setGroup, living, Bool.false_eq_true, if_false]
  exact s.modGroup_modGroup ti gi f _

theorem Group.flag_flagUp (g : Group) (k : Nat) : (g.flagUp k).flag k = g.flag k + 1 :=
  SMap.get_put_same 0 g.cf k (g.flag k + 1)

theorem Group.flag_flagDown (g : Group) (k : Nat) : (g.flagDown k).flag k = g.flag k - 1 :=
  SMap.get_put_same 0 g.cf k (g.flag k - 1)

/-- A group whose operation has ended: its flag falls, its sticky flags are set, its cause is deferred. -/
def Group.finished (g : Group) (p : Pending) : Group :=
  let h := { g.flagDown p.flag with fp := g.fp ||| p.fp, pend := g.pend.filter fun q => q.id ≠ p.id }
  let h := if p.isPark && !p.dead then { h with block := none } else h
  match p.bad with
  | some d => { h with deferred := d.joinTo g.deferred }
  | none => h

theorem Group.flag_finished (g : Group) (p : Pending) : (g.finished p).flag p.flag = g.flag p.flag - 1 := by
  have fall := g.flag_flagDown p.flag
  unfold Group.finished
  cases p.bad <;> dsimp only <;> split <;> exact fall

theorem Group.deferred_finished (g : Group) (p : Pending) {d : Deferred} (h : p.bad = some d) :
    (g.finished p).deferred = d.joinTo g.deferred := by
  unfold Group.finished
  rw [h]

theorem State.finish_modGroup (s : State) (ti gi : Nat) (f : Group → Group) (p : Pending)
    (bad : ∀ d, p.bad = some d → isMc d.cause = false ∧ (f (s.group ti gi)).ended = false) :
    (s.modGroup ti gi f).finish ti gi p = s.modGroup ti gi fun g => (f g).finished p := by
  unfold State.finish Group.finished
  rw [State.modGroup?_modGroup]
  cases hb : p.bad with
  | none => rfl
  | some d =>
    obtain ⟨mild, living⟩ := bad d hb
    dsimp only
    rw [State.failLate, mild, if_neg Bool.false_ne_true, State.defer_modGroup]
    · split <;> rfl
    · split <;> exact living

/-- The group of a `park` that goes on: its operation ended, its wait over, its cause deferred if it has one. -/
def Group.parkDone (g : Group) (p : Pending) : Group :=
  { g.flagDown p.flag with
    pend := g.pend.filter fun q => q.id ≠ p.id
    block := none
    deferred := match p.bad with
      | some d => d.joinTo g.deferred
      | none => g.deferred }

theorem Group.finished_park (g : Group) (p : Pending) (park : p.isPark = true) (alive : p.dead = false) (quiet : p.fp = 0) :
    g.finished p = g.parkDone p := by
  have same : g.fp ||| (0 : Flags) = g.fp := BitVec.or_zero
  unfold Group.finished Group.parkDone
  simp only [park, alive, quiet, same, Bool.not_false, Bool.and_self, if_true]
  cases p.bad <;> rfl

/-- What a `park` that goes on leaves of its group before its word retires. -/
def Ctx.parkedGroup (c : Ctx) (s : State) (pd n : Nat) (rs : List (Nat × Bool)) (bads : List (Nat × Nat × Nat × Nat)) : Group :=
  ((c.grp.parkBegun (s.nextId + 1) (c.parkOp s pd n rs bads) rs).givePs pd rs).parkDone
    { c.parkOp s pd n rs bads with writes := [] }

theorem Group.parkBegun_work (g : Group) (floor : Nat) (p : Pending) (rs : List (Nat × Bool)) :
    g.parkBegun floor p rs = g.withWork (g.parkBegun floor p rs) ∧ (g.parkBegun floor p rs).p = g.p ∧
    (g.parkBegun floor p rs).flag p.flag = g.flag p.flag + 1 ∧ (g.parkBegun floor p rs).deferred = g.deferred := by
  unfold Group.parkBegun
  split
  · exact ⟨rfl, rfl, g.flag_flagUp _, rfl⟩
  · exact ⟨rfl, rfl, g.flag_flagUp _, rfl⟩

theorem Group.readP_givePs_congr (g h : Group) (k : Nat) (rs : List (Nat × Bool)) (same : g.p = h.p) :
    (g.givePs k rs).p = (h.givePs k rs).p := by
  induction rs generalizing g h with
  | nil => exact same
  | cons r rs ih =>
    refine ih _ _ ?_
    simp only [Group.writeP, Group.writePs, Group.pmask, same]
    split
    · exact same
    · rfl

/-- The group of a `park` that goes on: its answers stand in the predicate, its flag counts as before, and every other
register is as it was. -/
theorem Ctx.parkedGroup_eq (c : Ctx) (s : State) (pd n : Nat) (rs : List (Nat × Bool)) (bads : List (Nat × Nat × Nat × Nat)) :
    let g := c.parkedGroup s pd n rs bads
    g = c.grp.withWork g ∧ g.p = (c.grp.givePs pd rs).p ∧ g.block = none ∧
    g.flag (c.flagNo 0x14A) = c.grp.flag (c.flagNo 0x14A) ∧
    g.deferred = match deferOf (.flag (c.flagNo 0x14A)) 3 bads with
      | some d => d.joinTo c.grp.deferred
      | none => c.grp.deferred := by
  intro g
  obtain ⟨work, p, flag, deferred⟩ := c.grp.parkBegun_work (s.nextId + 1) (c.parkOp s pd n rs bads) rs
  have given := Group.givePs_eq (c.grp.parkBegun (s.nextId + 1) (c.parkOp s pd n rs bads) rs) pd rs
  have eq : g = Group.parkDone { c.grp.parkBegun (s.nextId + 1) (c.parkOp s pd n rs bads) rs with
      p := ((c.grp.parkBegun (s.nextId + 1) (c.parkOp s pd n rs bads) rs).givePs pd rs).p }
      { c.parkOp s pd n rs bads with writes := [] } := by
    rw [← given]
    rfl
  generalize c.grp.parkBegun (s.nextId + 1) (c.parkOp s pd n rs bads) rs = begun at work p flag deferred eq
  have counted : (begun.flag (c.parkOp s pd n rs bads).flag) - 1 = c.grp.flag (c.flagNo 0x14A) := by
    rw [flag]
    exact Nat.add_sub_cancel ..
  rw [eq]
  refine ⟨?_, Group.readP_givePs_congr _ _ _ _ p, rfl, (Group.flag_flagDown _ _).trans counted, ?_⟩
  · rw [work]
    rfl
  · show (match deferOf (.flag (c.flagNo 0x14A)) 3 bads with
      | some d => d.joinTo begun.deferred
      | none => begun.deferred) = _
    rw [deferred]

/-- A `park` all of whose lanes answer goes on. -/
theorem park_goes_on (b : Src) (cc : Cc) (pd : BitVec 3) (a : BitVec 7) (c : Ctx) (s : State) (ls : List (Nat × Nat × Xlate))
    (rs : List (Nat × Bool)) (bads : List (Nat × Nat × Nat × Nat)) (legal : wellFormed (.park b cc pd a) = true)
    (accepts : c.ty ∈ [2, 3, 6, 7, 0x0A, 0x0B])
    (h : c.MayIssue s 0x14A (a.toNat :: b.vs) (a.toNat :: if tyPair c.ty then b.vs else []) b.ss)
    (checked : s.checkLanes c { op := 0x14A, bytes := tyWidth c.ty / 8, r := true, w := true, kind := 3 } (c.pointers a) =
      .ok (s, ls)) (calm : s.acquirePending c = false)
    (found : ls.foldl (c.parkLane s.nextId pd.toNat cc b) ({ s with nextId := s.nextId + 1 }, [], []) =
      ({ s with nextId := s.nextId + 1 }, rs, bads)) (all : rs.length = ls.length)
    (fine : ∀ x ∈ bads, isMc x.2.1 = false) (living : bads = [] ∨ c.grp.ended = false) :
    ∃ t, exec (.park b cc pd a) s = .next t ∧ t.keeps s c.ti c.gi ∧
      (t.group c.ti c.gi).block = none ∧ (t.group c.ti c.gi).flag (c.flagNo 0x14A) = c.grp.flag (c.flagNo 0x14A) ∧
      (∀ l k, (t.group c.ti c.gi).readP l k = (c.grp.givePs pd.toNat rs).readP l k) ∧
      (t.group c.ti c.gi).sameRegs ({ c.grp with p := (t.group c.ti c.gi).p }.retire c.ei 0x14A) ∧
      (t.group c.ti c.gi).deferred = match deferOf (.flag (c.flagNo 0x14A)) 3 bads with
        | some d => d.joinTo c.grp.deferred
        | none => c.grp.deferred := by
  have group := s.ctx_group c h.issuer
  have go := park_go b cc pd a c s { s with nextId := s.nextId + 1 } ls rs bads legal accepts h checked calm found fine
  have done (u : State) (hu : u.group c.ti c.gi = c.grp) :
      (u.modGroup c.ti c.gi fun g =>
        (g.parkBegun (s.nextId + 1) (c.parkOp s pd.toNat ls.length rs bads) rs).givePs pd.toNat rs).finish c.ti c.gi
          { c.parkOp s pd.toNat ls.length rs bads with writes := [] }
      = u.setGroup c.ti c.gi (c.parkedGroup s pd.toNat ls.length rs bads) := by
    rw [State.finish_modGroup, State.modGroup, hu, Group.finished_park _ _ rfl rfl rfl]
    · rfl
    · intro d hd
      rcases living with none | alive
      · subst none
        cases hd
      · refine ⟨?_, ?_⟩
        · cases bads with
          | nil => cases hd
          | cons x xs =>
            obtain rfl := Option.some.inj hd
            exact fine x (List.mem_cons_self ..)
        · rw [hu, Group.givePs_eq]
          unfold Group.parkBegun
          split <;> exact alive
  dsimp only at go
  rw [all, Nat.sub_self, if_pos rfl, State.modGroup_modGroup] at go
  refine ⟨_, go.trans (congrArg (fun u => Host.Outcome.next (Res.state s c 0x14A (.ok u))) (done _ group)), ?_⟩
  simp only [Res.state, State.retire_setGroup]
  obtain ⟨work, p, block, flag, deferred⟩ := c.parkedGroup_eq s pd.toNat ls.length rs bads
  generalize c.parkedGroup s pd.toNat ls.length rs bads = g at work p block flag deferred
  have kept := g.retire_work c.ei 0x14A
  have after : ({ s with nextId := s.nextId + 1 } : State).after c 0x14A g
      = { s with nextId := s.nextId + 1 }.setGroup c.ti c.gi (g.retire c.ei 0x14A) := rfl
  have keeps : ({ s with nextId := s.nextId + 1 } : State).keeps s c.ti c.gi :=
    State.keeps_of_eq (s.keeps_self c.ti c.gi) rfl rfl rfl
  rw [after, State.group_setGroup]
  refine ⟨State.keeps_setGroup keeps _, ?_, ?_, fun l k => ?_, ?_, ?_⟩
  · rw [kept]
    exact block
  · rw [kept]
    exact flag
  · rw [kept]
    simp only [Group.readP, Group.pmask, Group.withWork, p]
  · refine Group.sameRegs_retire ?_ ?_ c.ei 0x14A
    · rw [kept]
      exact work
    · rw [kept]
      rfl
  · rw [kept]
    exact deferred

/-! ## O28 -/

/-- What a `park` gives lanes that all answer alike. -/
theorem Ctx.readP_answers {c : Ctx} {ls : List (Nat × Nat × Xlate)} (v : Bool) (pd l k : Nat) (hl : l < 32)
    (own : ∀ y ∈ ls, y.1 ∈ c.lanes) :
    (c.grp.givePs pd (ls.map fun y => (y.1, v))).readP l k
      = if k = pd ∧ pd ≠ 7 ∧ l ∈ ls.map (·.1) then v else c.grp.readP l k := by
  rw [Group.readP_givePs c.grp pd l k v _ hl, List.map_map]
  · rfl
  · intro r hr
    obtain ⟨y, hy, rfl⟩ := List.mem_map.1 hr
    exact ⟨((mem_lanesOf _ _).1 (own y hy)).1, rfl⟩

theorem Ctx.readP_answers_other {c : Ctx} {ls : List (Nat × Nat × Xlate)} (v : Bool) (pd l k : Nat) (hl : l < 32)
    (own : ∀ y ∈ ls, y.1 ∈ c.lanes) (other : k ≠ pd ∨ l ∉ c.lanes) :
    (c.grp.givePs pd (ls.map fun y => (y.1, v))).readP l k = c.grp.readP l k := by
  rw [Ctx.readP_answers v pd l k hl own, if_neg]
  rintro ⟨same, -, lane⟩
  obtain ⟨y, hy, rfl⟩ := List.mem_map.1 lane
  exact other.elim (fun h => h same) fun h => h (own y hy)

/-- A `park` with a lane that must wait blocks its group. -/
theorem park_waits (b : Src) (cc : Cc) (pd : BitVec 3) (a : BitVec 7) (c : Ctx) (s : State) (ls : List (Nat × Nat × Xlate))
    (legal : wellFormed (.park b cc pd a) = true) (accepts : c.ty ∈ [2, 3, 6, 7, 0x0A, 0x0B])
    (h : c.MayIssue s 0x14A (a.toNat :: b.vs) (a.toNat :: if tyPair c.ty then b.vs else []) b.ss)
    (checked : s.checkLanes c { op := 0x14A, bytes := tyWidth c.ty / 8, r := true, w := true, kind := 3 } (c.pointers a) =
      .ok (s, ls)) (calm : s.acquirePending c = false) (clean : ∀ y ∈ ls, s.lineErr c.fen (y.2.2.pa / 64) = none)
    (waits : ∃ y ∈ ls, s.monitorTrue (c.parkMonitor s.now s.nextId pd.toNat cc b y) = false)
    (room : s.mem.monitors.length + ls.length ≤ 64) :
    ∃ t, exec (.park b cc pd a) s = .next t ∧
      (t.group c.ti c.gi).block = some { kind := .park, entry := c.ei, since := s.now } ∧
      (t.group c.ti c.gi).flag (c.flagNo 0x14A) = c.grp.flag (c.flagNo 0x14A) + 1 ∧
      t.keeps { s with mem := { s.mem with monitors := t.mem.monitors } } c.ti c.gi ∧
      (t.group c.ti c.gi).sameRegs (c.grp.retire c.ei 0x14A) := by
  obtain ⟨ms, found⟩ := parkLanes_room c s.nextId pd.toNat cc b { s with nextId := s.nextId + 1 } ls [] [] s.mem.monitors
    clean room
  have fewer := answers_lt ls (fun y => State.monitorTrue { s with nextId := s.nextId + 1 }
    (c.parkMonitor s.now s.nextId pd.toNat cc b y)) waits
  rw [List.nil_append] at found
  have go := park_go b cc pd a c s _ ls _ [] legal accepts h checked calm found fun x hx => nomatch hx
  dsimp only at go
  rw [if_neg (Nat.sub_ne_zero_of_lt fewer), State.modGroup_modGroup] at go
  refine ⟨_, go, ?_⟩
  simp only [Res.state, State.retire_modGroup, State.group_modGroup]
  have group : (State.withMonitors { s with nextId := s.nextId + 1 } ms).group c.ti c.gi = c.grp := s.ctx_group c h.issuer
  have floor : (State.withMonitors { s with nextId := s.nextId + 1 } ms).nextId = s.nextId + 1 := rfl
  have keeps : (State.withMonitors { s with nextId := s.nextId + 1 } ms).keeps
      { s with mem := { s.mem with monitors := ms } } c.ti c.gi :=
    State.keeps_of_eq (State.keeps_self _ c.ti c.gi) rfl rfl rfl
  rw [group, floor]
  generalize List.flatMap _ ls = rs
  obtain ⟨work, p, flag, -⟩ := c.grp.parkBegun_work (s.nextId + 1) (c.parkOp s pd.toNat ls.length rs []) rs
  generalize c.grp.parkBegun (s.nextId + 1) (c.parkOp s pd.toNat ls.length rs []) rs = g at work p flag
  refine ⟨?_, ?_, State.keeps_modGroup keeps _, Group.sameRegs_retire ?_ ?_ c.ei 0x14A⟩
  · rw [Group.retire_work]
    rfl
  · rw [Group.retire_work]
    exact flag
  · rw [work]
    rfl
  · exact p

/-- Settles O28: the word's lanes answer in turn, so where they all answer alike its group goes on with that value, and where
a lane that must wait finds room its group stays blocked. -/
theorem parkWords : Obligations.ParkWords := by
  unfold Obligations.ParkWords
  intro c s
  refine ⟨fun b h => parkt_result b c s h, fun b cc pd a ls legal accepts shut h checked calm clean => ?_,
    fun b cc pd a legal h => ⟨fun refused => ?_, fun y e accepts shut calm checked hit mild living => ?_⟩⟩
  · have own := (State.checkLanes_closed shut (fun x hx => Ctx.lane_of_pointers hx) checked).2
    intro holds
    refine ⟨fun all _ => ?_, fun waits room => park_waits b cc pd a c s ls legal accepts h checked calm clean waits room,
      fun full _ fresh => ?_⟩
    · have found := parkLanes_true c s.nextId pd.toNat cc b { s with nextId := s.nextId + 1 } ls [] []
        fun y hy => ⟨clean y hy, all y hy⟩
      obtain ⟨t, go, keeps, block, flag, answers, regs, -⟩ := park_goes_on b cc pd a c s ls _ _ legal accepts h checked calm
        found (by simp) (fun x hx => nomatch hx) (.inl rfl)
      refine ⟨t, go, keeps, block, flag, fun y hy => ?_, fun l hl k other => ?_, regs⟩
      · rw [answers, List.nil_append, Ctx.readP_answers true _ _ _ ((mem_lanesOf _ _).1 (own y hy)).1 own]
        split
        · rfl
        · next other =>
          have wired : pd.toNat = 7 := by
            by_contra ne
            exact other ⟨rfl, ne, List.mem_map_of_mem hy⟩
          rw [wired]
          exact c.grp.readP_seven ((mem_lanesOf _ _).1 (own y hy)).1
      · rw [answers, List.nil_append, Ctx.readP_answers_other true _ _ _ hl own other]
    · have found := parkLanes_full c s.nextId pd.toNat cc b { s with nextId := s.nextId + 1 } ls [] [] fresh
        fun y hy => ⟨clean y hy, full y hy⟩
      obtain ⟨t, go, keeps, block, flag, answers, regs, -⟩ := park_goes_on b cc pd a c s ls _ _ legal accepts h checked calm
        found (by simp) (fun x hx => nomatch hx) (.inl rfl)
      refine ⟨t, go, keeps, block, flag, fun y hy pd7 => ?_, fun l hl k other => ?_, regs⟩
      · rw [answers, List.nil_append, Ctx.readP_answers false _ _ _ ((mem_lanesOf _ _).1 (own y hy)).1 own,
          if_pos ⟨rfl, Nat.ne_of_lt pd7, List.mem_map_of_mem hy⟩]
      · rw [answers, List.nil_append, Ctx.readP_answers_other false _ _ _ hl own other]
  · rw [exec_park, execPark]
    exact issue_pre (hbW 0x14A (.park b cc pd a) hbType [] b a) _ s c _ _ _ _ rfl rfl h legal
      (if_neg (mt (hbType_iff _).1 refused))
  · have own := (State.checkLanes_closed shut (fun x hx => Ctx.lane_of_pointers hx) checked).2
    have found := parkLane_found c s.nextId pd.toNat cc b { s with nextId := s.nextId + 1 } y e hit
    obtain ⟨t, go, keeps, block, flag, answers, regs, deferred⟩ := park_goes_on b cc pd a c s [y] _ _ legal accepts h checked
      calm found rfl (by simpa using mild) (.inr living)
    refine ⟨t, go, keeps, block, flag, fun pd7 => ?_, ?_, regs⟩
    · have small := ((mem_lanesOf _ _).1 (own y (List.mem_cons_self ..))).1
      rw [answers, Group.readP_givePs c.grp _ _ _ false _ small (by simpa using small)]
      simp [Nat.ne_of_lt pd7]
    · rw [deferred]
      simp [deferOf]

end Sys2Proof.Machine
end

section
/-!
PROOFS. Barriers (R264 to R267) and streams (R268 to R271): words that change their team and their group, each barrier and stream
word's checks and effect, and the two obligations.
-/
namespace Sys2Proof.Machine

/-! ## A word that changes its team and its group -/

/-- A change of a team that leaves its groups commutes with a change of one of its groups. -/
theorem State.modTeam_setGroup (s : State) (ti gi : Nat) (g : Group) (F : Team → Team)
    (hF : F ((s.team ti).setGroup gi g) = (F (s.team ti)).setGroup gi g) :
    (s.setGroup ti gi g).modTeam ti F = (s.modTeam ti F).setGroup ti gi g := by
  simp only [State.setGroup, State.modTeam, State.team_setTeam, State.setTeam_setTeam, hF]

theorem State.modTeam_congr (s : State) (ti : Nat) {F G : Team → Team} (h : F (s.team ti) = G (s.team ti)) :
    s.modTeam ti F = s.modTeam ti G := by
  rw [State.modTeam, h, State.modTeam]

@[simp] theorem State.team_modTeam (s : State) (ti : Nat) (F : Team → Team) : (s.modTeam ti F).team ti = F (s.team ti) :=
  s.team_setTeam ti _

theorem State.bars_setGroup (s : State) (ti gi : Nat) (g : Group) : ((s.setGroup ti gi g).team ti).bars = (s.team ti).bars := by
  rw [State.setGroup, State.team_setTeam]
  rfl

theorem State.streams_setGroup (s : State) (ti gi : Nat) (g : Group) :
    ((s.setGroup ti gi g).team ti).streams = (s.team ti).streams := by
  rw [State.setGroup, State.team_setTeam]
  rfl

/-- A word that has put a group where barriers of its team changed keeps all but these. -/
theorem State.keeps_bars (s : State) (ti gi : Nat) (F : Team → Team) (g : Group)
    (hF : F (s.team ti) = { s.team ti with bars := (F (s.team ti)).bars }) :
    let t := (s.modTeam ti F).setGroup ti gi g
    t.keeps (s.modTeam ti fun y => { y with bars := (t.team ti).bars }) ti gi := by
  intro t
  have same : s.modTeam ti (fun y => { y with bars := (t.team ti).bars }) = s.modTeam ti F := by
    refine s.modTeam_congr ti ?_
    dsimp only [t]
    rw [State.bars_setGroup, State.team_modTeam]
    exact hF.symm
  rw [same]
  exact State.keeps_setGroup (State.keeps_self _ ti gi) g

/-- A word that has put a group where streams of its team changed keeps all but these. -/
theorem State.keeps_streams (s : State) (ti gi : Nat) (F : Team → Team) (g : Group)
    (hF : F (s.team ti) = { s.team ti with streams := (F (s.team ti)).streams }) :
    let t := (s.modTeam ti F).setGroup ti gi g
    t.keeps (s.modTeam ti fun y => { y with streams := (t.team ti).streams }) ti gi := by
  intro t
  have same : s.modTeam ti (fun y => { y with streams := (t.team ti).streams }) = s.modTeam ti F := by
    refine s.modTeam_congr ti ?_
    dsimp only [t]
    rw [State.streams_setGroup, State.team_modTeam]
    exact hF.symm
  rw [same]
  exact State.keeps_setGroup (State.keeps_self _ ti gi) g

/-- A word that blocks keeps everything but its group's wait and its flashback record (R70, R100). -/
theorem Ctx.blocked_result (c : Ctx) (s : State) (k : BlockKind) :
    let t := c.blocked s k
    t.keeps s c.ti c.gi ∧ (t.group c.ti c.gi).sameRegs c.grp ∧ (t.group c.ti c.gi).entries = c.grp.entries ∧
      (t.group c.ti c.gi).fb = none ∧ ∃ b, (t.group c.ti c.gi).block = some b ∧ b.kind = k := by
  intro t
  have group : t.group c.ti c.gi = { c.grp with
      fb := none
      block := match c.grp.block with
        | some b => some { b with kind := k }
        | none => some { kind := k, entry := c.ei, since := s.now } } := s.group_setGroup ..
  rw [group]
  refine ⟨State.keeps_setGroup (s.keeps_self c.ti c.gi) _, ⟨rfl, rfl, rfl, rfl, rfl, rfl, rfl, rfl, rfl, rfl, rfl, rfl⟩, rfl,
    rfl, ?_⟩
  cases c.grp.block with
  | some b => exact ⟨_, rfl, rfl⟩
  | none => exact ⟨_, rfl, rfl⟩

/-- A word that passes its checks waits, without any effect, until its engine takes it (R70). -/
theorem issue_waits (w : Word) (act : Ctx → State → Res) (s : State) (c : Ctx) (vs pairs ss : List Nat) (hv : w.vs = vs)
    (hp : w.pairs c = pairs) (hs : w.ss = ss) (h : c.MayIssue s w.op vs pairs ss) (legal : w.legal = true)
    (pre : w.pre c s = .ok ()) (lanes : w.lanesOk c s = .ok ()) (engine : w.engineOk c s = .ok ())
    (ready : w.ready c s = false) : issue w act s = .next s := by
  refine issue_wait w act s c vs pairs ss hv hs h legal pre ?_ ready
  subst hp
  have even : ¬ ((w.pairs c).any fun n => n ≠ 127 ∧ n % 2 = 1) = true := by
    rw [List.any_eq_true]
    rintro ⟨n, hn, odd⟩
    rcases h.even n hn with h | h <;> simp [h] at odd
  rw [Ctx.stage34, if_neg even, lanes]
  rcases h.gate with none | ⟨-, spad, bar, bind, window⟩
  · simp [none, engine]
  · simp [spad, bar, bind, hs, show (ss.any (within 8 61)) = false from List.any_eq_false.2 (by simpa using window), engine]

/-! ## Barrier words (R264 to R267) -/

theorem Ctx.uniB_eq (c : Ctx) (b : Src) : c.uniB b = uniOperand c.grp b := by
  cases b <;> rfl

section
variable {n : BitVec 4} {c : Ctx} {s : State} (below : n.toNat < c.team.nbar)
include below

theorem barW_legal {op : Nat} {i : Instr} {ss : List Nat} (own : s.ctx = some c) (legal : wellFormed i = true) :
    (barW s op i n.toNat ss).legal = true := by
  show (wellFormed i && s.issuer fun c => n.toNat < c.team.nbar) = true
  rw [State.issuer_eq _ _ own, legal, Bool.true_and]
  exact decide_eq_true below

theorem binit_result (b : Src) (legal : wellFormed (.binit b n) = true) (h : c.MayIssue s 0x190 [] [] b.ss) :
    let x := c.team.bar n.toNat
    (x.arr ≠ 0 ∨ x.xexp ≠ 0 ∨ x.xarr ≠ 0 → exec (.binit b n) s = .next (s.takeFault c.ti c.gi c.ei { cause := 0x86 })) ∧
    (x.arr = 0 → x.xexp = 0 → x.xarr = 0 → (uniOperand c.grp b).toNat = 0 ∨ 1023 < (uniOperand c.grp b).toNat →
      exec (.binit b n) s = .next (s.takeFault c.ti c.gi c.ei { cause := 0x87 })) ∧
    (x.arr = 0 → x.xexp = 0 → x.xarr = 0 → 1 ≤ (uniOperand c.grp b).toNat → (uniOperand c.grp b).toNat ≤ 1023 →
      exec (.binit b n) s = .next ((s.modTeam c.ti fun t => t.setBar n.toNat
        { x with members := (uniOperand c.grp b).toNat }.settle).retire c 0x190)) := by
  intro x
  have ok := barW_legal (op := 0x190) (ss := b.ss) below h.issuer legal
  rw [exec_binit, execBinit]
  refine ⟨fun used => ?_, fun arr xexp xarr range => ?_, fun arr xexp xarr low high => ?_⟩
  · exact issue_pre _ _ s c _ _ _ _ rfl rfl h ok (if_pos used)
  · refine issue_pre _ _ s c _ _ _ _ rfl rfl h ok ?_
    have clear : ¬ (x.arr ≠ 0 ∨ x.xexp ≠ 0 ∨ x.xarr ≠ 0) := by simp [arr, xexp, xarr]
    refine (if_neg clear).trans (if_neg ?_)
    rw [Ctx.uniB_eq]
    omega
  · have clear : ¬ (x.arr ≠ 0 ∨ x.xexp ≠ 0 ∨ x.xarr ≠ 0) := by simp [arr, xexp, xarr]
    have range : 1 ≤ (c.uniB b).toNat ∧ (c.uniB b).toNat ≤ 1023 := by
      rw [Ctx.uniB_eq]
      exact ⟨low, high⟩
    refine Eq.trans (issue_go _ _ s c _ _ _ rfl rfl rfl h ok ((if_neg clear).trans (if_pos range)) rfl rfl) ?_
    simp only [Res.state, State.modBar, Ctx.uniB_eq]
    rw [State.modTeam, s.ctx_team c h.issuer, State.modTeam, s.ctx_team c h.issuer]
    rfl

theorem barv_result (d : BitVec 6) (h : c.MayIssue s 0x191 [] [] [d.toNat]) :
    let x := c.team.bar n.toNat
    (x.members = 0 → exec (.barv d n) s = .next (s.takeFault c.ti c.gi c.ei { cause := 0x85 })) ∧
    (x.members ≠ 0 → x.arr = 1023 → exec (.barv d n) s = .next (s.takeFault c.ti c.gi c.ei { cause := 0x87 })) ∧
    (x.members ≠ 0 → x.arr ≠ 1023 → s.storesAt c.ti c.gi 1 = false → exec (.barv d n) s = .next s) ∧
    (x.members ≠ 0 → x.arr ≠ 1023 → s.storesAt c.ti c.gi 1 = true →
      let p := (x.phase + x.arr / x.members) % 2 ^ 16
      ∃ t, exec (.barv d n) s = .next t ∧
        t.keeps (s.modTeam c.ti fun y => { y with bars := (t.team c.ti).bars }) c.ti c.gi ∧
        t.group c.ti c.gi = ({ c.grp.writeS d.toNat (BitVec.ofNat 64 p) with
          lph := SMap.put 0 c.grp.lph n.toNat (BitVec.ofNat 16 p) }).retire c.ei 0x191 ∧
        (t.team c.ti).bars = SMap.put Barrier.zero c.team.bars n.toNat { x with arr := x.arr + 1 }.settle) := by
  intro x
  have ok := barW_legal (op := 0x191) (ss := [d.toNat]) (i := .barv d n) below h.issuer rfl
  rw [exec_barv, execBarv]
  refine ⟨fun none => ?_, fun some full => ?_, fun some room early => ?_, fun some room late => ?_⟩
  · exact issue_pre _ _ s c _ _ _ _ rfl rfl h ok (if_pos none)
  · exact issue_pre _ _ s c _ _ _ _ rfl rfl h ok ((if_neg some).trans (if_pos full))
  · exact issue_waits _ _ s c _ _ _ rfl rfl rfl h ok ((if_neg some).trans (if_neg room)) rfl rfl early
  · intro p
    have team := s.ctx_team c h.issuer
    refine ⟨(s.modTeam c.ti (fun t => t.setBar n.toNat { t.bar n.toNat with arr := (t.bar n.toNat).arr + 1 }.settle)).after c
      0x191 { c.grp.writeS d.toNat (BitVec.ofNat 64 p) with lph := SMap.put 0 c.grp.lph n.toNat (BitVec.ofNat 16 p) },
      Eq.trans (issue_go _ _ s c _ _ _ rfl rfl rfl h ok ((if_neg some).trans (if_neg room)) rfl late) ?_,
      State.keeps_bars s c.ti c.gi _ _ rfl, State.group_setGroup .., ?_⟩
    · simp only [Res.state, State.modBar]
      rw [State.modGroup, s.ctx_group c h.issuer, State.modTeam_setGroup s c.ti c.gi _ _ rfl, State.retire_setGroup]
      rfl
    · rw [State.after, State.bars_setGroup, State.team_modTeam, team]
      rfl

theorem bexp_result (b : Src) (legal : wellFormed (.bexp b n) = true) (h : c.MayIssue s 0x192 [] [] b.ss) :
    let x := c.team.bar n.toNat
    let y := x.xexp + (uniOperand c.grp b).toNat % 2 ^ 32
    (x.members = 0 → exec (.bexp b n) s = .next (s.takeFault c.ti c.gi c.ei { cause := 0x85 })) ∧
    (x.members ≠ 0 → 2 ^ 32 ≤ y → exec (.bexp b n) s = .next (s.takeFault c.ti c.gi c.ei { cause := 0x87 })) ∧
    (x.members ≠ 0 → y < 2 ^ 32 → exec (.bexp b n) s = .next ((s.modTeam c.ti fun t => t.setBar n.toNat
      { x with xexp := y }.settle).retire c 0x192)) := by
  intro x y
  have ok := barW_legal (op := 0x192) (ss := b.ss) below h.issuer legal
  rw [exec_bexp, execBexp]
  simp only [Ctx.uniB_eq]
  refine ⟨fun none => ?_, fun some above => ?_, fun some fits => ?_⟩
  · exact issue_pre _ _ s c _ _ _ _ rfl rfl h ok (if_pos none)
  · exact issue_pre _ _ s c _ _ _ _ rfl rfl h ok ((if_neg some).trans (if_pos above))
  · refine Eq.trans (issue_go _ _ s c _ _ _ rfl rfl rfl h ok ((if_neg some).trans (if_neg (Nat.not_le.2 fits))) rfl rfl) ?_
    simp only [Res.state, State.modBar]
    rw [State.modTeam, s.ctx_team c h.issuer, State.modTeam, s.ctx_team c h.issuer]
    rfl

theorem bwait_result (b : Src) (legal : wellFormed (.bwait b n) = true) (h : c.MayIssue s 0x193 [] [] b.ss) :
    let x := c.team.bar n.toNat
    (x.phase ≠ c.phaseOf b n.toNat →
      exec (.bwait b n) s = .next (s.after c 0x193 { c.grp with block := none, floor := s.nextId, joined := s.nextId })) ∧
    (x.phase = c.phaseOf b n.toNat → ∃ t, exec (.bwait b n) s = .next t ∧
      t.keeps s c.ti c.gi ∧ (t.group c.ti c.gi).sameRegs c.grp ∧ (t.group c.ti c.gi).entries = c.grp.entries ∧
      (t.group c.ti c.gi).fb = none ∧
      ∃ k, (t.group c.ti c.gi).block = some k ∧ k.kind = .bwait n.toNat (c.phaseOf b n.toNat)) := by
  intro x
  have ok := barW_legal (op := 0x193) (ss := b.ss) below h.issuer legal
  rw [exec_bwait, execBwait, issue_go _ _ s c _ _ _ rfl rfl rfl h ok rfl rfl rfl]
  refine ⟨fun done => ?_, fun waits => ?_⟩
  · rw [if_neg done]
    simp only [Res.state, State.raiseFloor, State.modGroup_setGroup, State.retire_setGroup]
    rfl
  · rw [if_pos waits]
    exact ⟨_, rfl, c.blocked_result s _⟩

theorem btest_result (b : Src) (p : BitVec 3) (legal : wellFormed (.btest b p n) = true) (h : c.MayIssue s 0x194 [] [] b.ss) :
    exec (.btest b p n) s = .next (s.after c 0x194 (if (c.team.bar n.toNat).phase ≠ c.phaseOf b n.toNat
      then { c.grp.writePs p.toNat c.active (BitVec.allOnes 32) with floor := s.nextId, joined := s.nextId }
      else c.grp.writePs p.toNat c.active 0)) := by
  have ok := barW_legal (op := 0x194) (ss := b.ss) below h.issuer legal
  rw [exec_btest, execBtest, issue_go _ _ s c _ _ _ rfl rfl rfl h ok rfl rfl rfl]
  by_cases done : (c.team.bar n.toNat).phase ≠ c.phaseOf b n.toNat
  · simp only [if_pos done, Res.state, State.raiseFloor, State.modGroup_setGroup, State.retire_setGroup]
    rfl
  · simp only [if_neg done, Res.state, State.retire_setGroup]
    rfl

end

/-- Settles O34: each barrier word by its own checks and its own effect. -/
theorem barrierWords : Obligations.BarrierWords := by
  unfold Obligations.BarrierWords
  intro n c s below
  exact ⟨binit_result below, barv_result below, bexp_result below, bwait_result below, btest_result below⟩

/-! ## Stream words (R268 to R271) -/

/-- The stream words with their operation words and the uniform registers that they name. -/
def StreamForm (n : BitVec 3) (i : Instr) (op : Nat) (ss : List Nat) : Prop :=
  (∃ b, i = .qcfg n b ∧ op = 0x188 ∧ ss = [b.toNat]) ∨ (∃ d, i = .qpushRes d n ∧ op = 0x189 ∧ ss = [d.toNat]) ∨
    (i = .qpushPub n ∧ op = 0x189 ∧ ss = []) ∨ (i = .qfree n ∧ op = 0x18A ∧ ss = []) ∨
    ∃ d, i = .qpop d n ∧ op = 0x18B ∧ ss = [d.toNat]

/-- A word whose first check is that its team has the stream `n` is refused where the team has none, and where the rest of
its check fails. -/
theorem issue_stream (w : Word) (act : Ctx → State → Res) (n : Nat) (c : Ctx) (s : State) (own : Except Flt Unit) (ss : List Nat)
    (hv : w.vs = []) (hs : w.ss = ss) (h : c.MayIssue s w.op [] [] ss) (legal : w.legal = true)
    (pre : w.pre c s = if n < c.team.nstr then own else .error { cause := 0x01 }) :
    (c.team.nstr ≤ n → issue w act s = .next (s.takeFault c.ti c.gi c.ei { cause := 0x01 })) ∧
    (n < c.team.nstr → ∀ f, own = .error f → issue w act s = .next (s.takeFault c.ti c.gi c.ei f)) :=
  ⟨fun above => issue_pre w act s c _ _ _ _ hv hs h legal (pre.trans (if_neg (Nat.not_lt.2 above))),
    fun below f fails => issue_pre w act s c f _ _ _ hv hs h legal ((pre.trans (if_pos below)).trans fails)⟩

theorem stream_refused {n : BitVec 3} {i : Instr} {op : Nat} {ss : List Nat} (c : Ctx) (s : State) (form : StreamForm n i op ss)
    (h : c.MayIssue s op [] [] ss) :
    (c.team.nstr ≤ n.toNat → exec i s = .next (s.takeFault c.ti c.gi c.ei { cause := 0x01 })) ∧
    (n.toNat < c.team.nstr → (c.team.stream n.toNat).v = false → op ≠ 0x188 →
      exec i s = .next (s.takeFault c.ti c.gi c.ei { cause := 0x88 })) := by
  have missing (empty : (c.team.stream n.toNat).v = false) : c.streamOk n.toNat = .error { cause := 0x88 } :=
    if_neg (by simp [empty])
  have missingThen (empty : (c.team.stream n.toNat).v = false) (e : Except Flt Unit) :
      (do c.streamOk n.toNat; e) = .error { cause := 0x88 } := by rw [missing empty]; rfl
  rcases form with ⟨b, rfl, rfl, rfl⟩ | ⟨d, rfl, rfl, rfl⟩ | ⟨rfl, rfl, rfl⟩ | ⟨rfl, rfl, rfl⟩ | ⟨d, rfl, rfl, rfl⟩
  · rw [exec_qcfg, execQcfg]
    exact ⟨(issue_stream _ _ n.toNat c s _ _ rfl rfl h rfl rfl).1, fun _ _ other => absurd rfl other⟩
  · rw [exec_qpushRes, execQpushRes]
    exact ⟨(issue_stream _ _ n.toNat c s _ _ rfl rfl h rfl rfl).1, fun below empty _ =>
      (issue_stream _ _ n.toNat c s _ _ rfl rfl h rfl rfl).2 below _ (missing empty)⟩
  · rw [exec_qpushPub, execQpushPub]
    exact ⟨(issue_stream _ _ n.toNat c s _ _ rfl rfl h rfl rfl).1, fun below empty _ =>
      (issue_stream _ _ n.toNat c s _ _ rfl rfl h rfl rfl).2 below _ (missingThen empty _)⟩
  · rw [exec_qfree, execQfree]
    exact ⟨(issue_stream _ _ n.toNat c s _ _ rfl rfl h rfl rfl).1, fun below empty _ =>
      (issue_stream _ _ n.toNat c s _ _ rfl rfl h rfl rfl).2 below _ (missingThen empty _)⟩
  · rw [exec_qpop, execQpop]
    exact ⟨(issue_stream _ _ n.toNat c s _ _ rfl rfl h rfl rfl).1, fun below empty _ =>
      (issue_stream _ _ n.toNat c s _ _ rfl rfl h rfl rfl).2 below _ (missing empty)⟩

section
variable {n : BitVec 3} {c : Ctx} {s : State} (below : n.toNat < c.team.nstr)
include below

theorem qcfg_result (b : BitVec 6) (h : c.MayIssue s 0x188 [] [] [b.toNat]) :
    let q := c.team.stream n.toNat
    let v := (c.grp.readS b.toNat).toNat
    (q.nc ≠ 0 ∨ q.np ≠ 0 → exec (.qcfg n b) s = .next (s.takeFault c.ti c.gi c.ei { cause := 0x89 })) ∧
    (q.nc = 0 → q.np = 0 → streamBad c.team v = true →
      exec (.qcfg n b) s = .next (s.takeFault c.ti c.gi c.ei { cause := 0x88 })) ∧
    (q.nc = 0 → q.np = 0 → streamBad c.team v = false →
      exec (.qcfg n b) s = .next ((s.modTeam c.ti fun t => t.setStream n.toNat { q with
        base := bitsOf v 0 19, nsm1 := bitsOf v 24 6, ssz := bitsOf v 32 12, freei := 0, v := true, filled := 0, hand := 0
        stall := 0, start := s.now }).retire c 0x188)) := by
  intro q v
  have empty (nc : q.nc = 0) (np : q.np = 0) : ¬ (q.nc ≠ 0 ∨ q.np ≠ 0) := by simp [nc, np]
  rw [exec_qcfg, execQcfg]
  refine ⟨fun used => ?_, fun nc np bad => ?_, fun nc np good => ?_⟩
  · exact issue_pre _ _ s c _ _ _ _ rfl rfl h rfl ((if_pos below).trans (if_pos used))
  · exact issue_pre _ _ s c _ _ _ _ rfl rfl h rfl ((if_pos below).trans ((if_neg (empty nc np)).trans (if_pos bad)))
  · have fits : ¬ streamBad c.team v = true := by rw [good]; exact Bool.false_ne_true
    refine Eq.trans (issue_go _ _ s c _ _ _ rfl rfl rfl h rfl
      ((if_pos below).trans ((if_neg (empty nc np)).trans (if_neg fits))) rfl rfl) ?_
    simp only [Res.state, State.modStream]
    rw [State.modTeam, s.ctx_team c h.issuer, State.modTeam, s.ctx_team c h.issuer]
    rfl

theorem qpushRes_result (d : BitVec 6) (h : c.MayIssue s 0x189 [] [] [d.toNat]) (v : (c.team.stream n.toNat).v = true) :
    let q := c.team.stream n.toNat
    (q.nsm1 + 1 ≤ q.np + q.nc → exec (.qpushRes d n) s = .next s) ∧
    (q.np + q.nc < q.nsm1 + 1 → ∃ t, exec (.qpushRes d n) s = .next t ∧
      t.keeps (s.modTeam c.ti fun y => { y with streams := (t.team c.ti).streams }) c.ti c.gi ∧
      t.group c.ti c.gi = (c.grp.writeS d.toNat (BitVec.ofNat 64 (q.offset q.claimIdx))).retire c.ei 0x189 ∧
      (t.team c.ti).streams = (c.team.setStream n.toNat (q.claim true)).streams) := by
  intro q
  rw [exec_qpushRes, execQpushRes]
  refine ⟨fun full => ?_, fun room => ?_⟩
  · exact issue_waits _ _ s c _ _ _ rfl rfl rfl h rfl ((if_pos below).trans (if_pos v)) rfl rfl
      (decide_eq_false (Nat.not_lt.2 full))
  · refine ⟨(s.modTeam c.ti fun t => t.setStream n.toNat ((t.stream n.toNat).claim true)).after c 0x189
      (c.grp.writeS d.toNat (BitVec.ofNat 64 (q.offset q.claimIdx))),
      Eq.trans (issue_go _ _ s c _ _ _ rfl rfl rfl h rfl ((if_pos below).trans (if_pos v)) rfl (decide_eq_true room)) ?_,
      State.keeps_streams s c.ti c.gi _ _ rfl, State.group_setGroup .., ?_⟩
    · simp only [Res.state, State.modStream]
      rw [State.modGroup, s.ctx_group c h.issuer, State.modTeam_setGroup s c.ti c.gi _ _ rfl, State.retire_setGroup]
      rfl
    · rw [State.after, State.streams_setGroup, State.team_modTeam, s.ctx_team c h.issuer]

theorem qpushPub_result (h : c.MayIssue s 0x189 [] [] []) (v : (c.team.stream n.toNat).v = true) :
    let q := c.team.stream n.toNat
    (q.handSlot = none → exec (.qpushPub n) s = .next (s.takeFault c.ti c.gi c.ei { cause := 0x8A })) ∧
    (∀ k, q.handSlot = some k → s.storesAt c.ti c.gi 1 = false → exec (.qpushPub n) s = .next s) ∧
    (∀ k, q.handSlot = some k → s.storesAt c.ti c.gi 1 = true →
      exec (.qpushPub n) s = .next ((s.modTeam c.ti fun t =>
        t.setStream n.toNat { q.fill k with hand := clearBitN q.hand k }).retire c 0x189)) := by
  intro q
  have configured : c.streamOk n.toNat = .ok () := if_pos v
  have own (e : Except Flt Unit) : (do c.streamOk n.toNat; e) = e := by rw [configured]; rfl
  rw [exec_qpushPub, execQpushPub]
  refine ⟨fun none => ?_, fun k held early => ?_, fun k held late => ?_⟩
  · exact issue_pre _ _ s c _ _ _ _ rfl rfl h rfl ((if_pos below).trans ((own _).trans (if_pos (by rw [none]; rfl))))
  · exact issue_waits _ _ s c _ _ _ rfl rfl rfl h rfl
      ((if_pos below).trans ((own _).trans (if_neg (by rw [held]; exact Bool.false_ne_true)))) rfl rfl early
  · refine Eq.trans (issue_go _ _ s c _ _ _ rfl rfl rfl h rfl
      ((if_pos below).trans ((own _).trans (if_neg (by rw [held]; exact Bool.false_ne_true)))) rfl late) ?_
    simp only [Res.state, State.modStream]
    rw [State.modTeam, s.ctx_team c h.issuer, State.modTeam, s.ctx_team c h.issuer]
    have slot : (c.team.stream n.toNat).handSlot = some k := held
    simp only [slot]
    rfl

theorem qfree_result (h : c.MayIssue s 0x18A [] [] []) (v : (c.team.stream n.toNat).v = true) :
    let q := c.team.stream n.toNat
    (q.np = 0 → exec (.qfree n) s = .next (s.takeFault c.ti c.gi c.ei { cause := 0x8A })) ∧
    (q.np ≠ 0 → exec (.qfree n) s = .next ((s.modTeam c.ti fun t =>
      t.setStream n.toNat { q with freei := (q.freei + 1) % (q.nsm1 + 1), np := q.np - 1 }).retire c 0x18A)) := by
  intro q
  have configured : c.streamOk n.toNat = .ok () := if_pos v
  have own (e : Except Flt Unit) : (do c.streamOk n.toNat; e) = e := by rw [configured]; rfl
  rw [exec_qfree, execQfree]
  refine ⟨fun none => ?_, fun some => ?_⟩
  · exact issue_pre _ _ s c _ _ _ _ rfl rfl h rfl ((if_pos below).trans ((own _).trans (if_pos none)))
  · refine Eq.trans (issue_go _ _ s c _ _ _ rfl rfl rfl h rfl ((if_pos below).trans ((own _).trans (if_neg some))) rfl rfl) ?_
    simp only [Res.state, State.modStream]
    rw [State.modTeam, s.ctx_team c h.issuer, State.modTeam, s.ctx_team c h.issuer]
    rfl

theorem qpop_result (d : BitVec 6) (h : c.MayIssue s 0x18B [] [] [d.toNat]) (v : (c.team.stream n.toNat).v = true) :
    let q := c.team.stream n.toNat
    (q.canPop = true → ∃ t, exec (.qpop d n) s = .next t ∧
      t.keeps (s.modTeam c.ti fun y => { y with streams := (t.team c.ti).streams }) c.ti c.gi ∧
      t.group c.ti c.gi = ({ { c.grp with block := none }.writeS d.toNat (BitVec.ofNat 64 (q.offset q.popIdx)) with
        floor := s.nextId, joined := s.nextId }).retire c.ei 0x18B ∧
      (t.team c.ti).streams = (c.team.setStream n.toNat { q with
        filled := clearBitN q.filled q.popIdx, nc := q.nc - 1, np := q.np + 1
        stall := q.stall + c.grp.stalledOn s.now q.start n.toNat }).streams) ∧
    (q.canPop = false → ∃ t, exec (.qpop d n) s = .next t ∧
      t.keeps s c.ti c.gi ∧ (t.group c.ti c.gi).sameRegs c.grp ∧ (t.group c.ti c.gi).entries = c.grp.entries ∧
      (t.group c.ti c.gi).fb = none ∧ ∃ k, (t.group c.ti c.gi).block = some k ∧ k.kind = .qpop n.toNat) := by
  intro q
  rw [exec_qpop, execQpop, issue_go _ _ s c _ _ _ rfl rfl rfl h rfl ((if_pos below).trans (if_pos v)) rfl rfl]
  refine ⟨fun pops => ?_, fun waits => ?_⟩
  · refine ⟨(s.modTeam c.ti fun t => t.setStream n.toNat { t.stream n.toNat with
        filled := clearBitN (t.stream n.toNat).filled (t.stream n.toNat).popIdx
        nc := (t.stream n.toNat).nc - 1, np := (t.stream n.toNat).np + 1
        stall := (t.stream n.toNat).stall + c.grp.stalledOn s.now (t.stream n.toNat).start n.toNat }).after c 0x18B
      { (Group.writeS { c.grp with block := none } d.toNat (BitVec.ofNat 64 (q.offset q.popIdx))) with
        floor := s.nextId, joined := s.nextId }, ?_, State.keeps_streams s c.ti c.gi _ _ rfl, State.group_setGroup .., ?_⟩
    · dsimp only
      rw [if_pos pops]
      simp only [Res.state, State.modStream, State.raiseFloor]
      rw [State.modTeam_setGroup s c.ti c.gi _ _ rfl, State.modGroup_setGroup, State.retire_setGroup]
      rfl
    · rw [State.after, State.streams_setGroup, State.team_modTeam, s.ctx_team c h.issuer]
  · dsimp only
    rw [if_neg (Bool.not_eq_true _ ▸ waits)]
    exact ⟨_, rfl, c.blocked_result s _⟩

end

/-- Settles O35: the stream's own checks once for all words, and each word's effect by itself. -/
theorem streamWords : Obligations.StreamWords := by
  unfold Obligations.StreamWords
  refine ⟨fun i op n ss c s form h => stream_refused c s form h, fun n c s below => ?_⟩
  exact ⟨qcfg_result below, fun d h v => (qpushRes_result below d h v).1, fun d h v => (qpushRes_result below d h v).2,
    qpushPub_result below, qfree_result below,
    fun d h => ⟨fun v => (qpop_result below d h v).1, fun v => (qpop_result below d h v).2⟩⟩

end Sys2Proof.Machine
end

section
/-!
PROOFS. Bulk copies (R165, R247, R250 to R257): what the read of a record leaves, the postings of an accepted copy, the checks of
a record, and the obligation.
-/
namespace Sys2Proof.Machine

/-! ## What the read of a record leaves (R164, R257) -/

/-- A state that differs from another in its caches and its clock of numbers alone. -/
def State.caches (t s : State) : Prop :=
  t = { s with nextId := t.nextId, cores := t.cores } ∧ ∀ k, (t.core k).locks = (s.core k).locks

theorem State.caches_self (s : State) : s.caches s := ⟨rfl, fun _ => rfl⟩

theorem State.caches_trans {u t s : State} (h : u.caches t) (k : t.caches s) : u.caches s := by
  obtain ⟨same, locks⟩ := h
  obtain ⟨same', locks'⟩ := k
  refine ⟨?_, fun k => (locks k).trans (locks' k)⟩
  rw [same, same']

theorem State.modCore_caches (s : State) (core : Nat) (f : Core → Core) (h : (f (s.core core)).locks = (s.core core).locks) :
    (s.modCore core f).caches s := by
  refine ⟨rfl, fun k => ?_⟩
  by_cases hk : k = core
  · subst hk
    rw [State.core_modCore, h]
  · rw [State.core_modCore_other _ _ _ _ hk]

theorem State.dropOwn_caches (s : State) (core fen pa n : Nat) : (s.dropOwn core fen pa n).caches s :=
  s.modCore_caches core _ rfl

theorem State.fillL1_caches (s : State) (core fen sec : Nat) (bs : List Byte) : (s.fillL1 core fen sec bs).caches s := by
  have dropped := s.dropOwn_caches core fen (sec * 32) 32
  unfold State.fillL1
  dsimp only
  split
  · exact dropped
  · exact State.caches_trans (State.modCore_caches _ core _ rfl)
      (State.caches_trans (t := s.dropOwn core fen (sec * 32) 32) ⟨rfl, fun _ => rfl⟩ dropped)

theorem State.bind_caches (s : State) (c : Ctx) (l1 fill : Bool) (pa n : Nat) : (s.bind c l1 fill pa n).2.caches s := by
  unfold State.bind
  dsimp only
  split
  · exact s.caches_self
  · split
    · exact s.caches_self
    · split
      · exact s.caches_self
      · split
        · exact s.caches_self
        · split
          · exact s.caches_self
          · split
            · exact s.fillL1_caches ..
            · exact s.dropOwn_caches ..

theorem State.bind64_caches {s s1 : State} {c : Ctx} {nc : Bool} {pa : Nat} {x : Bound} (h : s.bind64 c nc pa = (x, s1)) :
    s1.caches s := by
  have first := s.bind_caches c (!nc) (!nc) pa 32
  obtain rfl : (s.bind64 c nc pa).2 = s1 := by rw [h]
  unfold State.bind64
  split
  next lo u hb =>
    rw [hb] at first
    have second := u.bind_caches c (!nc) (!nc) (pa + 32) 32
    split
    next hi v hb' =>
      rw [hb'] at second
      exact State.caches_trans second first
    next => exact State.caches_trans second first
  next => exact first

/-! ## The postings of an accepted copy (R257) -/

/-- The team of an accepted copy with its postings. -/
def CopyPlan.posted (p : CopyPlan) (bar : Nat) (t : Team) : Team :=
  let t := if p.y.pb then t.setBar bar { t.bar bar with xexp := (t.bar bar).xexp + p.bytes }.settle else t
  match p.slot with
  | some (q, _) => t.setStream q ((t.stream q).claim false)
  | none => t

theorem CopyPlan.posted_setGroup (p : CopyPlan) (bar : Nat) (t : Team) (gi : Nat) (g : Group) :
    p.posted bar (t.setGroup gi g) = (p.posted bar t).setGroup gi g := by
  unfold CopyPlan.posted
  cases p.y.pb <;> cases p.slot <;> rfl

theorem CopyPlan.posted_eq (p : CopyPlan) (bar : Nat) (t : Team) :
    p.posted bar t = { t with bars := (p.posted bar t).bars, streams := (p.posted bar t).streams } := by
  unfold CopyPlan.posted
  cases p.y.pb <;> cases p.slot <;> rfl

theorem CopyPlan.bars_posted (p : CopyPlan) (bar : Nat) (t : Team) :
    (p.posted bar t).bars = if p.y.pb then
      SMap.put Barrier.zero t.bars bar { t.bar bar with xexp := (t.bar bar).xexp + p.bytes }.settle else t.bars := by
  unfold CopyPlan.posted
  cases p.y.pb <;> cases p.slot <;> rfl

theorem CopyPlan.streams_posted (p : CopyPlan) (bar : Nat) (t : Team) :
    (p.posted bar t).streams = match p.slot with
      | some q => SMap.put Stream.zero t.streams q.1 ((t.stream q.1).claim false)
      | none => t.streams := by
  unfold CopyPlan.posted
  cases p.y.pb <;> cases p.slot <;> rfl

/-- The range lock of a copy. -/
def Ctx.copyLock (c : Ctx) (cmd : CopyCmd) (p : CopyPlan) (id : Nat) : RangeLock :=
  let glob := p.y.globalSpan p.coord (tyWidth (cmd.sty.getD p.y.ty))
  let spad : Option Interval := some { spad := true, lo := p.d, len := p.bytes }
  { id := id, fen := c.fen, team := c.ti
    src := if cmd.toGlobal then spad else glob, dst := if cmd.toGlobal then glob else spad }

/-- A copy as it is accepted. -/
def Ctx.copyOp (c : Ctx) (op tok : Nat) (cmd : CopyCmd) (e : Nat) (p : CopyPlan) (id : Nat) : CopyOp :=
  { id := id, team := c.ti, group := c.gi, core := c.team.core, engine := e, fen := c.fen
    rec_ := BitVec.ofNat 512 p.rec_, coord := p.coord, d := p.d, toGlobal := cmd.toGlobal
    bar := if p.y.pb then some cmd.bar else none, stream := p.slot
    tok := if tok = 63 then none else some tok, flag := c.flagNo op
    sty := cmd.sty.getD p.y.ty, crm := cmd.crm, csat := cmd.csat, bytes := p.bytes
    waits := none, asked := none, failed := [] }

/-- The group of an accepted copy. -/
def Ctx.copyGroup (c : Ctx) (op tok : Nat) : Group :=
  { c.grp.flagUp (c.flagNo op) with
    tokens := if tok = 63 then c.grp.tokens else c.grp.tokens ++ [tok], copies := c.grp.copies + 1 }

/-- The tables beside the memory and the teams that an acceptance changes. -/
def State.withTables (s : State) (id : Nat) (cores : SMap Core) (copies : List CopyOp) : State :=
  { s with nextId := id, cores := cores, copies := copies }

/-- The postings of a copy in its team. -/
def State.postCopy (s : State) (ti bar : Nat) (p : CopyPlan) : State :=
  let s := if p.y.pb then s.modBar ti bar fun b => { b with xexp := b.xexp + p.bytes } else s
  match p.slot with
  | some (q, _) => s.modStream ti q fun q => q.claim false
  | none => s

theorem State.postCopy_team (s : State) (ti bar : Nat) (p : CopyPlan) :
    (s.postCopy ti bar p).team ti = p.posted bar (s.team ti) := by
  unfold State.postCopy CopyPlan.posted State.modBar State.modStream
  cases p.y.pb <;> cases p.slot <;> simp

theorem State.postCopy_eq (s : State) (ti bar : Nat) (p : CopyPlan) :
    s.postCopy ti bar p = { s with teams := (s.postCopy ti bar p).teams } := by
  unfold State.postCopy
  cases p.y.pb <;> cases p.slot <;> rfl

theorem State.postCopy_teams (s : State) (ti bar : Nat) (p : CopyPlan) (t : Team) :
    (s.postCopy ti bar p).teams.ins ti t = s.teams.ins ti t := by
  unfold State.postCopy State.modBar State.modStream State.modTeam State.setTeam
  cases p.y.pb <;> cases p.slot <;> simp

theorem acceptCopy_eq (c : Ctx) (op tok : Nat) (cmd : CopyCmd) (e : Nat) (p : CopyPlan) (s : State)
    (group : s.group c.ti c.gi = c.grp) :
    c.acceptCopy op tok cmd e p s = ((s.modTeam c.ti (p.posted cmd.bar)).setGroup c.ti c.gi (c.copyGroup op tok)).withTables
      (s.nextId + 1)
      (s.modCore c.team.core fun k => { k with locks := k.locks ++ [c.copyLock cmd p s.nextId] }).cores
      (s.copies ++ [c.copyOp op tok cmd e p s.nextId]) := by
  have form : c.acceptCopy op tok cmd e p s =
      let u := State.postCopy { s with nextId := s.nextId + 1 } c.ti cmd.bar p
      let v := u.modCore c.team.core fun k => { k with locks := k.locks ++ [c.copyLock cmd p s.nextId] }
      let w := v.modGroup c.ti c.gi fun g => { g.flagUp (c.flagNo op) with
        tokens := if tok = 63 then g.tokens else g.tokens ++ [tok], copies := g.copies + 1 }
      { w with copies := w.copies ++ [c.copyOp op tok cmd e p s.nextId] } := rfl
  have team := State.postCopy_team { s with nextId := s.nextId + 1 } c.ti cmd.bar p
  have rest := State.postCopy_eq { s with nextId := s.nextId + 1 } c.ti cmd.bar p
  have teams := State.postCopy_teams { s with nextId := s.nextId + 1 } c.ti cmd.bar p
  rw [form]
  generalize State.postCopy { s with nextId := s.nextId + 1 } c.ti cmd.bar p = u at team rest teams
  have own : (p.posted cmd.bar (s.team c.ti)).group c.gi = c.grp := by
    rw [p.posted_eq]
    exact group
  obtain ⟨ts, rfl⟩ : ∃ ts, u = { s with nextId := s.nextId + 1, teams := ts } := ⟨_, rest⟩
  have after : (s.modTeam c.ti (p.posted cmd.bar)).setGroup c.ti c.gi (c.copyGroup op tok)
      = s.setTeam c.ti ((p.posted cmd.bar (s.team c.ti)).setGroup c.gi (c.copyGroup op tok)) := by
    rw [State.setGroup, State.modTeam, State.team_setTeam, State.setTeam_setTeam]
  have before : (State.modGroup { s with nextId := s.nextId + 1, teams := ts } c.ti c.gi fun g =>
      { g.flagUp (c.flagNo op) with
        tokens := if tok = 63 then g.tokens else g.tokens ++ [tok], copies := g.copies + 1 }).teams
      = s.teams.ins c.ti ((p.posted cmd.bar (s.team c.ti)).setGroup c.gi (c.copyGroup op tok)) := by
    have team' : State.team { s with nextId := s.nextId + 1, teams := ts } c.ti = p.posted cmd.bar (s.team c.ti) := team
    rw [State.modGroup, State.setGroup, State.group, team', own]
    exact teams _
  rw [after, State.setTeam, ← before]
  rfl

/-- What an accepted copy leaves: its postings in its team, its token and flag in its group, its interval in the range-lock
table, and itself in the list of copies. -/
theorem acceptCopy_result (c : Ctx) (op tok : Nat) (cmd : CopyCmd) (e : Nat) (p : CopyPlan) (s s1 : State)
    (issuer : s.ctx = some c) (caches : s1.caches s) :
    let t := (c.acceptCopy op tok cmd e p s1).retire c op
    t.keeps (s.modTeam c.ti fun x => { x with bars := (t.team c.ti).bars, streams := (t.team c.ti).streams }) c.ti c.gi ∧
    t.group c.ti c.gi = (c.copyGroup op tok).retire c.ei op ∧
    (t.team c.ti).bars = (p.posted cmd.bar c.team).bars ∧ (t.team c.ti).streams = (p.posted cmd.bar c.team).streams ∧
    (t.core c.team.core).locks = (s.core c.team.core).locks ++ [c.copyLock cmd p s1.nextId] ∧
    t.copies = s.copies ++ [c.copyOp op tok cmd e p s1.nextId] := by
  intro t
  obtain ⟨same, locks⟩ := caches
  have group : s1.group c.ti c.gi = c.grp := by
    rw [same]
    exact s.ctx_group c issuer
  have teams : s1.modTeam c.ti (p.posted cmd.bar) = { s.modTeam c.ti (p.posted cmd.bar) with
      nextId := s1.nextId, cores := s1.cores } := by
    rw [same]
    rfl
  have form : t = ((s.modTeam c.ti (p.posted cmd.bar)).setGroup c.ti c.gi ((c.copyGroup op tok).retire c.ei op)).withTables
      (s1.nextId + 1) (s1.modCore c.team.core fun k => { k with locks := k.locks ++ [c.copyLock cmd p s1.nextId] }).cores
      (s.copies ++ [c.copyOp op tok cmd e p s1.nextId]) := by
    have copies : s1.copies = s.copies := by rw [same]
    dsimp only [t]
    rw [acceptCopy_eq c op tok cmd e p s1 group, teams, copies, ← State.modGroup_setGroup _ _ _ (c.copyGroup op tok)
      (fun g => g.retire c.ei op)]
    rfl
  have team : t.team c.ti = (p.posted cmd.bar c.team).setGroup c.gi ((c.copyGroup op tok).retire c.ei op) := by
    have own : t.team c.ti = ((s.modTeam c.ti (p.posted cmd.bar)).setGroup c.ti c.gi
        ((c.copyGroup op tok).retire c.ei op)).team c.ti := by
      rw [form]
      rfl
    rw [own, State.setGroup, State.team_setTeam, State.team_modTeam, s.ctx_team c issuer]
  have posted : s.modTeam c.ti (fun x => { x with bars := (t.team c.ti).bars, streams := (t.team c.ti).streams })
      = s.modTeam c.ti (p.posted cmd.bar) := by
    refine s.modTeam_congr c.ti ?_
    rw [team, s.ctx_team c issuer]
    exact (p.posted_eq cmd.bar c.team).symm
  refine ⟨?_, ?_, ?_, ?_, ?_, ?_⟩
  · rw [posted, form]
    exact State.keeps_of_eq (State.keeps_setGroup (State.keeps_self _ c.ti c.gi) _) rfl rfl rfl
  · rw [State.group, team, Team.group_setGroup]
  · rw [team]
    rfl
  · rw [team]
    rfl
  · have cores : t.core c.team.core
        = (s1.modCore c.team.core fun k => { k with locks := k.locks ++ [c.copyLock cmd p s1.nextId] }).core c.team.core := by
      rw [form]
      rfl
    rw [cores, State.core_modCore, locks]
  · rw [form]
    rfl

/-! ## The words (R255 to R257) -/

/-- `cpt` and `cpx` with their operation words, the uniform registers that they name and their commands. -/
def Ctx.copyForm (c : Ctx) (t l cr : BitVec 6) (i : Instr) (op : Nat) (ss : List Nat) (cmd : CopyCmd) : Prop :=
  (∃ b r, i = .cpt t l cr b r ∧ op = 0x180 ∧ ss = [t.toNat, l.toNat] ++ sRange cr.toNat 3 ∧
    cmd = { toGlobal := r = 1, bar := b.toNat, sty := none, crm := 0, csat := false }) ∨
  ∃ m, i = .cpx t l cr m ∧ op = 0x181 ∧ ss = [t.toNat, l.toNat, m.toNat] ++ sRange cr.toNat 3 ∧
    cpxBad (c.grp.readS m.toNat).toNat = false ∧ cmd = cpxCmd (c.grp.readS m.toNat).toNat

/-- A copy word whose pair of types passes checks its engine, and then does what its record says. -/
theorem copyForm_word {c : Ctx} {s : State} {t l cr : BitVec 6} {i : Instr} {op : Nat} {ss : List Nat} {cmd : CopyCmd}
    (form : c.copyForm t l cr i op ss cmd) (legal : wellFormed i = true) (h : c.MayIssue s op [] [] ss)
    (pair : ∀ y, cmd.sty = some y → c.pairOk (c.grp.readS l.toNat).toNat y s = true) :
    (c.engine s = none → exec i s = .next (s.takeFault c.ti c.gi c.ei { cause := 0x84 })) ∧
    (∀ e, c.engine s = some e →
      exec i s = .next ((c.bulkCopy op t.toNat l.toNat cr.toNat cmd s).state s c op)) := by
  have missing (no : c.engine s = none) : c.engineOk s = .error { cause := 0x84 } := by simp [Ctx.engineOk, no]
  have present (e : Nat) (he : c.engine s = some e) : c.engineOk s = .ok () := by simp [Ctx.engineOk, he]
  rcases form with ⟨b, r, rfl, rfl, rfl, rfl⟩ | ⟨m, rfl, rfl, rfl, good, rfl⟩
  · rw [exec_cpt, execCpt]
    exact ⟨fun no => issue_pre _ _ s c _ _ _ _ rfl rfl h legal (missing no),
      fun e he => issue_go _ _ s c _ _ _ rfl rfl rfl h legal (present e he) rfl rfl⟩
  · have passes : ¬ (cpxBad (c.grp.readS m.toNat).toNat ||
        !c.pairOk (c.grp.readS l.toNat).toNat (bitsOf (c.grp.readS m.toNat).toNat 5 5) s) = true := by
      rw [good, pair _ rfl]
      exact Bool.false_ne_true
    rw [exec_cpx, execCpx]
    exact ⟨fun no => issue_pre _ _ s c _ _ _ _ rfl rfl h legal ((if_neg passes).trans (missing no)),
      fun e he => issue_go _ _ s c _ _ _ rfl rfl rfl h legal ((if_neg passes).trans (present e he)) rfl rfl⟩

section
variable {c : Ctx} {s : State} {op ra : Nat}

theorem readRecord_bad {cause a : Nat} {mc : Option Nat}
    (h : s.chk c { op := op, bytes := 64, r := true, w := false, kind := 1 } false ra = .bad cause a mc) :
    c.readRecord op ra s = (.bad { c.leaderFlt cause a 1 with mcpa := mc }, s) := by
  rw [Ctx.readRecord, h]

theorem readRecord_stall {x : Xlate} (h : s.chk c { op := op, bytes := 64, r := true, w := false, kind := 1 } false ra = .ok x)
    (waits : s.acquirePending c = true ∨ c.scOverlap x.pa 64 = true) : c.readRecord op ra s = (.stall, s) := by
  rw [Ctx.readRecord, h]
  exact if_pos (Bool.or_eq_true_iff.2 waits)

theorem readRecord_val {x : Xlate} {bs : List Byte} {s1 : State}
    (h : s.chk c { op := op, bytes := 64, r := true, w := false, kind := 1 } false ra = .ok x)
    (calm : s.acquirePending c = false) (apart : c.scOverlap x.pa 64 = false) (read : s.bind64 c x.nc x.pa = (.val bs, s1)) :
    c.readRecord op ra s = (.val (natLE bs), s1) := by
  rw [Ctx.readRecord, h]
  simp only [calm, apart, Bool.or_self, Bool.false_eq_true, if_false, read]

end

theorem pairOk_of_bad {c : Ctx} {s : State} {ra y : Nat} {f : Flt} (h : c.readRecord 0x181 ra s = (.bad f, s)) :
    c.pairOk ra y s = true := by
  rw [Ctx.pairOk, h]

theorem pairOk_of_stall {c : Ctx} {s : State} {ra y : Nat} (h : c.readRecord 0x181 ra s = (.stall, s)) :
    c.pairOk ra y s = true := by
  rw [Ctx.pairOk, h]

theorem pairOk_of_val {c : Ctx} {s s1 : State} {ra y n : Nat} (h : c.readRecord 0x181 ra s = (.val n, s1)) :
    c.pairOk ra y s = cpxPair (layoutOf n).ty y := by
  rw [Ctx.pairOk, h]

/-- A copy word that names a pair of types is `cpx`. -/
theorem copyForm_op {c : Ctx} {t l cr : BitVec 6} {i : Instr} {op : Nat} {ss : List Nat} {cmd : CopyCmd}
    (form : c.copyForm t l cr i op ss cmd) {y : Nat} (typed : cmd.sty = some y) : op = 0x181 := by
  rcases form with ⟨b, r, rfl, rfl, rfl, rfl⟩ | ⟨m, rfl, rfl, rfl, good, rfl⟩
  · cases typed
  · rfl

/-- A check that gives a plan at all gives one with the record `r`. -/
def plansRecord (r : Nat) (x : Except Flt CopyPlan) : Prop := ∀ p, x = .ok p → p.rec_ = r

theorem plansRecord_guard {r : Nat} {cond : Prop} [Decidable cond] {f : Flt} {k : PUnit → Except Flt CopyPlan}
    (h : plansRecord r (k ⟨⟩)) : plansRecord r (if cond then (do let u ← throw f; k u) else k ⟨⟩) := by
  split
  · exact fun p hp => nomatch hp
  · exact h

theorem plansRecord_ite {r : Nat} {cond : Prop} [Decidable cond] {x y : Except Flt CopyPlan} (hx : plansRecord r x)
    (hy : plansRecord r y) : plansRecord r (if cond then x else y) := by
  split
  · exact hx
  · exact hy

/-- A plan keeps the record that it was read from. -/
theorem copyPlan_rec {c : Ctx} {cmd : CopyCmd} {crd ra r : Nat} {p : CopyPlan} (h : c.copyPlan cmd crd ra r = .ok p) :
    p.rec_ = r := by
  have planned (y : Layout) (co : List Int) (n d : Nat) (slot : Option (Nat × Nat)) :
      plansRecord r (.ok { y := y, coord := co, bytes := n, d := d, slot := slot, rec_ := r }) := by
    rintro p ⟨⟩
    rfl
  have barrier (y : Layout) (co : List Int) (n d : Nat) (slot : Option (Nat × Nat)) : plansRecord r (do
      if y.pb then
        if cmd.bar ≥ c.team.nbar ∨ (c.team.bar cmd.bar).members = 0 then throw (c.leaderFlt 0x85 0 0)
        if 2 ^ 32 ≤ (c.team.bar cmd.bar).xexp + n then throw (c.leaderFlt 0x87 0 0)
      return { y := y, coord := co, bytes := n, d := d, slot := slot, rec_ := r }) :=
    plansRecord_ite (plansRecord_guard (plansRecord_guard (planned _ _ _ _ _))) (planned _ _ _ _ _)
  suffices plansRecord r (c.copyPlan cmd crd ra r) from this p h
  unfold Ctx.copyPlan
  refine plansRecord_guard (plansRecord_ite (plansRecord_guard (plansRecord_guard ?_)) ?_)
  · exact plansRecord_guard (plansRecord_guard (barrier _ _ _ _ _))
  · exact plansRecord_guard (plansRecord_guard (barrier _ _ _ _ _))

theorem State.caches.engine {t s : State} (h : t.caches s) (c : Ctx) : c.engine t = c.engine s := by
  rw [h.1]
  rfl

theorem planCopy_error {c : Ctx} {op tok crd ra n : Nat} {cmd : CopyCmd} {s : State} {f : Flt}
    (h : c.copyPlan cmd crd ra n = .error f) : c.planCopy op tok crd ra cmd n s = .raise f s := by
  unfold Ctx.planCopy
  generalize c.copyPlan cmd crd ra n = plan at h
  subst h
  rfl

theorem planCopy_ok {c : Ctx} {op tok crd ra n e : Nat} {cmd : CopyCmd} {s : State} {p : CopyPlan}
    (h : c.copyPlan cmd crd ra n = .ok p) (engine : c.engine s = some e) :
    c.planCopy op tok crd ra cmd n s =
      if ((p.slot.all fun q => (c.team.stream q.1).room) && (s.core c.team.core).lockRoom 1) = true
      then .ok (c.acceptCopy op tok cmd e p s) else .stall := by
  unfold Ctx.planCopy
  generalize c.copyPlan cmd crd ra n = plan at h
  subst h
  dsimp only
  rw [engine]

/-- What a copy word does with a record that it has read. -/
theorem bulkCopy_val {c : Ctx} {op tok lay crd n e : Nat} {cmd : CopyCmd} {s s1 : State} (caches : s1.caches s)
    (read : c.readRecord op (c.grp.readS lay).toNat s = (.val n, s1)) (engine : c.engine s = some e) :
    (∀ f, c.copyPlan cmd crd (c.grp.readS lay).toNat n = .error f → c.bulkCopy op tok lay crd cmd s = .raise f s1) ∧
    (∀ p, c.copyPlan cmd crd (c.grp.readS lay).toNat n = .ok p →
      let room := (∀ q, p.slot = some q → (c.team.stream q.1).room = true) ∧ (s.core c.team.core).lockRoom 1 = true
      (room → c.bulkCopy op tok lay crd cmd s = .ok (c.acceptCopy op tok cmd e p s1)) ∧
      (¬ room → c.bulkCopy op tok lay crd cmd s = .stall)) := by
  have locks := caches.2
  have engine' : c.engine s1 = some e := (caches.engine c).trans engine
  have room : (s1.core c.team.core).lockRoom 1 = (s.core c.team.core).lockRoom 1 := by simp only [Core.lockRoom, locks]
  have form : c.bulkCopy op tok lay crd cmd s = c.planCopy op tok crd (c.grp.readS lay).toNat cmd n s1 := by
    simp only [Ctx.bulkCopy, read]
  rw [form]
  refine ⟨fun f hf => ?_, fun p hp => ?_⟩
  · exact planCopy_error hf
  · have test : ((p.slot.all fun q => (c.team.stream q.1).room) && (s1.core c.team.core).lockRoom 1) = true ↔
        (∀ q, p.slot = some q → (c.team.stream q.1).room = true) ∧ (s.core c.team.core).lockRoom 1 = true := by
      rw [room, Bool.and_eq_true]
      cases p.slot <;> simp
    have planned : c.planCopy op tok crd (c.grp.readS lay).toNat cmd n s1 =
        if ((p.slot.all fun q => (c.team.stream q.1).room) && (s1.core c.team.core).lockRoom 1) = true
        then .ok (c.acceptCopy op tok cmd e p s1) else .stall := planCopy_ok hp engine'
    rw [planned]
    exact ⟨fun free => if_pos (test.2 free), fun full => if_neg (mt test.1 full)⟩

/-- Settles O32: the read of the record decides among fault, wait and plan, and an accepted plan makes its postings. -/
theorem bulkCopyAccepted : Obligations.BulkCopyAccepted := by
  unfold Obligations.BulkCopyAccepted
  intro t l cr c s ra rule
  refine ⟨fun m legal h => ?_, fun i op ss cmd form legal h => ?_⟩
  · intro v bad
    have refused : (cpxBad v || !c.pairOk ra (bitsOf v 5 5) s) = true := by
      rcases bad with bad | ⟨x, bs, s1, checked, calm, apart, read, pair⟩
      · rw [bad, Bool.true_or]
      · rw [pairOk_of_val (readRecord_val checked calm apart read), pair, Bool.not_false, Bool.or_true]
    rw [exec_cpx, execCpx]
    exact issue_pre _ _ s c _ _ _ _ rfl rfl h legal (if_pos refused)
  · have form : c.copyForm t l cr i op ss cmd := form
    refine ⟨fun pair none => (copyForm_word form legal h pair).1 none, fun e engine => ⟨fun cause a mc failed => ?_,
      fun x checked => ⟨fun waits => ?_, fun bs s1 calm apart read pair => ?_⟩⟩⟩
    · have bad := readRecord_bad failed
      have go := (copyForm_word form legal h fun y hy => pairOk_of_bad (copyForm_op form hy ▸ bad)).2 e engine
      rw [go, Ctx.bulkCopy, bad]
      rfl
    · have stall := readRecord_stall checked waits
      have go := (copyForm_word form legal h fun y hy => pairOk_of_stall (copyForm_op form hy ▸ stall)).2 e engine
      rw [go, Ctx.bulkCopy, stall]
      rfl
    · have val := readRecord_val checked calm apart read
      have caches := State.bind64_caches read
      have go := (copyForm_word form legal h fun y hy =>
        (pairOk_of_val (copyForm_op form hy ▸ val)).trans (pair y hy)).2 e engine
      obtain ⟨refused, planned⟩ := bulkCopy_val (crd := cr.toNat) (tok := t.toNat) (cmd := cmd) caches val engine
      refine ⟨fun f hf => by rw [go, refused f hf]; rfl, fun p hp => ?_⟩
      intro room
      refine ⟨fun full => by rw [go, (planned p hp).2 full]; rfl, fun free => ?_⟩
      obtain ⟨keeps, group, bars, streams, locks, copies⟩ :=
        acceptCopy_result c op t.toNat cmd e p s s1 h.issuer caches
      refine ⟨_, by rw [go, (planned p hp).1 free]; rfl, keeps, group, ?_, ?_, locks, ?_⟩
      · exact bars.trans (p.bars_posted cmd.bar c.team)
      · exact streams.trans (p.streams_posted cmd.bar c.team)
      · rw [copies, Ctx.copyOp, copyPlan_rec hp]

end Sys2Proof.Machine
end

section
/-!
PROOFS. Stores in the order of their core (R153, R155 to R160, R171): what waits for the order of SC, how a store leaves its queue
and the order, and what its pieces write.
-/
namespace Sys2Proof.Machine

/-! ## Requests that wait for the order of SC (R192) -/

/-- A state whose teams stand where they stood, and whose groups have the SC requests that they had. -/
def State.sameWaits (t s : State) : Prop :=
  (∀ x ∈ t.teams, ∃ y ∈ s.teams, y.1 = x.1 ∧ y.2.core = x.2.core) ∧ ∀ a b, (t.group a b).scq = (s.group a b).scq

theorem State.sameWaits_of_teams {t s : State} (h : t.teams = s.teams) : t.sameWaits s := by
  refine ⟨fun x hx => ⟨x, h ▸ hx, rfl, rfl⟩, fun a b => ?_⟩
  simp only [State.group, State.team, h]

theorem State.sameWaits_trans {u t s : State} (h : u.sameWaits t) (k : t.sameWaits s) : u.sameWaits s := by
  refine ⟨fun x hx => ?_, fun a b => (h.2 a b).trans (k.2 a b)⟩
  obtain ⟨y, hy, same, core⟩ := h.1 x hx
  obtain ⟨z, hz, same', core'⟩ := k.1 y hy
  exact ⟨z, hz, same'.trans same, core'.trans core⟩

theorem State.sameWaits_modGroup {s : State} {ti gi : Nat} {t : Team} (f : Group → Group) (found : s.teams.find ti = some t)
    (hf : (f (s.group ti gi)).scq = (s.group ti gi).scq) : (s.modGroup ti gi f).sameWaits s := by
  have team : s.team ti = t := by rw [State.team, SMap.get, found]; rfl
  refine ⟨fun x hx => ?_, fun a b => ?_⟩
  · rcases SMap.mem_ins _ _ _ _ hx with rfl | old
    · refine ⟨(ti, t), SMap.mem_of_find found, rfl, ?_⟩
      rw [← team]
      rfl
    · exact ⟨x, old, rfl, rfl⟩
  · by_cases h : a ≠ ti ∨ b ≠ gi
    · rw [State.modGroup, State.group_setGroup_other _ _ _ _ _ _ h]
    · obtain ⟨rfl, rfl⟩ : a = ti ∧ b = gi := by
        by_contra ne
        exact h (by tauto)
      rw [State.group_modGroup, hf]

theorem State.pumpSc_idle (s : State) (ti gi : Nat) (h : (s.group ti gi).scq = []) : s.pumpSc ti gi = s := by
  rw [State.pumpSc, h]
  rfl

theorem foldl_of_fixed {α β : Type} (f : β → α → β) (b : β) (l : List α) (h : ∀ x ∈ l, f b x = b) : l.foldl f b = b := by
  induction l with
  | nil => rfl
  | cons x l ih =>
    rw [List.foldl_cons, h x (List.mem_cons_self ..)]
    exact ih fun y hy => h y (List.mem_cons_of_mem _ hy)

/-- Where no group of the core has a request that waits, nothing more is sent. -/
theorem State.pumpCore_idle {s : State} {core : Nat} (h : s.NoScWaits core) : s.pumpCore core = s := by
  unfold State.pumpCore
  refine foldl_of_fixed _ _ _ fun t ht => foldl_of_fixed _ _ _ fun gi _ => ?_
  obtain ⟨listed, own⟩ := List.mem_filter.1 ht
  exact s.pumpSc_idle _ _ (h t listed (of_decide_eq_true own) gi)

theorem State.pumpCore_sameWaits {t s : State} {core : Nat} (h : t.sameWaits s) (quiet : s.NoScWaits core) :
    t.pumpCore core = t := by
  refine State.pumpCore_idle fun x hx own gi => ?_
  obtain ⟨y, hy, same, core'⟩ := h.1 x hx
  rw [h.2, ← same]
  exact quiet y hy (core'.trans own) gi

/-! ## A store leaves its queue, and the order of its core (R158 to R160) -/

theorem storeQueueDrain_result (ti gi : Nat) (s : State) (t : Team) (found : s.teams.find ti = some t) :
    ((t.group gi).sq = [] → exec (.storeQueueDrain ti gi) s = .next s) ∧
    (∀ e rest, (t.group gi).sq = e :: rest → ∃ u, exec (.storeQueueDrain ti gi) s = .next u ∧ u.mem = s.mem ∧
      u.group ti gi = { t.group gi with sq := rest } ∧ (u.core t.core).cso = (s.core t.core).cso ++ [{ e with entered := s.nextId }] ∧
      ∀ x, x ∈ (u.core t.core).l1 ↔ x ∈ (s.core t.core).l1 ∧ ∀ y ∈ e.pieces, touches x.sector y.1 y.2.length = false) := by
  have team : s.team ti = t := by rw [State.team, SMap.get, found]; rfl
  rw [exec_storeQueueDrain, execStoreQueueDrain, found]
  refine ⟨fun empty => by simp only [empty], fun e rest head => ?_⟩
  simp only [head]
  refine ⟨_, rfl, rfl, ?_, ?_, fun x => ?_⟩
  · have own : State.group (s.modGroup ti gi fun g => { g with sq := rest }) ti gi = { t.group gi with sq := rest } := by
      rw [State.group_modGroup, State.group, team]
    exact own
  · rw [State.enterOrder, State.core_modCore]
    rfl
  · rw [State.enterOrder, State.core_modCore]
    show x ∈ List.filter _ (s.core t.core).l1 ↔ _
    rw [List.mem_filter]
    simp

/-- What a store leaves when it leaves the order: the caches drop its sectors. -/
theorem State.dropEntry_eq (s : State) (core : Nat) (e : StoreEnt) :
    s.dropEntry core e = { s with cores := (s.dropEntry core e).cores } ∧
      ∀ k, ((s.dropEntry core e).core k).cso = (s.core k).cso := by
  unfold State.dropEntry
  generalize e.pieces = ys
  induction ys generalizing s with
  | nil => exact ⟨rfl, fun _ => rfl⟩
  | cons y ys ih =>
    obtain ⟨same, order⟩ := ih (s.dropL1 core y.1 y.2.length)
    refine ⟨same, fun k => (order k).trans ?_⟩
    by_cases hk : k = core
    · rw [hk, State.dropL1, State.core_modCore]
    · rw [State.dropL1, State.core_modCore_other _ _ _ _ hk]

theorem State.leave_eq (s : State) (core idx : Nat) (e : StoreEnt) :
    ∃ cs, s.leave core idx e = { s with cores := cs } ∧
      (State.core { s with cores := cs } core).cso = dropAt (s.core core).cso idx := by
  obtain ⟨same, order⟩ := State.dropEntry_eq (s.modCore core fun k => { k with cso := dropAt k.cso idx }) core e
  refine ⟨(s.leave core idx e).cores, same, (order core).trans ?_⟩
  rw [State.core_modCore]

/-! ## A store is applied (R153, R155 to R157, R171) -/

theorem State.satisfy_none (s : State) (pa n : Nat) (h : s.mem.monitors = []) : s.satisfy pa n = s := by
  unfold State.satisfy
  rw [h]
  rfl

theorem writeMasked_monitors (s : State) (f pa : Nat) (bs : List (Byte × Byte)) :
    (s.writeMasked f pa bs).mem.monitors = s.mem.monitors := by
  induction bs generalizing s pa with
  | nil => rfl
  | cons b bs ih => exact ih _ _

theorem writeMasked_teams (s : State) (f pa : Nat) (bs : List (Byte × Byte)) : (s.writeMasked f pa bs).teams = s.teams := by
  induction bs generalizing s pa with
  | nil => rfl
  | cons b bs ih => exact ih _ _

theorem applyWrite_quiet (s : State) (f pa : Nat) (bs : List (Byte × Byte)) (h : s.mem.monitors = []) :
    s.applyWrite f pa bs = s.writeMasked f pa bs :=
  State.satisfy_none _ _ _ ((writeMasked_monitors s f pa bs).trans h)

theorem State.onlyMem_trans {u t s : State} (h : u = { t with mem := u.mem }) (k : t = { s with mem := t.mem }) :
    u = { s with mem := u.mem } := by
  rw [h, k]

theorem writeMasked_rest (s : State) (f pa : Nat) (bs : List (Byte × Byte)) :
    s.writeMasked f pa bs = { s with mem := (s.writeMasked f pa bs).mem } := by
  induction bs generalizing s pa with
  | nil => rfl
  | cons b bs ih => exact ih _ _

theorem markThrough_eq (s : State) (ti : Nat) (gi : Option Nat) (moment pa : Nat) :
    ∃ w, s.markThrough ti gi moment pa = { s with mem := { s.mem with through := w } } := by
  unfold State.markThrough
  dsimp only
  split
  · exact ⟨_, rfl⟩
  · exact ⟨_, rfl⟩

theorem markEntry_eq (s : State) (e : StoreEnt) : ∃ w, s.markEntry e = { s with mem := { s.mem with through := w } } := by
  unfold State.markEntry
  generalize e.pieces = ys
  induction ys generalizing s with
  | nil => exact ⟨_, rfl⟩
  | cons y ys ih =>
    obtain ⟨w1, h1⟩ := markThrough_eq s e.team (some e.group) e.word y.1
    obtain ⟨w2, h2⟩ := markThrough_eq (s.markThrough e.team (some e.group) e.word y.1) e.team (some e.group) e.word
      (y.1 + y.2.length - 1)
    obtain ⟨w, h⟩ := ih ((s.markThrough e.team (some e.group) e.word y.1).markThrough e.team (some e.group) e.word
      (y.1 + y.2.length - 1))
    refine ⟨w, ?_⟩
    rw [List.foldl_cons, h, h2, h1]

/-- The pieces of a store written one after the other. -/
def State.writePieces (s : State) (f : Nat) (ys : List (Nat × List (Byte × Byte))) : State :=
  ys.foldl (fun s y => s.writeMasked f y.1 y.2) s

section
variable (f : Nat) (ys : List (Nat × List (Byte × Byte)))

theorem writePieces_rest (s : State) : s.writePieces f ys = { s with mem := (s.writePieces f ys).mem } := by
  induction ys generalizing s with
  | nil => rfl
  | cons y ys ih =>
    exact State.onlyMem_trans (ih (s.writeMasked f y.1 y.2)) (writeMasked_rest s f y.1 y.2)

theorem writePieces_keyOf (s : State) : (s.writePieces f ys).keyOf f = s.keyOf f := by
  rw [writePieces_rest]
  rfl

theorem writePieces_quiet (s : State) (h : s.mem.monitors = []) :
    ys.foldl (fun s y => s.applyWrite f y.1 y.2) s = s.writePieces f ys := by
  induction ys generalizing s with
  | nil => rfl
  | cons y ys ih =>
    rw [List.foldl_cons, applyWrite_quiet s f y.1 y.2 h, ih _ ((writeMasked_monitors s f y.1 y.2).trans h)]
    rfl

theorem readByte_writePieces_other (s : State) (a : Nat) (hf : f ≠ 0xFF) (h : ∀ y ∈ ys, a < y.1 ∨ y.1 + y.2.length ≤ a) :
    (s.writePieces f ys).readByte f a = s.readByte f a := by
  induction ys generalizing s with
  | nil => rfl
  | cons y ys ih =>
    have first := h y (List.mem_cons_self ..)
    refine (ih (s.writeMasked f y.1 y.2) fun x hx => h x (List.mem_cons_of_mem _ hx)).trans ?_
    rw [readByte_writeMasked _ _ _ _ _ hf, if_neg (by omega)]

theorem readByte_writePieces_line (s : State) (g a : Nat) (h : ∀ y ∈ ys, ∀ k < y.2.length, (y.1 + k) / 64 ≠ a / 64) :
    (s.writePieces f ys).readByte g a = s.readByte g a := by
  induction ys generalizing s with
  | nil => rfl
  | cons y ys ih =>
    exact (ih (s.writeMasked f y.1 y.2) fun x hx => h x (List.mem_cons_of_mem _ hx)).trans
      (readByte_writeMasked_line _ _ _ _ _ _ (h y (List.mem_cons_self ..)))

theorem writePieces_tag_kept (s : State) (l : Nat) (h : s.tagOf l = { own := f, key := s.keyOf f }) :
    (s.writePieces f ys).tagOf l = { own := f, key := s.keyOf f } := by
  induction ys generalizing s with
  | nil => exact h
  | cons y ys ih =>
    have key : (s.writeMasked f y.1 y.2).keyOf f = s.keyOf f := by rw [writeMasked_rest]; rfl
    have kept : (s.writeMasked f y.1 y.2).tagOf l = { own := f, key := (s.writeMasked f y.1 y.2).keyOf f } := by
      rw [writeMasked_tag, h, ite_self, key]
    rw [← key]
    exact ih _ kept

theorem writePieces_tag (s : State) (y : Nat × List (Byte × Byte)) (hy : y ∈ ys) (k : Nat) (hk : k < y.2.length) :
    (s.writePieces f ys).tagOf ((y.1 + k) / 64) = { own := f, key := s.keyOf f } := by
  induction ys generalizing s with
  | nil => cases hy
  | cons x ys ih =>
    have key : (s.writeMasked f x.1 x.2).keyOf f = s.keyOf f := by rw [writeMasked_rest]; rfl
    rw [← key]
    rcases List.mem_cons.1 hy with rfl | later
    · refine writePieces_tag_kept f ys (s.writeMasked f y.1 y.2) _ ?_
      rw [writeMasked_tag, if_pos ⟨k, hk, rfl⟩, key]
    · exact ih (s.writeMasked f x.1 x.2) later

/-- Each piece is merged under its masks, where the pieces do not overlap. -/
theorem readByte_writePieces (s : State) (hf : f ≠ 0xFF)
    (apart : ys.Pairwise fun x y => x.1 + x.2.length ≤ y.1 ∨ y.1 + y.2.length ≤ x.1) (y : Nat × List (Byte × Byte)) (hy : y ∈ ys)
    (k : Nat) (hk : k < y.2.length) :
    (s.writePieces f ys).readByte f (y.1 + k) =
      mergeByte (s.readByte f (y.1 + k)) (y.2.getD k (0, 0)).1 (y.2.getD k (0, 0)).2 := by
  induction ys generalizing s with
  | nil => cases hy
  | cons x ys ih =>
    obtain ⟨head, tail⟩ := List.pairwise_cons.1 apart
    rcases List.mem_cons.1 hy with rfl | later
    · refine (readByte_writePieces_other f ys (s.writeMasked f y.1 y.2) _ hf fun z hz => ?_).trans ?_
      · have := head z hz
        omega
      · rw [readByte_writeMasked _ _ _ _ _ hf, if_pos (by omega), Nat.add_sub_cancel_left]
    · refine (ih (s.writeMasked f x.1 x.2) tail later).trans ?_
      have := head y later
      rw [readByte_writeMasked _ _ _ _ _ hf, if_neg (by omega)]

end

theorem mayLeave_store {s : State} {core idx : Nat} {e : StoreEnt} (h : s.mayLeave core idx = some e) (plain : e.isAtomic = false) :
    exec (.storeApply core idx) s = .next (((s.leave core idx e).applyStore e).pumpCore core) := by
  rw [exec_storeApply, execStoreApply]
  simp only [h, plain, Bool.false_eq_true, if_false]

theorem storeApply_stored {core idx : Nat} {s : State} {e : StoreEnt} (leaves : s.mayLeave core idx = some e)
    (plain : e.isAtomic = false) (memory : isMemRegion e.pa = true) (quiet : s.NoScWaits core)
    (clean : ∀ y ∈ e.pieces, s.rangeErr e.fen y.1 y.2.length = none) (writer : e.fen ≠ 0xFF) (none : s.mem.monitors = [])
    (apart : ∀ y, e.more = some y → e.pa + e.bytes.length ≤ y.1 ∨ y.1 + y.2.length ≤ e.pa) :
    ∃ u, exec (.storeApply core idx) s = .next u ∧ u.teams = s.teams ∧
      (u.core core).cso = dropAt (s.core core).cso idx ∧
      (∀ y ∈ e.pieces, ∀ k < y.2.length, u.readByte e.fen (y.1 + k) =
        mergeByte (s.readByte e.fen (y.1 + k)) (y.2.getD k (0, 0)).1 (y.2.getD k (0, 0)).2 ∧
        u.tagOf ((y.1 + k) / 64) = { own := e.fen, key := s.keyOf e.fen }) ∧
      (∀ a, (∀ y ∈ e.pieces, a < y.1 ∨ y.1 + y.2.length ≤ a) → u.readByte e.fen a = s.readByte e.fen a) ∧
      (∀ f a, (∀ y ∈ e.pieces, ∀ k < y.2.length, (y.1 + k) / 64 ≠ a / 64) → u.readByte f a = s.readByte f a) := by
  obtain ⟨cs, left, order⟩ := s.leave_eq core idx e
  have found : e.pieces.findSome? (fun x => State.rangeErr { s with cores := cs } e.fen x.1 x.2.length) = Option.none :=
    List.findSome?_eq_none_iff.2 clean
  have empty : (State.mem { s with cores := cs }).monitors = [] := none
  obtain ⟨w, marked⟩ := markEntry_eq (State.writePieces { s with cores := cs } e.fen e.pieces) e
  have teams : (State.writePieces { s with cores := cs } e.fen e.pieces).teams = s.teams := by
    rw [writePieces_rest]
  have cores : (State.writePieces { s with cores := cs } e.fen e.pieces).cores = cs := by
    rw [writePieces_rest]
  have applied : ({ s with cores := cs } : State).applyStore e =
      (State.writePieces { s with cores := cs } e.fen e.pieces).markEntry e := by
    rw [State.applyStore, if_pos memory]
    simp only [found, writePieces_quiet e.fen e.pieces _ empty]
  have disjoint : e.pieces.Pairwise fun x y => x.1 + x.2.length ≤ y.1 ∨ y.1 + y.2.length ≤ x.1 := by
    unfold StoreEnt.pieces
    cases more : e.more with
    | none => simp
    | some y => simpa using apart y more
  have idle := State.pumpCore_sameWaits (t := (State.writePieces { s with cores := cs } e.fen e.pieces).markEntry e)
    (State.sameWaits_of_teams (by rw [marked]; exact teams)) quiet
  refine ⟨_, mayLeave_store leaves plain, ?_⟩
  rw [left, applied, idle, marked]
  refine ⟨teams, ?_, fun y hy k hk => ⟨?_, ?_⟩, fun a outside => ?_, fun f a lines => ?_⟩
  · rw [← order]
    simp only [State.core, cores]
  · exact readByte_writePieces e.fen e.pieces { s with cores := cs } writer disjoint y hy k hk
  · exact writePieces_tag e.fen e.pieces { s with cores := cs } y hy k hk
  · exact readByte_writePieces_other e.fen e.pieces { s with cores := cs } a writer outside
  · exact readByte_writePieces_line e.fen e.pieces { s with cores := cs } f a lines

/-- A store that meets a finding writes nothing, and its group learns of it later (R171). -/
theorem storeApply_failed {core idx : Nat} {s : State} {e : StoreEnt} (leaves : s.mayLeave core idx = some e)
    (plain : e.isAtomic = false) (memory : isMemRegion e.pa = true) (quiet : s.NoScWaits core) {t : Team} {er : LineErr} {pa : Nat}
    (found : e.pieces.findSome? (fun y => s.rangeErr e.fen y.1 y.2.length) = some (er, pa)) (mild : isMc er.code = false)
    (team : s.teams.find e.team = some t) (living : (t.group e.group).ended = false) :
    ∃ u, exec (.storeApply core idx) s = .next u ∧ u.mem = s.mem ∧
      (u.group e.team e.group).deferred = ({ at_ := .store, cause := er.code, kind := 2, lanes := laneMask e.lane
                                             addr := e.va, pa := pa, op := e.word } : Deferred).joinTo
        (t.group e.group).deferred := by
  obtain ⟨cs, left, -⟩ := s.leave_eq core idx e
  have found' : e.pieces.findSome? (fun x => State.rangeErr { s with cores := cs } e.fen x.1 x.2.length) = some (er, pa) := found
  have applied : ({ s with cores := cs } : State).applyStore e =
      ((State.logBeside { s with cores := cs } [(er.code, pa)]
        (e.pieces.flatMap fun x => State.rangeErrs { s with cores := cs } e.fen x.1 x.2.length)).storeFailed e er.code pa) := by
    rw [State.applyStore, if_pos memory]
    simp only [found']
  have mem := State.logBeside_mem { s with cores := cs } [(er.code, pa)]
    (e.pieces.flatMap fun x => State.rangeErrs { s with cores := cs } e.fen x.1 x.2.length)
  have teams := State.logBeside_teams { s with cores := cs } [(er.code, pa)]
    (e.pieces.flatMap fun x => State.rangeErrs { s with cores := cs } e.fen x.1 x.2.length)
  refine ⟨_, mayLeave_store leaves plain, ?_⟩
  rw [left, applied]
  generalize State.logBeside { s with cores := cs } _ _ = v at mem teams
  have listed : v.teams.find e.team = some t := by
    rw [teams]
    exact team
  have group : v.group e.team e.group = t.group e.group := by
    rw [State.group, State.team, SMap.get, listed]
    rfl
  have failed : v.storeFailed e er.code pa = v.modGroup e.team e.group fun g => { g with
      deferred := ({ at_ := .store, cause := er.code, kind := 2, lanes := laneMask e.lane
                     addr := e.va, pa := pa, op := e.word } : Deferred).joinTo g.deferred } := by
    rw [State.storeFailed, State.failLate, if_neg (by rw [mild]; exact Bool.false_ne_true), State.defer, listed]
    simp only [living, Bool.false_eq_true, if_false]
  rw [failed, State.pumpCore_sameWaits (State.sameWaits_trans (State.sameWaits_modGroup _ listed rfl)
    (State.sameWaits_of_teams teams)) quiet]
  refine ⟨mem, ?_⟩
  rw [State.group_modGroup, group]

end Sys2Proof.Machine
end

section
/-!
PROOFS. Atomics in the order of their core (R158, R190, R356): replies to an operation's requests, what an atomic answers and
stores, and the obligation.
-/
namespace Sys2Proof.Machine

/-! ## Replies to an operation's requests (R158, R190) -/

theorem State.find_modGroup (s : State) (ti gi : Nat) (f : Group → Group) :
    (s.modGroup ti gi f).teams.find ti = some ((s.team ti).setGroup gi (f (s.group ti gi))) := SMap.find_ins_same ..

theorem State.pending_modGroup (s : State) (ti gi id : Nat) (f : Group → Group) :
    (s.modGroup ti gi f).pending ti gi id = (f (s.group ti gi)).pend.find? fun p => p.id = id := by
  rw [State.pending, State.find_modGroup]
  simp only [Option.bind_some, Team.group_setGroup]

theorem State.pending_group {s : State} {ti gi id : Nat} {p : Pending} (h : s.pending ti gi id = some p) :
    (s.group ti gi).pend.find? (fun p => p.id = id) = some p ∧ ∃ t, s.teams.find ti = some t := by
  unfold State.pending at h
  cases found : s.teams.find ti with
  | none => rw [found] at h; cases h
  | some t =>
    rw [found] at h
    have team : s.team ti = t := by rw [State.team, SMap.get, found]; rfl
    refine ⟨?_, t, rfl⟩
    rw [State.group, team]
    exact h

theorem State.pending_of_group {s : State} {ti gi id : Nat} {p : Pending} {t : Team} (found : s.teams.find ti = some t)
    (h : (s.group ti gi).pend.find? (fun p => p.id = id) = some p) : s.pending ti gi id = some p := by
  have team : s.team ti = t := by rw [State.team, SMap.get, found]; rfl
  rw [State.pending, found]
  rw [State.group, team] at h
  exact h

theorem Group.find_modPend (g : Group) (id : Nat) (f : Pending → Pending) (hf : ∀ p, (f p).id = p.id) :
    (g.modPend id f).pend.find? (fun p => p.id = id) = (g.pend.find? fun p => p.id = id).map f := by
  unfold Group.modPend
  dsimp only
  induction g.pend with
  | nil => rfl
  | cons p ps ih =>
    by_cases h : p.id = id
    · simp [h, hf]
    · simp [h, ih]

/-- An operation once a request of it is answered. -/
def Pending.replied (p : Pending) (writes : List RegW) (bad : Option Deferred) : Pending :=
  { p with
    waiting := p.waiting - 1
    writes := p.writes ++ writes
    bad := match bad with
      | none => p.bad
      | some d => Deferred.join p.bad d }

/-- A reply to an operation that has no cause yet: the operation ends if nothing is left of it. -/
theorem State.reply_eq {s : State} {ti gi id : Nat} {p : Pending} (h : s.pending ti gi id = some p) (clear : p.bad = none)
    (lane dst regs x : Nat) (bad : Option Deferred) :
    let F := fun (g : Group) => g.modPend id fun p => p.replied (laneWrites lane dst regs x) bad
    let q := p.replied (laneWrites lane dst regs x) bad
    s.reply ti gi id lane dst regs x bad =
      if q.done then (s.modGroup ti gi F).finish ti gi q else s.modGroup ti gi F := by
  intro F q
  obtain ⟨listed, t, found⟩ := State.pending_group h
  have quiet : s.logReply ti gi id bad = s := by
    unfold State.logReply
    simp only [listed, Option.bind_some, clear]
  have after : ((s.modGroup ti gi F).group ti gi).pend.find? (fun p => p.id = id) = some q := by
    rw [State.group_modGroup]
    refine (Group.find_modPend (s.group ti gi) id (fun p => p.replied (laneWrites lane dst regs x) bad) fun _ => rfl).trans ?_
    rw [listed]
    rfl
  have form : s.reply ti gi id lane dst regs x bad = (s.modGroup ti gi F).finishIf ti gi id := by
    rw [State.reply, found]
    dsimp only
    rw [quiet]
    rfl
  rw [form, State.finishIf, after]

/-! ## An atomic is applied (R158, R190, R356) -/

/-- A state whose groups may have acquired, and that is otherwise another: the group `ti`, `gi` stands in it with what it had. -/
structure State.acquired (t s : State) (ti gi : Nat) : Prop where
  rest : t = { s with teams := t.teams }
  waits : t.sameWaits s
  team : ∃ x, t.teams.find ti = some x
  group : ∃ a b, t.group ti gi = { s.group ti gi with floor := a, joined := b }

theorem State.acquired_if (s : State) (ti gi n : Nat) (acq : Bool) {t : Team} (found : s.teams.find ti = some t) :
    State.acquired (if acq then s.modGroup? ti gi fun g => g.acquire n else s) s ti gi := by
  cases acq with
  | false => exact ⟨rfl, State.sameWaits_of_teams rfl, ⟨t, found⟩, _, _, rfl⟩
  | true =>
    have form : (if true then s.modGroup? ti gi fun g => g.acquire n else s) = s.modGroup ti gi fun g => g.acquire n := by
      rw [if_pos rfl, State.modGroup?, found]
    rw [form]
    exact ⟨rfl, State.sameWaits_modGroup _ found rfl, ⟨_, s.find_modGroup ti gi _⟩, _, _, s.group_modGroup ti gi _⟩

theorem State.acquired.pending {t s : State} {ti gi id : Nat} {p : Pending} (h : t.acquired s ti gi)
    (own : s.pending ti gi id = some p) : t.pending ti gi id = some p := by
  obtain ⟨x, found⟩ := h.team
  obtain ⟨a, b, group⟩ := h.group
  refine State.pending_of_group found ?_
  rw [group]
  exact (State.pending_group own).1

/-- A state that differs from another neither in memory and guard nor in what waits for the order of SC. -/
structure State.calm (t s : State) : Prop where
  waits : t.sameWaits s
  mem : t.mem = s.mem
  guard : t.guard = s.guard

theorem State.calm_trans {u t s : State} (h : u.calm t) (k : t.calm s) : u.calm s :=
  ⟨State.sameWaits_trans h.waits k.waits, h.mem.trans k.mem, h.guard.trans k.guard⟩

theorem State.endGrid_calm (s : State) (ti cause pc : Nat) (defer : Bool) {t : Team} (found : s.teams.find ti = some t) :
    (s.endGrid ti cause pc defer).calm s := by
  have team : s.team ti = t := by rw [State.team, SMap.get, found]; rfl
  unfold State.endGrid
  dsimp only
  split
  · exact ⟨State.sameWaits_of_teams rfl, rfl, rfl⟩
  · refine ⟨⟨fun x hx => ?_, fun a b => ?_⟩, rfl, rfl⟩
    · rcases SMap.mem_ins _ _ _ _ hx with rfl | old
      · refine ⟨(ti, t), SMap.mem_of_find found, rfl, ?_⟩
        rw [team]
      · exact ⟨x, old, rfl, rfl⟩
    · by_cases ha : a = ti
      · subst ha
        rw [State.group, State.team_setTeam]
        rfl
      · rw [State.group, State.team_setTeam_other _ _ _ _ ha]
        rfl

theorem State.defer_calm (s : State) (ti gi : Nat) (d : Deferred) : (s.defer ti gi d).calm s := by
  unfold State.defer
  split
  next => exact ⟨State.sameWaits_of_teams rfl, rfl, rfl⟩
  next t found =>
    split
    · exact s.endGrid_calm ti _ _ _ found
    · exact ⟨State.sameWaits_modGroup _ found rfl, rfl, rfl⟩

theorem State.finish_calm {s : State} {ti gi : Nat} {p : Pending} (f : Group → Group) {t : Team} (found : s.teams.find ti = some t)
    (hf : (f (s.group ti gi)).scq = (s.group ti gi).scq) (mild : ∀ d, p.bad = some d → isMc d.cause = false) :
    ((s.modGroup ti gi f).finish ti gi p).calm s := by
  have after (F : Group → Group) (hF : (F (s.group ti gi)).scq = (s.group ti gi).scq) :
      (s.modGroup ti gi F).calm s := ⟨State.sameWaits_modGroup _ found hF, rfl, rfl⟩
  unfold State.finish
  rw [State.modGroup?_modGroup]
  have ended (g : Group) : (if (p.isPark && !p.dead) = true then
      { g.flagDown p.flag with fp := g.fp ||| p.fp, pend := g.pend.filter fun q => q.id ≠ p.id, block := none }
      else { g.flagDown p.flag with fp := g.fp ||| p.fp, pend := g.pend.filter fun q => q.id ≠ p.id }).scq = g.scq := by
    split <;> rfl
  cases hb : p.bad with
  | none => exact after _ ((ended _).trans hf)
  | some d =>
    dsimp only
    rw [State.failLate, mild d hb, if_neg Bool.false_ne_true]
    exact State.calm_trans (State.defer_calm ..) (after _ ((ended _).trans hf))

theorem Pending.replied_eq {p : Pending} (clear : p.bad = none) (none : p.writes = []) (ws : List RegW) (bad : Option Deferred) :
    p.replied ws bad = { p with waiting := p.waiting - 1, bad := bad, writes := ws } := by
  unfold Pending.replied
  rw [none, List.nil_append, clear]
  cases bad <;> rfl

theorem Group.find_replied (g : Group) (id : Nat) (ws : List RegW) (bad : Option Deferred) :
    (g.modPend id fun p => p.replied ws bad).pend.find? (fun p => p.id = id) =
      (g.pend.find? fun p => p.id = id).map fun p => p.replied ws bad :=
  g.find_modPend id (fun p => p.replied ws bad) fun _ => rfl

theorem laneWrites_ne_nil {l d regs x : Nat} (h : d ≠ 127) (pos : 0 < regs) : laneWrites l d regs x ≠ [] := by
  rw [laneWrites, if_neg h]
  simp
  omega

section
variable {s : State} {ti gi id : Nat} {p : Pending} (own : s.pending ti gi id = some p) (clear : p.bad = none)
include own clear

theorem State.reply_calm (lane dst regs x : Nat) (bad : Option Deferred) (mild : ∀ d, bad = some d → isMc d.cause = false) :
    (s.reply ti gi id lane dst regs x bad).calm s := by
  obtain ⟨-, t, found⟩ := State.pending_group own
  rw [State.reply_eq own clear]
  split
  · refine State.finish_calm _ found rfl fun d hd => ?_
    cases bad with
    | none => exact absurd (clear.symm.trans hd) (by simp)
    | some e =>
      have same : some e = some d := by
        rw [← hd]
        simp only [Pending.replied, clear, Deferred.join]
      cases same
      exact mild d rfl
  · exact ⟨State.sameWaits_modGroup _ found rfl, rfl, rfl⟩

/-- An operation with a write or a request left stays, its flag counting as before. -/
theorem State.reply_stays (writes : p.writes = []) (lane dst regs x : Nat) (pos : 0 < regs) (bad : Option Deferred)
    (more : dst ≠ 127 ∨ 1 < p.waiting) :
    let u := s.reply ti gi id lane dst regs x bad
    (u.group ti gi).flag p.flag = (s.group ti gi).flag p.flag ∧
    u.pending ti gi id = some { p with waiting := p.waiting - 1, bad := bad, writes := laneWrites lane dst regs x } := by
  intro u
  have left : (p.replied (laneWrites lane dst regs x) bad).done = false := by
    rw [Pending.replied_eq clear writes, Pending.done]
    rcases more with named | more
    · simp [laneWrites_ne_nil named pos]
    · simp
      omega
  have form : u = s.modGroup ti gi fun g => g.modPend id fun p => p.replied (laneWrites lane dst regs x) bad := by
    dsimp only [u]
    rw [State.reply_eq own clear]
    simp only [left, Bool.false_eq_true, if_false]
  rw [form]
  refine ⟨by rw [State.group_modGroup]; rfl, ?_⟩
  rw [State.pending_modGroup, Group.find_replied, (State.pending_group own).1, Option.map_some,
    Pending.replied_eq clear writes]

/-- An operation with nothing left ends. -/
theorem State.reply_ends (writes : p.writes = []) (devs : p.devs = []) (lane regs x : Nat) (bad : Option Deferred)
    (last : p.waiting = 1) (mild : ∀ d, bad = some d → isMc d.cause = false ∧ (s.group ti gi).ended = false) :
    let u := s.reply ti gi id lane 127 regs x bad
    (u.group ti gi).flag p.flag = (s.group ti gi).flag p.flag - 1 ∧
    ∀ d, bad = some d → (u.group ti gi).deferred = d.joinTo (s.group ti gi).deferred := by
  intro u
  have eq := Pending.replied_eq clear writes (laneWrites lane 127 regs x) bad
  have left : (p.replied (laneWrites lane 127 regs x) bad).done = true := by
    rw [eq, Pending.done]
    simp [laneWrites, devs, last]
  have form : u = s.modGroup ti gi fun g =>
      (g.modPend id fun p => p.replied (laneWrites lane 127 regs x) bad).finished
        (p.replied (laneWrites lane 127 regs x) bad) := by
    dsimp only [u]
    rw [State.reply_eq own clear]
    simp only [left, if_true]
    refine State.finish_modGroup s ti gi _ _ fun d hd => mild d ?_
    rw [eq] at hd
    exact hd
  rw [form, State.group_modGroup, eq]
  exact ⟨Group.flag_finished _ { p with waiting := p.waiting - 1, bad := bad, writes := laneWrites lane 127 regs x },
    fun d hd => Group.deferred_finished _ _ hd⟩

end

/-! ## The obligation -/

theorem readByte_whole (s : State) (f pa k : Nat) (bs : List Byte) (hf : f ≠ 0xFF) (hk : k < bs.length) :
    (s.writeMasked f pa (whole bs)).readByte f (pa + k) = bs.getD k 0 := by
  have merged (old x : Byte) : mergeByte old x 0xFF = x := by
    have ones : (0xFF : Byte) = BitVec.allOnes 8 := rfl
    rw [mergeByte, ones, BitVec.not_allOnes, BitVec.and_zero, BitVec.and_allOnes, BitVec.zero_or]
  have cell : (whole bs).getD k (0, 0) = (bs.getD k 0, 0xFF) := by simp [whole, hk]
  rw [readByte_writeMasked _ _ _ _ _ hf, if_pos (by simp [whole, hk]), Nat.add_sub_cancel_left, cell]
  exact merged ..

/-- What applying an atomic does once it has left the order of its core. -/
theorem atomicApply_leaves {s : State} {core idx : Nat} {e : StoreEnt} {op : AtomOp} {ty : Nat} {b d : W64} {id lane dst : Nat}
    {acq : Bool} (leaves : s.mayLeave core idx = some e) (kind : e.kind = .atomic op ty b d id lane dst acq) :
    exec (.atomicApply core idx) s = .next
      (((s.leave core idx e).applyAtomic e.team e.group e.fen lane e.va e.pa op ty b d id dst acq).pumpCore core) := by
  rw [exec_atomicApply, execAtomicApply]
  simp only [leaves, kind]

/-- The state in which an atomic meets its line: it has left the order, and its group has acquired if it acquires. -/
def State.atomicAt (s : State) (core idx : Nat) (e : StoreEnt) (acq : Bool) : State :=
  let v := s.leave core idx e
  if acq then v.modGroup? e.team e.group fun g => g.acquire v.nextId else v

theorem State.atomicAt_eq {s : State} {core idx : Nat} {e : StoreEnt} {acq : Bool} {id : Nat} {p : Pending}
    (own : s.pending e.team e.group id = some p) :
    ∃ cs ts, s.atomicAt core idx e acq = { s with cores := cs, teams := ts } ∧
      State.sameWaits { s with cores := cs, teams := ts } s ∧
      State.pending { s with cores := cs, teams := ts } e.team e.group id = some p ∧
      ∃ a b, State.group { s with cores := cs, teams := ts } e.team e.group =
        { s.group e.team e.group with floor := a, joined := b } := by
  obtain ⟨-, t, found⟩ := State.pending_group own
  obtain ⟨cs, left, -⟩ := s.leave_eq core idx e
  have met := State.acquired_if { s with cores := cs } e.team e.group s.nextId acq found
  have eq : s.atomicAt core idx e acq =
      if acq then State.modGroup? { s with cores := cs } e.team e.group fun g => g.acquire s.nextId else { s with cores := cs } := by
    rw [State.atomicAt, left]
  rw [← eq] at met
  obtain ⟨a, b, group⟩ := met.group
  have pending := met.pending own
  have waits := met.waits
  rw [met.rest] at waits pending group
  exact ⟨cs, _, met.rest, waits, pending, a, b, group⟩

/-- An atomic that meets a finding that is no machine check answers zero, with the finding's cause. -/
theorem applyAtomic_found {s : State} {core idx : Nat} {e : StoreEnt} {op : AtomOp} {ty : Nat} {b d : W64} {id lane dst : Nat}
    {acq : Bool} {er : LineErr} (found : (s.atomicAt core idx e acq).lineErr e.fen (e.pa / 64) = some er)
    (mild : isMc er.code = false) :
    (s.leave core idx e).applyAtomic e.team e.group e.fen lane e.va e.pa op ty b d id dst acq =
      (s.atomicAt core idx e acq).reply e.team e.group id lane dst (if tyPair ty then 2 else 1) 0
        (some (requestFailed (((s.atomicAt core idx e acq).group e.team e.group).flagOfPend id) 3 er.code lane e.va e.pa)) := by
  rw [State.atomicAt] at found ⊢
  rw [State.applyAtomic]
  dsimp only at found ⊢
  rw [found]
  simp only [mild, Bool.false_eq_true, if_false]
  rfl

/-- One that meets none stores its new value and answers the old one. -/
theorem applyAtomic_clean {s : State} {core idx : Nat} {e : StoreEnt} {op : AtomOp} {ty : Nat} {b d : W64} {id lane dst : Nat}
    {acq : Bool} (found : (s.atomicAt core idx e acq).lineErr e.fen (e.pa / 64) = none) :
    (s.leave core idx e).applyAtomic e.team e.group e.fen lane e.va e.pa op ty b d id dst acq =
      (((s.atomicAt core idx e acq).applyWrite e.fen e.pa (whole (bytesLE (tyWidth ty / 8)
        (atomNew op ty ((s.atomicAt core idx e acq).readNat e.fen e.pa (tyWidth ty / 8)) b.toNat d.toNat)))).markThrough
          e.team (some e.group) id e.pa).reply e.team e.group id lane dst (if tyPair ty then 2 else 1)
            ((s.atomicAt core idx e acq).readNat e.fen e.pa (tyWidth ty / 8)) none := by
  rw [State.atomicAt] at found ⊢
  rw [State.applyAtomic]
  dsimp only at found ⊢
  rw [found]

theorem regs_pos (ty : Nat) : 0 < if tyPair ty then 2 else 1 := by
  split <;> decide

theorem State.readByte_congr {t s : State} (mem : t.mem = s.mem) (guard : t.guard = s.guard) (f a : Nat) :
    t.readByte f a = s.readByte f a := by
  cases t
  cases s
  cases mem
  cases guard
  rfl

/-- What a write leaves besides the bytes, when its lines are noted for an expander. -/
theorem writeMasked_after (s : State) (f pa : Nat) (bs : List (Byte × Byte)) (w : List Through) :
    let v : State := { s.writeMasked f pa bs with mem := { (s.writeMasked f pa bs).mem with through := w } }
    v.teams = s.teams ∧ v.guard = s.guard ∧ (∀ g a, v.readByte g a = (s.writeMasked f pa bs).readByte g a) ∧
      ∀ l, v.tagOf l = (s.writeMasked f pa bs).tagOf l := by
  intro v
  refine ⟨writeMasked_teams s f pa bs, ?_, fun g a => rfl, fun l => rfl⟩
  have rest : (s.writeMasked f pa bs).guard = s.guard := by rw [writeMasked_rest]
  exact rest

section
variable {core idx : Nat} {s : State} {e : StoreEnt} {op : AtomOp} {ty : Nat} {b d : W64} {id lane dst : Nat} {acq : Bool}
  {p : Pending} (leaves : s.mayLeave core idx = some e) (kind : e.kind = .atomic op ty b d id lane dst acq)
  (own : s.pending e.team e.group id = some p) (clear : p.bad = none) (devs : p.devs = []) (writes : p.writes = [])
  (quiet : s.NoScWaits core)
include leaves kind own clear devs writes quiet

theorem atomic_finding {er : LineErr} (found : s.lineErr e.fen (e.pa / 64) = some er) (mild : isMc er.code = false) :
    let bad : Deferred :=
      { at_ := .flag p.flag, cause := er.code, kind := 3, lanes := laneMask lane, addr := e.va, pa := e.pa, op := 0 }
    ∃ u, exec (.atomicApply core idx) s = .next u ∧ u.mem = s.mem ∧
      (dst ≠ 127 ∨ 1 < p.waiting → u.pending e.team e.group id = some { p with
        waiting := p.waiting - 1, bad := some bad
        writes := if dst = 127 then [] else (List.range (if tyPair ty then 2 else 1)).map fun i => .v lane (dst + i) 0 }) ∧
      (dst = 127 → p.waiting = 1 → (s.group e.team e.group).ended = false →
        (u.group e.team e.group).flag p.flag = (s.group e.team e.group).flag p.flag - 1 ∧
        (u.group e.team e.group).deferred = bad.joinTo (s.group e.team e.group).deferred) := by
  intro bad
  obtain ⟨cs, ts, met, waits, own', x, y, group⟩ := State.atomicAt_eq (core := core) (idx := idx) (acq := acq) own
  have applied := applyAtomic_found (op := op) (ty := ty) (b := b) (d := d) (id := id) (lane := lane) (dst := dst)
    (by rw [met]; exact found) mild
  have mem : State.mem { s with cores := cs, teams := ts } = s.mem := rfl
  rw [met] at applied
  generalize ({ s with cores := cs, teams := ts } : State) = v at applied own' waits group mem
  have flag : (v.group e.team e.group).flagOfPend id = p.flag := by
    rw [Group.flagOfPend, (State.pending_group own').1]
    rfl
  have cause : requestFailed ((v.group e.team e.group).flagOfPend id) 3 er.code lane e.va e.pa = bad := by
    rw [flag]
    rfl
  rw [cause] at applied
  have calm := State.reply_calm own' clear lane dst (if tyPair ty then 2 else 1) 0 (some bad) fun d hd => by
    cases hd
    exact mild
  refine ⟨_, atomicApply_leaves leaves kind, ?_⟩
  rw [applied, State.pumpCore_sameWaits (State.sameWaits_trans calm.waits waits) quiet]
  refine ⟨calm.mem.trans mem, fun more => ?_, fun named last living => ?_⟩
  · rw [(State.reply_stays own' clear writes lane dst _ 0 (regs_pos ty) (some bad) more).2]
    simp only [laneWrites, Nat.zero_div]
    rfl
  · subst named
    have ends := State.reply_ends own' clear writes devs lane (if tyPair ty then 2 else 1) 0 (some bad) last fun d hd => by
      cases hd
      exact ⟨mild, by rw [group]; exact living⟩
    rw [group] at ends
    exact ⟨ends.1, ends.2 bad rfl⟩

theorem atomic_stored (clean : s.lineErr e.fen (e.pa / 64) = none) (writer : e.fen ≠ 0xFF) (none : s.mem.monitors = []) :
    let n := tyWidth ty / 8
    let old := s.readNat e.fen e.pa n
    ∃ u, exec (.atomicApply core idx) s = .next u ∧
      (∀ k < n, u.readByte e.fen (e.pa + k) = (bytesLE n (atomNew op ty old b.toNat d.toNat)).getD k 0) ∧
      (∀ k < n, u.tagOf ((e.pa + k) / 64) = { own := e.fen, key := s.keyOf e.fen }) ∧
      (∀ a, a < e.pa ∨ e.pa + n ≤ a → u.readByte e.fen a = s.readByte e.fen a) ∧
      (dst ≠ 127 ∨ 1 < p.waiting → (u.group e.team e.group).flag p.flag = (s.group e.team e.group).flag p.flag ∧
        u.pending e.team e.group id = some { p with
          waiting := p.waiting - 1
          writes := if dst = 127 then []
            else (List.range (if tyPair ty then 2 else 1)).map fun i =>
              .v lane (dst + i) (BitVec.ofNat 32 (old / 2 ^ (32 * i))) }) ∧
      (dst = 127 → p.waiting = 1 → (u.group e.team e.group).flag p.flag = (s.group e.team e.group).flag p.flag - 1) := by
  intro n old
  obtain ⟨cs, ts, met, waits, own', x, y, group⟩ := State.atomicAt_eq (core := core) (idx := idx) (acq := acq) own
  have applied := applyAtomic_clean (op := op) (ty := ty) (b := b) (d := d) (id := id) (lane := lane) (dst := dst)
    (by rw [met]; exact clean)
  have empty : (State.mem { s with cores := cs, teams := ts }).monitors = [] := none
  have read : State.readNat { s with cores := cs, teams := ts } e.fen e.pa (tyWidth ty / 8) = old := rfl
  rw [met, read, applyWrite_quiet _ _ _ _ empty] at applied
  generalize made : whole (bytesLE (tyWidth ty / 8) (atomNew op ty old b.toNat d.toNat)) = bs at applied
  obtain ⟨w, marked⟩ := markThrough_eq (State.writeMasked { s with cores := cs, teams := ts } e.fen e.pa bs) e.team
    (some e.group) id e.pa
  rw [marked] at applied
  have length : bs.length = n := by
    rw [← made]
    simp [whole, bytesLE, n]
  have after := writeMasked_after { s with cores := cs, teams := ts } e.fen e.pa bs w
  generalize ({ State.writeMasked { s with cores := cs, teams := ts } e.fen e.pa bs with
      mem := { (State.writeMasked { s with cores := cs, teams := ts } e.fen e.pa bs).mem with through := w } } : State) = v
    at applied after
  obtain ⟨teams, guard, reads, tags⟩ := after
  have waits' : v.sameWaits s := State.sameWaits_trans (State.sameWaits_of_teams teams) waits
  have same : v.group e.team e.group = { s.group e.team e.group with floor := x, joined := y } := by
    rw [← group]
    simp only [State.group, State.team, teams]
  have own' : v.pending e.team e.group id = some p := by
    rw [← own']
    simp only [State.pending, teams]
  have calm := State.reply_calm own' clear lane dst (if tyPair ty then 2 else 1) old Option.none fun d hd => nomatch hd
  refine ⟨_, atomicApply_leaves leaves kind, ?_⟩
  rw [applied, State.pumpCore_sameWaits (State.sameWaits_trans calm.waits waits') quiet]
  have reads' (a : Nat) : (v.reply e.team e.group id lane dst (if tyPair ty then 2 else 1) old Option.none).readByte e.fen a
      = (State.writeMasked { s with cores := cs, teams := ts } e.fen e.pa bs).readByte e.fen a :=
    (State.readByte_congr calm.mem calm.guard e.fen a).trans (reads e.fen a)
  refine ⟨fun k hk => ?_, fun k hk => ?_, fun a outside => ?_, fun more => ?_, fun named last => ?_⟩
  · rw [reads', ← made, readByte_whole _ _ _ _ _ writer (by simpa [bytesLE] using hk)]
  · rw [State.tagOf, calm.mem]
    refine (tags _).trans ?_
    rw [writeMasked_tag, if_pos ⟨k, length ▸ hk, rfl⟩]
    rfl
  · rw [reads', readByte_writeMasked _ _ _ _ _ writer, if_neg (by omega)]
    rfl
  · obtain ⟨flag, pending⟩ := State.reply_stays own' clear writes lane dst _ old (regs_pos ty) Option.none more
    rw [same] at flag
    refine ⟨flag, pending.trans ?_⟩
    rw [← clear]
    rfl
  · subst named
    have ends := State.reply_ends own' clear writes devs lane (if tyPair ty then 2 else 1) old Option.none last fun d hd =>
      nomatch hd
    rw [same] at ends
    exact ends.1

end

/-- Settles O43: the queue's head enters the order, a store merges its pieces under their masks, an atomic stores and answers. -/
theorem storeAndAtomicEvents : Obligations.StoreAndAtomicEvents := by
  unfold Obligations.StoreAndAtomicEvents
  refine ⟨storeQueueDrain_result, fun core idx s e leaves plain memory quiet => ⟨storeApply_stored leaves plain memory quiet,
    fun t er pa found mild team living => storeApply_failed leaves plain memory quiet found mild team living⟩,
    fun core idx s e op ty b d id lane dst acq p leaves kind own alive clear devs writes quiet => ?_,
    fun core idx s none => ?_, fun idx s x listed => ?_⟩
  · intro n old regs
    refine ⟨fun er found mild => ?_, fun clean writer none => ?_⟩
    · exact atomic_finding leaves kind own clear devs writes quiet found mild
    · exact atomic_stored leaves kind own clear devs writes quiet clean writer none
  · rw [exec_storeApply, execStoreApply, exec_atomicApply, execAtomicApply, none]
    exact ⟨rfl, rfl⟩
  · rw [exec_expanderWriteComplete, execExpanderWriteComplete, listed]
    dsimp only
    split <;> rfl

end Sys2Proof.Machine
end

section
/-!
PROOFS. A refutation of the statement of copies and marks (R320): the machine that it fails for, in which the slot of an `enq`
record meets a finding that is no machine check.
-/
namespace Sys2Proof.Machine

/-! ## A record whose slot meets a finding -/

/-- The grid of a record that is being copied to its slot. -/
def slotGrid : Grid :=
  { id := 0, queue := 0, seq := 0, slot := 0, lrec := 1048640, origin := 0, rec_ := lrecOf 0, enqTeam := none, copying := true
    next := 0, since := 0, conts := 0, live := 0, nend := 0, stop := false, begun := false, done := false, rejected := false
    cause := 0, defer := false, pc := 0 }

/-- The copy of the record that stands at 2^20, one line before the slot. -/
def slotCopy : EnqOp :=
  { id := 0, team := 0, group := 0, core := 0, pid := 0, grid := 0, va := 0, pa := 1048576, fen := 0, flag := 0, nseqs := [] }

/-- A machine in which the line at 2^20 holds a valid record of one team of one group, and the next line, the record's slot, has an
authentication failure, which is no machine check. -/
def badSlot : State :=
  { State.reset with
    teams := [(0, loadTeam false)]
    parts := [(0, { Part.cold with grids := [slotGrid] })]
    enqs := [slotCopy]
    mem := { State.reset.mem with
      bytes := [(1048584, 1), (1048588, 1), (1048590, 1), (1048592, 1), (1048593, 16)]
      tags := [(16384, { own := 0, key := State.reset.keyOf 0 })]
      bad := [(16385, .mac)] } }

/-- What fen 0 reads in the slot afterwards. -/
def slotAfter : Host.Outcome State Fault Refusal → List Byte
  | .next u => u.readBytes 0 slotGrid.lrec 64
  | _ => []

/-- Does a partition write a journal afterwards? -/
def journalAfter : Host.Outcome State Fault Refusal → Bool
  | .next u => bitOf (u.part 0).jbase 0
  | _ => true

/-- The record is valid, and is not copied. -/
theorem badSlot.keeps : slotAfter (exec (.enqRecordCopy 0) badSlot) ≠ badSlot.readBytes 0 slotCopy.pa 64 := by decide +kernel

theorem badSlot.silent : journalAfter (exec (.enqRecordCopy 0) badSlot) = false := by decide +kernel

theorem badSlot.accepts : (lrecOf (natLE (badSlot.readBytes slotCopy.fen slotCopy.pa 64))).reject (badSlot.part slotCopy.pid)
    (some (loadTeam false).nbar) (fun k => slotCopy.nseqs.getD k 0) = 0 := by decide +kernel

theorem State.ownWrite_parts (s : State) (f pa : Nat) (bs : List Byte) : (s.ownWrite f pa bs).parts = s.parts := by
  have written : (s.writeBytes f pa bs).parts = s.parts := by
    rw [State.writeBytes, writeMasked_rest]
  unfold State.ownWrite State.logFound
  split
  · dsimp only
    split <;> rfl
  · exact written

theorem State.part_modPart (s : State) (p : Nat) (f : Part → Part) : (s.modPart p f).part p = f (s.part p) :=
  SMap.get_put_same Part.cold s.parts p _

/-- A journal that is off leaves memory and guard. -/
theorem State.journal_silent (s : State) (p : Nat) (g : Grid) (st : Nat) (crecf notf : Bool)
    (h : bitOf ((s.journal p g st crecf notf).part p).jbase 0 = false) :
    (s.journal p g st crecf notf).mem = s.mem ∧ (s.journal p g st crecf notf).guard = s.guard := by
  unfold State.journal at h ⊢
  dsimp only at h ⊢
  rw [State.part_modPart] at h
  have off : bitOf (s.part p).jbase 0 = false := by
    rw [← h]
    dsimp only
    split
    · simp only [State.part, State.ownWrite_parts]
    · rfl
  rw [if_neg (by rw [off]; exact Bool.false_ne_true)]
  exact ⟨rfl, rfl⟩

/-- A record accepted while the journal is off leaves memory and guard. -/
theorem State.judge_silent (s : State) (p id : Nat) (h : bitOf ((s.judge p id 0).part p).jbase 0 = false) :
    (s.judge p id 0).mem = s.mem ∧ (s.judge p id 0).guard = s.guard := by
  unfold State.judge at h ⊢
  simp only [if_true] at h ⊢
  split at h
  next g found => exact State.journal_silent _ p g 0 false false h
  next => exact ⟨rfl, rfl⟩

/-- Refutes O46: an `enq` record whose slot meets a finding that is no machine check is accepted without being copied, so that
the slot does not read back as the record. -/
theorem not_copyAndMarkEvents : ¬ Obligations.CopyAndMarkEvents := by
  unfold Obligations.CopyAndMarkEvents
  rintro ⟨-, -, records, -⟩
  have found : badSlot.rangeErr 0 slotGrid.lrec 64 = some (.mac, slotGrid.lrec) := by decide +kernel
  obtain ⟨v, run, -, copied, -⟩ := (records 0 badSlot slotCopy slotGrid (loadTeam false) rfl).2 (by decide +kernel)
    (by decide +kernel) (by decide +kernel)
    (fun x hx => by
      rw [found] at hx
      cases hx
      decide) (by decide +kernel)
  rw [badSlot.accepts] at run
  have silent := badSlot.silent
  have keeps := badSlot.keeps
  rw [run] at silent keeps
  obtain ⟨mem, guard⟩ := v.judge_silent _ _ silent
  refine keeps (Eq.trans ?_ copied)
  exact List.map_congr_left fun i _ => State.readByte_congr mem guard 0 _

end Sys2Proof.Machine
end
